-- ==== Sys2Proof/Word.lean ====
section
/-!
DEFINITION. The word types of the BX9640 model and the plainest arithmetic on them: bytes, registers, little-endian
images of records (spec 00_scope.md R10), and the signed reading of a field.
-/

namespace Sys2Proof

/-- One byte. -/
abbrev Byte := BitVec 8
/-- A 16-bit field: an angle in AU, a tag, a status code. -/
abbrev U16 := BitVec 16
/-- A 32-bit field: a cycle count, a point's VALUE, a sequence number. -/
abbrev U32 := BitVec 32
/-- A 64-bit field: an item of the event queue, a fingerprint, a UTC. -/
abbrev U64 := BitVec 64
/-- The bits of an IEEE 754 single (a REAL of the spec, R64). -/
abbrev Real32 := BitVec 32

/-- The little-endian image of a record (R10): bit b of the record is bit b of the number. Its length in bytes is fixed
by the kind of the record. -/
abbrev Img := Nat

/-- The field [lo + w - 1 : lo] of an image. -/
def fld (x : Img) (lo w : Nat) : Nat := (x / 2 ^ lo) % 2 ^ w

/-- One bit of an image. -/
def flag (x : Img) (lo : Nat) : Bool := x.testBit lo

/-- The image with the field [lo + w - 1 : lo] replaced by the low w bits of v. -/
def setFld (x : Img) (lo w v : Nat) : Img :=
  x - fld x lo w * 2 ^ lo + (v % 2 ^ w) * 2 ^ lo

/-- A w-bit number read as two's complement. -/
def signed (w x : Nat) : Int := if x % 2 ^ w < 2 ^ (w - 1) then ((x % 2 ^ w : Nat) : Int) else ((x % 2 ^ w : Nat) : Int) - 2 ^ w

/-- A Boolean as a bit. -/
def bit (b : Bool) : Nat := if b then 1 else 0

/-- The little-endian number of a list of bytes, first byte lowest (R10). -/
def leNat : List Byte → Nat
  | [] => 0
  | b :: bs => b.toNat + 256 * leNat bs

/-- The n bytes of a number, lowest first (R10). -/
def leBytes : Nat → Nat → List Byte
  | 0, _ => []
  | n + 1, x => BitVec.ofNat 8 x :: leBytes n (x / 256)

/-- Bytes o to o + n - 1 of a payload as a little-endian number. Bytes past its end read as 0. -/
def le (p : List Byte) (o n : Nat) : Nat := leNat ((p.drop o).take n)

/-- A saturating 32-bit counter, one higher (the counters of the manual saturate at 0xFFFF_FFFF). -/
def sat32 (n : Nat) : Nat := min (n + 1) 0xFFFFFFFF

/-- A saturating 16-bit counter, one higher. -/
def sat16 (n : Nat) : Nat := min (n + 1) 0xFFFF

/-- The low 32 bits of a Nat as a word. -/
abbrev u32 (n : Nat) : U32 := BitVec.ofNat 32 n
/-- The low 16 bits of a Nat as a word. -/
abbrev u16 (n : Nat) : U16 := BitVec.ofNat 16 n
/-- The low 8 bits of a Nat as a byte. -/
abbrev u8 (n : Nat) : Byte := BitVec.ofNat 8 n

end Sys2Proof
end

