-- ==== Sys2Proof/Syntax.lean ====
section
/-!
DEFINITION. The commands of the BX9640: one constructor of `Instr` per row of spec/opcode_table.json, with the operands
that the physical event or the host brings (spec 95_what_each_step_holds.md lists what comes about inside each). A row
whose event is an expiry of a timer carries no time: its arrival says that the time of the manual has passed
(notes/assumptions/2.md).
-/

namespace Sys2Proof

/-- The strap balls (23_pins.md R488). -/
structure Straps where
  tcritSel : BitVec 2 := 0
  fansafe : Bool := false
  mainsNom : Bool := false
  pairId : Bool := false
  pairEn : Bool := false
  hostioSel : Bool := false
  deriving DecidableEq, Repr, Inhabited

/-- The roles of 14_pair.md R327, coded as in HIF_STATUS (R414). -/
inductive Role where
  | negotiate | active | simplex | standby | isolated
  deriving DecidableEq, Repr, Inhabited

/-- The code of a role (R414). -/
def Role.code : Role → Nat
  | .negotiate => 0 | .active => 1 | .simplex => 2 | .standby => 3 | .isolated => 4

/-- The role of a code (R414); codes above 4 name none and read as ISOLATED. -/
def Role.ofCode : Nat → Role
  | 0 => .negotiate | 1 => .active | 2 => .simplex | 3 => .standby | _ => .isolated

/-- The name of one committed record: its kind (opcode block × 256 + table code, R460) and its index. -/
structure CfgKey where
  kind : Nat
  idx : Nat
  deriving DecidableEq, Repr, Inhabited

/-- The mailbox request that a command row carries: the header fields the host wrote into the slot and the payload
(20_mailbox.md R442). -/
structure Req where
  slot : Fin 16 := 0
  tag : U16 := 0
  level : Byte := 0
  byte5 : Byte := 0
  len : U16 := 0
  crc : U32 := 0
  payload : List Byte := []
  deriving DecidableEq, Repr, Inhabited

/-- What the mains-sense front ends measured over the cycle that has just ended (02_mains_time.md R35): the amplitude of
each phase in 1/256 of full scale, its RMS as a fraction of full scale (REAL), and the angles of L2 and L3 in degrees. -/
structure MainsMeas where
  amp1 : Nat := 0
  amp2 : Nat := 0
  amp3 : Nat := 0
  rms1 : Real32 := 0
  rms2 : Real32 := 0
  rms3 : Real32 := 0
  ang2 : Real32 := 0
  ang3 : Real32 := 0
  deriving DecidableEq, Repr, Inhabited

/-- What a read of one 72-bit word found (01_architecture.md R30 to R32). -/
inductive EccResult where
  | clean | single | double
  deriving DecidableEq, Repr, Inhabited

/-- A PHY's status as MDIO reads it (04_field_links.md R89): link, speed, duplex. The spec gives the speed no code; DESIGN CHOICE
(notes/assumptions/17.md): 0 10, 1 100, 2 1000 Mbit/s. -/
structure PhyStatus where
  up : Bool := false
  speed : Fin 3 := 0
  full : Bool := false
  deriving DecidableEq, Repr, Inhabited

/-- A frame received on an MS/TP trunk (R101), with the outcome of its header CRC and its data CRC. -/
structure MstpFrame where
  typ : Byte := 0
  src : Byte := 0
  dst : Byte := 0
  hdrOk : Bool := true
  dataOk : Bool := true
  data : List Byte := []
  deriving DecidableEq, Repr, Inhabited

/-- A field device's address as a frame shows it (05_point_acquisition.md R119). -/
structure DevAddr where
  station : Byte := 0
  ip : U32 := 0
  port : U16 := 0
  dnet : U16 := 0
  dadr : Nat := 0
  dlen : Nat := 0
  deriving DecidableEq, Repr, Inhabited

/-- A value read from a field device, by the datatype received (R129). -/
inductive FieldVal where
  | real (v : Real32) | double (v : U64) | enum (n : Nat) | bool (b : Bool)
  | unsigned (n : Nat) | signed (i : Int)
  | mbInt (i : Int) | mbFloat (v : Real32) | mbBit (b : Bool)
  | other
  deriving DecidableEq, Repr, Inhabited

/-- One good read of a point: the value and the two Status_Flags PNT uses (R128, R129). -/
structure FieldRead where
  val : FieldVal := .other
  fault : Bool := false
  overridden : Bool := false
  deriving DecidableEq, Repr, Inhabited

/-- One item of a reply: the point and its value, or the error class and code (R129). -/
structure ReadItem where
  pn : Fin 131072
  val : Option FieldRead := none
  cls : U16 := 0
  code : U16 := 0
  deriving DecidableEq, Repr

/-- The answer to a read request (R115, R128, R129). -/
inductive ReadReply where
  | items (l : List ReadItem)
  | error (cls code : U16)
  | reject (reason : Byte)
  | abort (reason : Byte)
  | exception (code : Byte)
  | restartTime (stamp : U64)
  | systemStatus
  deriving DecidableEq, Repr

/-- The answer to a write request (R135). -/
inductive WriteAns where
  | ack
  | error (cls code : U16)
  | reject (reason : Byte)
  | abort (reason : Byte)
  | exception (code : Byte)
  deriving DecidableEq, Repr

/-- The readings of one scan of the key matrix (12_keys.md R275): 16 null codes, the 16 codes of each of the 8 row steps,
and each driven row's deviation from KBIAS + 1.000 V in mV. -/
structure KeyScan where
  nul : List Nat := []
  rows : List (List Nat) := []
  dev : List Int := []
  deriving DecidableEq, Repr, Inhabited

/-- A change of a channel's window comparator (08_coil_banks.md R191, R198): the current reaches IH, falls to IL, or has
been below I_ZERO for 10 µs. -/
inductive Comparator where
  | reachedIH | fellToIL | aboveZero | belowZero
  /-- The shunt current in steps of the channel's RANGE, as the slope detector tracks it (R231). -/
  | current (q : Nat)
  deriving DecidableEq, Repr, Inhabited

/-- The windows of the off-state diagnostics (R200). -/
inductive Window where
  | l | m | n | h
  deriving DecidableEq, Repr, Inhabited

/-- The code of a window (R212). -/
def Window.code : Window → Nat
  | .l => 0 | .m => 1 | .n => 2 | .h => 3

/-- The payload of a verified link HELLO (14_pair.md R317). -/
structure PairHello where
  pairId : Bool := false
  fp : U64 := 0
  plMin : Nat := 1
  plMax : Nat := 2
  gen : U32 := 0
  role : Role := .negotiate
  eligible : Bool := false
  m5 : Bool := true
  m6 : Bool := true
  nonce : BitVec 128 := 0
  cycle : U32 := 0
  deriving DecidableEq, Repr, Inhabited

/-- A verified BEAT (R315): its header's SEQ, ACK and CYCLE, and its one word. -/
structure PairBeat where
  seq : U32 := 0
  ack : U32 := 0
  cycle : U32 := 0
  role : Role := .negotiate
  eligible : Bool := false
  gen : U32 := 0
  angle : U16 := 0
  deriving DecidableEq, Repr, Inhabited

/-- Why a link frame was discarded (R313, R315, R316, R318). -/
inductive PairReject where
  | crc | tag | type | order
  deriving DecidableEq, Repr, Inhabited

/-- One record of a mirror class (R330). -/
inductive MirrorRec where
  | m1Coil (ch : Fin 24) (bound : Bool) (running : Option (Fin 32 × Nat)) (scribe : Nat)
  | m1Fan (fan : Fin 8) (duty : Nat)
  | m1Aout (n : Fin 8) (code : Nat)
  | m1Gpio (n : Fin 16) (level : Bool)
  | m2Area (an : Fin 64) (image : Img)
  | m2Sup (states : List (Nat × Bool))
  | m2Trig (n : Fin 256) (state : Bool) (count : Nat)
  | m3Array (pa : Fin 16384) (image : Img)
  | m4Regs (ln : Fin 8192) (image : Img)
  | m5Start (region : Fin 16) (x y w h : Nat) (band : Nat) (c : U32) (a : U16) (target : List Nat)
  | m5Done (region : Fin 16) (x y w h : Nat) (target current : List Nat) (acc : List Int)
  | m6Keys (states toggles faults : Nat)
  | m6Slot (pn : Fin 131072) (pri : Fin 17) (value : Option U32)
  | m6Oos (pn : Fin 131072) (value : Option U32)
  | m7Seq (next : List Nat) (released : Nat)
  | m8Dev (dv : Fin 4096) (image : Img)
  deriving DecidableEq, Repr

/-- The commands: one constructor per row of the table. -/
inductive Instr where
  /-- PORST_N_RELEASE, R471. Release of PORST_N, or a rise of PGOOD_CORE with it released, starts a power-on reset and the start-up sequence. -/
  | porstNRelease (straps : Straps) (trimOk : Bool)
  /-- RESET_N_RELEASE, R471. Release of RESET_N after at least 10 µs low starts a reset and the start-up sequence, without touching the always-on domain. -/
  | resetNRelease (straps : Straps) (trimOk : Bool)
  /-- SUPERVISOR_UP, R473. SUP runs the selected image, READY sets, the host port answers and converter calibration starts. -/
  | supervisorUp
  /-- CONFIGURATION_RESTORE, R477. Restore completes: journal replay, configuration load, snapshot and panel records, handed SUP_IN states, latched modes and held-over events. -/
  | configurationRestore (bad : List CfgKey)
  /-- NEGOTIATE_TIMEOUT, R329. 1.2 s after the reset sequence or NAP exit with activity silent, the device becomes SIMPLEX or ISOLATED. -/
  | negotiateTimeout
  /-- PFAIL_N_FALL, R372. A fall of PFAIL_N fences the store and interrupts running panel regions. -/
  | pfailNFall
  /-- PFAIL_N_RISE, R372. A rise of PFAIL_N starts the 10 ms wait before the fence lifts. -/
  | pfailNRise
  /-- FENCE_LIFT, R372. After PFAIL_N has been high for 10 ms with no reset, the fence lifts and interrupted bulk writes restart. -/
  | fenceLift
  /-- PGOOD_CORE_FALL, R388. Loss of PGOOD_CORE fences the store, hands SUP_IN0..3 to the sentinel and cuts to STANDBY. -/
  | pgoodCoreFall
  /-- VAON_POWER_ON, R388. VAON rising above 1.65 V resets the always-on domain, invalidates the RTC and clears retention. -/
  | vaonPowerOn
  /-- VAON_LOSS, R388. VAON falling below 1.60 V loses retention and RTC and puts the device OFF. -/
  | vaonLoss
  /-- CROSSING, R38. A positive-going zero crossing of the reference phase is judged valid or invalid and advances the tracker state machine. -/
  | crossing (phase : Fin 3) (interval : Nat) (amp : Nat) (angle : U16) (m : MainsMeas)
  /-- CROSSING_TIMEOUT, R38. 1.5 nominal cycles without a valid crossing clears a run, sends LOCK to RIDE or cancels a pending seam. -/
  | crossingTimeout
  /-- ACQUIRE_TIMEOUT, R38. 700 ms after the reset sequence without lock, MT starts in RIDE or SYNTH. -/
  | acquireTimeout
  /-- RIDE_TIMEOUT, R38. After 10 s in RIDE the rate changes to nominal at the next cycle boundary and the tracker enters SYNTH. -/
  | rideTimeout
  /-- CYCLE_BOUNDARY, R24. At MT(C, 0) outputs update, integrating results latch, sources land, angle-0 entries dispatch and angle-0 loops start. -/
  | cycleBoundary (m : MainsMeas)
  /-- HALF_CYCLE_BOUNDARY, R25. At MT(C, 32,768) panel frames start, supervised inputs and keys land, triggers and modes are evaluated and fans update. -/
  | halfCycleBoundary
  /-- EIGHTH_CYCLE_INSTANT, R181. At multiples of 8,192 AU, coil channels whose points a priority-1 or -2 write changed take their new value. -/
  | eighthCycleInstant (k : Fin 8)
  /-- CALENDAR_DISPATCH, R49. A calendar entry whose MT is reached is dispatched to its owner, flagged LATE beyond 64 AU. -/
  | calendarDispatch (angle : U16)
  /-- TIMED_COMMAND_DISPATCH, R54. At the first cycle boundary with the latched UTC at or past its UTC, a timed command's embedded command is executed or discarded. -/
  | timedCommandDispatch
  /-- PATROL_SCRUB, R30. The scrubber reads the next SRAM word, correcting single-bit errors and quarantining records with double-bit errors. -/
  | patrolScrub (found : Option (Nat × Nat)) (res : EccResult)
  /-- BRIDGE_WATCHDOG, R18. 20 µs without a valid bridge frame switches every coil gate off, and the logic die releases ACTIVE. -/
  | bridgeWatchdog
  /-- ETH_FRAME_RX, R93. A received Ethernet frame is classified and dropped, answered, passed to PNT or forwarded to the host. -/
  | ethFrameRx (port : Fin 2) (frame : List Byte)
  /-- PHY_STATUS_POLL, R89. Every 100 ms the device reads each PHY's status and speed and updates link state. -/
  | phyStatusPoll (port : Fin 2) (phy : PhyStatus)
  /-- PHYINT, R89. A fall of ETH_PHYINT_N with PHYINT_EN makes the device read both PHYs within 1 ms. -/
  | phyint (phy0 phy1 : PhyStatus)
  /-- PORT_SILENCE, R108. No frame for 10 s on a port with bound devices declares PORT_FAULT. -/
  | portSilence (port : Fin 2)
  /-- PORT_RECOVER, R108. A port up for RECOVER_S s with a probe answered leaves FAULT and forwards held writes. -/
  | portRecover (port : Fin 2)
  /-- ARP_RESOLUTION_TIMEOUT, R92. A frame waiting 1 s for ARP resolution is dropped and counted. -/
  | arpResolutionTimeout (port : Fin 2) (ip : U32)
  /-- ARP_AGEOUT, R92. An ARP cache entry older than ARP_AGE is aged out. -/
  | arpAgeout (port : Fin 2) (ip : U32)
  /-- GRATUITOUS_ARP, R106. The second gratuitous ARP is sent 1 s after becoming ACTIVE. -/
  | gratuitousArp
  /-- TCP_RETRANSMIT_TIMEOUT, R96. A Modbus TCP retransmission timeout retries with doubled RTO or abandons the connection. -/
  | tcpRetransmitTimeout (conn : Fin 128)
  /-- TCP_IDLE_CLOSE, R96. A Modbus TCP connection idle for TCP_IDLE s is closed. -/
  | tcpIdleClose (conn : Fin 128)
  /-- TRUNK_FRAME_RX, R101. A received MS/TP frame is handled in hardware, passed to PNT or discarded, with duplicate-address detection. -/
  | trunkFrameRx (trunk : Fin 8) (f : MstpFrame)
  /-- TRUNK_FRAME_SENT, R107. The end of a transmitted frame is checked against its echo and counts toward TX_ECHO. -/
  | trunkFrameSent (trunk : Fin 8) (echoOk : Bool)
  /-- MSTP_NO_TOKEN, R100. Tno_token plus the slot time expires and the trunk generates a token. -/
  | mstpNoToken (trunk : Fin 8)
  /-- MSTP_REPLY_TIMEOUT, R100. Treply_timeout expires without a reply to a frame expecting one. -/
  | mstpReplyTimeout (trunk : Fin 8)
  /-- MSTP_USAGE_TIMEOUT, R100. Tusage_timeout expires after a token pass and the pass is retried. -/
  | mstpUsageTimeout (trunk : Fin 8)
  /-- RTU_FRAME_RX, R104. An RTU frame ended by t3.5 silence is matched to the outstanding transaction or discarded. -/
  | rtuFrameRx (trunk : Fin 8) (adu : List Byte) (gapOk : Bool)
  /-- RTU_RESP_TIMEOUT, R104. No valid reply within RTU_RESP_TIMEOUT ends the transaction as a timeout. -/
  | rtuRespTimeout (trunk : Fin 8)
  /-- RTU_BCAST_DELAY, R104. The silence after a broadcast write ends and the next transaction may start. -/
  | rtuBcastDelay (trunk : Fin 8)
  /-- RX_STUCK, R107. TRKn_RX held at space for 64 character times declares a trunk fault. -/
  | rxStuck (trunk : Fin 8)
  /-- ERR_RATE_WINDOW, R107. At the end of each 1 s window the error share is compared with FAULT_ERR_PCT. -/
  | errRateWindow (trunk : Fin 8)
  /-- NO_PEER, R107. 10 s without another node on MS/TP, or 16 RTU timeouts, declares a trunk fault. -/
  | noPeer (trunk : Fin 8)
  /-- TRUNK_PROBE, R108. In FAULT, one probe is sent each second to the least recently heard device. -/
  | trunkProbe (link : Fin 10)
  /-- TRUNK_RECOVER, R108. No fault cause for RECOVER_S s with a probe answered returns the trunk to UP and forwards held writes. -/
  | trunkRecover (trunk : Fin 8)
  /-- I_AM, R120. A received I-Am binds, discovers, detects a restart or reports a duplicate instance. -/
  | iAm (link : Fin 10) (src : DevAddr) (instance_ : Nat) (maxApdu seg : Nat)
  /-- READ_REPLY, R129. A read reply or notification value is converted and refreshes its points, or is discarded as late. -/
  | readReply (dv : Fin 4096) (id : U16) (r : ReadReply)
  /-- COV_NOTIFICATION, R131. A COV notification is matched to a point and refreshes it, or is acknowledged and cancelled. -/
  | covNotification (link : Fin 10) (src : DevAddr) (pid : Nat) (obj : U32) (item : Option FieldRead) (confirmed : Option Byte)
  /-- WRITE_REPLY, R135. The answer to a remote write keeps or frees its shadow or reports a failure. -/
  | writeReply (dv : Fin 4096) (id : U16) (r : WriteAns)
  /-- SUBSCRIBE_COV_REPLY, R130. The answer to SubscribeCOV activates the subscription or leaves the point polled. -/
  | subscribeCovReply (dv : Fin 4096) (id : U16) (ok : Bool) (cause : Byte)
  /-- REQUEST_TIMEOUT, R137. A request's timeout retries it or, after the last retry, quarantines its invoke ID. -/
  | requestTimeout (dv : Fin 4096) (id : U16)
  /-- INVOKE_ID_QUARANTINE_END, R137. A quarantined invoke ID becomes free again. -/
  | invokeIdQuarantineEnd (dv : Fin 4096) (id : U16)
  /-- MODBUS_BUSY_RETRY, R135. 100 ms after exception 5 or 6 the write is sent again. -/
  | modbusBusyRetry (dv : Fin 4096) (id : U16)
  /-- WRITE_RESEND, R135. A timed-out priority-1 or -2 write is sent again every 10 s. -/
  | writeResend (pn : Fin 131072) (pri : Fin 17)
  /-- POLL_CLASS_DUE, R127. A poll class falls due and a round is queued for each bound device of the class. -/
  | pollClassDue (cls : Fin 16)
  /-- LIVENESS_PROBE, R122. A bound device silent for SILENCE_S / 2 with nothing in flight is probed. -/
  | livenessProbe (dv : Fin 4096)
  /-- DEVICE_SILENCE, R120. SILENCE_S s without a valid frame sends a device to SILENT and marks its points STALE. -/
  | deviceSilence (dv : Fin 4096)
  /-- SILENT_PROBE, R120. Every 10 s a SILENT device is probed and sought. -/
  | silentProbe (dv : Fin 4096)
  /-- UNBIND_TIMEOUT, R120. UNBIND_S s in SILENT clears a non-static entry's address and returns it to SEEKING. -/
  | unbindTimeout (dv : Fin 4096)
  /-- SEEK, R120. A due seek sends Who-Is or a probe read for a SEEKING entry. -/
  | seek (dv : Fin 4096)
  /-- DISC_AGE_TIMEOUT, R120. A DISCOVERED entry without an I-Am for DISC_AGE_S s is cleared. -/
  | discAgeTimeout (dv : Fin 4096)
  /-- COV_RENEWAL, R130. A subscription is renewed at 75 % of its lifetime. -/
  | covRenewal (pn : Fin 131072)
  /-- LOOP_DUE, R150. A loop falls due and its scan is queued on its lane, or merged with a queued scan as a stretch or overrun. -/
  | loopDue (ln : Fin 8192)
  /-- LOOP_SCAN, R152. A lane takes the next queued scan and starts executing its program. -/
  | loopScan (lane : Fin 4) (bufferUe : Bool)
  /-- LOOP_END, R152. END commits the scan: registers are written back and STP and RELP writes go to the arbiter. -/
  | loopEnd (lane : Fin 4)
  /-- LDP, R146. Loads a point's VALUE as REAL and sets Q for a stale, faulty or out-of-service point. -/
  | ldp (lane : Fin 4)
  /-- LDF, R146. Loads a point's status flags as a REAL. -/
  | ldf (lane : Fin 4)
  /-- LDK, R146. Loads a REAL immediate into V. -/
  | ldk (lane : Fin 4)
  /-- LDW, R146. Loads an immediate into W. -/
  | ldw (lane : Fin 4)
  /-- STP, R155. Records a write of X[A].V to a point at a priority for commit. -/
  | stp (lane : Fin 4)
  /-- RELP, R155. Records a relinquish of a point at a priority for commit. -/
  | relp (lane : Fin 4)
  /-- MOV, R146. Copies a register's V half. -/
  | mov (lane : Fin 4)
  /-- ADD, R146. Adds two registers. -/
  | add (lane : Fin 4)
  /-- SUB, R146. Subtracts two registers. -/
  | sub (lane : Fin 4)
  /-- MUL, R146. Multiplies two registers. -/
  | mul (lane : Fin 4)
  /-- DIV, R146. Divides two registers, giving infinity or NaN on division by zero. -/
  | div (lane : Fin 4)
  /-- ABS, R146. Takes the absolute value. -/
  | abs (lane : Fin 4)
  /-- MIN, R146. Takes the smaller of two registers. -/
  | min (lane : Fin 4)
  /-- MAX, R146. Takes the larger of two registers. -/
  | max (lane : Fin 4)
  /-- LIM, R146. Limits a value between a low and a high limit. -/
  | lim (lane : Fin 4)
  /-- SEL, R146. Selects one of two registers by a truth value. -/
  | sel (lane : Fin 4)
  /-- CMP, R146. Writes the truth of a comparison. -/
  | cmp (lane : Fin 4)
  /-- QNT, R146. Quantises a value to a step. -/
  | qnt (lane : Fin 4)
  /-- AND, R146. Logical and of two truth values. -/
  | and (lane : Fin 4)
  /-- OR, R146. Logical or of two truth values. -/
  | or (lane : Fin 4)
  /-- XOR, R146. Logical exclusive or of two truth values. -/
  | xor (lane : Fin 4)
  /-- NOT, R146. Logical negation of a truth value. -/
  | not (lane : Fin 4)
  /-- LOOP_JMP, R146. Jumps forward, always or on a register truth value or Q. -/
  | loopJmp (lane : Fin 4)
  /-- PID, R147. Runs one PID step with anti-windup, starting bumplessly on INIT. -/
  | pid (lane : Fin 4)
  /-- RAMP, R147. Moves a value toward a target by at most rate × dt. -/
  | ramp (lane : Fin 4)
  /-- TPOS, R146. Two-position control with hysteresis. -/
  | tpos (lane : Fin 4)
  /-- SEQ, R147. Moves a stage sequencer up or down by at most one stage after its dwell. -/
  | seq (lane : Fin 4)
  /-- TAB, R147. Interpolates a piecewise-linear table. -/
  | tab (lane : Fin 4)
  /-- DON, R146. On-delay timer step. -/
  | don (lane : Fin 4)
  /-- DOFF, R146. Off-delay timer step. -/
  | doff (lane : Fin 4)
  /-- LANE_WATCHDOG, R158. A scan reaching 1,024 lane clocks faults the lane, which halts and has its loops re-homed. -/
  | laneWatchdog (lane : Fin 4)
  /-- LANE_SELF_CHECK, R158. A lane runs its 200-clock self-check once per 256-cycle window and faults on a wrong signature. -/
  | laneSelfCheck (lane : Fin 4) (pass : Bool)
  /-- LANE_TEST_END, R160. After RESTORE the 16 self-checks end, returning the lane to service or to FAULTED. -/
  | laneTestEnd (lane : Fin 4) (pass : Bool)
  /-- ALERT_HOLD_EXPIRY, R171. ALERT_HOLD cycles after the last active ALERT trigger the area's ALERT ends. -/
  | alertHoldExpiry (an : Fin 64)
  /-- TEST_MAX_EXPIRY, R177. TEST running for TEST_MAX returns the area to NORMAL. -/
  | testMaxExpiry (an : Fin 64)
  /-- KEY_SCAN, R275. A nine-step matrix scan starting 4,096 AU before a half-cycle is decoded and debounced, with fault detection. -/
  | keyScan (k : KeyScan)
  /-- STUCK_TIMEOUT, R278. A key pressed for STUCK_S s is frozen as stuck. -/
  | stuckTimeout (key : Fin 512)
  /-- COIL_EVENT_START, R223. The head event of a channel starts once its instant, the kerf and boost admission allow, possibly stealing or pre-empting. -/
  | coilEventStart (ch : Fin 24)
  /-- CSQ_END, R216. Ends the event with the decay in force. -/
  | csqEnd (ch : Fin 24)
  /-- SRC, R216. Starts a phase with a source demand, decay and thresholds. -/
  | src (ch : Fin 24)
  /-- LSW, R216. Commands the low-side switch on or off. -/
  | lsw (ch : Fin 24)
  /-- DCY, R216. Changes the decay of the phase in force. -/
  | dcy (ch : Fin 24)
  /-- WT, R216. Starts a timed wait. -/
  | wt (ch : Fin 24)
  /-- WI, R216. Starts a wait for a current threshold with a timeout. -/
  | wi (ch : Fin 24)
  /-- CHOP, R217. Starts regulation between IL and IH for a time or without limit. -/
  | chop (ch : Fin 24)
  /-- MARK, R228. Triggers injected conversions or raises COIL_MARK. -/
  | mark (ch : Fin 24)
  /-- DWIN, R216. Opens or closes the diagnostic window. -/
  | dwin (ch : Fin 24)
  /-- LOOP, R216. Jumps back a counted number of times. -/
  | loop (ch : Fin 24)
  /-- CSQ_JMP, R216. Jumps within the entry. -/
  | csqJmp (ch : Fin 24)
  /-- BR, R216. Branches on an event flag. -/
  | br (ch : Fin 24)
  /-- SCRB, R231. Arms or disarms the dip detector. -/
  | scrb (ch : Fin 24)
  /-- WT_EXPIRY, R215. A WT wait count expires and the context becomes ready. -/
  | wtExpiry (ch : Fin 24)
  /-- COMPARATOR_CROSSING, R192. A current threshold crossing ends a WI or turns a chop on-time or off-time. -/
  | comparatorCrossing (ch : Fin 24) (x : Comparator) (elapsed : Nat)
  /-- WI_TIMEOUT, R216. A WI timeout expires, sets TO and lets the program continue. -/
  | wiTimeout (ch : Fin 24)
  /-- CHOP_END, R217. A counted chop ends with the channel left driving. -/
  | chopEnd (ch : Fin 24)
  /-- PEAK_LIMIT, R219. A BOOST phase reaching PEAK_LIM withdraws its boost demand and sets TO. -/
  | peakLimit (ch : Fin 24)
  /-- BOOST_MAX_LIMIT, R199. Cumulative boost time reaching BOOST_MAX ends the boost demand. -/
  | boostMaxLimit (ch : Fin 24)
  /-- ON_TIME_LIMIT, R199. Event time reaching ON_MAX or UNREG_MAX ends the event with FAST decay and lands ONTIME_LIMIT. -/
  | onTimeLimit (ch : Fin 24)
  /-- SLOW_DECAY_LIMIT, R193. SLOW decay lasting 50 ms continues as FAST. -/
  | slowDecayLimit (ch : Fin 24)
  /-- EVENT_END, R198. After END with current below I_ZERO for 10 µs the event ends and the kerf starts. -/
  | eventEnd (ch : Fin 24)
  /-- DIP_CONFIRMED, R231. The dip detector confirms the armature's operate instant and the measurement is judged. -/
  | dipConfirmed (ch : Fin 24) (m : Nat)
  /-- LATENESS_ALLOWANCE_EXPIRY, R224. A waiting event whose lateness reaches its allowance is dropped. -/
  | latenessAllowanceExpiry (ch : Fin 24)
  /-- LOW_SIDE_TRIP, R192. Overcurrent or excess drain voltage switches Q_LSn off within 1 µs and ends the event. -/
  | lowSideTrip (ch : Fin 24)
  /-- HIGH_SIDE_TRIP, R204. A sagging HS_SW switches the whole bank off and lands HS_SHORT. -/
  | highSideTrip (bank : Fin 6)
  /-- RISE_TIMEOUT, R204. RISE_TMAX without crossing IH in a window lands SLOW_RISE. -/
  | riseTimeout (ch : Fin 24)
  /-- VGD_UVLO, R190. VGD falling below 9.0 V switches every gate off and lands DRIVE_OFF. -/
  | vgdUvlo
  /-- VGD_RELEASE, R190. VGD rising above 9.5 V releases the gates. -/
  | vgdRelease
  /-- DIAG_SEQUENCE_START, R200. A due off-state sequence starts once the bank is idle and clear of queued events. -/
  | diagSequenceStart (bank : Fin 6)
  /-- DIAG_STEP_A, R201. At the end of step A settling, the bank's nodes are classified and the sequence proceeds or ends. -/
  | diagStepA (bank : Fin 6) (hs : Window) (ld : List Window)
  /-- DIAG_STEP_B, R202. At the end of a step B settling, one channel's coil is classified. -/
  | diagStepB (bank : Fin 6) (hs ld : Window)
  /-- DIAG_STARVE_TIMEOUT, R203. No sequence completing within 4 × DIAG_PERIOD raises DIAG_STARVED. -/
  | diagStarveTimeout (bank : Fin 6)
  /-- CB_RECORDS_TAKE_EFFECT, R211. New bank and channel records take effect at the bank's first idle instant, or after 1 s at a quiet clock. -/
  | cbRecordsTakeEffect (bank : Fin 6)
  /-- CONVERSION_END, R246. A conversion completes, updates its register and starts the next, with over-range handling. -/
  | conversionEnd (conv : Fin 4) (raw : Int) (outside : Bool) (angle : U16)
  /-- INJECTED_SEQUENCE_END, R248. An injected sequence ends and a pending one or the regular sequence resumes. -/
  | injectedSequenceEnd (conv : Fin 4)
  /-- REF_SETTLED, R242. A reference's settling time elapses without interruption and REF_RDY sets. -/
  | refSettled (conv : Fin 4)
  /-- VREF_EXT_WINDOW, R242. VREF_EXT leaves or re-enters its window, clearing REF_RDY of EXT converters. -/
  | vrefExtWindow (inside : Bool)
  /-- JIG_DELAY_EXPIRY, R254. A jig entry's DELAY ends and the jig moves to the next entry. -/
  | jigDelayExpiry (conv : Fin 4)
  /-- CALIBRATION_END, R257. Calibration ends, applying or keeping trims and starting or not starting the regular sequence. -/
  | calibrationEnd (conv : Fin 4) (offset gain : Int)
  /-- TACH_EDGE, R265. A filtered rising tachometer edge is counted for speed measurement. -/
  | tachEdge (fan : Fin 8) (interval : Nat)
  /-- KICK_TIMEOUT, R268. KICK_MS without two edges backs off or faults the fan. -/
  | kickTimeout (fan : Fin 8)
  /-- BACKOFF_EXPIRY, R268. BACKOFF_S passes and the fan kicks again. -/
  | backoffExpiry (fan : Fin 8)
  /-- TACH_TIMEOUT, R268. No edge within TACH_TO in RUN moves the fan to OPEN_LOOP or BACKOFF. -/
  | tachTimeout (fan : Fin 8)
  /-- CUR_TRIG, R266. A fan issues its current-conversion trigger at the midpoint of the first on-time after each quarter angle. -/
  | curTrig (fan : Fin 8)
  /-- PANEL_FRAME_END, R302. A frame ends; finished schedules settle and regions at their last frame complete. -/
  | panelFrameEnd
  /-- PNL_PWR_GOOD_RISE, R289. Power-good from the panel enables VCOM. -/
  | pnlPwrGoodRise
  /-- PWR_TO_EXPIRY, R289. PWR_TO without power-good drops PNL_PWR_EN and retries at the next due frame. -/
  | pwrToExpiry
  /-- LOAD_MAX_EXPIRY, R298. A region LOADING for LOAD_MAX_S is discarded and its targets reverted. -/
  | loadMaxExpiry (region : Fin 16)
  /-- LANE_ALIGNMENT, R320. Both link lanes align on markers and HELLO is sent. -/
  | laneAlignment
  /-- TRAIN_TIMEOUT, R320. 2 ms without alignment counts a training failure and retrains after 10 ms. -/
  | trainTimeout
  /-- ALIGNMENT_LOST, R320. Loss of lane alignment returns the link to TRAIN and marks the mirror stale. -/
  | alignmentLost
  /-- HELLO_FRAME, R317. A received link HELLO is verified, the session key derived and the link brought UP, or a clash or unbonded peer reported. -/
  | helloFrame (h : PairHello)
  /-- HELLO_REPEAT, R320. In HELLO the device repeats its HELLO every 100 ms. -/
  | helloRepeat
  /-- BEAT, R315. A received BEAT updates the partner's role, eligibility and generation and may start dual-active resolution. -/
  | beat (b : PairBeat)
  /-- BEAT_DUE, R316. After 250 µs without sending, the device sends a BEAT. -/
  | beatDue
  /-- MIRROR, R315. A received MIRROR frame's records are checked and applied or held for their batch. -/
  | mirror (seq ack cycle : U32) (snapshot_ : Bool) (r : MirrorRec) (damaged : Bool)
  /-- BATCH_END, R332. A received BATCH_END applies the cycle's batch all at once. -/
  | batchEnd (seq ack cycle : U32)
  /-- RESYNC_REQ, R334. A received RESYNC_REQ sends M1 and M2 in full and schedules a snapshot. -/
  | resyncReq (seq ack : U32) (cls : Nat)
  /-- RESYNC_DONE, R334. A received RESYNC_DONE applies the snapshot and brings the mirror current. -/
  | resyncDone (seq ack cycle : U32)
  /-- RELINQUISH, R338. A verified RELINQUISH starts an orderly dovetail or, in dual-active, raises latches. -/
  | relinquish (seq ack : U32) (areas : List (Nat × Img)) (swap : Bool)
  /-- RELINQUISH_RESEND, R349. An unacknowledged RELINQUISH is resent after 1 ms, then duty is released anyway. -/
  | relinquishResend
  /-- BOND, R322. A received BOND key is checked against the named fingerprint and K_pair derived. -/
  | bond (key : List Byte)
  /-- BOND_CONFIRM, R322. A valid BOND_CONFIRM stores the bond and restarts the link. -/
  | bondConfirm
  /-- BOND_TIMEOUT, R322. A pending bond not completed within 10 s is abandoned. -/
  | bondTimeout
  /-- PAIR_FRAME_REJECTED, R318. A link frame failing CRC, tag, type or order is discarded and counted, returning to HELLO past the limit. -/
  | pairFrameRejected (why : PairReject)
  /-- RETRANSMIT_TIMEOUT, R316. An unacknowledged frame after 50 µs makes the sender go back and resend. -/
  | retransmitTimeout
  /-- LINK_SILENCE, R320. 2 ms without a verified frame returns the link to TRAIN and marks the mirror stale. -/
  | linkSilence
  /-- HEARTBEAT_TOGGLE, R324. PR_HB_O toggles every 250 µs while retriggered by PAIR. -/
  | heartbeatToggle
  /-- PR_HB_I_EDGE, R324. An edge on PR_HB_I keeps or restores the partner's heartbeat. -/
  | prHbIEdge
  /-- HEARTBEAT_LOSS, R324. 2 ms without a PR_HB_I edge loses the heartbeat. -/
  | heartbeatLoss
  /-- ACTIVITY_TOGGLE, R325. PR_ACT_O toggles every 50 µs while the device has duty. -/
  | activityToggle
  /-- PR_ACT_I_EDGE, R326. An activity edge disables local outputs within 1 µs and may start dual-active resolution. -/
  | prActIEdge
  /-- ACTIVITY_SILENCE, R325. 2 ms without an activity edge makes activity silent, possibly completing the silent takeover trigger. -/
  | activitySilence
  /-- DOVETAIL_OUTPUT_ENABLE, R340. After 200 µs without partner activity, outputs are enabled and held outputs re-asserted from M1. -/
  | dovetailOutputEnable
  /-- JOURNAL_COMMIT, R361. A journal record's phase 2 completes, the record is applied and the command's status may be reported. -/
  | journalCommit
  /-- SNAPSHOT, R366. Every 3,000 cycles a snapshot of device-table, bench and tracker state is written and SNAP_DONE committed. -/
  | snapshot
  /-- SENSOR_WINDOW, R375. Each 1.024 ms window converts sensor counts, judges failures, sets the throttle level and checks the trip. -/
  | sensorWindow (r : List Int) (counts : List Nat)
  /-- THROTTLE_REPORT, R378. At the end of a 64-reading report interval a held throttle change is reported. -/
  | throttleReport
  /-- AUTOMATIC_RESTART, R383. After 10 s below TCRIT − COOL_MARGIN in thermal hold, SUP issues an internal reset. -/
  | automaticRestart
  /-- SENTINEL_TICK, R396. Each tick biases and samples SUP channels, samples wake inputs, measures VAON and updates states, outputs, log and wakes. -/
  | sentinelTick (sup : List Nat) (wake : List Bool) (vaon : Nat)
  /-- SEN_WAKE_EDGE, R398. The active edge of an EDGE wake channel wakes the device within 100 µs. -/
  | senWakeEdge (n : Fin 4) (rising : Bool)
  /-- RTC_ALARM, R391. The RTC reaching the wake UTC wakes the device. -/
  | rtcAlarm
  /-- CRYSTAL_FAIL, R392. 4 ms without an X32_IN edge moves the RTC to the ring oscillator. -/
  | crystalFail
  /-- READ, R408. Single-line read transaction without CRC. -/
  | read (addr : BitVec 24) (n : Nat)
  /-- WRITE, R408. Single-line write transaction without CRC, taking effect word by word. -/
  | write (addr : BitVec 24) (data : List Byte)
  /-- READ_CRC, R409. Single-line read of LEN bytes followed by a CRC. -/
  | readCrc (addr : BitVec 24) (len : U16)
  /-- WRITE_CRC, R409. Single-line write of LEN bytes acted on at HOST_CS_N rise if length and CRC match. -/
  | writeCrc (addr : BitVec 24) (len : U16) (data : List Byte) (crc : U16)
  /-- QREAD, R408. Quad-line read transaction without CRC. -/
  | qread (addr : BitVec 24) (n : Nat)
  /-- QWRITE, R408. Quad-line write transaction without CRC. -/
  | qwrite (addr : BitVec 24) (data : List Byte)
  /-- QREAD_CRC, R409. Quad-line read with LEN and CRC. -/
  | qreadCrc (addr : BitVec 24) (len : U16)
  /-- QWRITE_CRC, R409. Quad-line write with LEN and CRC. -/
  | qwriteCrc (addr : BitVec 24) (len : U16) (data : List Byte) (crc : U16)
  /-- BAD_INSTRUCTION, R408. A transaction with an unknown instruction is ignored and records HIF_ERR cause 5. -/
  | badInstruction (code : Byte)
  /-- REGISTER_WRITE, R410. A write to a register without behaviour of its own sets its RW fields or is ignored. -/
  | registerWrite (addr : BitVec 24) (v : U32)
  /-- MAILBOX_SLOT_WRITE, R439. A host write into a mailbox slot is stored, or discarded and counted while the device owns the slot. -/
  | mailboxSlotWrite (slot : Fin 16) (off : Fin 1024) (data : List Byte)
  /-- BULK_WINDOW_WRITE, R417. A host write to the bulk window is stored, or discarded with HIF_ERR while locked. -/
  | bulkWindowWrite (off : Fin 65536) (data : List Byte)
  /-- DOORBELL, R440. A write to HIF_DOORBELL rings slots, which the device takes in order. -/
  | doorbell (v : U32)
  /-- HIF_DONE_CLEAR, R438. Writing 1 to a HIF_DONE bit returns the slot to the host. -/
  | hifDoneClear (v : U32)
  /-- IRQ_STAT_CLEAR, R415. Writing 1 to HIF_IRQ_STAT bits clears those interrupt latches. -/
  | irqStatClear (v : U32)
  /-- EVQ_PORT_READ, R410. A read at EVQ_PORT returns and consumes items, or the idle or hold item. -/
  | evqPortRead (n : Nat)
  /-- REWIND, R430. EVQ_CTRL REWIND returns every bench to the mark, or yields REWIND_LOST. -/
  | rewind
  /-- RELEASE_ALL, R427. EVQ_CTRL RELEASE_ALL releases every read packet of every bench. -/
  | releaseAll
  /-- EVQ_RELEASE, R428. Releases read packets of a bench up to a sequence number, draining backlogs. -/
  | evqRelease (v : U32)
  /-- EVQ_MARK_SET, R429. Sets the rewind mark at each bench's present read position. -/
  | evqMarkSet
  /-- EVQ_WMARK_WRITE, R435. Writing the watermark re-evaluates UNREAD ≥ W and may set the WMARK latch. -/
  | evqWmarkWrite (v : U32)
  /-- UNASSIGNED_OPCODE, R456. A command with an unassigned opcode is refused with BAD_OPCODE. -/
  | unassignedOpcode (opcode : U16) (r : Req)
  /-- HELLO, R452. Negotiates the interface level and epoch, abandoning commands of other epochs. -/
  | hello (r : Req)
  /-- SYS_IDENTIFY, R469. Returns part, revision, image, straps, reset cause and generation. -/
  | sysIdentify (r : Req)
  /-- SYS_RESET, R467. Hands duty on and resets the device normally or into RECOVERY mode. -/
  | sysReset (r : Req)
  /-- SYS_TIME, R468. Reads or sets the RTC. -/
  | sysTime (r : Req)
  /-- CFG_OPEN, R463. Opens a configuration session, optionally replacing one. -/
  | cfgOpen (r : Req)
  /-- CFG_LOAD, R463. Stages records of one point-store table in the session. -/
  | cfgLoad (r : Req)
  /-- CFG_COMMIT, R464. Checks the session, journals it and applies it at the next cycle boundary, advancing or setting the generation. -/
  | cfgCommit (r : Req)
  /-- CFG_ABORT, R463. Discards the open session. -/
  | cfgAbort (r : Req)
  /-- CFG_READ, R469. Returns committed or staged point-store records. -/
  | cfgRead (r : Req)
  /-- CFG_INFO, R469. Returns generation, free space, session state, last refusal and digest. -/
  | cfgInfo (r : Req)
  /-- SYS_GET_STATS, R469. Returns system counters, optionally clearing them atomically. -/
  | sysGetStats (r : Req)
  /-- STATS_CLEAR, R466. Clears the statistics counters of the selected groups. -/
  | statsClear (r : Req)
  /-- MT_SET_CFG, R59. Journals a new MT_CFG taking effect at the next cycle boundary. -/
  | mtSetCfg (r : Req)
  /-- MT_GET_STATUS, R60. Returns tracker state, MT, seam, calendar and UTC correlation. -/
  | mtGetStatus (r : Req)
  /-- MT_TIMED, R52. Creates a UTC-keyed timed command in the calendar. -/
  | mtTimed (r : Req)
  /-- MT_CANCEL, R51. Cancels a pending calendar entry by handle. -/
  | mtCancel (r : Req)
  /-- PT_READ, R87. Returns values and flags of a range of points. -/
  | ptRead (r : Req)
  /-- PT_WRITE, R87. Writes a virtual point, sets or clears OUT_OF_SERVICE, or writes an out-of-service value. -/
  | ptWrite (r : Req)
  /-- PA_WRITE, R87. Writes or relinquishes a priority slot as a host or network writer. -/
  | paWrite (r : Req)
  /-- PA_READ, R87. Returns a local point's priority array. -/
  | paRead (r : Req)
  /-- PA_SHADOWS, R87. Returns shadow records of remote writes. -/
  | paShadows (r : Req)
  /-- FL_SET_ETH, R110. Journals an Ethernet port record and restarts the port. -/
  | flSetEth (r : Req)
  /-- FL_SET_TRUNK, R110. Journals a trunk record and restarts the trunk. -/
  | flSetTrunk (r : Req)
  /-- FL_GET_STATUS, R113. Returns a link's state, cause and counters. -/
  | flGetStatus (r : Req)
  /-- FL_ETH_TX, R97. Queues a host Ethernet frame for transmission. -/
  | flEthTx (r : Req)
  /-- FL_MDIO, R90. Performs an ordered MDIO read or write to a PHY. -/
  | flMdio (r : Req)
  /-- FL_TRUNK_TX, R101. Queues a host NPDU on an MS/TP trunk. -/
  | flTrunkTx (r : Req)
  /-- PA_SET_CFG, R140. Journals the PA_CFG record. -/
  | paSetCfg (r : Req)
  /-- PA_SET_CLASS, R126. Journals a poll-class record taking effect at the next cycle boundary. -/
  | paSetClass (r : Req)
  /-- PA_SET_DEV, R120. Configures, reconfigures or frees a device-table entry. -/
  | paSetDev (r : Req)
  /-- PA_GET_DEV, R140. Returns a device-table entry. -/
  | paGetDev (r : Req)
  /-- PA_REBIND, R124. Treats bound entries as restarted and seeks others at once. -/
  | paRebind (r : Req)
  /-- PA_READ_NOW, R140. Reads a field point at once, completing when the read ends. -/
  | paReadNow (r : Req)
  /-- LP_SET_LOOP, R161. Journals a loop's descriptor, initial registers and program. -/
  | lpSetLoop (r : Req)
  /-- LP_GET_LOOP, R164. Returns a loop's descriptor, registers, statistics and program. -/
  | lpGetLoop (r : Req)
  /-- LP_ENABLE, R161. Enables, disables, or disables and relinquishes a range of loops. -/
  | lpEnable (r : Req)
  /-- LP_SET_REG, R164. Writes a loop's initial or run-time registers. -/
  | lpSetReg (r : Req)
  /-- LP_LANE, R160. Reads a lane's status or takes it out of or restores it to service. -/
  | lpLane (r : Req)
  /-- LP_GET_STATS, R164. Returns per-lane and loop-engine statistics. -/
  | lpGetStats (r : Req)
  /-- LS_SET_AREA, R185. Journals an area's mode and response fields. -/
  | lsSetArea (r : Req)
  /-- LS_SET_TRIG, R185. Journals trigger records taking effect at the next half-cycle. -/
  | lsSetTrig (r : Req)
  /-- LS_SET_RESP, R185. Journals cascade response records and triggers a re-assertion. -/
  | lsSetResp (r : Req)
  /-- LS_SET_VAL, R186. Journals cascade response values. -/
  | lsSetVal (r : Req)
  /-- LS_SET_IN, R167. Journals the supervised-input records. -/
  | lsSetIn (r : Req)
  /-- LS_MODE, R176. Declares, resets, tests or issues a firefighter command for an area at the next half-cycle, or returns status. -/
  | lsMode (r : Req)
  /-- CB_SET_BANK, R211. Journals a bank's records, completing when they take effect. -/
  | cbSetBank (r : Req)
  /-- CB_GET_DIAG, R212. Returns a bank's diagnostic state and counters. -/
  | cbGetDiag (r : Req)
  /-- CB_RUN_DIAG, R212. Runs one off-state sequence on a bank, completing when it ends. -/
  | cbRunDiag (r : Req)
  /-- CB_CLEAR, R207. Clears channel or bank latches and trip counts. -/
  | cbClear (r : Req)
  /-- CS_LOAD, R234. Loads microcode words after re-checking affected entries. -/
  | csLoad (r : Req)
  /-- CS_SET_ENTRY, R221. Journals an entry-table record after checking its code. -/
  | csSetEntry (r : Req)
  /-- CS_SET_CHAN, R233. Journals a channel's sequencer record, optionally resetting its scribe. -/
  | csSetChan (r : Req)
  /-- CS_EVENT, R222. Creates an MT-keyed coil event, optionally point-on-wave. -/
  | csEvent (r : Req)
  /-- CS_STOP, R234. Drops queued events and optionally ends the running event of a channel or bank. -/
  | csStop (r : Req)
  /-- CS_GET_CHAN, R234. Returns a channel's sequencer record and counters. -/
  | csGetChan (r : Req)
  /-- AD_SET_CONV, R258. Sets a converter's record and entries, taking effect at the next cycle boundary. -/
  | adSetConv (r : Req)
  /-- AD_SET_GROUP, R249. Forms or dissolves a simultaneous converter group. -/
  | adSetGroup (r : Req)
  /-- AD_READ, R259. Returns a converter's state and result registers. -/
  | adRead (r : Req)
  /-- AD_INJECT, R247. Triggers injected sequences now or at an MT. -/
  | adInject (r : Req)
  /-- AD_JIG, R257. Stops, starts the jig table, calibrates or reads jig results. -/
  | adJig (r : Req)
  /-- AD_GET_STATS, R259. Returns a converter's counters. -/
  | adGetStats (r : Req)
  /-- FN_SET_CHAN, R272. Journals a fan channel record taking effect at the next update. -/
  | fnSetChan (r : Req)
  /-- FN_GET_STATUS, R273. Returns every fan channel's state and AOUT codes. -/
  | fnGetStatus (r : Req)
  /-- FN_CLEAR, R268. Returns a faulted fan channel to OFF at the next update. -/
  | fnClear (r : Req)
  /-- KY_SET_CFG, R283. Journals the key-matrix record taking effect at the next scan. -/
  | kySetCfg (r : Req)
  /-- KY_SET_KEYS, R283. Journals key records taking effect at the next scan. -/
  | kySetKeys (r : Req)
  /-- KY_GET_STATE, R284. Returns debounced states, faults and scan counters. -/
  | kyGetState (r : Req)
  /-- PN_SET_CFG, R307. Journals the panel configuration taking effect at the next half-cycle. -/
  | pnSetCfg (r : Req)
  /-- PN_LOAD_TABLE, R295. Stages waveform table parts or commits the staged table. -/
  | pnLoadTable (r : Req)
  /-- PN_OPEN, R298. Opens a region in LOADING. -/
  | pnOpen (r : Req)
  /-- PN_LINES, R299. Writes lines of a region into the target plane and pending store. -/
  | pnLines (r : Req)
  /-- PN_START, R298. Arms a region, completing when it starts running. -/
  | pnStart (r : Req)
  /-- PN_DISCARD, R298. Discards a LOADING region and reverts its targets. -/
  | pnDiscard (r : Req)
  /-- PN_GET_STATUS, R308. Returns panel state, regions and counters. -/
  | pnGetStatus (r : Req)
  /-- PR_SET_CFG, R336. Journals the pair link record and restarts the link. -/
  | prSetCfg (r : Req)
  /-- PR_BOND, R322. Starts or erases a bond with a named partner fingerprint. -/
  | prBond (r : Req)
  /-- PR_ROLE, R349. Swaps duty, isolates or releases isolation of the device. -/
  | prRole (r : Req)
  /-- PR_GET_STATUS, R354. Returns role, link, mirror, fingerprints, generations and counters. -/
  | prGetStatus (r : Req)
  /-- NV_GET_STATUS, R373. Returns image slots, fence, journal and snapshot status. -/
  | nvGetStatus (r : Req)
  /-- NV_SNAPSHOT, R366. Writes a snapshot, completing when SNAP_DONE commits. -/
  | nvSnapshot (r : Req)
  /-- NV_FW_WRITE, R370. Writes image data from the bulk window into the inactive slot. -/
  | nvFwWrite (r : Req)
  /-- NV_FW_ACTIVATE, R370. Verifies a slot and makes it the trial boot preference. -/
  | nvFwActivate (r : Req)
  /-- NV_FW_CONFIRM, R370. Confirms the trial image and blows anti-rollback fuses. -/
  | nvFwConfirm (r : Req)
  /-- TH_SET_CFG, R384. Journals the thermal configuration taking effect at the next window. -/
  | thSetCfg (r : Req)
  /-- TH_GET_STATUS, R385. Returns throttle level, sensor readings and trip history. -/
  | thGetStatus (r : Req)
  /-- SN_SET_CFG, R405. Journals the sentinel configuration taking effect at the next tick. -/
  | snSetCfg (r : Req)
  /-- SN_POWER, R388. Puts a parked device into NAP or STANDBY. -/
  | snPower (r : Req)
  /-- SN_STATUS, R405. Returns power-state causes, channel states and outputs. -/
  | snStatus (r : Req)
  /-- SN_GET_LOG, R400. Returns sentinel log entries. -/
  | snGetLog (r : Req)
  /-- SN_OUT, R399. Forces sentinel outputs and clears their latches. -/
  | snOut (r : Req)
  /-- EVQ_SET_CFG, R436. Journals cut-through thresholds and coalescing. -/
  | evqSetCfg (r : Req)
  /-- EVQ_GET_STATS, R437. Returns per-bench queue and port error counters. -/
  | evqGetStats (r : Req)
  /-- BRIDGE_BAD_FRAMES, R18. The logic die detects 16 consecutive bridge frames with bad check codes, raises BRIDGE_LOST, marks itself not eligible and releases ACTIVE. -/
  | bridgeBadFrames
  /-- X32_CRYSTAL_RETRY, R392. Once per second after a crystal failure the 32.768 kHz crystal is tried again, and the RTC returns to it when it runs. -/
  | x32CrystalRetry (ok : Bool)
  /-- SYS_RESET_EXECUTE, R467. 1 ms after SYS_RESET writes its completion, the device performs the reset or the restart into RECOVERY mode. -/
  | sysResetExecute
  /-- DIGEST_RECOMPUTE, R460. SUP's background recomputation of DIGEST finishes and DIGEST_VALID sets within 100 ms of a change of the generation. -/
  | digestRecompute
  /-- MSTP_FRAME_ABORT, R100. A gap of Tframe_abort inside an incoming MS/TP frame makes the receive state machine abandon the frame. -/
  | mstpFrameAbort (trunk : Fin 8)
  /-- MSTP_SLOT_TIMEOUT, R100. Tslot expires without a reply to a Poll For Master, and the master state machine moves on. -/
  | mstpSlotTimeout (trunk : Fin 8)
  /-- RTU_TIMEOUT_SILENCE, R138. After an RTU timeout, the line has been silent for the longer of t3.5 and 10 ms, and the next request may be sent. -/
  | rtuTimeoutSilence (trunk : Fin 8)
  /-- CORE_SUPPLY_GATE_HOLD, R495. VDD_CORE falling below 0.70 V or VDD_IO33 falling below 2.7 V makes the field-die gate hold switch every gate off. -/
  | coreSupplyGateHold
  /-- CORE_SUPPLY_GATE_RELEASE, R495. VDD_CORE and VDD_IO33 return within their hold thresholds, and the field-die gate hold releases once every other cause has also cleared. -/
  | coreSupplyGateRelease
  deriving DecidableEq, Repr

/-- The mailbox request that a command row carries, with its opcode (R457). -/
def Instr.call (i : Instr) : Option (Nat × Req) :=
  match i with
  | .unassignedOpcode op r => some (op.toNat, r)
  | .hello r => some (0x0001, r)
  | .sysIdentify r => some (0x0100, r)
  | .sysReset r => some (0x0101, r)
  | .sysTime r => some (0x0102, r)
  | .cfgOpen r => some (0x0103, r)
  | .cfgLoad r => some (0x0104, r)
  | .cfgCommit r => some (0x0105, r)
  | .cfgAbort r => some (0x0106, r)
  | .cfgRead r => some (0x0107, r)
  | .cfgInfo r => some (0x0108, r)
  | .sysGetStats r => some (0x0109, r)
  | .statsClear r => some (0x010A, r)
  | .mtSetCfg r => some (0x0200, r)
  | .mtGetStatus r => some (0x0201, r)
  | .mtTimed r => some (0x0202, r)
  | .mtCancel r => some (0x0203, r)
  | .ptRead r => some (0x0300, r)
  | .ptWrite r => some (0x0301, r)
  | .paWrite r => some (0x0302, r)
  | .paRead r => some (0x0303, r)
  | .paShadows r => some (0x0304, r)
  | .flSetEth r => some (0x0400, r)
  | .flSetTrunk r => some (0x0401, r)
  | .flGetStatus r => some (0x0402, r)
  | .flEthTx r => some (0x0403, r)
  | .flMdio r => some (0x0404, r)
  | .flTrunkTx r => some (0x0405, r)
  | .paSetCfg r => some (0x0500, r)
  | .paSetClass r => some (0x0501, r)
  | .paSetDev r => some (0x0502, r)
  | .paGetDev r => some (0x0503, r)
  | .paRebind r => some (0x0504, r)
  | .paReadNow r => some (0x0505, r)
  | .lpSetLoop r => some (0x0600, r)
  | .lpGetLoop r => some (0x0601, r)
  | .lpEnable r => some (0x0602, r)
  | .lpSetReg r => some (0x0603, r)
  | .lpLane r => some (0x0604, r)
  | .lpGetStats r => some (0x0605, r)
  | .lsSetArea r => some (0x0700, r)
  | .lsSetTrig r => some (0x0701, r)
  | .lsSetResp r => some (0x0702, r)
  | .lsSetVal r => some (0x0703, r)
  | .lsSetIn r => some (0x0704, r)
  | .lsMode r => some (0x0705, r)
  | .cbSetBank r => some (0x0800, r)
  | .cbGetDiag r => some (0x0801, r)
  | .cbRunDiag r => some (0x0802, r)
  | .cbClear r => some (0x0803, r)
  | .csLoad r => some (0x0900, r)
  | .csSetEntry r => some (0x0901, r)
  | .csSetChan r => some (0x0902, r)
  | .csEvent r => some (0x0903, r)
  | .csStop r => some (0x0904, r)
  | .csGetChan r => some (0x0905, r)
  | .adSetConv r => some (0x0A00, r)
  | .adSetGroup r => some (0x0A01, r)
  | .adRead r => some (0x0A02, r)
  | .adInject r => some (0x0A03, r)
  | .adJig r => some (0x0A04, r)
  | .adGetStats r => some (0x0A05, r)
  | .fnSetChan r => some (0x0B00, r)
  | .fnGetStatus r => some (0x0B01, r)
  | .fnClear r => some (0x0B02, r)
  | .kySetCfg r => some (0x0C00, r)
  | .kySetKeys r => some (0x0C01, r)
  | .kyGetState r => some (0x0C02, r)
  | .pnSetCfg r => some (0x0D00, r)
  | .pnLoadTable r => some (0x0D01, r)
  | .pnOpen r => some (0x0D02, r)
  | .pnLines r => some (0x0D03, r)
  | .pnStart r => some (0x0D04, r)
  | .pnDiscard r => some (0x0D05, r)
  | .pnGetStatus r => some (0x0D06, r)
  | .prSetCfg r => some (0x0E00, r)
  | .prBond r => some (0x0E01, r)
  | .prRole r => some (0x0E02, r)
  | .prGetStatus r => some (0x0E03, r)
  | .nvGetStatus r => some (0x0F00, r)
  | .nvSnapshot r => some (0x0F01, r)
  | .nvFwWrite r => some (0x0F02, r)
  | .nvFwActivate r => some (0x0F03, r)
  | .nvFwConfirm r => some (0x0F04, r)
  | .thSetCfg r => some (0x1000, r)
  | .thGetStatus r => some (0x1001, r)
  | .snSetCfg r => some (0x1100, r)
  | .snPower r => some (0x1101, r)
  | .snStatus r => some (0x1102, r)
  | .snGetLog r => some (0x1103, r)
  | .snOut r => some (0x1104, r)
  | .evqSetCfg r => some (0x1200, r)
  | .evqGetStats r => some (0x1201, r)
  | _ => none

end Sys2Proof
end

