-- ==== Sys2Proof/WellFormed.lean ====
section
/-!
DEFINITION. `Instr.wf`: the shapes of lists and the ranges of numbers that a command brings. The machine's step is total on ill-formed
commands too; a well-formed one is one that the pins of the device can bring about.
-/

namespace Sys2Proof

/-- A BACnet device instance (05_point_acquisition.md R119). -/
def instanceOk (n : Nat) : Bool := decide (n < 2 ^ 22)

/-- A network address of DLEN bytes; the longest that R119 stores has 6. -/
def DevAddr.wf (a : DevAddr) : Bool := decide (a.dlen ≤ 6) && decide (a.dadr < 256 ^ a.dlen)

/-- An angle within its range, a measurement within full scale (R35). -/
def MainsMeas.wf (m : MainsMeas) : Bool := decide (m.amp1 ≤ 256) && decide (m.amp2 ≤ 256) && decide (m.amp3 ≤ 256)

/-- A key scan has 16 null codes and 8 row steps of 16 codes, each with its row's deviation (R275). -/
def KeyScan.wf (k : KeyScan) : Bool :=
  k.nul.length == 16 && k.rows.length == 8 && k.rows.all (fun r => r.length == 16) && k.dev.length == 8

/-- A request fits the payload area of a slot (R442). -/
def Req.wf (r : Req) : Bool := decide (r.payload.length ≤ 1008)

/-- A mirror record carries as many values as its region has elements (R330). -/
def MirrorRec.wf : MirrorRec → Bool
  | .m5Start _ _ _ w h _ _ _ target => target.length == w * h
  | .m5Done _ _ _ w h target current acc => target.length == w * h && current.length == w * h && acc.length == w * h
  | .m2Sup l => l.length == 8
  | _ => true

/-- The shape of a command's operands. Commands that have only fixed-width operands have nothing to check. -/
def Instr.wf (i : Instr) : Bool :=
  match i with
  | .crossing _ _ amp _ m => decide (amp ≤ 256) && m.wf
  | .cycleBoundary m => m.wf
  | .keyScan k => k.wf
  | .iAm _ a n _ _ => a.wf && instanceOk n
  | .covNotification _ a _ _ _ _ => a.wf
  | .diagStepA _ _ ld => ld.length == 4
  | .mirror _ _ _ _ r _ => r.wf
  | .bond key => key.length == 65
  | .sensorWindow r counts => r.length == 3 && counts.length == 3
  | .sentinelTick sup wake _ => sup.length == 4 && wake.length == 4
  | .ethFrameRx _ f => decide (f.length ≤ 1522)
  | .trunkFrameRx _ f => decide (f.data.length ≤ 1497)
  | .rtuFrameRx _ a _ => decide (a.length ≤ 256)
  | .mailboxSlotWrite _ off d => decide (off.val + d.length ≤ 1024)
  | .bulkWindowWrite off d => decide (off.val + d.length ≤ 65536)
  | .unassignedOpcode _ r | .hello r | .sysIdentify r | .sysReset r | .sysTime r | .cfgOpen r | .cfgLoad r | .cfgCommit r
  | .cfgAbort r | .cfgRead r | .cfgInfo r | .sysGetStats r | .statsClear r | .mtSetCfg r | .mtGetStatus r | .mtTimed r
  | .mtCancel r | .ptRead r | .ptWrite r | .paWrite r | .paRead r | .paShadows r | .flSetEth r | .flSetTrunk r
  | .flGetStatus r | .flEthTx r | .flMdio r | .flTrunkTx r | .paSetCfg r | .paSetClass r | .paSetDev r | .paGetDev r
  | .paRebind r | .paReadNow r | .lpSetLoop r | .lpGetLoop r | .lpEnable r | .lpSetReg r | .lpLane r | .lpGetStats r
  | .lsSetArea r | .lsSetTrig r | .lsSetResp r | .lsSetVal r | .lsSetIn r | .lsMode r | .cbSetBank r | .cbGetDiag r
  | .cbRunDiag r | .cbClear r | .csLoad r | .csSetEntry r | .csSetChan r | .csEvent r | .csStop r | .csGetChan r
  | .adSetConv r | .adSetGroup r | .adRead r | .adInject r | .adJig r | .adGetStats r | .fnSetChan r | .fnGetStatus r
  | .fnClear r | .kySetCfg r | .kySetKeys r | .kyGetState r | .pnSetCfg r | .pnLoadTable r | .pnOpen r | .pnLines r
  | .pnStart r | .pnDiscard r | .pnGetStatus r | .prSetCfg r | .prBond r | .prRole r | .prGetStatus r | .nvGetStatus r
  | .nvSnapshot r | .nvFwWrite r | .nvFwActivate r | .nvFwConfirm r | .thSetCfg r | .thGetStatus r | .snSetCfg r
  | .snPower r | .snStatus r | .snGetLog r | .snOut r | .evqSetCfg r | .evqGetStats r => r.wf
  | _ => true

end Sys2Proof
end

