-- ==== Sys2Proof/Decode.lean ====
section
/-!
DEFINITION. The command table spells no command as a word: no row of spec/opcode_table.json carries bits.
-/

namespace Sys2Proof

/-- The command that a word spells by the table's bits: none, as the table gives bits to no row. -/
def decodeTableWord (_nbits _w : Nat) : Option Instr := none

end Sys2Proof
end

