-- ==== Sys2Proof/Config.lean ====
section
/-!
DEFINITION. What the manual leaves to the part or leaves open: constants WITHOUT a body. Nothing in Lean can evaluate one,
so a statement holds whatever its value is. Each names its log entry.
-/

namespace Sys2Proof

/-- The sign and payload of a NaN that an operation produces (R149 says only that it is a NaN); notes/assumptions/11.md. -/
opaque Config.freeNaN : Nat → Nat → Nat → Nat

/-- A PHY drives ETH_MDIO in the turnaround of a read (R90, R113): PHY address, register, count of free values;
notes/assumptions/20.md. -/
opaque Config.mdioAnswers : Nat → Nat → Nat → Bool

/-- What a PHY's register reads as (R90): PHY address, register, count of free values; notes/assumptions/20.md. -/
opaque Config.mdioData : Nat → Nat → Nat → BitVec 16

/-- The frequency in mHz that the tracker uses after a valid crossing in LOCK (R38 says only that it corrects phase and
frequency within R37): the frequency before, the interval, count of free values; notes/assumptions/26.md. -/
opaque Config.lockFreq : Nat → Nat → Nat → Nat

/-- The phase correction in AU that the tracker makes after a valid crossing in LOCK, before the limit of R37: MT's angle at the
crossing, count of free values; notes/assumptions/26.md. -/
opaque Config.lockPhase : Nat → Nat → Int

/-- The device's own identity fingerprint (R321), fixed in the factory; notes/assumptions/28.md. -/
opaque Config.ownFingerprint : BitVec 64

/-- The random nonce of a HELLO exchange (R317), by count; notes/assumptions/28.md. -/
opaque Config.pairNonce : Nat → BitVec 128

/-- An image header's signature verifies under the vendor's public key (R369): header bytes 0 to 63 and SIG as numbers;
notes/assumptions/8.md. -/
opaque Config.vendorSigned : Nat → Nat → Bool

/-- REV of HIF_ID: the silicon revision of the part (R413, R469); notes/assumptions/30.md. -/
opaque Config.siliconRev : BitVec 4

/-- What a log entry of the sentinel's sources 8 to 10 holds as old state, new state and y (R400 names these fields for channels):
source, field 0 to 2, count of free values; notes/assumptions/32.md. -/
opaque Config.senLog : Nat → Nat → Nat → Nat

/-- TARGET of a journal record in the packed region (R360): kind and index of the record, its SEQ or a count of free values;
notes/assumptions/29.md. -/
opaque Config.journalTarget : Nat → Nat → Nat → BitVec 32

/-- A payload word of a journal record whose contents the spec names and lays out nowhere (the keys of KEYS, the CRC of SNAP_DONE):
TYPE, word, SEQ; notes/assumptions/29.md. -/
opaque Config.journalWord : Nat → Nat → Nat → BitVec 64

/-- What REWIND_LOST names where no mark has ever been set (R430 gives the bench and SEQ of the marked packet): field 0 the bench,
field 1 the SEQ, count of free values; notes/assumptions/34.md. -/
opaque Config.noMark : Nat → Nat → Nat

/-- The voltage of a reference other than INT in µV (R242 gives VREF_EXT a range, and SUP is VDDA): 1 EXT, 2 SUP;
notes/assumptions/61.md. -/
opaque Config.vref : Nat → Nat

/-- VALUE of a point record whose damaged word has been rewritten (R32, R86 leave it open until the next landing): point, count of
free values; notes/assumptions/35.md. -/
opaque Config.damagedValue : Nat → Nat → BitVec 32

end Sys2Proof
end

