-- ==== Sys2Proof/Machine/Flags.lean ====
section
/-!
DEFINITION. The check codes of the block: CRC-32 of IEEE 802.3 (mailbox payloads R442, panel tiles R304), the host port's
CRC-16/CCITT-FALSE (R409) and the CRC-16 of Modbus RTU (R104); and the comparisons of cycle counts (R6).
-/

namespace Sys2Proof.Machine

open Sys2Proof

/-- Eight steps of a reflected CRC register. -/
def crcReflect (poly : Nat) : Nat → Nat → Nat
  | 0, r => r
  | n + 1, r => crcReflect poly n (if r % 2 = 1 then (r / 2) ^^^ poly else r / 2)

/-- CRC-32 with the IEEE 802.3 polynomial, reflected, initial value and final XOR all ones; 0 for no bytes (R442). -/
def crc32 (p : List Byte) : Nat :=
  (List.foldl (fun r b => crcReflect 0xEDB88320 8 (r ^^^ b.toNat)) 0xFFFFFFFF p) ^^^ 0xFFFFFFFF

/-- Eight steps of a CRC-16 register that shifts left. -/
def crcShift (poly : Nat) : Nat → Nat → Nat
  | 0, r => r
  | n + 1, r => crcShift poly n (if r ≥ 0x8000 then ((2 * r) % 0x10000) ^^^ poly else 2 * r)

/-- CRC-16/CCITT-FALSE (R409). -/
def crc16 (p : List Byte) : Nat :=
  List.foldl (fun r b => crcShift 0x1021 8 (r ^^^ (b.toNat * 256))) 0xFFFF p

/-- The CRC-16 of Modbus RTU: polynomial 0x8005 reflected, initial value all ones (R104). -/
def crcModbus (p : List Byte) : Nat :=
  List.foldl (fun r b => crcReflect 0xA001 8 (r ^^^ b.toNat)) 0xFFFF p

/-- The signed difference a − b of two cycle counts (R6). -/
def cycDiff (a b : U32) : Int := signed 32 ((a - b).toNat)

/-- Cycle count a is later than b (R6). -/
def cycLater (a b : U32) : Bool := cycDiff a b > 0

end Sys2Proof.Machine
end

