-- ==== Sys2Proof/Machine/Float.lean ====
section
/-!
DEFINITION. IEEE 754 single precision over bit patterns, rounded to nearest even (06_loop_engine.md R149, 03_point_store.md
R65 and R71). A finite single is an exact dyadic number ± m × 2^e; each operation computes the exact result and rounds once.
Which NaN an operation writes the spec does not say: it is a free value (notes/assumptions/11.md).
-/

namespace Sys2Proof

/-- The classes of a single. -/
inductive Fl where
  | nan
  | inf (neg : Bool)
  | fin (neg : Bool) (m : Nat) (e : Int)
  deriving DecidableEq, Repr

/-- The sign, significand and exponent of a bit pattern. -/
def Fl.ofBits (x : Real32) : Fl :=
  let n : Nat := x.toNat
  let s := n.testBit 31
  let ex : Nat := (n / 2 ^ 23) % 256
  let fr : Nat := n % 2 ^ 23
  if ex = 255 then (if fr = 0 then .inf s else .nan)
  else if ex = 0 then .fin s fr (-149)
  else .fin s (fr + 2 ^ 23) ((ex : Int) - 150)

/-- The bit pattern of a signed infinity. -/
def realInf (neg : Bool) : Real32 := if neg then 0xFF800000 else 0x7F800000
/-- The bit pattern of a signed zero. -/
def realZero (neg : Bool) : Real32 := if neg then 0x80000000 else 0

/-- A NaN whose sign and payload are free: any pattern with all exponent bits set and a fraction that is not 0. -/
def realNaN (op a b : Nat) : Real32 :=
  let f := Config.freeNaN op a b
  BitVec.ofNat 32 ((f % 2) * 2 ^ 31 + 255 * 2 ^ 23 + ((f / 2) % (2 ^ 23 - 1) + 1))

/-- Round ± m × 2^e to the nearest single, ties to even; above the largest single it is infinite. -/
def roundReal (neg : Bool) (m : Nat) (e : Int) : Real32 :=
  if m = 0 then realZero neg
  else
    let len : Int := (Nat.log2 m : Int) + 1
    -- the exponent of the last place kept: 24 significant bits, and no place below 2^-149
    let q : Int := max (e + len - 24) (-149)
    let r : Nat :=
      if q ≤ e then m * 2 ^ (e - q).toNat
      else
        let sh := (q - e).toNat
        let d := m / 2 ^ sh
        let rem := m % 2 ^ sh
        let half := 2 ^ (sh - 1)
        if rem > half || (rem = half && d % 2 = 1) then d + 1 else d
    -- rounding up may have carried into a 25th bit
    let (r, q) := if r = 2 ^ 24 then (2 ^ 23, q + 1) else (r, q)
    if r < 2 ^ 23 then BitVec.ofNat 32 (bit neg * 2 ^ 31 + r)
    else if q + 150 ≥ 255 then realInf neg
    else BitVec.ofNat 32 (bit neg * 2 ^ 31 + (q + 150).toNat * 2 ^ 23 + (r - 2 ^ 23))

/-- The single nearest to an integer. -/
def realOfInt (i : Int) : Real32 := roundReal (i < 0) i.natAbs 0
/-- The single nearest to a natural number. -/
def realOfNat (n : Nat) : Real32 := roundReal false n 0
/-- The single nearest to ± p / q, q not 0: the quotient to 64 bits, with one sticky bit below them. -/
def realOfRat (neg : Bool) (p q : Nat) : Real32 :=
  if p = 0 then realZero neg
  else
    let sh := Nat.log2 q + 64
    let n := p * 2 ^ sh
    roundReal neg (2 * (n / q) + (if n % q = 0 then 0 else 1)) (-(sh : Int) - 1)

/-- The significand of ± m × 2^e scaled to exponent e0 ≤ e, as a signed integer. -/
def Fl.scaled (neg : Bool) (m : Nat) (e e0 : Int) : Int :=
  let v : Int := m * (2 ^ (e - e0).toNat : Nat)
  if neg then -v else v

/-- A single is a NaN. -/
def isNaN (x : Real32) : Bool := Fl.ofBits x == .nan
/-- A single is +∞ or −∞. -/
def isInf (x : Real32) : Bool := match Fl.ofBits x with | .inf _ => true | _ => false
/-- A truth value of R146: neither +0.0, −0.0 nor NaN. -/
def isTrue (x : Real32) : Bool := !(isNaN x) && (x.toNat % 2 ^ 31 != 0)
/-- The truth value 1.0 or 0.0. -/
def ofTruth (b : Bool) : Real32 := if b then 0x3F800000 else 0

/-- x + y. -/
def fadd (x y : Real32) : Real32 :=
  match Fl.ofBits x, Fl.ofBits y with
  | .nan, _ | _, .nan => realNaN 1 x.toNat y.toNat
  | .inf a, .inf b => if a = b then realInf a else realNaN 1 x.toNat y.toNat
  | .inf a, _ => realInf a
  | _, .inf b => realInf b
  | .fin s m e, .fin t n f =>
    let e0 := min e f
    let v := Fl.scaled s m e e0 + Fl.scaled t n f e0
    if v = 0 then realZero (s && t) else roundReal (v < 0) v.natAbs e0

/-- −x (a NaN keeps being one). -/
def fneg (x : Real32) : Real32 := x ^^^ 0x80000000
/-- |x|. ABS of a NaN is a NaN. -/
def fabs (x : Real32) : Real32 := x &&& 0x7FFFFFFF
/-- x − y. -/
def fsub (x y : Real32) : Real32 := fadd x (fneg y)

/-- x × y. -/
def fmul (x y : Real32) : Real32 :=
  match Fl.ofBits x, Fl.ofBits y with
  | .nan, _ | _, .nan => realNaN 2 x.toNat y.toNat
  | .inf a, .inf b => realInf (a != b)
  | .inf a, .fin t n _ => if n = 0 then realNaN 2 x.toNat y.toNat else realInf (a != t)
  | .fin s m _, .inf b => if m = 0 then realNaN 2 x.toNat y.toNat else realInf (s != b)
  | .fin s m e, .fin t n f => roundReal (s != t) (m * n) (e + f)

/-- x / y: ±∞ for a division by zero, a NaN for 0/0 (R149). -/
def fdiv (x y : Real32) : Real32 :=
  match Fl.ofBits x, Fl.ofBits y with
  | .nan, _ | _, .nan => realNaN 3 x.toNat y.toNat
  | .inf _, .inf _ => realNaN 3 x.toNat y.toNat
  | .inf a, .fin t _ _ => realInf (a != t)
  | .fin s _ _, .inf b => realZero (s != b)
  | .fin s m e, .fin t n f =>
    if n = 0 then (if m = 0 then realNaN 3 x.toNat y.toNat else realInf (s != t))
    else if m = 0 then realZero (s != t)
    else
      let num := m * 2 ^ 64
      roundReal (s != t) (2 * (num / n) + (if num % n = 0 then 0 else 1)) (e - f - 65)

/-- The order of two singles, none when one is a NaN. +0.0 equals −0.0. -/
def fcmp (x y : Real32) : Option Ordering :=
  match Fl.ofBits x, Fl.ofBits y with
  | .nan, _ | _, .nan => none
  | .inf a, .inf b => some (if a = b then .eq else if a then .lt else .gt)
  | .inf a, _ => some (if a then .lt else .gt)
  | _, .inf b => some (if b then .gt else .lt)
  | .fin s m e, .fin t n f =>
    let e0 := min e f
    some (compare (Fl.scaled s m e e0) (Fl.scaled t n f e0))

/-- x < y, false when one is a NaN. -/
def flt (x y : Real32) : Bool := fcmp x y == some .lt
/-- x ≤ y, false when one is a NaN. -/
def fle (x y : Real32) : Bool := fcmp x y == some .lt || fcmp x y == some .eq
/-- x = y, false when one is a NaN. -/
def feq (x y : Real32) : Bool := fcmp x y == some .eq

/-- The smaller operand; a NaN when one is a NaN (R149). -/
def fmin (x y : Real32) : Real32 :=
  if isNaN x || isNaN y then realNaN 4 x.toNat y.toNat else if flt y x then y else x
/-- The larger operand; a NaN when one is a NaN (R149). -/
def fmax (x y : Real32) : Real32 :=
  if isNaN x || isNaN y then realNaN 5 x.toNat y.toNat else if flt x y then y else x

/-- A finite single rounded to an integer, halves away from zero; none for a NaN or an infinity. -/
def froundAway (x : Real32) : Option Int :=
  match Fl.ofBits x with
  | .fin s m e =>
    let v : Nat := if 0 ≤ e then m * 2 ^ e.toNat else (m * 2 + 2 ^ (-e).toNat) / (2 * 2 ^ (-e).toNat)
    some (if s then -(v : Int) else v)
  | _ => none

/-- A finite single truncated towards zero; none for a NaN or an infinity. -/
def ftrunc (x : Real32) : Option Int :=
  match Fl.ofBits x with
  | .fin s m e =>
    let v : Nat := if 0 ≤ e then m * 2 ^ e.toNat else m / 2 ^ (-e).toNat
    some (if s then -(v : Int) else v)
  | _ => none

/-- x rounded half away from zero and clamped to 0..hi (R65); ±∞ clamp to the ends, a NaN gives 0 (callers keep it out). -/
def fclampNat (x : Real32) (hi : Nat) : Nat :=
  match Fl.ofBits x with
  | .nan => 0
  | .inf s => if s then 0 else hi
  | .fin _ _ _ => match froundAway x with
    | some i => min i.toNat hi
    | none => 0

/-- The single nearest to an IEEE double (R129). -/
def realOfDouble (d : U64) : Real32 :=
  let n : Nat := d.toNat
  let s := n.testBit 63
  let ex : Nat := (n / 2 ^ 52) % 2048
  let fr : Nat := n % 2 ^ 52
  if ex = 2047 then (if fr = 0 then realInf s else realNaN 6 n 0)
  else if ex = 0 then roundReal s fr (-1074)
  else roundReal s (fr + 2 ^ 52) ((ex : Int) - 1075)

end Sys2Proof
end

