-- ==== Sys2Proof/Machine/Tab.lean ====
section
/-!
DEFINITION. `Tab α`: the sparse table in which the model keeps every indexed piece of state (points, arrays, loops, byte
memories). It is a list of (index, value) pairs in ONE canonical form: indexes strictly rising, and no entry equal to the
default value, which is what an index that is not listed reads as. The default of a record type is its value after reset,
so the table after reset is empty, and equal tables are equal lists.
-/

namespace Sys2Proof

/-- A sparse table, in the canonical form `Tab.wf`. -/
abbrev Tab (α : Type) := List (Nat × α)

/-- The entry at an index; an index that is not listed reads as the default. -/
def Tab.get {α : Type} [Inhabited α] : Tab α → Nat → α
  | [], _ => default
  | (a, v) :: r, k => if k = a then v else Tab.get r k

/-- The list with the entry at an index replaced, or put in its place in the order. -/
def Tab.put {α : Type} : Tab α → Nat → α → Tab α
  | [], k, v => [(k, v)]
  | (a, w) :: r, k, v =>
    if k < a then (k, v) :: (a, w) :: r else if k = a then (k, v) :: r else (a, w) :: Tab.put r k v

/-- The list without the entry at an index. -/
def Tab.del {α : Type} (t : Tab α) (k : Nat) : Tab α := List.filter (fun e => decide (e.1 ≠ k)) t

/-- Write one entry, keeping the canonical form: writing the default removes the entry. -/
def Tab.set {α : Type} [Inhabited α] [DecidableEq α] (t : Tab α) (k : Nat) (v : α) : Tab α :=
  if v = default then Tab.del t k else Tab.put t k v

/-- Change one entry. -/
def Tab.upd {α : Type} [Inhabited α] [DecidableEq α] (t : Tab α) (k : Nat) (f : α → α) : Tab α :=
  Tab.set t k (f (Tab.get t k))

/-- Every index listed is above `b` and they rise strictly, and no entry is the default. -/
def Tab.wfFrom {α : Type} [Inhabited α] [DecidableEq α] : Option Nat → Tab α → Bool
  | _, [] => true
  | b, (a, v) :: r => (match b with | none => true | some x => decide (x < a)) && decide (v ≠ default) && Tab.wfFrom (some a) r

/-- The canonical form. -/
def Tab.wf {α : Type} [Inhabited α] [DecidableEq α] (t : Tab α) : Bool := Tab.wfFrom none t

/-- Write consecutive entries from an index on. -/
def Tab.setMany {α : Type} [Inhabited α] [DecidableEq α] : Tab α → Nat → List α → Tab α
  | t, _, [] => t
  | t, k, v :: vs => Tab.setMany (Tab.set t k v) (k + 1) vs

/-- The entries of n consecutive indexes. -/
def Tab.getMany {α : Type} [Inhabited α] (t : Tab α) (k : Nat) : Nat → List α
  | 0 => []
  | n + 1 => Tab.get t k :: Tab.getMany t (k + 1) n

/-- Keep the entries that satisfy a test of the index and the value. -/
def Tab.keep {α : Type} (t : Tab α) (p : Nat → α → Bool) : Tab α := List.filter (fun e => p e.1 e.2) t

/-- Change every listed entry; entries that become the default leave the list. -/
def Tab.map {α : Type} [Inhabited α] [DecidableEq α] (t : Tab α) (f : Nat → α → α) : Tab α :=
  List.filter (fun e => decide (e.2 ≠ default)) (List.map (fun e => (e.1, f e.1 e.2)) t)

end Sys2Proof
end

