-- ==== Sys2Proof/Machine/State.lean ====
section
/-!
DEFINITION. The state of the BX9640, as plain data: everything the manual gives the block, and the queue of the commands
that wait. A default value is the value after reset; INVENTORY.md lists each piece with the rule that names it. Indexed
state is a `Tab`, so a table after reset is empty.
-/

namespace Sys2Proof.Machine

open Sys2Proof

/-- The reasons a step can stop with a fault. The manual gives the block no stop: there is none. -/
inductive Fault where
  deriving DecidableEq, Repr

/-- The reasons a command is refused by the model. -/
inductive Refusal where
  /-- Raised by an arm of `exec` whose row has no meaning yet. Safe: nothing is claimed of it. -/
  | notModelled (mnemonic : String)
  deriving DecidableEq, Repr

/-- A value of Mains Time (00_scope.md, "Mains Time"): the cycle count and the angle in AU. -/
structure MT where
  c : U32 := 0
  a : U16 := 0
  deriving DecidableEq, Repr, Inhabited

/-- Where the answer of a command goes: its mailbox slot, or TIMED_DONE of a timed command's handle (R56). -/
inductive Origin where
  | slot (n : Nat)
  | timed (handle : Nat)
  deriving DecidableEq, Repr

/-- A committed record's name and new image in a journal record (R360). -/
structure CfgWrite where
  kind : Nat
  idx : Nat
  image : Option Img
  deriving DecidableEq, Repr

/-! ## The device as a whole (01_architecture.md, 18_sentinel_power.md, 22_startup.md, 23_pins.md) -/

/-- The power states (R387), coded as POWER of HIF_STATUS where it shows them (R414). -/
inductive Power where
  | run | park | nap | standby | off
  deriving DecidableEq, Repr, Inhabited

/-- What belongs to the device as a whole. -/
structure Sys where
  /-- The straps sampled at the last reset (R472). -/
  straps : Straps := {}
  /-- Balls: PGOOD_CORE, PFAIL_N, and PFAIL_N low or its 10 ms not yet past (R372, R474). -/
  pgood : Bool := true
  pfailLow : Bool := false
  pfailWait : Bool := false
  power : Power := .run
  /-- Byte 21 of SYS_IDENTIFY (R471). -/
  resetCause : Nat := 0
  trimFail : Bool := false
  /-- RECOVERY mode (R476). -/
  recovery : Bool := false
  /-- READY and CFG_RESTORED of HIF_STATUS (R414). -/
  ready : Bool := false
  restored : Bool := false
  /-- Records that configuration restore could not read and that nothing has rewritten (R477). -/
  badRecords : List CfgKey := []
  /-- Role negotiation has ended (R474, step 7). -/
  negotiated : Bool := false
  /-- Outputs are enabled (R326, R473 step 8). -/
  outputs : Bool := false
  /-- The reset that waits for a RELINQUISH, and SYS_RESET for 1 ms: 0 RESTART, 1 RECOVERY (R467), 2 the supervisor reset of R32. -/
  resetDue : Option Nat := none
  /-- A NAP accepted, entered at the next cycle boundary (R388). -/
  napDue : Bool := false
  /-- The snapshot of SN_POWER STANDBY has committed: the cut follows at once (R388). -/
  cutDue : Bool := false
  /-- Single-bit counters of R31: SRAM regions 0 to 8, 9 MRAM, 10 path corrections, 11 path errors, 12 engine memories. -/
  ecc : Tab Nat := []
  memUe : Nat := 0
  /-- The next word of the patrol scrubber (R30). -/
  scrub : Nat := 0
  /-- The die bridge is lost (R18); the field-die gate hold of R495; the undervoltage lock-out of VGD (R190). -/
  bridgeLost : Bool := false
  gateHold : Bool := false
  uvlo : Bool := false
  /-- The count that free values are taken by (notes/assumptions/5.md). -/
  free : Nat := 0
  deriving DecidableEq, Repr, Inhabited

/-! ## Mains Time (02_mains_time.md) -/

/-- The tracker's states (R38), coded as MT_STATE (R35). -/
inductive Track where
  | acquire | lock | ride | synth
  deriving DecidableEq, Repr, Inhabited

/-- The tracker (R33 to R46). Periods are intervals of the 25.000 MHz crystal, 40 ns each (R36). -/
structure Tracker where
  /-- MT runs (R38, R40). -/
  started : Bool := false
  now : MT := {}
  /-- MT has started at MT(0, 0), and the boundary of that instant has still to come (R24, R38). -/
  first : Bool := false
  state : Track := .acquire
  /-- The periods of the valid crossings of the run in progress, newest first, at most 32 (R37, R38). -/
  run : List Nat := []
  /-- The periods of the last 8 valid crossings, newest first (R38). -/
  last8 : List Nat := []
  /-- Frequency in use, mHz. -/
  freq : Nat := 50000
  /-- The rate goes to nominal at the next cycle boundary (R38). -/
  toNominal : Bool := false
  /-- The AU of Mains Time for which a slew still runs: positive where MT gains, negative where it loses (R44). -/
  slew : Int := 0
  /-- The slew is a correction of LOCK and no re-lock, so MT_STATUS does not show SLEWING (R37, R44). -/
  corr : Bool := false
  /-- A pending seam: the correction c (R45). -/
  seam : Option Int := none
  /-- LOCK waits for the first valid crossing of a new reference phase (R38, R59). -/
  newRef : Bool := false
  lastValid : MT := {}
  phaseErr : Int := 0
  phaseHits : Nat := 0
  seamCount : Nat := 0
  seamC : U32 := 0
  seamA : U16 := 0
  /-- Boundaries each phase has been below, or at or above, AMIN, and the phases reported lost (R61). -/
  below : Tab Nat := []
  above : Tab Nat := []
  lost : Tab Bool := []
  /-- The phases present at the last boundary (R60). -/
  present_ : Tab Bool := []
  /-- The last measured sources of R35: VRMS L1 to L3, ANG L2, ANG L3, by item number of R70. -/
  meas : Tab Real32 := []
  /-- Items of `meas` whose present measurement is unusable (R35). -/
  measBad : Tab Bool := []
  lateCount : Nat := 0
  timedStandby : Nat := 0
  deriving DecidableEq, Repr, Inhabited

/-- The key of a calendar entry (R47). -/
inductive CalKey where
  | mt (t : MT)
  | utc (u : Nat)
  deriving DecidableEq, Repr

/-- A coil event (R222). -/
structure CoilEvent where
  ch : Nat
  entry : Nat
  /-- The requested start, and the target of a POW event (R229). -/
  start : MT
  target : MT
  /-- The requested start lies this much behind `start`, in units of 10 ns (R229). -/
  sub : Nat := 0
  /-- Lateness allowance in units of 10 µs; 0xFFFF means no limit. -/
  allow : Nat := 0xFFFF
  pow : Bool := false
  preempt : Bool := false
  report : Bool := false
  roll : Nat := 0
  /-- Its calendar handle, or 0xFFFF. -/
  handle : Nat := 0xFFFF
  /-- Issued by a binding, and while its point's ACTIVE_PRI was 1 or 2 (R235). -/
  bound : Bool := false
  urgent : Bool := false
  /-- It has waited for the bank, so it starts late (R197, R224). -/
  waited : Bool := false
  deriving DecidableEq, Repr

/-- The owner of a calendar entry and what it does at the dispatch. -/
inductive CalJob where
  /-- A coil event, dispatched into its bank's queue (R222). -/
  | coil (e : CoilEvent)
  /-- Injected sequences of the converters of a mask, bits 0 to 3; bit 4 is REPORT (R247, R259). -/
  | inject (mask : Nat)
  /-- A timed command: MAX_LATE, opcode, header byte 5 and payload (R52 to R56). -/
  | timed (maxLate : Nat) (opcode : Nat) (byte5 : Nat) (payload : List Byte)
  deriving DecidableEq, Repr

/-- A pending calendar entry (R47). -/
structure CalEntry where
  slot : Nat
  gen : Nat
  key : CalKey
  /-- The order of insertion (R48). -/
  ord : Nat
  job : CalJob
  deriving DecidableEq, Repr

/-- The event calendar (R47 to R51). -/
structure Calendar where
  entries : List CalEntry := []
  /-- The generation each slot's next use takes. -/
  gen : Tab Nat := []
  /-- The slot tried first for the next insertion. -/
  hint : Nat := 0
  ord : Nat := 0
  /-- `ord` at the last latch of UTC: entries inserted since then wait for the next cycle boundary (R54). -/
  latched : Nat := 0
  deriving DecidableEq, Repr, Inhabited

/-- The real-time clock of the always-on domain (R53, R392). -/
structure Rtc where
  /-- UTC in 1/32,768 s. -/
  utc : Nat := 0
  /-- The fraction of 1/32,768 s that has run, in units of 1 / (1,023 × freq) of it (R44). -/
  frac : Nat := 0
  valid : Bool := false
  xtalFail : Bool := false
  /-- The pair latched at the last cycle boundary (R53). -/
  corrC : U32 := 0
  corrUtc : Nat := 0
  /-- Time that has run since reset, in 1/32,768 s, for limits stated per second. -/
  up : Nat := 0
  /-- The UTC at which SN_POWER asked to be woken (R391). -/
  alarm : Option Nat := none
  deriving DecidableEq, Repr, Inhabited

/-! ## Point store (03_point_store.md) -/

/-- The run-time fields of a point record (R62). -/
structure Point where
  value : U32 := 0
  inAlarm : Bool := false
  fault : Bool := false
  overridden : Bool := false
  oos : Bool := false
  stale : Bool := false
  suspect : Bool := false
  mirrored : Bool := false
  updC : U32 := 0
  updA : U16 := 0
  covRef : U32 := 0
  /-- Consecutive landing instants of its source that were missed (R66). -/
  missed : Nat := 0
  /-- Since when the alarm condition, and the return to normal, have held at every evaluation (R83). -/
  almHold : Option MT := none
  nrmHold : Option MT := none
  /-- Cycles since the last refresh: a field point's age (R132), a kind-5 point's commit (R66). -/
  age : Nat := 0
  /-- The record is quarantined (R32, R86). -/
  quarantined : Bool := false
  deriving DecidableEq, Repr, Inhabited

/-- The run-time fields of a priority array (R73); tables are indexed by priority 1 to 16. -/
structure PArray where
  val : Tab U32 := []
  notNull : Tab Bool := []
  /-- The 24-bit tags. -/
  writer : Tab Nat := []
  chgC : U32 := 0
  active : Nat := 0
  quarantined : Bool := false
  deriving DecidableEq, Repr, Inhabited

/-- A shadow of a remote write (R78). -/
structure Shadow where
  pn : Nat := 0
  pri : Nat := 0
  writer : Nat := 0
  relinq : Bool := false
  valid : Bool := false
  value : U32 := 0
  at_ : MT := {}
  deriving DecidableEq, Repr, Inhabited

/-- The point store (R62 to R87). -/
structure Store where
  pt : Tab Point := []
  /-- Mirrored arrays are to be resolved at the next cycle boundary with duty (R76). -/
  resolveDue : Bool := false
  arr : Tab PArray := []
  shadow : Tab Shadow := []
  /-- POINT_COUNT of a zone, ZONE_COUNT of an area, POINTS of a device (R67, R68, R119), counted at commit. -/
  zoneCnt : Tab Nat := []
  areaCnt : Tab Nat := []
  writeRefused : Nat := 0
  unshadowed : Nat := 0
  /-- Unshadowed writes since the last SHADOW_FULL, and the cycle of that event (R79, R85). -/
  unshSince : Nat := 0
  shadowFull : Option U32 := none
  deriving DecidableEq, Repr, Inhabited

/-! ## Field links (04_field_links.md) -/

/-- A Modbus request (R116): function code, first address, items, and the bits or registers that it writes. -/
structure MbReq where
  fn : Nat
  addr : Nat
  count : Nat
  data : List Nat := []
  deriving DecidableEq, Repr

/-- The value of a WriteProperty, by its application datatype (R134). -/
inductive BacVal where
  | null
  | real (x : Real32)
  | bool (b : Bool)
  | enum (n : Nat)
  | unsigned (n : Nat)
  deriving DecidableEq, Repr

/-- An APDU that PNT sends (R115), by its service and parameters. -/
inductive Apdu where
  | readProperty (obj prop : Nat)
  /-- ReadPropertyMultiple of Present_Value and Status_Flags of each object. -/
  | readMultiple (objs : List Nat)
  | writeProperty (obj : Nat) (v : BacVal) (pri : Nat)
  /-- Process identifier, object, and issueConfirmedNotifications with the lifetime in s; neither in a cancellation (R130, R131). -/
  | subscribeCov (pid obj : Nat) (life : Option (Bool × Nat))
  /-- The Simple-ACK to a ConfirmedCOVNotification. -/
  | covAck
  | whoIs (lo hi : Nat)
  deriving DecidableEq, Repr

/-- How an NPDU is addressed: the MS/TP station, or IPv4 address, UDP ports and BVLC function (R95), and DNET, DADR and hop count of a
remote network (R117). -/
structure NetDest where
  station : Nat := 0
  ip : Nat := 0
  port : Nat := 0
  srcPort : Nat := 0xBAC0
  bvlc : Nat := 0x0A
  dnet : Nat := 0
  dadr : Nat := 0
  dlen : Nat := 0
  hops : Nat := 255
  deriving DecidableEq, Repr

/-- What a frame of PNT carries. -/
inductive Pdu where
  | bac (dest : NetDest) (invoke : Nat) (a : Apdu)
  | rtu (server : Nat) (q : MbReq)
  | tcp (unit trans : Nat) (q : MbReq)
  deriving DecidableEq, Repr

/-- A TCP segment: SYN with the maximum segment size it offers, data sent again, FIN (R96). -/
inductive TcpSeg where
  | syn (mss : Nat)
  | data
  | fin
  deriving DecidableEq, Repr

/-- A frame of the device's own. -/
inductive Frame where
  /-- A complete Ethernet frame without FCS from the host (R97). -/
  | host (b : List Byte)
  /-- An MS/TP frame: type, destination, data (R101). -/
  | mstp (typ dst : Nat) (data : List Byte)
  /-- A request of PNT to a device (R115), with its identifier as `Pnt.reqs` holds it. -/
  | pnt (dv id : Nat) (p : Pdu)
  /-- Another NPDU of PNT: a Who-Is (R120), a Simple-ACK (R118), a cancellation without a request (R120, R131). -/
  | npdu (p : Pdu)
  /-- An ARP request for an address, the reply to one (R92), a gratuitous ARP (R106). -/
  | arpReq (ip : Nat)
  | arpReply (mac ip : Nat)
  | arpGratuitous
  /-- A TCP segment of a connection, from local port 49,152 plus its index to port 502 (R96). -/
  | tcp (conn : Nat) (seg : TcpSeg)
  deriving DecidableEq, Repr

/-- A state of a link (R108), coded as in FL_GET_STATUS. -/
inductive LinkState where
  | off | listen | up | fault
  deriving DecidableEq, Repr, Inhabited

/-- The states of the Clause 9 master node machine (R100). -/
inductive Mstp where
  | start | idle | useToken | waitForReply | passToken | noToken | pollForMaster | answer
  deriving DecidableEq, Repr, Inhabited

/-- A write held for a link in FAULT (R109). -/
structure Held where
  pn : Nat
  pri : Nat
  null : Bool
  value : U32
  cls : Nat
  deriving DecidableEq, Repr

/-- A trunk T0 to T7 (index 0 to 7) or a port E0, E1 (8, 9). -/
structure Link where
  state : LinkState := .off
  /-- Coded as CAUSE of FL_GET_STATUS. -/
  cause : Nat := 0
  rx : Nat := 0
  tx : Nat := 0
  dropped : Nat := 0
  errs : Nat := 0
  fwd : Nat := 0
  fwdDropped : Nat := 0
  heldDropped : Nat := 0
  faults : Nat := 0
  secsFault : Nat := 0
  /-- `Rtc.up` when FAULT was entered, and since when its seconds are not yet in `secsFault`. -/
  faultAt : Nat := 0
  secsFrom : Nat := 0
  /-- Frames forwarded in the present second, and that second (R94). -/
  fwdWin : Nat := 0
  fwdSec : Nat := 0
  held : List Held := []
  /-- The three transmit queues of R97, in their order. -/
  qUrgent : List Frame := []
  qDevice : List Frame := []
  qHost : List Frame := []
  /-- Consecutive transmissions that found the host queue non-empty and were no host frame. -/
  noHost : Nat := 0
  /-- Frames on the wire whose end has not come (trunks, R107); the last frame a port sent. -/
  wire : List Frame := []
  /-- A probe has been answered since the fault's cause was last present (R108). -/
  probeOk : Bool := false
  /-- Mark the link's points STALE at the next cycle boundary (R108). -/
  staleDue : Bool := false
  /-- Consecutive frames without a good echo, consecutive RTU timeouts, frames and errors of the 1 s window (R107). -/
  echoBad : Nat := 0
  rtuBad : Nat := 0
  winRx : Nat := 0
  winErr : Nat := 0
  /-- MS/TP master node (R100): state, next and poll station, token count, frames of this hold, retries, sole master. -/
  mstp : Mstp := .start
  ns : Nat := 0
  ps : Nat := 0
  tokens : Nat := 0
  frames : Nat := 0
  retries : Nat := 0
  sole : Bool := false
  /-- RTU: the outstanding transaction (device, identifier), the silence after a broadcast or a timeout (R104, R138). -/
  rtu : Option (Nat × Nat) := none
  rtuWait : Bool := false
  /-- The device of the transaction that the silence follows, after a timeout (R138). -/
  rtuLate : Option Nat := none
  /-- Who-Is sent in the last 5 s: range and `Rtc.up` (R124); ranges that wait for the limit of 4 a second, that second and its
  count (R120). -/
  whoIs : List (Nat × Nat × Nat) := []
  whoIsQ : List (Nat × Nat) := []
  whoIsSec : Nat := 0
  whoIsWin : Nat := 0
  /-- PHY status of a port (R89). -/
  phyUp : Bool := false
  speed : Nat := 0
  full : Bool := false
  /-- ARP cache, oldest first: address and MAC; frames that wait for resolution (R92). -/
  arp : List (Nat × Nat) := []
  arpWait : List (Nat × Frame) := []
  /-- `Rtc.up` of the last ARP_CONFLICT (R114). -/
  conflictAt : Option Nat := none
  /-- The second gratuitous ARP is due (R106). -/
  garpDue : Bool := false
  deriving DecidableEq, Repr, Inhabited

/-- A Modbus TCP client connection (R96). -/
structure Conn where
  used : Bool := false
  port : Nat := 0
  dv : Nat := 0
  established : Bool := false
  /-- Retries of the segment in flight. -/
  retries : Nat := 0
  deriving DecidableEq, Repr, Inhabited

/-- The field links. -/
structure Links where
  link : Tab Link := []
  conn : Tab Conn := []
  /-- Field devices that wait for a free connection, in order (R96). -/
  connWait : List Nat := []
  /-- PHY registers as the host last wrote or read them: PHY × 32 + register (R90). -/
  mdio : Tab Nat := []
  /-- ETH_PHYRST_N is held low (R89). -/
  phyReset : Bool := true
  deriving DecidableEq, Repr, Inhabited

/-! ## Point acquisition (05_point_acquisition.md) -/

/-- What a request of PNT does (R115, R116). -/
inductive ReqKind where
  /-- Read points; a round's class, none for a read outside the rounds (R127). -/
  | read (pns : List Nat) (cls : Option Nat)
  /-- A liveness or recovery probe: Time_Of_Device_Restart, or another read (R122). -/
  | probe (restartTime : Bool)
  | write (pn pri : Nat) (null : Bool) (value : U32)
  | subscribe (pn : Nat)
  | cancel (pid : Nat) (obj : Nat)
  | readNow (pn : Nat) (org : Origin)
  deriving DecidableEq, Repr

/-- What a request carries, fixed when it is first sent (R115, R116, R134). -/
inductive ReqBody where
  | bac (a : Apdu)
  | mb (q : MbReq)
  deriving DecidableEq, Repr

/-- A request, queued or in flight (R133, R136). -/
structure PntReq where
  dv : Nat
  kind : ReqKind
  /-- Its invoke or transaction ID once it has been sent; none while it is queued. -/
  id : Option Nat := none
  tries : Nat := 0
  /-- Priority 1 or 2 write: the reserved slot and transmit queue 1 (R133). -/
  urgent : Bool := false
  body : Option ReqBody := none
  deriving DecidableEq, Repr

/-- The states of a device-table entry (R120), coded as STATE. -/
inductive DevState where
  | free | seeking | bound | silent | discovered
  deriving DecidableEq, Repr, Inhabited

/-- The run-time and learned fields of a device-table entry (R119). -/
structure Dev where
  state : DevState := .free
  rpmOff : Bool := false
  rpmLimit : Nat := 32
  station : Nat := 0
  ip : Nat := 0
  udpPort : Nat := 0
  dnet : Nat := 0
  dadr : Nat := 0
  dlen : Nat := 0
  maxApdu : Nat := 480
  seg : Nat := 3
  /-- The instance and link of a DISCOVERED entry; a configured one has them in its record. -/
  inst : Nat := 0
  link : Nat := 0
  heard : MT := {}
  restartStamp : U64 := 0
  stampKnown : Bool := false
  restarts : Nat := 0
  timeouts : Nat := 0
  late : Nat := 0
  /-- The next ID to issue, IDs in quarantine, IDs issued so far (R136, R137). -/
  nextId : Nat := 0
  quarantine : List Nat := []
  issued : Nat := 0
  /-- It has been bound since PA_SET_DEV (R125). -/
  wasBound : Bool := false
  /-- `Rtc.up` of the last DUP_INSTANCE (R121). -/
  dupAt : Option Nat := none
  covRefused : Bool := false
  /-- It answered unknown-property to Time_Of_Device_Restart (R122). -/
  noRestartTime : Bool := false
  /-- Rounds it skipped (R127). -/
  skipped : Nat := 0
  /-- Its points turn STALE at the next cycle boundary (R120). -/
  staleDue : Bool := false
  deriving DecidableEq, Repr, Inhabited

/-- The point engine. -/
structure Pnt where
  dev : Tab Dev := []
  /-- Configured points whose SRC_DV is the entry (POINTS of R119). -/
  points : Tab Nat := []
  /-- Requests in the order of R125 and R133: queued ones and those in flight. -/
  reqs : List PntReq := []
  /-- Points with an active subscription (R130). -/
  sub : Tab Bool := []
  /-- `Rtc.up` of the last POLL_OVERRUN of a class (R127). -/
  overrunAt : Tab (Option Nat) := []
  /-- Writes of priority 1 and 2 that timed out and are sent again every 10 s: null and value, by PN × 32 + priority (R135). -/
  resend : Tab (Option (Bool × U32)) := []
  /-- The cycle of a class's last round (R126). -/
  roundC : Tab (Option U32) := []
  stray : Nat := 0
  deriving DecidableEq, Repr, Inhabited

/-! ## Loop engine (06_loop_engine.md) -/

/-- The run-time part of a loop (R142, R164). -/
structure Loop where
  /-- X0 to X15, V in bits [31:0] and W in [63:32] (R144). -/
  regs : Tab U64 := []
  /-- INIT pending (R154). -/
  init : Bool := false
  numeric : Bool := false
  lastCommit : U32 := 0
  /-- The cycle in which the last committed scan was due (R153). -/
  lastDue : Option U32 := none
  lastClocks : Nat := 0
  /-- Stretches and overruns. -/
  skips : Nat := 0
  /-- HOME (R156). -/
  home : Nat := 0
  /-- Registers of class M4 have arrived and no reload has replaced them (R163). -/
  mirrored : Bool := false
  /-- The angle of the last commit. -/
  lastCommitA : U16 := 0
  /-- A new record waits for the cycle boundary (R150); it keeps the registers (R161). -/
  newDue : Bool := false
  keep : Bool := true
  /-- Registers written with LIVE during a scan, applied behind its commit (R164). -/
  liveDue : List (Nat × U64) := []
  /-- Instants skipped since the loop's last LOOP_OVERRUN (R165). -/
  skipped : Nat := 0
  /-- `Rtc.up` of the last LOOP_NUMERIC (R165). -/
  numericAt : Option Nat := none
  quarantined : Bool := false
  deriving DecidableEq, Repr, Inhabited

/-- A queued scan (R151). -/
structure Scan where
  ln : Nat
  due : MT
  deriving DecidableEq, Repr

/-- A write recorded by STP or RELP (R152). -/
structure LoopWrite where
  pn : Nat
  pri : Nat
  null : Bool
  value : Real32
  deriving DecidableEq, Repr

/-- The scan that a lane runs (R152). -/
structure ScanRun where
  ln : Nat
  due : MT
  /-- The loop's record as it stood when the scan started: descriptor and program (R150). -/
  image : Img
  pc : Nat := 0
  regs : Tab U64 := []
  q : Bool := false
  init : Bool := false
  dt : Nat := 1
  clocks : Nat := 40
  writes : List LoopWrite := []
  /-- A NaN or infinity has been produced in this scan, and the word that produced the first one (R149). -/
  numeric : Bool := false
  numWord : Nat := 0
  /-- INIT has been set while the scan runs: its commit leaves it pending (R154). -/
  reinit : Bool := false
  deriving DecidableEq, Repr

/-- The states of a lane (R160), coded as STATE of LP_LANE. -/
inductive LaneState where
  | inService | faulted | out | testing
  deriving DecidableEq, Repr, Inhabited

/-- A lane LANE0 to LANE3. -/
structure Lane where
  state : LaneState := .inService
  cause : Nat := 0
  faults : Nat := 0
  queue : List Scan := []
  run : Option ScanRun := none
  commits : Nat := 0
  /-- Clocks of committed scans since the last cycle boundary, and of the last 64 cycles, newest first (R164). -/
  busy : Nat := 0
  busy64 : List Nat := []
  /-- It takes scans only after the rebalance (R160). -/
  waitRebalance : Bool := false
  deriving DecidableEq, Repr, Inhabited

/-- The loop engine. -/
structure Loops where
  loop : Tab Loop := []
  lane : Tab Lane := []
  /-- All loops are assigned anew at the next cycle boundary (R156); lanes whose loops are re-homed then (R159, R160). -/
  rehome : Bool := false
  outDue : List Nat := []
  /-- Loops to relinquish at the next cycle boundary (R161). -/
  relinquish : List Nat := []
  /-- LOOPS_HALTED stands (R160). -/
  halted : Bool := false
  stretches : Nat := 0
  overruns : Nat := 0
  numerics : Nat := 0
  suppressed : Nat := 0
  repeated : Nat := 0
  /-- Loops stretched since the last LOOP_STRETCH and when it was raised; the cycle of the last LOOP_OVERRUN (R165). -/
  stretched : List Nat := []
  stretchAt : Option Nat := none
  overrunC : Option U32 := none
  deriving DecidableEq, Repr, Inhabited

/-! ## Smoke-control areas and supervised inputs (07_life_safety.md) -/

/-- The run-time part of an area (R172). -/
structure Area where
  mode : Nat := 0
  auto : Nat := 0
  /-- The latching mode held, 0 for none. -/
  latch : Nat := 0
  ffpSel : Nat := 0
  ffpSrc : Nat := 0
  testOf : Nat := 0
  modeC : U32 := 0
  modeA : U16 := 0
  actTrig : Nat := 0
  actSrc : Nat := 0
  /-- ALERT's hold runs after the last active ALERT trigger (R171). -/
  alertHold : Bool := false
  /-- A test runs (R177). -/
  testing : Bool := false
  quarantined : Bool := false
  deriving DecidableEq, Repr, Inhabited

/-- A supervised input (R166 to R170). -/
structure Sup where
  /-- 0 OPEN, 1 NORMAL, 2 ACTIVE, 3 SHORT. -/
  cls : Nat := 0
  reading : Nat := 0
  /-- A reading has landed since reset. -/
  landed : Bool := false
  bad : Nat := 0
  good : Nat := 0
  trouble : Bool := false
  /-- SUP_ACTIVE has been raised and no NORMAL landing has followed. -/
  active : Bool := false
  /-- The state handed over by the sentinel, landed until ADC0 reads (R401). -/
  handed : Option Nat := none
  deriving DecidableEq, Repr, Inhabited

/-- A trigger (R173, R174). -/
structure Trig where
  state : Bool := false
  count : Nat := 0
  acts : Bool := false
  /-- TRIG_HELD has been raised for the present episode. -/
  held : Bool := false
  deriving DecidableEq, Repr, Inhabited

/-- The life-safety part. -/
structure LifeSafety where
  area : Tab Area := []
  sup : Tab Sup := []
  trig : Tab Trig := []
  /-- Samples of the supervised inputs, at most 2,048 AU old: the MT of the sample instant and the code (R168). -/
  samples : Tab (List (MT × Nat)) := []
  /-- SUP_BIAS is driven, and readings still to be ignored since then (R170). -/
  bias : Bool := false
  ignore : Nat := 0
  /-- A bias-fault episode runs (R168). -/
  biasFault : Bool := false
  /-- A re-assertion is due at the next cycle boundary (R182). -/
  reassert : Bool := false
  /-- Firefighter commands of keys that have landed and wait for the areas' step of R176: key, area, command (R175). -/
  ffp : List (Nat × Nat × Nat) := []
  deriving DecidableEq, Repr, Inhabited

/-! ## Coil banks and coil sequencer (08_coil_banks.md, 09_coil_sequencer.md) -/

/-- What a channel context waits for (R215). -/
inductive CtxWait where
  | ready
  | wt
  /-- For current ≥ IH (false) or ≤ IL (true). -/
  | wi (low : Bool)
  /-- A chop, in an on-time or an off-time; without limit or counted (R217). -/
  | chop (on : Bool) (unlimited : Bool)
  /-- A later BOOST phase waits for the bank (R197). -/
  | boost
  /-- END has executed; the current has not been below I_ZERO for 10 µs (R198). -/
  | ending
  deriving DecidableEq, Repr, Inhabited

/-- A running event's channel context (R215 to R219). -/
structure Ctx where
  ev : CoilEvent
  pc : Nat := 0
  loopCnt : Nat := 0
  /-- The flags of R218. -/
  to_ : Bool := false
  dip : Bool := false
  stolen : Bool := false
  late : Bool := false
  pre : Bool := false
  wait : CtxWait := .ready
  /-- The phase in force: source demand, decay, IH, IL (R216). -/
  src : Nat := 0
  decay : Nat := 0
  ih : Nat := 0
  il : Nat := 0
  lsw : Bool := false
  /-- The boost demand of the phase is withdrawn (R219). -/
  noBoost : Bool := false
  /-- The event's cumulative boost time has reached BOOST_MAX (R199). -/
  spent : Bool := false
  /-- Another channel's boost steals the supply of this one; its low side is in an off-time of that steal (R196). -/
  steal : Bool := false
  stealOff : Bool := false
  /-- A pre-empted event left the gates in an off-time, until the first instruction (R217). -/
  heldOff : Bool := false
  /-- The diagnostic window is open; current above I_ZERO was seen; IH was crossed (R204). -/
  dwin : Bool := false
  seen : Bool := false
  crossed : Bool := false
  /-- An on-state finding was made in this event (R205). -/
  finding : Bool := false
  /-- The dip detector is armed; a dip has been counted (R231). -/
  armed : Bool := false
  measured : Bool := false
  /-- The detector has been armed in this event; its miss has been counted (R231). -/
  tried : Bool := false
  missed : Bool := false
  /-- The detector's peak, its minimum once a dip has begun, and whether the minimum is confirmed, in steps of RANGE (R231). -/
  peak : Nat := 0
  low : Option Nat := none
  confirmed : Bool := false
  lateness : Nat := 0
  unsync : Bool := false
  /-- How the event ends: the code of COIL_DONE (R235). -/
  ends : Nat := 0
  /-- SLOW decay runs (R193); the present decay goes on as FAST: promoted, or after 50 ms (R193, R194). -/
  slow : Bool := false
  fast : Bool := false
  /-- When the phase in force and the present wait began, in units of 10 ns of time since reset (R197, R219). -/
  phaseAt : Nat := 0
  /-- The word of the phase's SRC (R330). -/
  word : Nat := 0
  waitAt : Nat := 0
  deriving DecidableEq, Repr

/-- A coil channel 0 to 23. -/
structure Coil where
  /-- The diagnostic code (R206), the last on-state code and off-state outcome, and the windows (R212). -/
  code : Nat := 0
  lastOn : Nat := 0
  lastOff : Nat := 0
  windows : Nat := 0
  /-- Consecutive events that ended in OVERCURRENT (R207). -/
  trips : Nat := 0
  latched : Bool := false
  /-- The RANGE kept until the running event ends (R211). -/
  oldRange : Option Nat := none
  kerfViol : Nat := 0
  seqDone : Nat := 0
  /-- The code is an on-state one that a completed sequence kept (R205). -/
  kept : Bool := false
  /-- Q_LSn is on; it is off with its gate in clamp (R193); the last report against I_ZERO is above it (R204). -/
  ls : Bool := false
  clamp : Bool := false
  flow : Bool := false
  /-- When the kerf of the last event began, in units of 10 ns of time since reset (R198). -/
  kerf : Option Nat := none
  ctx : Option Ctx := none
  /-- Scribe (R231 to R233). -/
  scribe : Nat := 0
  scrCount : Nat := 0
  misses : Nat := 0
  drifted : Bool := false
  /-- Counters of CS_GET_CHAN. -/
  started : Nat := 0
  lates : Nat := 0
  dropped : Nat := 0
  preempts : Nat := 0
  rolled : Nat := 0
  lastLate : Nat := 0
  lastMeas : Nat := 0
  /-- The value last taken from the bound point; a priority-1 or -2 write has changed the point since (R181, R226). -/
  taken : Bool := false
  early : Bool := false
  deriving DecidableEq, Repr, Inhabited

/-- The progress of an off-state sequence (R200 to R202). -/
structure DiagRun where
  /-- Channels still to be tested in step B, in order; none before step A has ended. -/
  stepB : Option (List Nat) := none
  /-- The outcomes so far. -/
  found : List (Nat × Nat) := []
  deriving DecidableEq, Repr, Inhabited

/-- A coil bank B0 to B5. -/
structure Bank where
  /-- The high side: 0 OFF, 1 SUPPLY, 2 BOOST (R195). -/
  hs : Nat := 0
  latched : Bool := false
  hsTrips : Nat := 0
  /-- `Rtc.up` of the recent HS_SHORT trips (R207). -/
  tripAt : List Nat := []
  steals : Nat := 0
  delayed : Nat := 0
  promoted : Nat := 0
  /-- The event queue of the bank, in order of arrival (R222). -/
  queue : List CoilEvent := []
  diag : Option DiagRun := none
  /-- Cycles since the last completed sequence; the sequence is due; cycles since then; DIAG_STARVED raised (R200, R203). -/
  diagCycles : Nat := 0
  diagDue : Bool := false
  dueCycles : Nat := 0
  starved : Bool := false
  /-- `Rtc.up` from which CB_RUN_DIAG waits for an idle bank, until its sequence has completed (R203, R212). -/
  diagAsk : Option Nat := none
  /-- `Rtc.up` of the commit of new records that wait to take effect (R211). -/
  pendAt : Option Nat := none
  /-- The context, by its k, that issued last (R215). -/
  issued : Nat := 3
  deriving DecidableEq, Repr, Inhabited

/-- The coil banks. -/
structure Coils where
  ch : Tab Coil := []
  bank : Tab Bank := []
  /-- Entries quarantined by a damaged code word (R214). -/
  badEntry : Tab Bool := []
  /-- Consecutive boundaries with the rails out of order, and `Rtc.up` of the last RAIL_ORDER (R189, R213). -/
  rails : Nat := 0
  railAt : Option Nat := none
  deriving DecidableEq, Repr, Inhabited

/-! ## Analogue conversion (10_analog.md) -/

/-- The states of a converter (R257), coded as STATE of AD_READ. -/
inductive ConvState where
  | off | cal | run | jig
  deriving DecidableEq, Repr, Inhabited

/-- The sources of an injected trigger (R247), in the order of TRIG_EN and of R248. -/
inductive TrigSrc where
  | calendar | mark | fan | host
  deriving DecidableEq, Repr, Inhabited

/-- An accepted injected start: LATE, and the handle to report with where REPORT was set (R247, R259). -/
structure Inject where
  late : Bool := false
  report : Option Nat := none
  deriving DecidableEq, Repr, Inhabited

/-- A result register (R253). -/
structure ConvReg where
  code : Nat := 0
  ovr : Bool := false
  suspect : Bool := false
  unsettled : Bool := false
  seam : Bool := false
  late : Bool := false
  valid : Bool := false
  n : Nat := 0
  angle : U16 := 0
  deriving DecidableEq, Repr, Inhabited

/-- The accumulator of an integrating entry (R250). -/
structure Accum where
  sum : Int := 0
  n : Nat := 0
  ovr : Bool := false
  suspect : Bool := false
  unsettled : Bool := false
  seam : Bool := false
  /-- No boundary of its period has passed since it restarted: its first latch waits for a full period (R255). -/
  partial_ : Bool := true
  /-- The register holds a latched mean to land (R251). -/
  latched : Bool := false
  deriving DecidableEq, Repr, Inhabited

/-- A jig entry's results of its latest pass, and of the pass in progress (R254). -/
structure JigRes where
  last : Nat := 0
  lo : Nat := 0
  hi : Nat := 0
  mean : Nat := 0
  ovr : Bool := false
  done : Bool := false
  cnt : Nat := 0
  sum : Int := 0
  curLo : Int := 0
  curHi : Int := 0
  curOvr : Bool := false
  deriving DecidableEq, Repr, Inhabited

/-- What a converter converts (R246, R248, R252). -/
inductive ConvBusy where
  | idle
  | regular (e : Nat)
  | injected (j : Nat)
  /-- The 0.5 µs dummy of a recovery slot after an over-range result. -/
  | recovery
  deriving DecidableEq, Repr, Inhabited

/-- A converter ADC0 to ADC3. -/
structure Conv where
  state : ConvState := .off
  refRdy : Bool := false
  busy : ConvBusy := .idle
  /-- The regular entry at which the regular sequence goes on. -/
  next : Nat := 0
  /-- The running injected sequence, the one pending, and the first sample instant of the running one. -/
  inj : Option Inject := none
  pend : Option Inject := none
  injAt : Option MT := none
  /-- The injected entry that follows a recovery slot; 0 also while a group's start waits for one (R248, R249). -/
  afterRec : Option Nat := none
  /-- The record under which the running injected sequence finishes, where a new one has taken effect (R258). -/
  oldImg : Option Img := none
  /-- The next result carries SUSPECT (R252); results carry it since a failed calibration (R256). -/
  suspectNext : Bool := false
  calFail : Bool := false
  offset : Int := 0
  gain : Int := 0
  reg : Tab ConvReg := []
  acc : Tab Accum := []
  /-- Jig: the entry in progress, its conversions done, its DELAY runs, results (R254). -/
  jigEntry : Nat := 0
  jigRep : Nat := 0
  jigDelay : Bool := false
  jigRes : Tab JigRes := []
  /-- A pending AD_JIG and the cycle of the last landing (R259). -/
  landC : U32 := 0
  /-- `Rtc.up` of the last AD_OVERRANGE of an entry, of the last AD_INJ_OVERRUN; overruns since (R260). -/
  overAt : Tab (Option Nat) := []
  overrunAt : Option Nat := none
  overrunSince : Nat := 0
  conversions : Nat := 0
  aborts : Nat := 0
  sequences : Nat := 0
  pendings : Nat := 0
  overruns : Nat := 0
  merged : Nat := 0
  excluded : Nat := 0
  ignored : Nat := 0
  ovrs : Nat := 0
  suspects : Nat := 0
  jigOvrs : Nat := 0
  deriving DecidableEq, Repr, Inhabited

/-- The converters. -/
structure Analog where
  conv : Tab Conv := []
  /-- VREF_EXT is outside its window (R242). -/
  extOut : Bool := false
  /-- Boundaries it has been outside, or inside, and AD_REF_FAULT stands (R260). -/
  extBad : Nat := 0
  extGood : Nat := 0
  extFault : Bool := false
  deriving DecidableEq, Repr, Inhabited

/-! ## Fan channels and analogue outputs (11_fans.md) -/

/-- The states of a fan channel (R268), coded as in FN_GET_STATUS. -/
inductive FanState where
  | off | kick | run | openLoop | backoff | fault | safe
  deriving DecidableEq, Repr, Inhabited

/-- A fan channel F0 to F7. -/
structure Fan where
  state : FanState := .off
  code : Nat := 0
  /-- The duty code d, and the integrator i in units of 1/65,536 duty count (R267). -/
  duty : Nat := 0
  /-- The PWM period and on-time of the next period, in clocks of 10 ns (R262). -/
  period : Nat := 0
  onTime : Nat := 0
  i : Int := 0
  /-- Speed in rpm, rounded, and as the REAL that lands (R265). -/
  speed : Nat := 0
  speedR : Real32 := 0
  target : Nat := 0
  attempts : Nat := 0
  /-- Edges since the kick began, or within TACH_TO in OPEN_LOOP. -/
  edges : Nat := 0
  /-- Intervals in µs that ended since the last update, newest first, and the last one (R265). -/
  ivals : List Nat := []
  lastIval : Option Nat := none
  /-- Consecutive updates with the current out of band (R268). -/
  oob : Nat := 0
  /-- The CODE last read from the current channel (R273). -/
  current : Nat := 0
  starts : Nat := 0
  /-- A duty mirrored in class M1 (R268). -/
  mirrored : Option Nat := none
  /-- FN_CLEAR waits for the next update (R273). -/
  clear : Bool := false
  deriving DecidableEq, Repr, Inhabited

/-- Fan channels, AOUT and GPIO outputs. -/
structure Outs where
  fan : Tab Fan := []
  /-- AOUT codes and GPIO levels as driven when outputs are enabled (R264, R70). -/
  aout : Tab Nat := []
  gpio : Tab Bool := []
  /-- On a critical trip the fan and AOUT balls hold the FANSAFE levels (R270). -/
  safeHold : Bool := false
  deriving DecidableEq, Repr, Inhabited

/-! ## Key matrix (12_keys.md) -/

/-- A key K 0 to 511. -/
structure Key where
  pressed : Bool := false
  /-- Consecutive scans in which the raw state has differed (R277). -/
  count : Nat := 0
  /-- KEY_STUCK (R278). -/
  stuck : Bool := false
  toggle : Bool := false
  /-- The record is damaged: it lands and takes no action (R283). -/
  quarantined : Bool := false
  deriving DecidableEq, Repr, Inhabited

/-- The confirmation of one fault condition (R278): consecutive scans with it, without it, and whether it stands. -/
structure KeyFault where
  bad : Nat := 0
  good : Nat := 0
  stands : Bool := false
  deriving DecidableEq, Repr, Inhabited

/-- The key matrix. -/
structure Keys where
  key : Tab Key := []
  /-- Intersections 16 × row + column (CODE_OFF_GRID), columns (COLUMN_LEAK), rows (ROW_FAULT). -/
  grid : Tab KeyFault := []
  col : Tab KeyFault := []
  row : Tab KeyFault := []
  /-- The last null reading of each column. -/
  nul : Tab Nat := []
  scans : Nat := 0
  offGrid : Nat := 0
  /-- The first scan after becoming ACTIVE is discarded (R282). -/
  discard : Bool := false
  /-- Keys whose debounced state has changed and has not landed (R277). -/
  changed : List Nat := []
  /-- Events of confirmed and cleared faults, raised at the landing (R285): type, then fields. -/
  pendEv : List (Nat × Nat × Nat × Nat) := []
  deriving DecidableEq, Repr, Inhabited

/-! ## Panel (13_panel.md) -/

/-- The schedule of an element in transit (R300). -/
structure Sched where
  region : Nat
  /-- The destination state. -/
  dst : Nat
  /-- The drive codes, from its first frame on, and how many frames have been driven. -/
  codes : List Nat
  pos : Nat := 0
  /-- The deferred schedule that follows it: region, final state and codes (R300). -/
  next : Option (Nat × Nat × List Nat) := none
  deriving DecidableEq, Repr

/-- The states of a panel region (R298), coded as in PN_GET_STATUS. -/
inductive RegState where
  | free | loading | armed | running
  deriving DecidableEq, Repr, Inhabited

/-- A panel region. -/
structure Region where
  state : RegState := .free
  /-- 0 host, 1 recovery, 2 repair. -/
  kind : Nat := 0
  x : Nat := 0
  y : Nat := 0
  w : Nat := 0
  h : Nat := 0
  /-- FORMAT STATE4, BALANCE (R308). -/
  state4 : Bool := false
  balance : Bool := false
  band : Nat := 0
  frame : Nat := 0
  length : Nat := 0
  deferred : Nat := 0
  start : MT := {}
  deriving DecidableEq, Repr, Inhabited

/-- The record of an interrupted region: what retention SRAM, the journal or class M5 keeps of it (R305, R306, R365). -/
structure PanelRec where
  x : Nat := 0
  y : Nat := 0
  w : Nat := 0
  h : Nat := 0
  band : Nat := 0
  start : MT := {}
  frame : Nat := 0
  line : Nat := 0
  deriving DecidableEq, Repr, Inhabited

/-- An element unknown since an interruption (R305): its accumulator as the exact rebuild gives it, and the midpoint and the bound
that the journal alone gives (R306). -/
structure Unknown where
  elem : Nat
  exact : Int
  mid : Int
  bound : Nat
  deriving DecidableEq, Repr

/-- The panel driver PNL. -/
structure Panel where
  /-- The planes of R292, by element y × W + x. -/
  target : Tab Nat := []
  current : Tab Nat := []
  acc : Tab Int := []
  /-- The pending store: the destination of an element in transit whose target differs from it. -/
  pend : Tab (Option Nat) := []
  sched : Tab (Option Sched) := []
  region : Tab Region := []
  /-- Staged parts of the waveform table (R295). -/
  stBody : Option Img := none
  stBand : Option Img := none
  stGamma : Option Img := none
  /-- Band in force, none before TEMP_PN is first valid (R296); PN_TEMP raised for the episode; last temperature. -/
  band : Option Nat := none
  tempBad : Bool := false
  temp : Int := 0
  /-- When PNL_VCOM_EN rose, and when it fell in a power-down that is still to drop PNL_PWR_EN, in units of 10 ns of time since
  reset (R289). -/
  vcomAt : Nat := 0
  downAt : Option Nat := none
  /-- Balls (R289, R290). -/
  pwrEn : Bool := false
  pwrGood : Bool := false
  vcom : Bool := false
  /-- A frame is being driven; half-cycles since the last frame; consecutive skipped frames (R289, R291). -/
  inFrame : Bool := false
  update : Bool := false
  since : Nat := 0
  skips : Nat := 0
  skipped : Nat := 0
  /-- Recorded tile CRCs; and when each mismatch was last raised (R304). -/
  tileCrc : Tab (Option Nat) := []
  tileAt : Tab (Option Nat) := []
  mismatches : Nat := 0
  accReset : Nat := 0
  saturations : Nat := 0
  balanceAt : Option Nat := none
  /-- Elements with uncorrectable target words, accumulator words, and words of the current plane or the pending store (R304). -/
  badTarget : List Nat := []
  badAcc : List Nat := []
  badOther : List Nat := []
  /-- Regions to recover at the first boundary after outputs are enabled (R306), and the rebuild used: 0, 1, 2. -/
  recover_ : List PanelRec := []
  rebuild : Nat := 0
  unknown : List Unknown := []
  /-- Tiles to repair (R304); tiles whose planes may differ from the glass after a takeover (R343). -/
  repairs : List Nat := []
  doubt : List Nat := []
  /-- The planes of the MRAM region (R365). -/
  nvTarget : Tab Nat := []
  nvCurrent : Tab Nat := []
  nvAcc : Tab Int := []
  /-- PANEL_START records without their PANEL_DONE, by region; the regions whose completion is being written (R365). -/
  started : Tab (Option PanelRec) := []
  completing : List Nat := []
  deriving DecidableEq, Repr, Inhabited

/-! ## Pairing, link, mirroring and takeover (14_pair.md, 15_takeover.md) -/

/-- The states of the pair link (R320), coded as in PR_GET_STATUS. -/
inductive PLink where
  | down | train | hello | up
  deriving DecidableEq, Repr, Inhabited

/-- The image of a coil channel in class M1 (R330, R341): bound value, running entry and the word of its phase, scribe. -/
structure M1Coil where
  bound : Bool := false
  running : Option (Nat × Nat) := none
  scribe : Nat := 0
  deriving DecidableEq, Repr, Inhabited

/-- The mirror image that a device without duty holds (R330), and batches not yet applied (R332). -/
structure Mirror where
  coil : Tab M1Coil := []
  fan : Tab (Option Nat) := []
  aout : Tab (Option Nat) := []
  gpio : Tab (Option Bool) := []
  /-- Key-class slots of local points, PN × 32 + priority ↦ value; OUT_OF_SERVICE points with their VALUE (M6). -/
  slots : Tab (Option U32) := []
  oos : Tab (Option U32) := []
  /-- Next sequence number of each bench, last one released (M7). -/
  seqs : Tab Nat := []
  released : Nat := 0
  /-- Cycles whose BATCH_END has arrived during a resync (R334). -/
  ended : List Nat := []
  /-- Records received and not applied: live batches by cycle, the snapshot of a resync (R332, R334). -/
  batch : List (Nat × MirrorRec) := []
  snap : List MirrorRec := []
  deriving DecidableEq, Repr, Inhabited

/-- A frame that the device has sent or is to send on the pair link (R315), in order. -/
inductive PFrame where
  | hello (h : PairHello) | beat (role : Role) (eligible : Bool) (gen : U32) (angle : U16)
  | mirror (cls : Nat) (cycle : U32) (snap : Bool) (r : MirrorRec) | batchEnd (cycle : U32) (cnt : Nat)
  | resyncReq (cls : Nat) | resyncDone (cycle : U32) | relinquish (cycle : U32) (areas : List (Nat × Img)) (swap : Bool)
  | bond | bondConfirm
  deriving DecidableEq, Repr

/-- PAIR: link, roles, mirror and takeover. -/
structure Pair where
  role : Role := .negotiate
  link : PLink := .down
  level : Nat := 0
  trainFails : Nat := 0
  /-- SEQ of the next frame sent, next SEQ expected, frames sent and not acknowledged, oldest first (R316). -/
  txSeq : Nat := 0
  rxSeq : Nat := 0
  window : List PFrame := []
  sendQ : List PFrame := []
  retrans : Nat := 0
  badFrames : Nat := 0
  /-- Frames of unknown type or out of order that were discarded (R315, R316). -/
  discarded : Nat := 0
  /-- `Rtc.up` at which tag failures were counted, within the last second; of the last PAIR_AUTH (R318). -/
  authAt : List Nat := []
  authEv : Option Nat := none
  authSince : Nat := 0
  /-- The session nonce's count: each HELLO exchange draws a new one (R317). -/
  nonce : Nat := 0
  /-- What was last sent outside a session: a HELLO, and BOND or BOND_CONFIRM with it or alone (R317, R322). -/
  loose : List PFrame := []
  /-- The bond (R322): partner fingerprint; a bond pending with the fingerprint named; the partner's key accepted. -/
  bond : Option U64 := none
  bondPend : Option U64 := none
  bondKey : List Byte := []
  presented : U64 := 0
  unbonded : Option U64 := none
  clash : Bool := false
  /-- The partner as its HELLO and BEAT show it. -/
  pRole : Role := .negotiate
  pEligible : Bool := false
  pGen : U32 := 0
  pHello : Bool := false
  genMismatch : Bool := false
  /-- Balls: heartbeat and activity of the partner, our own toggles (R324, R325). -/
  hbI : Bool := false
  hbLost : Bool := false
  actI : Bool := false
  /-- PR_ACT_I has shown no edge for 200 µs (R326), for 2 ms (R325). -/
  actQuiet : Bool := true
  actLost : Bool := false
  actO : Bool := false
  hbHold : Bool := false
  txIdle : Bool := false
  /-- Isolated by PR_ROLE, by NAP; standing BRIDGE_LOST, LOOPS_HALTED are `Sys.bridgeLost`, `Loops.halted` (R328). -/
  isolated : Bool := false
  napIso : Bool := false
  eligible : Bool := false
  /-- Mirror classes stale (bit n − 1 for Mn), mirrored, a resync runs; snapshot cycle (R334). -/
  stale : Nat := 0xFF
  mirrored : Nat := 0
  resync : Bool := false
  lagAt : Option Nat := none
  notMirrored : Nat := 0
  /-- Classes asked for by the partner (R334): full M1 and M2 are sent, the snapshot follows at the boundary. -/
  snapDue : Nat := 0
  /-- RESYNC_DONE has been sent since the link rose: the partner is current (R329, R334). -/
  synced : Bool := false
  /-- The cycle count is to be adopted at the next boundary (R40); the partner's count and angle as last received. -/
  adopt : Bool := false
  pCycle : U32 := 0
  pAngle : U16 := 0
  /-- PR_HB_O (R324). -/
  hbO : Bool := false
  /-- The coil images of class M1 as last sent (R331). -/
  sentCoil : Tab M1Coil := []
  /-- Changed records of the cycle in progress, by class and index (R331). -/
  dirty : List (Nat × Nat) := []
  /-- A swap is accepted and starts at the next boundary; its RELINQUISH awaits the acknowledgement; resends of a RELINQUISH (R349). -/
  swapDue : Bool := false
  relWait : Bool := false
  relSends : Nat := 0
  takeovers : Nat := 0
  swaps : Nat := 0
  duals : Nat := 0
  takeoverC : U32 := 0
  /-- The dovetail in progress: its step (R340), cause, MT of the trigger, channels resumed. -/
  dove : Nat := 0
  doveCause : Nat := 0
  doveMT : MT := {}
  resumed : List Nat := []
  /-- Dual-active resolution runs (R351): outputs wait for the partner's silence; how the partner was seen, 0 activity, 1 BEAT. -/
  dual : Option Nat := none
  /-- DUAL_ACTIVE of the resolution in progress has been raised. -/
  dualTold : Bool := false
  /-- PAIR_ACT_LOST has been raised for the present silence (R335). -/
  actEv : Bool := false
  mirror : Mirror := {}
  deriving DecidableEq, Repr, Inhabited

/-! ## Die temperature (17_thermal.md) -/

/-- A temperature sensor (R375, R376); readings in 0.25 °C. -/
structure Sensor where
  reading : Int := 0
  /-- A reading has been taken since reset. -/
  valid : Bool := false
  highest : Int := 0
  /-- Failed, and for the cause STUCK, which leaves sensor 2 in the field die's own trip comparison (R376). -/
  failed : Bool := false
  stuck : Bool := false
  /-- Consecutive readings out of band; the last count and in how many consecutive windows it has been identical. -/
  outBand : Nat := 0
  count : Nat := 0
  same : Nat := 0
  /-- The readings of the last 64 windows, newest first. -/
  hist : List Int := []
  /-- Consecutive windows at or above TCRIT (R380). -/
  hot : Nat := 0
  deriving DecidableEq, Repr, Inhabited

/-- The record of a trip in retention SRAM (R383). -/
structure TripRec where
  cause : Nat := 0
  sensor : Nat := 0
  reading : Int := 0
  at_ : MT := {}
  deriving DecidableEq, Repr, Inhabited

/-- Thermal control. -/
structure Thermal where
  sensor : Tab Sensor := []
  armed : Bool := false
  level : Nat := 0
  /-- T of the last 64 windows, newest first, and windows since the level last fell (R377). -/
  tHist : List Int := []
  sinceFall : Nat := 0
  /-- Windows since the last TH_THROTTLE; the highest level since; a change is not yet reported (R378). -/
  sinceRep : Nat := 64
  highest : Nat := 0
  unreported : Bool := false
  throttled : Nat := 0
  changes : Nat := 0
  trips : Nat := 0
  restarts : Nat := 0
  tripC : U32 := 0
  /-- The trip latch and thermal hold; SYS_SHUTDOWN_N is asserted while the trip latch is set (R381, R383). -/
  hold : Bool := false
  /-- THR_ON was lowered at restore (R384). -/
  adjusted : Option Nat := none
  deriving DecidableEq, Repr, Inhabited

/-! ## Sentinel and retention SRAM (18_sentinel_power.md) -/

/-- A sentinel channel (R397). -/
structure SnChan where
  /-- 0 OPEN, 1 NORMAL or inactive, 2 ACTIVE or active, 3 SHORT. -/
  state : Nat := 0
  /-- The last 5 samples, newest first, and y with 8 fractional bits. -/
  med : List Nat := []
  y : Int := 0
  latch : Bool := false
  deriving DecidableEq, Repr, Inhabited

/-- A log entry (R400). -/
structure SnLog where
  utc : Nat := 0
  src : Nat := 0
  old : Nat := 0
  new : Nat := 0
  flags : Nat := 0
  y : Nat := 0
  deriving DecidableEq, Repr, Inhabited

/-- The always-on domain: the sentinel and what retention SRAM keeps (R392 to R406). -/
structure Sentinel where
  chan : Tab SnChan := []
  log : Tab SnLog := []
  newest : Nat := 255
  logged : Nat := 0
  force : Nat := 0
  vaonMv : Nat := 0
  vaonLow : Bool := false
  /-- Power record (R393): entry cause, wake cause, wake channel, its state, UTC of entry and of wake. -/
  entryCause : Nat := 0
  wakeCause : Nat := 0
  wakeChan : Nat := 0
  wakeState : Nat := 0
  entryUtc : Nat := 0
  wakeUtc : Nat := 0
  /-- VAON in mV as measured last before the entry. -/
  entryVaon : Nat := 0
  /-- Sequence numbers issued past each bench's limit on a fenced store (R367). -/
  past : Tab Nat := []
  /-- A wake is to be reported by SN_WAKE at restore; retention records lost (R394, R406). -/
  wakeRep : Bool := false
  lost : List Nat := []
  lostFlag : Bool := false
  /-- Hand-off states of SUP_IN0 to 7 and their readings (R401). -/
  handed : Tab (Option (Nat × Nat)) := []
  /-- Wake inputs as sampled, PAIR_EN as latched into the domain (R396). -/
  pairEn : Bool := false
  /-- The trip record, automatic restarts and when they were made (R383). -/
  trip : Option TripRec := none
  /-- The trip is to be reported again at restore (R386). -/
  tripRep : Bool := false
  autoAt : List Nat := []
  /-- Panel records (R305) and completion progress: region and last row finished (R365). -/
  panel : List PanelRec := []
  panelDone : List (Nat × Nat) := []
  /-- Edges of wake channels to be logged at the next tick (R398), each with whether the device slept. -/
  edges : List (Nat × Bool) := []
  /-- PWR_REQ raised SEN_OUT1 at a wake (R388, R391). -/
  pwrOn : Bool := true
  deriving DecidableEq, Repr, Inhabited

/-! ## Host port and event queue (19_host_port.md) -/

/-- A packet of a bench (R418). `body` holds its items from item 1 (the stamp) on; item 0 is built when it is read. -/
structure Packet where
  typ : Nat := 0
  detail : Nat := 0
  seq : U32 := 0
  body : List U64 := []
  /-- The header item has been discarded as damaged (R32). -/
  headless : Bool := false
  deriving DecidableEq, Repr, Inhabited

/-- One stored entry of a bench: a packet, or the OVERFLOW item that replaced a run of discarded packets (R432). -/
inductive QEntry where
  | packet (p : Packet)
  | overflow (count : Nat) (seq : U32)
  deriving DecidableEq, Repr

/-- One bench of the event queue (R424). -/
structure Bench where
  /-- The stored entries, oldest first. -/
  store : List QEntry := []
  /-- The read position: how many stored entries are read. -/
  rpos : Nat := 0
  /-- The items of the entry at the read position that are already read. -/
  part : Nat := 0
  /-- The rewind mark, as a read position (R429). -/
  mark : Nat := 0
  /-- The backlog of benches 0 and 1 (R431). -/
  backlog : List Packet := []
  /-- The packets discarded at a full backlog, counted by TYPE in ascending order (R431). -/
  lost : List (Nat × Nat) := []
  /-- The next sequence number (R419). -/
  next : U32 := 0
  /-- The reservation limit L (R367). -/
  limit : U32 := 0x10000
  /-- The journal holds a SEQ_RESERVE of this bench: it has issued a number, or adopted one. -/
  reserved : Bool := false
  /-- A SEQ_RESERVE record of this bench is submitted and not committed. -/
  reserving : Bool := false
  spoil : Nat := 0
  written : Nat := 0
  deriving DecidableEq, Repr, Inhabited

/-- The host port (R407 to R437). -/
structure Port where
  /-- Benches 0 to 3. -/
  bench : Tab Bench := []
  irqStat : U32 := 0
  irqMask : U32 := 0
  /-- HIF_DONE [15:0] (R416). -/
  done : U16 := 0
  relErr : Bool := false
  /-- SEQ of the last packet that the host has released, for class M7 (R330). -/
  released : U32 := 0
  /-- HIF_ERR of HIF_STATUS: the cause of the last port error (R414). -/
  hifErr : Nat := 0
  /-- EVQ_MARK VALID (R429). -/
  markValid : Bool := false
  /-- The bench and SEQ of the marked packet that was discarded, for REWIND_LOST (R430). -/
  markLost : Option (Nat × U32) := none
  /-- The REWIND_LOST item at the head of the read stream (R430). -/
  rewindLost : Option (Nat × U32) := none
  /-- EVQ_WMARK [16:0] (R435). -/
  wmark : Nat := 0
  /-- The state "UNREAD ≥ W" at the last evaluation (R435). -/
  wmAbove : Bool := false
  /-- The bulk window's bytes (R417). -/
  bulk : Tab Byte := []
  crcErrs : Nat := 0
  lenErrs : Nat := 0
  bulkRefused : Nat := 0
  /-- The bytes the last read transaction drove (R408). -/
  out : List Byte := []
  deriving DecidableEq, Repr, Inhabited

/-! ## Mailbox (20_mailbox.md) -/

/-- The memory of one slot: the header fields of R442 and the payload bytes (bytes past the list are 0). -/
structure MSlot where
  opcode : U16 := 0
  tag : U16 := 0
  level : Byte := 0
  byte5 : Byte := 0
  len : U16 := 0
  status : U16 := 0
  detail : U16 := 0
  crc : U32 := 0
  body : List Byte := []
  /-- The slot belongs to the device (R438). -/
  device : Bool := false
  deriving DecidableEq, Repr, Inhabited

/-- What an outstanding command waits for (R448). -/
inductive Wait where
  /-- It has been taken and not executed: an earlier command, configuration restore or role negotiation must end first. -/
  | held
  /-- Its journal record has not committed (R361). -/
  | journal
  /-- The next cycle boundary: a configuration apply (R465), a NAP (R388). -/
  | cfgApply | nap
  /-- The next half-cycle boundary (R176). -/
  | lsMode
  /-- A coil bank's records take effect (R211); a bank's diagnostic sequence ends (R212). -/
  | bank (b : Nat) | diag (b : Nat)
  /-- A read of a field point ends (R140). -/
  | readNow (pn : Nat)
  /-- The bond completes or times out (R322); the swap completes (R349). -/
  | bond | swap
  /-- A lane's self-checks after RESTORE end (R160). -/
  | lane (l : Nat)
  /-- A panel region starts running (R298). -/
  | region (r : Nat)
  /-- A calibration ends (R257). -/
  | calib (conv : Nat)
  deriving DecidableEq, Repr

/-- An outstanding command (R445): taken, and its completion not yet written. -/
structure Outst where
  org : Origin
  tag : Nat := 0
  opcode : Nat := 0
  level : Nat := 1
  req : List Byte := []
  /-- Abandoned by a HELLO of another epoch (R446). -/
  late : Bool := false
  /-- It is in the order of R441 (false for a timed command). -/
  wait : Wait := .held
  deriving DecidableEq, Repr

/-- The mailboxes (R438 to R455). -/
structure Mbox where
  slot : Tab MSlot := []
  /-- Rung slots not yet taken, in ring order (R440). -/
  rings : List Nat := []
  /-- Outstanding commands, in the order they were taken (R441). -/
  outst : List Outst := []
  /-- The current epoch, none before the first HELLO since reset (R446). -/
  epoch : Option Nat := none
  /-- The negotiated level, 0 before HELLO (R452). -/
  level : Nat := 0
  slotBusy : Nat := 0
  taken : Nat := 0
  refused : Nat := 0
  lateDone : Nat := 0
  deriving DecidableEq, Repr, Inhabited

/-- The configuration session and the fields of CFG_INFO (R463, R469). -/
structure Session where
  isOpen : Bool := false
  /-- The staged records, by record key. -/
  staged : Tab (Option Img) := []
  /-- The last refusal at step 3 of R464: TABLE with bit 7 for a record that was not staged, status, index. -/
  refTable : Nat := 0
  refStatus : Nat := 0
  refIndex : Nat := 0
  /-- The two claimant records of a CFG_CONFLICT (R455). -/
  claim : List Byte := []
  /-- The checked and committed session that waits for the cycle boundary (R465), and the generation its chain left. -/
  applying : Option (List CfgWrite × U32) := none
  commits : Nat := 0
  deriving DecidableEq, Repr, Inhabited

/-! ## Non-volatile store (16_nonvolatile.md) -/

/-- The type of a journal record (R360). -/
inductive JType where
  | config | area | scribe | panelStart | panelDone | snapDone | keys | boot | seqReserve | checkpoint
  deriving DecidableEq, Repr, Inhabited

/-- TYPE of a record (R360). -/
def JType.code : JType → Nat
  | .config => 1 | .area => 2 | .scribe => 3 | .panelStart => 4 | .panelDone => 5 | .snapDone => 6 | .keys => 7 | .boot => 8
  | .seqReserve => 9 | .checkpoint => 0x0F

/-- A submitted journal record or chain, not yet committed (R361, R362). -/
structure JRec where
  typ : JType := .config
  /-- Its ring slots: 1, or the length of the chain. -/
  slots : Nat := 1
  /-- The new images. -/
  writes : List CfgWrite := []
  /-- The generation after it, where it changes the generation (R459). -/
  gen : Option (Option U32) := none
  /-- The command that waits on it, and what that command answers. -/
  org : Option Origin := none
  resp : List Byte := []
  /-- A number that its commit uses: a bench, a region, a slot. -/
  arg : Nat := 0
  deriving DecidableEq, Repr, Inhabited

/-- A firmware image slot (R368): its words as written, and whether its signature verifies and its body matches its hash. -/
structure ImgSlot where
  mem : Tab Byte := []
  /-- The slot has been written since delivery. As delivered it holds the vendor's image (notes/assumptions/8.md). -/
  written : Bool := false
  /-- NV_FW_WRITE has begun a new image there: MAGIC has been cleared (R370). -/
  open_ : Bool := false
  deriving DecidableEq, Repr, Inhabited

/-- A snapshot slot (R366). -/
structure Snapshot where
  valid : Bool := false
  cycle : U32 := 0
  /-- The next sequence number of each bench. -/
  seqs : List Nat := []
  /-- The learned fields of the device table, by DV. -/
  devs : List (Nat × Img) := []
  freq : Nat := 0
  deriving DecidableEq, Repr, Inhabited

/-- The non-volatile store and what outlives a reset in it (R356). -/
structure Nvm where
  /-- The committed configuration: record key ↦ image; a record never written is not listed. -/
  cfg : Tab (Option Img) := []
  /-- Records that have committed and take effect at a later instant, by kind and index. -/
  due : List (Nat × Nat) := []
  /-- The configuration generation (R459). -/
  gen : U32 := 0
  digest : U64 := 0
  digestValid : Bool := false
  /-- Journal: the next SEQ, the last committed SEQ, the highest SEQ the latest CHECKPOINT names (R360, R363). -/
  seq : U32 := 0
  lastSeq : U32 := 0
  ckpt : U32 := 0
  /-- The ring: 4,096 slots of 256 bytes, each with the record last written there (R360, R363). -/
  ring : Tab (Option Img) := []
  /-- Submitted records in order; phase 1 of the first is under way (R361). -/
  queue : List JRec := []
  /-- How many records of the first submission's chain are committed. -/
  chainDone : Nat := 0
  rolledBack : Nat := 0
  /-- First and last SEQ rolled back at the last restart, with the TARGETs (R364). -/
  torn : Option (U32 × U32 × List Nat) := none
  /-- The fence: its cause, 0 trip, 1 PFAIL_N (R371, R372, R374). -/
  fence : Option Nat := none
  /-- Bulk writes stopped by the fence: 2 panel planes, 3 snapshot, 4 image (R358, R372). -/
  stopped : List Nat := []
  slotA : ImgSlot := {}
  slotB : ImgSlot := {}
  /-- Boot preference (R475): preferred slot, TRIAL, TRIED. -/
  pref : Nat := 0
  trial : Bool := false
  tried : Bool := false
  /-- The running slot, whether the other slot than the preferred one runs, and the reason (R475). -/
  running : Nat := 0
  fellBack : Option Nat := none
  /-- OTP counter: blown anti-rollback fuses (R369). -/
  otp : Nat := 0
  snapA : Snapshot := {}
  snapB : Snapshot := {}
  /-- The slot of the latest valid snapshot. -/
  snapLatest : Nat := 1
  bytesWritten : Nat := 0
  /-- Benches whose power record was lost after a fence that passed their limit (R367). -/
  passed : List Nat := []
  deriving DecidableEq, Repr, Inhabited

/-- The state of the device: everything the manual gives it, what is in force of its configuration, and the commands that
wait, first in, first out. -/
structure State where
  sys : Sys := {}
  mt : Tracker := {}
  cal : Calendar := {}
  rtc : Rtc := {}
  pts : Store := {}
  links : Links := {}
  pnt : Pnt := {}
  lp : Loops := {}
  ls : LifeSafety := {}
  cb : Coils := {}
  ad : Analog := {}
  out : Outs := {}
  ky : Keys := {}
  pn : Panel := {}
  pr : Pair := {}
  nv : Nvm := {}
  th : Thermal := {}
  sn : Sentinel := {}
  port : Port := {}
  mb : Mbox := {}
  ses : Session := {}
  /-- The configuration records in force, by record key: each is copied from `nv.cfg` when it takes effect. -/
  live : Tab (Option Img) := []
  /-- The commands that wait. -/
  pending : List Instr := []
  deriving DecidableEq, Repr, Inhabited

/-- The machine right after reset (R14, R471, R473): a power-on reset with every strap low as it floats (R488), at the start
of the start-up sequence, with the memory as delivered and no command waiting. -/
def State.reset : State := {}

end Sys2Proof.Machine
end

