-- ==== Sys2Proof/Machine/Records.lean ====
section
/-!
DEFINITION. Configuration records: the kinds of R460 with their lengths, Reset images and field maps, the check of one record
against its field map (R13, R463), and the two copies of a record: committed (in MRAM) and in force.
-/

namespace Sys2Proof.Machine

open Sys2Proof

/-- What a field map says of a field that a record may not hold with every value. -/
inductive FKind where
  /-- Values lo to hi. -/
  | rng (lo hi : Nat)
  /-- A REAL that is at least 0 and no NaN. -/
  | realGe0
  /-- A multiple of n, from lo to hi. -/
  | mult (n lo hi : Nat)
  /-- One of the listed values. -/
  | oneOf (l : List Nat)
  /-- A signed field from lo to hi. -/
  | int (lo hi : Int)
  /-- Reserved: 0 (R13). -/
  | rsv
  /-- RO: ignored and stored as 0 (R462). -/
  | ro
  deriving DecidableEq, Repr

/-- A field of a record: its lowest bit, its width and what it may hold. -/
structure Field where
  lo : Nat
  w : Nat
  kind : FKind
  deriving DecidableEq, Repr

/-- A field holds a value its field map allows. -/
def Field.ok (f : Field) (x : Img) : Bool :=
  let v := fld x f.lo f.w
  match f.kind with
  | .rng lo hi => lo ≤ v && v ≤ hi
  | .realGe0 => fle 0 (u32 v)
  | .mult n lo hi => v % n = 0 && lo ≤ v && v ≤ hi
  | .oneOf l => l.contains v
  | .int lo hi => lo ≤ signed f.w v && signed f.w v ≤ hi
  | .rsv => v = 0
  | .ro => true

/-- The kind of a record: opcode block × 256 + table code (R460); the kinds of block 0xFF and the Local ones are the model's
own numbering of records that enter no digest. -/
abbrev Kind := Nat

namespace Kind
def point : Kind := 0x0101
def zone : Kind := 0x0102
def member : Kind := 0x0103
def area : Kind := 0x0104
def binding : Kind := 0x0105
def alarm : Kind := 0x0106
def relinq : Kind := 0x0107
def mt : Kind := 0x0200
def eth : Kind := 0x0400
def trunk : Kind := 0x0401
def pa : Kind := 0x0500
def cls : Kind := 0x0501
def dev : Kind := 0x0502
def loop : Kind := 0x0600
def lsArea : Kind := 0x0700
def trig : Kind := 0x0701
def resp : Kind := 0x0702
def val : Kind := 0x0703
def lsIn : Kind := 0x0704
def bank : Kind := 0x0800
def micro : Kind := 0x0900
def entry : Kind := 0x0901
def chan : Kind := 0x0902
def conv : Kind := 0x0A00
def group : Kind := 0x0A01
/-- Jig table of a converter: Local (R254). -/
def jig : Kind := 0x0A02
def fan : Kind := 0x0B00
def ky : Kind := 0x0C00
def key : Kind := 0x0C01
def pn : Kind := 0x0D00
def wave : Kind := 0x0D01
/-- The pair link record: Local (R336). -/
def pr : Kind := 0x0E00
def th : Kind := 0x1000
def sn : Kind := 0x1100
def evq : Kind := 0x1200
/-- The latched mode of an area with the classified input states (R184), and the scribe of a channel (R233): journalled, and no
configuration. -/
def latch : Kind := 0xFF02
def scribe : Kind := 0xFF03
def inputs : Kind := 0xFF04
end Kind

/-- The index of a record in the tables `nv.cfg` and `live`. -/
def recKey (k : Kind) (i : Nat) : Nat := k * 0x40000 + i

/-- The record of R62 as CFG_LOAD carries it (RO fields and OUT_OF_SERVICE are ignored, R462). -/
def pointFields : List Field :=
  [⟨0, 39, .ro⟩, ⟨39, 1, .rsv⟩, ⟨48, 48, .ro⟩, ⟨96, 4, .rng 0 5⟩, ⟨114, 2, .rsv⟩, ⟨192, 32, .ro⟩, ⟨236, 4, .rsv⟩, ⟨252, 4, .rsv⟩]

def zoneFields : List Field := [⟨7, 1, .rsv⟩, ⟨22, 15, .rng 0 16384⟩, ⟨37, 18, .ro⟩, ⟨55, 73, .rsv⟩]
def memberFields : List Field := [⟨17, 15, .rsv⟩]
def areaFields : List Field := [⟨1, 7, .rsv⟩, ⟨8, 13, .ro⟩, ⟨21, 107, .rsv⟩]
def bindingFields : List Field := [⟨34, 30, .rsv⟩]
def alarmFields : List Field := [⟨64, 32, .realGe0⟩, ⟨114, 14, .rsv⟩]
def evqFields : List Field :=
  [⟨0, 6, .rng 1 32⟩, ⟨6, 2, .rsv⟩, ⟨8, 6, .rng 1 32⟩, ⟨14, 2, .rsv⟩, ⟨16, 6, .rng 1 32⟩, ⟨22, 2, .rsv⟩,
   ⟨24, 6, .rng 1 32⟩, ⟨31, 33, .rsv⟩]
/-- FL_ETH_CFG (R111). -/
def ethFields : List Field :=
  [⟨12, 4, .rsv⟩, ⟨96, 8, .rng 8 30⟩, ⟨104, 24, .rsv⟩, ⟨160, 16, .rng 10 3600⟩, ⟨176, 16, .rng 0 3600⟩,
   ⟨192, 10, .rng 50 1000⟩, ⟨202, 4, .rng 1 8⟩, ⟨206, 2, .rsv⟩, ⟨208, 16, .rng 0 10000⟩, ⟨224, 8, .rng 1 255⟩, ⟨232, 24, .rsv⟩]

/-- FL_TRUNK_CFG (R112). -/
def trunkFields : List Field :=
  [⟨0, 2, .rng 0 2⟩, ⟨2, 3, .rng 0 5⟩, ⟨5, 2, .rng 0 2⟩, ⟨13, 3, .rsv⟩, ⟨23, 1, .rsv⟩, ⟨24, 7, .rng 1 127⟩, ⟨31, 1, .rsv⟩,
   ⟨32, 8, .rng 1 255⟩, ⟨40, 9, .rng 255 300⟩, ⟨49, 7, .rng 20 100⟩, ⟨56, 8, .rsv⟩, ⟨64, 16, .rng 10 2000⟩,
   ⟨80, 16, .rng 10 1000⟩, ⟨96, 7, .rng 1 100⟩, ⟨103, 1, .rsv⟩, ⟨104, 8, .rng 1 255⟩, ⟨112, 16, .rsv⟩]

/-- PA_CFG (R139). -/
def paFields : List Field :=
  [⟨2, 14, .rsv⟩, ⟨16, 8, .rng 1 255⟩, ⟨24, 8, .rng 10 255⟩, ⟨32, 16, .rng 60 65535⟩, ⟨48, 16, .rng 60 65535⟩,
   ⟨64, 8, .rng 1 32⟩, ⟨72, 8, .rsv⟩, ⟨80, 9, .rng 1 256⟩, ⟨89, 39, .rsv⟩]

/-- PA_CLASS (R126). -/
def clsFields : List Field := [⟨0, 16, .rng 1 65535⟩, ⟨32, 4, .rng 2 15⟩, ⟨37, 27, .rsv⟩]

/-- A device-table entry as PA_SET_DEV carries it (R119). -/
def devFields : List Field :=
  [⟨3, 1, .rsv⟩, ⟨4, 4, .rng 0 9⟩, ⟨8, 3, .ro⟩, ⟨11, 1, .ro⟩, ⟨14, 2, .rng 0 2⟩, ⟨24, 22, .rng 0 4194302⟩, ⟨46, 2, .rsv⟩,
   ⟨56, 8, .rng 0 32⟩, ⟨112, 16, .rng 0 65534⟩, ⟨176, 3, .rng 0 6⟩, ⟨179, 13, .rsv⟩, ⟨192, 16, .rng 50 1476⟩, ⟨208, 2, .ro⟩,
   ⟨210, 6, .rsv⟩, ⟨216, 8, .ro⟩, ⟨224, 16, .rng 100 10000⟩, ⟨240, 4, .rng 0 8⟩, ⟨244, 4, .rng 1 8⟩, ⟨248, 8, .rsv⟩,
   ⟨256, 16, .rng 5 3600⟩, ⟨272, 16, .rng 60 65535⟩, ⟨288, 48, .ro⟩,
   ⟨336, 16, .rsv⟩, ⟨352, 146, .ro⟩, ⟨498, 526, .rsv⟩]
/-- LP_DESC (R143). -/
def loopFields : List Field :=
  [⟨3, 1, .rsv⟩, ⟨4, 3, .rng 0 4⟩, ⟨7, 1, .rsv⟩, ⟨8, 16, .rng 1 65535⟩, ⟨40, 5, .rng 2 16⟩, ⟨45, 3, .rsv⟩, ⟨48, 7, .rng 1 64⟩,
   ⟨55, 1, .rsv⟩, ⟨56, 2, .ro⟩, ⟨58, 6, .rsv⟩, ⟨64, 10, .ro⟩, ⟨74, 54, .rsv⟩]
/-- Bytes 16 to 63 of the area record (R172), bit numbers less 128. -/
def lsAreaFields : List Field :=
  [⟨0, 3, .ro⟩, ⟨3, 1, .rsv⟩, ⟨4, 7, .ro⟩, ⟨11, 1, .rsv⟩, ⟨12, 2, .rng 1 3⟩, ⟨15, 1, .rsv⟩, ⟨16, 3, .ro⟩, ⟨19, 13, .rsv⟩,
   ⟨32, 16, .rng 1 65535⟩, ⟨48, 16, .rng 1 65535⟩, ⟨64, 58, .ro⟩, ⟨122, 262, .rsv⟩]

/-- A trigger record (R173). -/
def trigFields : List Field :=
  [⟨0, 2, .rng 0 2⟩, ⟨3, 1, .rsv⟩, ⟨7, 1, .rsv⟩, ⟨14, 2, .rsv⟩, ⟨16, 3, .rng 1 4⟩, ⟨19, 1, .rsv⟩, ⟨37, 11, .rsv⟩]

/-- LS_RESP (R178). -/
def respFields : List Field := [⟨48, 16, .rsv⟩]

/-- LS_IN of one input (R167). -/
def lsInFields : List Field := [⟨1, 7, .rsv⟩]

/-- AD_CONV (R243). -/
def convFields : List Field := [⟨1, 2, .rng 0 2⟩, ⟨3, 1, .rsv⟩, ⟨4, 6, .rng 0 32⟩, ⟨10, 4, .rng 0 8⟩, ⟨18, 46, .rsv⟩]
/-- AD_ENTRY (R244). -/
def adEntryFields : List Field := [⟨8, 8, .rng 4 255⟩, ⟨20, 12, .rsv⟩]
/-- CB_BANK (R209), and CB_CHAN (R210) of channel k behind it. -/
def bankFields : List Field :=
  [⟨2, 6, .rsv⟩, ⟨8, 8, .rng 1 255⟩, ⟨32, 8, .rng 5 50⟩, ⟨40, 8, .rng 2 20⟩, ⟨48, 8, .rng 10 255⟩, ⟨56, 72, .rsv⟩]
def chanFields (k : Nat) : List Field :=
  List.map (fun f : Field => { f with lo := f.lo + 128 + 256 * k })
    [⟨8, 8, .rsv⟩, ⟨32, 13, .rng 1 5000⟩, ⟨45, 3, .rsv⟩, ⟨64, 16, .rng 1 65535⟩,
     ⟨104, 8, .oneOf (0 :: (List.range 97).map (· + 24))⟩, ⟨144, 8, .rng 1 255⟩, ⟨152, 104, .rsv⟩]
/-- An entry record (R221). -/
def entryFields : List Field :=
  [⟨12, 12, .rng 1 2048⟩, ⟨25, 3, .rsv⟩, ⟨28, 4, .ro⟩, ⟨32, 13, .rng 1 5000⟩, ⟨45, 3, .rsv⟩]
/-- CS_CHAN (R233). -/
def csChanFields : List Field :=
  [⟨7, 1, .rsv⟩, ⟨15, 1, .rsv⟩, ⟨32, 2, .rng 0 2⟩, ⟨34, 2, .rsv⟩, ⟨36, 3, .rng 0 6⟩, ⟨39, 1, .rsv⟩, ⟨40, 8, .rng 1 255⟩,
   ⟨128, 8, .rng 1 255⟩, ⟨136, 24, .rsv⟩, ⟨160, 56, .ro⟩, ⟨216, 40, .rsv⟩]
/-- FN_CHAN (R271). -/
def fanFields : List Field :=
  [⟨11, 5, .rsv⟩, ⟨16, 16, .rng 100 40000⟩, ⟨32, 16, .rng 0 30000⟩, ⟨48, 16, .rng 100 60000⟩, ⟨94, 2, .rsv⟩,
   ⟨128, 16, .rng 50 5000⟩, ⟨152, 8, .rsv⟩, ⟨168, 8, .rsv⟩, ⟨208, 8, .rng 1 255⟩, ⟨219, 37, .rsv⟩]
/-- KY_CFG (R279). -/
def kyFields : List Field := [⟨2, 6, .rsv⟩, ⟨16, 8, .rng 10 90⟩, ⟨24, 8, .rng 10 199⟩, ⟨32, 32, .rsv⟩]
/-- KY_KEY (R280). -/
def keyFields : List Field :=
  [⟨0, 2, .rng 0 2⟩, ⟨2, 2, .rng 0 2⟩, ⟨5, 3, .rsv⟩, ⟨8, 5, .rng 1 16⟩, ⟨13, 3, .rsv⟩, ⟨22, 2, .rsv⟩, ⟨24, 3, .rng 0 5⟩,
   ⟨27, 5, .rsv⟩, ⟨40, 24, .rsv⟩, ⟨81, 15, .rsv⟩]
/-- PN_CFG (R307). -/
def pnFields : List Field :=
  [⟨6, 2, .rsv⟩, ⟨8, 4, .rng 1 15⟩, ⟨16, 6, .rng 2 40⟩, ⟨22, 2, .rsv⟩, ⟨24, 10, .mult 4 16 960⟩, ⟨34, 2, .rsv⟩, ⟨36, 5, .rng 5 20⟩,
   ⟨41, 3, .rng 0 4⟩, ⟨44, 4, .rsv⟩, ⟨48, 7, .rng 0 120⟩, ⟨55, 1, .rsv⟩, ⟨56, 6, .rng 1 60⟩, ⟨62, 2, .rsv⟩, ⟨81, 7, .rsv⟩,
   ⟨88, 8, .rng 1 255⟩, ⟨96, 32, .rsv⟩]
/-- MT_CFG (R58). -/
def mtFields : List Field :=
  [⟨0, 2, .rng 0 1⟩, ⟨2, 2, .rng 0 2⟩, ⟨8, 8, .rng 13 128⟩, ⟨16, 8, .rng 4 32⟩, ⟨24, 8, .rsv⟩, ⟨32, 17, .rng 40000 70000⟩,
   ⟨49, 15, .rsv⟩, ⟨64, 16, .rng 1 65535⟩, ⟨80, 16, .rng 1 65535⟩, ⟨96, 16, .rng 1 65535⟩, ⟨112, 16, .rsv⟩]
/-- PR_CFG (R336). -/
def prFields : List Field := [⟨8, 2, .rng 1 2⟩, ⟨10, 54, .rsv⟩]
/-- TH_CFG (R384). -/
def thFields : List Field := [⟨0, 8, .rng 80 130⟩, ⟨8, 4, .rng 3 10⟩, ⟨13, 3, .rsv⟩, ⟨16, 8, .rng 10 40⟩, ⟨24, 40, .rsv⟩]
/-- SN_CFG, then SN_CHAN of channels 0 to 7 (R403, R404). -/
def snFields : List Field :=
  [⟨3, 5, .rsv⟩, ⟨8, 8, .rng 1 255⟩, ⟨16, 8, .rng 2 50⟩, ⟨27, 5, .rsv⟩, ⟨32, 8, .rng 0 32⟩, ⟨40, 8, .rng 90 180⟩, ⟨48, 16, .rsv⟩] ++
  (List.range 8).flatMap (fun n =>
    let b := 64 + 32 * n
    (if n < 4 then [⟨b + 2, 1, .rng 0 0⟩] else []) ++ [⟨b + 3, 1, .rsv⟩, ⟨b + 12, 2, .rng 0 2⟩, ⟨b + 16, 16, .rsv⟩])

/-- The first field of a map that a record at byte offset `base` of the payload fails, as the byte offset of R443. -/
def badField (fs : List Field) (base : Nat) (x : Img) : Option Nat :=
  (fs.find? (fun f => !f.ok x)).map (fun f => base + f.lo / 8)

/-- The image with its RO fields at 0. -/
def cleanImg (fs : List Field) (x : Img) : Img :=
  fs.foldl (fun y f => if f.kind = .ro then setFld y f.lo f.w 0 else y) x

/-- The length of an image in bytes (R460, R462). -/
def imgBytes (k : Kind) : Nat :=
  match k with
  | 0x0101 => 32 | 0x0102 => 16 | 0x0103 => 4 | 0x0104 => 16 | 0x0105 => 16 | 0x0106 => 16 | 0x0107 => 4
  | 0x0200 => 16 | 0x0400 => 32 | 0x0401 => 16 | 0x0500 => 16 | 0x0501 => 8 | 0x0502 => 128
  | 0x0600 => 656 | 0x0700 => 48 | 0x0701 => 8 | 0x0702 => 8 | 0x0703 => 4 | 0x0704 => 32
  | 0x0800 => 144 | 0x0900 => 8192 | 0x0901 => 8 | 0x0902 => 32 | 0x0A00 => 168 | 0x0A01 => 1 | 0x0A02 => 260
  | 0x0B00 => 32 | 0x0C00 => 8 | 0x0C01 => 16 | 0x0D00 => 16 | 0x0D01 => 67072
  | 0x1000 => 8 | 0x1100 => 40 | 0x1200 => 8
  | _ => 0

/-- The Reset image of a kind: what a record never written holds (R460). -/
def resetImg (k : Kind) (_i : Nat) : Img :=
  match k with
  | 0x0105 => 0x3F800000 * 2 ^ 64
  | 0x1200 => 0x44040404
  | 0x0400 => 24 * 2 ^ 96 + 300 * 2 ^ 160 + 60 * 2 ^ 176 + 200 * 2 ^ 192 + 3 * 2 ^ 202 + 1000 * 2 ^ 208 + 10 * 2 ^ 224
  | 0x0401 => 2 * 2 ^ 2 + 2 ^ 9 + 127 * 2 ^ 24 + 4 * 2 ^ 32 + 255 * 2 ^ 40 + 20 * 2 ^ 49 + 200 * 2 ^ 64 + 100 * 2 ^ 80
      + 20 * 2 ^ 96 + 10 * 2 ^ 104
  | 0x0500 => 2 + 10 * 2 ^ 16 + 60 * 2 ^ 24 + 600 * 2 ^ 32 + 3600 * 2 ^ 48 + 8 * 2 ^ 64 + 64 * 2 ^ 80
  | 0x0501 => 50 + 4 * 2 ^ 32
  | 0x0502 => 2 ^ 12 + 0xBAC0 * 2 ^ 96 + 480 * 2 ^ 192 + 3000 * 2 ^ 224 + 3 * 2 ^ 240 + 2 * 2 ^ 244 + 60 * 2 ^ 256 + 600 * 2 ^ 272
  | 0x0600 => 2 ^ 8 + 16 * 2 ^ 40 + 2 ^ 48
  | 0x0700 => 2 * 2 ^ 12 + 150 * 2 ^ 32 + 469 * 2 ^ 48
  | 0x0702 => 0xFFFFFFFFFFFF
  | 0x0704 => (List.range 8).foldl (fun x n => x + 0xCD4D0D00 * 2 ^ (32 * n)) 0
  | 0x0A00 => 0xF * 2 ^ 14 + (List.range 40).foldl (fun x n => x + 4 * 2 ^ (72 + 32 * n)) 0
  | 0x0800 => 20 * 2 ^ 8 + 3000 * 2 ^ 16 + 20 * 2 ^ 32 + 6 * 2 ^ 40 + 50 * 2 ^ 48 + (List.range 4).foldl (fun x k => x +
      (8 + 16 + 3 * 2 ^ 5 + 200 * 2 ^ 16 + 1000 * 2 ^ 32 + 1000 * 2 ^ 48 + 500 * 2 ^ 64 + 2 * 2 ^ 144) * 2 ^ (128 + 256 * k)) 0
  | 0x0901 => 5000 * 2 ^ 32 + 0xFFFF * 2 ^ 48
  | 0x0902 => 2 ^ 14 + 2 ^ 32 + 2 * 2 ^ 36 + 4 * 2 ^ 40 + 3 * 2 ^ 128
  | 0x0B00 => 2 ^ 3 + 2 ^ 6 + 25000 * 2 ^ 16 + 300 * 2 ^ 32 + 2000 * 2 ^ 48 + 1023 * 2 ^ 74 + 512 * 2 ^ 84 + 1024 * 2 ^ 96
      + 256 * 2 ^ 112 + 400 * 2 ^ 128 + 20 * 2 ^ 144 + 0xFFFF * 2 ^ 192 + 10 * 2 ^ 208 + 3 * 2 ^ 216
  | 0x0C00 => 0xFF * 2 ^ 8 + 40 * 2 ^ 16 + 80 * 2 ^ 24
  | 0x0C01 => 16 * 2 ^ 8 + 30 * 2 ^ 32
  | 0x0D00 => 4 + 15 * 2 ^ 8 + 40 * 2 ^ 16 + 960 * 2 ^ 24 + 5 * 2 ^ 36 + 4 * 2 ^ 41 + 30 * 2 ^ 56 + 30 * 2 ^ 88
  | 0x0200 => 7 * 2 ^ 5 + 26 * 2 ^ 8 + 8 * 2 ^ 16 + 50000 * 2 ^ 32 + 10 * 2 ^ 64 + 10 * 2 ^ 80 + 10 * 2 ^ 96
  | 0x0E00 => 3 + 2 * 2 ^ 8
  | 0x1000 => 110 + 5 * 2 ^ 8 + 2 ^ 12 + 20 * 2 ^ 16
  | 0x1100 => 32 * 2 ^ 8 + 15 * 2 ^ 16 + 2 ^ 24 + 4 * 2 ^ 32 + 100 * 2 ^ 40 + (List.range 8).foldl (fun x n => x + 0x8000 * 2 ^ (64 + 32 * n)) 0
  | _ => 0

/-- The image of a record in a table of records. -/
def imgIn (t : Tab (Option Img)) (k : Kind) (i : Nat) : Img := (t.get (recKey k i)).getD (resetImg k i)
/-- The written records of a kind in a table: index and image. -/
def recsIn (t : Tab (Option Img)) (k : Kind) : List (Nat × Img) :=
  (t.filter (fun e => e.1 / 0x40000 == k)).filterMap (fun e => e.2.map (fun x => (e.1 % 0x40000, x)))

/-- The committed image of a record. -/
def cfgImg (s : State) (k : Kind) (i : Nat) : Img := imgIn s.nv.cfg k i
/-- The committed records of a kind: index and image. -/
def committed (s : State) (k : Kind) : List (Nat × Img) := recsIn s.nv.cfg k

/-- The image of a record in force. -/
def liveImg (s : State) (k : Kind) (i : Nat) : Img := (s.live.get (recKey k i)).getD (resetImg k i)
/-- A field of a record in force. -/
def liveFld (s : State) (k : Kind) (i lo w : Nat) : Nat := fld (liveImg s k i) lo w
/-- A bit of a record in force. -/
def liveBit (s : State) (k : Kind) (i lo : Nat) : Bool := flag (liveImg s k i) lo

/-- A committed record takes effect: it becomes the record in force. -/
def takeEffect (k : Kind) (i : Nat) (s : State) : State :=
  { s with live := s.live.set (recKey k i) (s.nv.cfg.get (recKey k i)) }

/-- Every record of a kind takes effect. -/
def takeEffectAll (k : Kind) (n : Nat) (s : State) : State := (List.range n).foldl (fun s i => takeEffect k i s) s

/-- The bytes of a stored image: those of R460, and PR_CFG (R336), which is Local. -/
def storeBytes (k : Kind) : Nat := if k = Kind.pr then 8 else imgBytes k

/-- The bytes that a stored record occupies in the configuration region: a loop stores its program to LENGTH, and every image
is rounded up to 8 bytes behind a 16-byte header (R359). -/
def storedBytes (k : Kind) (x : Img) : Nat :=
  let n := if k = Kind.loop then 144 + 8 * fld x 48 7 else storeBytes k
  (n + 7) / 8 * 8 + 16

/-- A record is a configured one, and so takes room: its CONFIGURED bit where its kind has one (R62, R67, R68), and otherwise that
it differs from its Reset image (notes/assumptions/12.md). The model's own records of other regions take none. -/
def recBytes (key : Nat) (x : Img) : Nat :=
  let k := key / 0x40000
  let configured := if k = Kind.point then flag x 42 else if k = Kind.zone then flag x 6 else if k = Kind.area then flag x 0
    else decide (x ≠ resetImg k (key % 0x40000))
  if storeBytes k = 0 || !configured then 0 else storedBytes k x

/-- The bytes of the configuration region in use by committed records and by those an open session stages (R359). -/
def cfgUsed (cfg : Tab (Option Img)) (staged : Tab (Option Img)) : Nat :=
  (cfg.foldl (fun n e => match e.2 with | some x => n + recBytes e.1 x | none => n) 0)
    + (staged.foldl (fun n e => match e.2 with | some x => n + recBytes e.1 x | none => n) 0)

/-- "Configuration bytes free": 4 MiB less what is in use (R359). -/
def cfgFree (s : State) : Nat := 0x400000 - cfgUsed s.nv.cfg s.ses.staged

/-- The committed table after a list of writes. -/
def applyWrites (cfg : Tab (Option Img)) (ws : List CfgWrite) : Tab (Option Img) :=
  ws.foldl (fun t w => t.set (recKey w.kind w.idx) w.image) cfg

end Sys2Proof.Machine
end

