-- ==== Sys2Proof/Machine/Ops.lean ====
section
/-!
DEFINITION. The operations that every subsystem shares: Mains Time and real time, roles, the event queue (19_host_port.md
R418 to R435), journal records (16_nonvolatile.md R360 to R372) and the completion of commands (20_mailbox.md R442, R448).
-/

namespace Sys2Proof.Machine

open Sys2Proof

/-! ## Time and roles -/

/-- The signed distance a − b of two values of Mains Time in AU (R6, R7). -/
def MT.diff (a b : MT) : Int := cycDiff a.c b.c * 65536 + ((a.a.toNat : Int) - (b.a.toNat : Int))

/-- The value of Mains Time n AU after t. -/
def MT.add (t : MT) (n : Nat) : MT :=
  let x := t.a.toNat + n
  { c := t.c + u32 (x / 65536), a := u16 x }

/-- The present value of Mains Time. -/
def State.now (s : State) : MT := s.mt.now

/-- The device has duty: it is ACTIVE or SIMPLEX (R327). -/
def State.duty (s : State) : Bool := s.pr.role == .active || s.pr.role == .simplex

/-- The store is fenced (R371, R372). -/
def State.fenced (s : State) : Bool := s.nv.fence.isSome

/-- Seconds on the device's own clock since reset. -/
def State.secs (s : State) : Nat := s.rtc.up / 32768

/-- Nominal frequency in mHz (R39): strap MAINS_NOM, 50 Hz low and 60 Hz high, or NOM_FREQ where NOM_SRC says so. -/
def State.nomFreq (s : State) : Nat :=
  if liveBit s Kind.mt 0 4 then liveFld s Kind.mt 0 32 17 else if s.sys.straps.mainsNom then 60000 else 50000

/-- No event of the kind has been raised for `per` seconds. -/
def State.every (s : State) (last : Option Nat) (per : Nat) : Bool :=
  match last with
  | none => true
  | some t => t + per * 32768 ≤ s.rtc.up

/-! ## Events: the fields of a packet (R420) -/

/-- One field of an event: its size in bytes and its value, already cut to what the field can hold. -/
abbrev EvF := Nat × Nat

/-- An unsigned field of n bytes; it saturates (R420). -/
def ef (n v : Nat) : EvF := (n, min v (256 ^ n - 1))
/-- A signed field of n bytes; it saturates (R420). -/
def efInt (n : Nat) (v : Int) : EvF :=
  let h : Int := ((256 ^ n / 2 : Nat) : Int)
  (n, (max (-h) (min (h - 1) v) % ((256 ^ n : Nat) : Int)).toNat)
/-- A value of Mains Time: C, then A, then 2 bytes of 0 (R420). -/
def efMT (t : MT) : EvF := (8, t.c.toNat + t.a.toNat * 2 ^ 32)
/-- A list whose members are numbered below 64, as a mask (R420). -/
def efMask (l : List Nat) : EvF := (8, l.foldl (fun m i => m ||| 2 ^ i) 0 % 2 ^ 64)
/-- Any other list: a 2-byte count and its members, as many as a packet has room for (notes/assumptions/13.md). -/
def efList (n : Nat) (l : List Nat) : List EvF :=
  let l := l.take ((28 * 8) / n)
  ef 2 l.length :: l.map (ef n)

/-- The fields placed one after the other: each aligned to its size within the item, a field that does not fit in the rest of
an item starts the next (R420). The accumulator holds the item being filled and its length. -/
def packFields : List EvF → Nat → Nat → List U64
  | [], x, n => if n = 0 then [] else [BitVec.ofNat 64 x]
  | (w, v) :: r, x, n =>
    let o := (n + w - 1) / w * w
    if o + w ≤ 8 then packFields r (x + v * 256 ^ o) (o + w)
    else BitVec.ofNat 64 x :: packFields r v w

/-- The items of a packet of fields. -/
def pack (l : List EvF) : List U64 := packFields l 0 0

/-- Item 1 of every event packet: the stamp (R419). -/
def stamp (s : State) : U64 :=
  BitVec.ofNat 64 (s.mt.now.c.toNat + s.mt.now.a.toNat * 2 ^ 32 + bit s.sys.straps.pairId * 2 ^ 48 + s.pr.role.code * 2 ^ 49)

/-! ## The benches (R424 to R435) -/

/-- Items of a packet, with its header unless that is damaged (R32, R418). -/
def Packet.count (p : Packet) : Nat := p.body.length + bit (!p.headless)

/-- Item 0 of a packet (R418). -/
def headerItem (typ count bench detail seq : Nat) : U64 :=
  BitVec.ofNat 64 (typ % 256 + count % 64 * 2 ^ 8 + bench % 4 * 2 ^ 14 + detail % 65536 * 2 ^ 16 + seq % 2 ^ 32 * 2 ^ 32)

/-- Items that an entry of a bench stores. -/
def QEntry.items : QEntry → Nat
  | .packet p => p.count
  | .overflow _ _ => 1

/-- Items stored by a list of entries. -/
def itemsOf (l : List QEntry) : Nat := l.foldl (fun n e => n + e.items) 0

/-- The items that a bench has room for (R424). -/
def benchCap (b : Nat) : Nat := if b ≤ 1 then 8192 else if b = 2 then 16384 else 32768

/-- Unread items of a bench (R435). -/
def Bench.unread (q : Bench) : Nat := itemsOf (q.store.drop q.rpos) - q.part

/-- Unread items in all benches (R435). -/
def Port.unread (p : Port) : Nat := ((List.range 4).map (fun b => (p.bench.get b).unread)).foldl (· + ·) 0

/-- Set a latch of HIF_IRQ_STAT (R415). -/
def setIrq (n : Nat) (s : State) : State :=
  { s with port := { s.port with irqStat := s.port.irqStat ||| u32 (2 ^ n) } }

/-- Change one bench. -/
def benchUpd (b : Nat) (f : Bench → Bench) (s : State) : State :=
  { s with port := { s.port with bench := s.port.bench.upd b f } }

/-- The state "UNREAD ≥ W" is evaluated: a rise sets the WMARK latch (R435). -/
def evalWmark (s : State) : State :=
  let above := s.port.wmark != 0 && decide (s.port.wmark ≤ s.port.unread)
  let t : State := { s with port := { s.port with wmAbove := above } }
  if above && !s.port.wmAbove then setIrq 5 t else t

/-- The mark becomes invalid because a packet of bench b at or after it is discarded; what REWIND_LOST will name (R430). -/
def loseMark (b : Nat) (q : Bench) (p : Port) : Port :=
  if p.markValid then
    let seq := match q.store[q.mark]? with
      | some (.packet k) => k.seq
      | some (.overflow _ n) => n
      | none => q.next
    { p with markValid := false, markLost := some (b, seq) }
  else p

/-- Discard the oldest read entry of bench b (R432, first choice). -/
def dropRead (b : Nat) (p : Port) : Port :=
  let q := p.bench.get b
  match q.store with
  | [] => p
  | e :: r =>
    let p := if q.mark = 0 then loseMark b q p else p
    let q' := { q with store := r, rpos := q.rpos - 1, mark := q.mark - 1, spoil := min (q.spoil + e.items) 0xFFFFFFFF }
    { p with bench := p.bench.set b q' }

/-- The index of the oldest unread packet that may be discarded: not the one being read, and no OVERFLOW item. -/
def firstUnread (q : Bench) : Option Nat :=
  let i := if q.part = 0 then q.rpos else q.rpos + 1
  ((List.range q.store.length).drop i).find? (fun j => match q.store[j]? with | some (.packet _) => true | _ => false)

/-- Replace the entry at index j by an OVERFLOW item, merged into one that stands before or behind it in the run (R432). -/
def overflowAt (l : List QEntry) (j : Nat) (seq : U32) : List QEntry :=
  let pre := l.take j
  let post := l.drop (j + 1)
  let (n, post) := match post with
    | .overflow c _ :: r => (min (c + 1) 65535, r)
    | r => (1, r)
  match pre.getLast? with
  | some (.overflow c q) => pre.dropLast ++ .overflow (min (c + n) 65535) q :: post
  | _ => pre ++ .overflow n seq :: post

/-- Discard the oldest unread packet of bench b (R432, second choice). -/
def dropUnread (b : Nat) (p : Port) : Port :=
  let q := p.bench.get b
  match firstUnread q with
  | none => p
  | some j =>
    match q.store[j]? with
    | some (.packet k) =>
      let p := if q.mark ≤ j then loseMark b q p else p
      let q' := { q with store := overflowAt q.store j k.seq, spoil := min (q.spoil + k.count) 0xFFFFFFFF }
      { p with irqStat := p.irqStat ||| u32 (2 ^ 6), bench := p.bench.set b q' }
    | _ => p

/-- Free room for n items on bench 2 or 3 (R432), with a bound on the discards. -/
def makeRoom (b n : Nat) : Nat → Port → Port
  | 0, p => p
  | fuel + 1, p =>
    let q := p.bench.get b
    if itemsOf q.store + n ≤ benchCap b then p
    else if q.rpos > 0 then makeRoom b n fuel (dropRead b p)
    else makeRoom b n fuel (dropUnread b p)

/-- The image of a journal record in its slot (R360): a header of two words, the payload in whole words, and COMMIT, which is 0 until
phase 2. CRC is taken over all words but COMMIT, with its own field at 0. -/
def journalImage (seq : U32) (typ chain target : Nat) (payload : List Byte) (commit : Bool) : Img :=
  let n := (payload.length + 7) / 8 + 3
  let x := seq.toNat + typ * 2 ^ 32 + n * 2 ^ 40 + chain * 2 ^ 46 + target * 2 ^ 64 + leNat payload * 2 ^ 128
  let y := x + crc32 (leBytes (8 * (n - 1)) x) * 2 ^ 96
  if commit then y + ((~~~seq).toNat + 0xA5A55A5A * 2 ^ 32) * 2 ^ (64 * (n - 1)) else y

/-- A record is written in the slot that its SEQ gives: slots are used in order (R363). -/
def ringWrite (typ chain target : Nat) (payload : List Byte) (commit : Bool) (s : State) : State :=
  { s with nv := { s.nv with
    ring := s.nv.ring.set (s.nv.seq.toNat % 4096) (some (journalImage s.nv.seq typ chain target payload commit))
    bytesWritten := s.nv.bytesWritten + 8 * ((payload.length + 7) / 8 + 4) } }

/-- Phase 2 of the record ends: its SEQ is the last committed one (R361). -/
def ringCommit (typ chain target : Nat) (payload : List Byte) (s : State) : State :=
  let s := ringWrite typ chain target payload true s
  { s with nv := { s.nv with lastSeq := s.nv.seq, seq := s.nv.seq + 1 } }

/-- TARGET of a record that stands for no stored object (notes/assumptions/29.md). -/
def ownTarget (s : State) (typ : JType) : Nat := (Config.journalTarget 0 typ.code s.nv.seq.toNat).toNat

/-- The payload of a SEQ_RESERVE record: the bench and its new limit (notes/assumptions/29.md). -/
def reservePayload (b : Nat) (limit : U32) : List Byte := leBytes 4 b ++ leBytes 4 limit.toNat

/-- The limit of a bench that a SEQ_RESERVE record raises (R367). -/
def raisedLimit (q : Bench) : U32 := if cycLater q.limit q.next then q.limit + 65536 else q.next + 65536

/-- A SEQ_RESERVE record that is committed before a bench's packet (R367): the count past the old limit has served. A chain in progress
starts again behind it, since the records of a chain have consecutive SEQ (R362). -/
def reserveNow (b : Nat) (limit : U32) (s : State) : State :=
  let s := ringCommit 0x09 0 (ownTarget s .seqReserve) (reservePayload b limit) s
  { s with
    nv := { s.nv with chainDone := 0, passed := s.nv.passed.filter (· != b) }
    sn := { s.sn with past := s.sn.past.set b 0 } }

/-- A bench has no limit beyond its next number: it has never had one, or the number has reached it. -/
def needsLimit (q : Bench) : Bool := !q.reserved || decide (cycDiff q.next q.limit ≥ 0)

/-- While the store accepts writes, the limit is raised before a number at or beyond it is issued (R367). -/
def reserveFor (b : Nat) (s : State) : State :=
  let q := s.port.bench.get b
  if needsLimit q && !s.fenced then
    let l := if cycLater q.limit q.next then q.limit else q.next + 65536
    benchUpd b (fun q => { q with reserved := true, limit := l }) (reserveNow b l s)
  else s

/-- The sequence number of bench b is taken (R419), and a reservation is asked for when the limit comes near (R367). A
number at or past the limit on a fenced store is counted in the power record; so is one of a bench that has no reservation. -/
def takeSeq (b : Nat) (s : State) : State :=
  let s := reserveFor b s
  let q := s.port.bench.get b
  let next := q.next + 1
  let past_ := s.fenced && needsLimit q
  let near := decide (cycDiff q.limit next ≤ 32768) && !q.reserving && !s.fenced
  let s := benchUpd b (fun q => { q with next := next, reserving := q.reserving || near }) s
  let s : State := if past_ then { s with sn := { s.sn with past := s.sn.past.upd b (· + 1) } } else s
  if near then
    { s with nv := { s.nv with queue := s.nv.queue ++ [{ typ := .seqReserve, arg := b }] } }
  else s

/-- A packet enters the storage of bench b, which has room, and becomes readable (R415, R425). -/
def storePacket (b : Nat) (p : Packet) (s : State) : State :=
  let s := benchUpd b (fun q => { q with store := q.store ++ [.packet p], written := sat32 q.written }) s
  evalWmark (setIrq (if b = 0 then 2 else if b = 1 then 3 else 4) s)

/-- Bench b has room for n more items. -/
def hasRoom (b n : Nat) (s : State) : Bool := decide (itemsOf (s.port.bench.get b).store + n ≤ benchCap b)

/-- A packet of bench 2 or 3 is written; the bench overwrites (R432). -/
def writeOver (b typ detail : Nat) (body : List U64) (s : State) : State :=
  let seq := (s.port.bench.get b).next
  let s := takeSeq b s
  let s : State := { s with port := makeRoom b (body.length + 1) (2 * (s.port.bench.get b).store.length + 1) s.port }
  storePacket b { typ := typ, detail := detail, seq := seq, body := body } s

/-- A packet of bench 0 or 1 is written, waits in the backlog, or is counted and discarded (R431). -/
def writeKeep (b typ detail : Nat) (body : List U64) (s : State) : State :=
  let q := s.port.bench.get b
  if q.backlog.isEmpty && hasRoom b (body.length + 1) s then
    storePacket b { typ := typ, detail := detail, seq := q.next, body := body } (takeSeq b s)
  else if q.backlog.length < 256 then
    let s := benchUpd b (fun q =>
      { q with backlog := q.backlog ++ [{ typ := typ, detail := detail, seq := q.next, body := body }] }) s
    let s := takeSeq b s
    if q.backlog.isEmpty then
      -- the first entry into an empty backlog (R431): ALARM_BACKLOG on bench 2
      writeOver 2 0x05 b (stamp s :: pack [ef 2 1]) (setIrq 7 s)
    else s
  else
    benchUpd b (fun q => { q with
      lost := Tab.upd q.lost typ sat32,
      spoil := min (q.spoil + (body.length + 1)) 0xFFFFFFFF }) s

/-- Write a packet to a bench. In RECOVERY mode the event queue stays empty (R476); in STANDBY and OFF there is none (R387). -/
def writePacket (b typ detail : Nat) (body : List U64) (s : State) : State :=
  if s.sys.recovery || s.sys.power == .standby || s.sys.power == .off then s
  else if b ≤ 1 then writeKeep b typ detail body s else writeOver b typ detail body s

/-- Raise an event: a packet with the stamp and the fields of its "Carries" column (R418 to R421). -/
def raise (b typ : Nat) (fields : List EvF) (s : State) : State :=
  writePacket b typ 0 (stamp s :: (pack fields).take 30) s

/-- The pairs of BACKLOG_LOST in packets of up to 30 (R431). -/
def lostPackets : Nat → List (Nat × Nat) → List (List U64)
  | 0, _ => []
  | fuel + 1, l =>
    if l.isEmpty then []
    else (l.take 30).map (fun p => BitVec.ofNat 64 (p.1 % 256 + min p.2 0xFFFFFFFF * 2 ^ 32)) :: lostPackets fuel (l.drop 30)

/-- Move packets from the backlog of bench b into freed storage, in order; when it is empty, write what was lost (R431). -/
def drainBacklog (b : Nat) : Nat → State → State
  | 0, s => s
  | fuel + 1, s =>
    let q := s.port.bench.get b
    match q.backlog with
    | p :: r =>
      if hasRoom b p.count s then
        drainBacklog b fuel (storePacket b p (benchUpd b (fun q => { q with backlog := r }) s))
      else s
    | [] =>
      if q.lost.isEmpty then s
      else
        let s := benchUpd b (fun q => { q with lost := [] }) s
        (lostPackets 9 q.lost).foldl (fun s body => writeKeep b 0x06 b (stamp s :: body) s) s

/-- The PN of a POINT_COV packet (R420: item 2, low half), if it is one. -/
def covPn (p : Packet) : Option Nat :=
  if p.typ = 0x33 then (p.body[1]?).map (fun x => x.toNat % 2 ^ 32) else none

/-- The place of a POINT_COV of the point that is unread and not being read. -/
def covUnread (q : Bench) (pn : Nat) : Option Nat :=
  let i := if q.part = 0 then q.rpos else q.rpos + 1
  ((List.range q.store.length).drop i).find? (fun j =>
    match q.store[j]? with | some (.packet p) => covPn p == some pn | _ => false)

/-- The replacement of a packet's stamp and payload in place (R433). -/
def recoalesce (body : List U64) : QEntry → QEntry
  | .packet p => .packet { p with body := body, detail := sat16 p.detail }
  | .overflow c q => .overflow c q

/-- A POINT_COV, coalesced with one of the same point that is unread and not being read (R433). -/
def raiseCov (pn : Nat) (fields : List EvF) (s : State) : State :=
  let body := stamp s :: pack fields
  match liveBit s Kind.evq 0 30, covUnread (s.port.bench.get 3) pn with
  | true, some j =>
    benchUpd 3 (fun q => { q with
      spoil := min (q.spoil + body.length) 0xFFFFFFFF
      store := q.store.modify j (recoalesce body) }) s
  | _, _ => writePacket 3 0x33 0 body s

/-- One fragment of a forwarded frame (R423). -/
def fwdBody (s : State) (link kind typ src dst idx cnt : Nat) (frag : List Byte) : List U64 :=
  let item2 := BitVec.ofNat 64 (link % 256 + kind * 2 ^ 8 + typ % 256 * 2 ^ 16 + src % 256 * 2 ^ 24 + dst % 256 * 2 ^ 32
    + idx % 256 * 2 ^ 40 + cnt % 256 * 2 ^ 48)
  stamp s :: item2 :: pack (frag.map (fun b => (1, b.toNat)))

/-- The fragments of at most 232 bytes of a frame. -/
def fragments : Nat → List Byte → List (List Byte)
  | 0, _ => []
  | fuel + 1, f => if f.length ≤ 232 then [f] else f.take 232 :: fragments fuel (f.drop 232)

/-- A frame forwarded to the host in FWD_FRAME packets with consecutive SEQs (R423); DETAIL is the frame's length. -/
def forwardFrame (link kind typ src dst : Nat) (frame : List Byte) (s : State) : State :=
  let fr := fragments (frame.length + 1) frame
  (fr.zipIdx).foldl (fun s f =>
    writePacket 3 0x04 frame.length (fwdBody s link kind typ src dst f.2 fr.length f.1) s) s

/-! ## The journal (R360 to R372) -/

/-- Ring slots of an image of n bytes: 29 payload words a record (R362). -/
def jslots (n : Nat) : Nat := max 1 ((n + 231) / 232)

/-- Submit a record or chain. A fenced store keeps no record of a command; one of the device's own waits for the fence to
lift (notes/assumptions/14.md). -/
def submit (j : JRec) (s : State) : State := { s with nv := { s.nv with queue := s.nv.queue ++ [j] } }

/-- The result of a command's body: an answer, or what it waits for. -/
inductive Res where
  | done (status : Nat) (detail : Nat) (resp : List Byte)
  | wait (w : Wait)
  deriving DecidableEq, Repr

/-- A completion with OK. -/
def Res.ok (resp : List Byte) : Res := .done 0 0 resp
/-- A refusal. -/
def Res.no (status detail : Nat) : Res := .done status detail []

/-! The status codes (R458). -/
namespace St
def ok : Nat := 0
def accepted : Nat := 0x0001
def badOpcode : Nat := 0x0100
def badLevel : Nat := 0x0101
def badLen : Nat := 0x0102
def badCrc : Nat := 0x0103
def tagBusy : Nat := 0x0104
def cfgConflict : Nat := 0x0200
def range : Nat := 0x0201
def notEligible : Nat := 0x0202
def busy : Nat := 0x0300
def noResource : Nat := 0x0301
def bankConflict : Nat := 0x0302
def role : Nat := 0x0400
def auth : Nat := 0x0500
def notPending : Nat := 0x0600
def priorityReserved : Nat := 0x0610
def notCommandable : Nat := 0x0611
def quarantined : Nat := 0x0612
def format : Nat := 0x0613
def notWritable : Nat := 0x0614
def linkDown : Nat := 0x0620
def mdioTimeout : Nat := 0x0621
def frame : Nat := 0x0622
def notField : Nat := 0x0630
def notBound : Nat := 0x0631
def fieldError : Nat := 0x0632
def fieldTimeout : Nat := 0x0633
def loopCost : Nat := 0x0640
def badProgram : Nat := 0x0641
def laneState : Nat := 0x0642
def modeState : Nat := 0x0650
def ffpDisabled : Nat := 0x0651
def channelLatched : Nat := 0x0660
def bankActive : Nat := 0x0661
def badCode : Nat := 0x0670
def codeInUse : Nat := 0x0671
def entryInvalid : Nat := 0x0672
def jigActive : Nat := 0x0680
def injDropped : Nat := 0x0681
def regionState : Nat := 0x06B0
def noTable : Nat := 0x06B1
def linkNotUp : Nat := 0x06C0
def mirrorNotCurrent : Nat := 0x06C1
def bondTimeout : Nat := 0x06C2
def imageInvalid : Nat := 0x06D0
def rollback : Nat := 0x06D1
def slotActive : Nat := 0x06D2
def fenced : Nat := 0x06D3
def staleEpoch : Nat := 0x06E0
def noSession : Nat := 0x06F0
def genChanged : Nat := 0x06F1
def notTimed : Nat := 0x06F2
end St

/-- The bytes of a record's new image in the journal: whole words. A record that becomes unwritten takes one word. -/
def CfgWrite.size (w : CfgWrite) : Nat :=
  match w.image with
  | none => 8
  | some x => if w.kind = Kind.latch then 48 else if w.kind = Kind.inputs || w.kind = Kind.scribe then 8 else storedBytes w.kind x - 16

/-- The journal slots of a list of writes: each object has records of its own, because a record has one TARGET; the new generation
goes into the first one (R360, R459; notes/assumptions/29.md). -/
def writesSlots (adv : Bool) : List CfgWrite → Nat
  | [] => 1
  | w :: r => r.foldl (fun n w => n + jslots w.size) (jslots (w.size + if adv then 8 else 0))

/-- A command journals its new records (R361, R459): refused while the store is fenced or where the images do not fit the
configuration region (R359); otherwise it waits for the commit. `adv` is whether the generation advances, `arg` a number that the
commit uses. -/
def journalArg (org : Origin) (adv : Bool) (arg : Nat) (ws : List CfgWrite) (resp : List Byte) (s : State) : State × Res :=
  if s.fenced then (s, .no St.fenced 0)
  else if cfgUsed (applyWrites s.nv.cfg ws) s.ses.staged > 0x400000 then (s, .no St.noResource 0)
  else
    (submit { typ := .config, slots := writesSlots adv ws, writes := ws, gen := if adv then some none else none, org := some org,
              resp := resp, arg := arg } s, .wait .journal)

/-- `journalArg` without a number. -/
def journal (org : Origin) (adv : Bool) (ws : List CfgWrite) (resp : List Byte) (s : State) : State × Res :=
  journalArg org adv 0 ws resp s

/-- One record written. -/
def wr (k : Kind) (i : Nat) (x : Img) : CfgWrite := { kind := k, idx := i, image := some x }

/-! ## Completion of commands (R442, R448) -/

/-- The device writes a completion into a slot: the payload, header bytes 5 to 15, then HIF_DONE (R442, R445). -/
def completeSlot (n status detail : Nat) (resp : List Byte) (late : Bool) (s : State) : State :=
  let m := s.mb.slot.get n
  let m : MSlot := { m with
    byte5 := u8 (1 + 2 * bit late), status := u16 status, detail := u16 detail, len := u16 resp.length,
    crc := u32 (crc32 resp), body := resp ++ m.body.drop resp.length }
  let s : State := { s with
    mb := { s.mb with slot := s.mb.slot.set n m, lateDone := if late then sat32 s.mb.lateDone else s.mb.lateDone }
    port := { s.port with done := s.port.done ||| u16 (2 ^ n) } }
  setIrq 1 s

/-- TIMED_DONE of a timed command (R56, R61): its handle, its status and DETAIL. -/
def timedDone (handle status detail : Nat) (s : State) : State :=
  raise 3 0x27 [ef 2 handle, ef 2 status, ef 2 detail] s

/-- A command completes: its outstanding entry ends and its answer goes to where it came from. -/
def complete (org : Origin) (status detail : Nat) (resp : List Byte) (s : State) : State :=
  let late := (s.mb.outst.find? (fun o => o.org == org)).any (·.late)
  let s : State := { s with mb := { s.mb with outst := s.mb.outst.filter (fun o => o.org != org) } }
  match org with
  | .slot n => completeSlot n status detail resp late s
  | .timed h => timedDone h status detail s

/-- The outstanding commands that wait for w complete. -/
def completeWait (w : Wait) (status detail : Nat) (resp : List Byte) (s : State) : State :=
  (s.mb.outst.filter (fun o => o.wait == w)).foldl (fun s o => complete o.org status detail resp s) s

/-- Everything that waits on a condition of its wait completes alike. -/
def completeWhere (p : Wait → Bool) (status detail : Nat) (resp : List Byte) (s : State) : State :=
  (s.mb.outst.filter (fun o => p o.wait)).foldl (fun s o => complete o.org status detail resp s) s

/-- A command waits for w. -/
def setWait (org : Origin) (w : Wait) (s : State) : State :=
  { s with mb := { s.mb with outst := s.mb.outst.map (fun o => if o.org == org then { o with wait := w } else o) } }

/-! ## Checks of a card (R443, R454, R455) -/

/-- The lowest offset among the checks that fail: the first field of the request that is out of range (R443). -/
def firstBad (cs : List (Bool × Nat)) : Option Nat := ((cs.filter (fun c => !c.1)).map (·.2)).min?

/-- A card's RANGE checks (R443); reserved bytes are among them (R13). -/
def ranged (cs : List (Bool × Nat)) (s : State) (k : Unit → State × Res) : State × Res :=
  match firstBad cs with
  | some d => (s, .no St.range d)
  | none => k ()

/-- n bytes of a request from offset o on are 0: reserved (R13), each byte with its own offset. -/
def zero (p : List Byte) (o n : Nat) : List (Bool × Nat) := (List.range n).map (fun i => (le p (o + i) 1 == 0, o + i))

/-- The check of a record in the payload against its field map. -/
def mapped (fs : List Field) (base : Nat) (x : Img) : List (Bool × Nat) := fs.map (fun f => (f.ok x, base + f.lo / 8))

/-- The two claimant records of CFG_CONFLICT, the present owner first (R455). -/
def claimants (okind oidx nkind nidx : Nat) : List Byte :=
  leBytes 4 oidx ++ leBytes 1 okind ++ leBytes 3 0 ++ leBytes 4 nidx ++ leBytes 1 nkind ++ leBytes 3 0

/-- CFG_CONFLICT with the kinds of the two claimants as DETAIL (R455). -/
def conflict (okind oidx nkind nidx : Nat) : Res :=
  .done St.cfgConflict (okind + nkind * 256) (claimants okind oidx nkind nidx)

/-- Every area is NORMAL (R28, R110, R140, R464). -/
def allNormal (s : State) : Bool := s.ls.area.all (fun e => e.2.mode == 0)

/-- A free value is taken: the count that the next one is applied to (notes/assumptions/5.md). -/
def takeFree (s : State) : Nat × State := (s.sys.free, { s with sys := { s.sys with free := s.sys.free + 1 } })

/-- Committed records of some kinds that wait for this instant take effect. -/
def takeDue (kinds : List Kind) (s : State) : State :=
  let (now, later) := s.nv.due.partition (fun e => kinds.contains e.1)
  now.foldl (fun s e => takeEffect e.1 e.2 s) { s with nv := { s.nv with due := later } }

/-- A field of an image slot's header (R368). As delivered a slot holds the vendor's release (notes/assumptions/8.md). -/
def headFld (m : ImgSlot) (lo w : Nat) : Nat :=
  if m.written then fld (leNat (m.mem.getMany 0 256)) lo w
  else if lo = 0 then 0x42583936 else if lo = 72 then 3 else if lo = 74 then 2 else 0

/-- Image slot A (0) or B (R367). -/
def imgSlot (s : State) (n : Nat) : ImgSlot := if n = 0 then s.nv.slotA else s.nv.slotB

/-- IL_MAX of the running image (R413): 0 in RECOVERY mode. -/
def ilMax (s : State) : Nat := if s.sys.recovery then 0 else headFld (imgSlot s s.nv.running) 72 2

/-- A record of a mirror class has changed in the cycle in progress (R331); without an up link nothing is kept, because the
link's next rise brings a resync (R334). -/
def markDirty (cls idx : Nat) (s : State) : State :=
  if s.pr.link == .up && s.duty && !s.pr.dirty.contains (cls, idx) then
    { s with pr := { s.pr with dirty := s.pr.dirty ++ [(cls, idx)] } }
  else s

/-- An `if` on states, for chains of effects. -/
def when (c : Bool) (f : State → State) (s : State) : State := if c then f s else s

/-- The effects of a list of items, in order. -/
def forAll {α : Type} (l : List α) (f : α → State → State) (s : State) : State := l.foldl (fun s x => f x s) s

/-- The indexes 0 to n − 1, in order. -/
def forRange (n : Nat) (f : Nat → State → State) (s : State) : State := forAll (List.range n) f s

end Sys2Proof.Machine
end

