-- ==== Sys2Proof/Machine/Operands.lean ====
section
/-!
DEFINITION. The point store (03_point_store.md): the fields of a point, the raw values that sources land, their conversion
into a point's format (R64, R65, R71), updates with their stamps, alarms and COV reports (R66, R81 to R85, R509), landings
and output bindings (R69 to R72), and the priority array of a local commandable point (R73 to R75).
-/

namespace Sys2Proof.Machine

open Sys2Proof

/-! ## The configuration fields of a point (R62) -/

def ptFld (s : State) (pn lo w : Nat) : Nat := liveFld s Kind.point pn lo w
def ptBit (s : State) (pn lo : Nat) : Bool := liveBit s Kind.point pn lo
/-- FORMAT: 0 REAL, 1 BOOL, 2 ENUM, 3 U32. -/
def ptFormat (s : State) (pn : Nat) : Nat := ptFld s pn 40 2
def ptConfigured (s : State) (pn : Nat) : Bool := ptBit s pn 42
def ptCommandable (s : State) (pn : Nat) : Bool := ptBit s pn 43
def ptRemote (s : State) (pn : Nat) : Bool := ptBit s pn 44
def ptKind (s : State) (pn : Nat) : Nat := ptFld s pn 96 4
def ptArray (s : State) (pn : Nat) : Nat := ptFld s pn 100 14
def ptDv (s : State) (pn : Nat) : Nat := ptFld s pn 116 12
def ptRef (s : State) (pn : Nat) : Nat := ptFld s pn 128 32
def ptZone (s : State) (pn : Nat) : Nat := ptFld s pn 224 12
/-- A commandable point that owns a priority array (R73). -/
def ptLocalCmd (s : State) (pn : Nat) : Bool := ptConfigured s pn && ptCommandable s pn && !ptRemote s pn

/-- The run-time fields of a point. -/
def State.point (s : State) (pn : Nat) : Point := s.pts.pt.get pn

/-- A point as an engine reads it: VALUE 0 with FAULT while it is quarantined (R86). -/
def State.ptView (s : State) (pn : Nat) : Point :=
  let p := s.point pn
  if p.quarantined then { p with value := 0, fault := true } else p

/-- The status flags, bits [39:32] of the record as bits [7:0] (R62). -/
def Point.flagBits (p : Point) : Nat :=
  bit p.inAlarm + 2 * bit p.fault + 4 * bit p.overridden + 8 * bit p.oos + 16 * bit p.stale + 32 * bit p.suspect
    + 64 * bit p.mirrored

/-- Bits [47:32] of the record: the flags and bits [47:40] of the configuration (R62, R87). -/
def ptWord (s : State) (pn : Nat) (p : Point) : Nat := p.flagBits + 256 * ptFld s pn 40 8

/-! ## Formats (R64, R65, R71) -/

/-- A 32-bit value fits a format (R64). -/
def fitsFormat (fmt : Nat) (v : U32) : Bool :=
  match fmt with
  | 0 => !isNaN v
  | 1 => v.toNat ≤ 1
  | 2 => v.toNat ≤ 0xFFFF
  | _ => true

/-- A REAL kept finite: ±∞ becomes the largest finite single of its sign (R65). -/
def finiteReal (x : Real32) : Real32 := if isInf x then (if x.toNat ≥ 2 ^ 31 then 0xFF7FFFFF else 0x7F7FFFFF) else x

/-- The conversion of a REAL into a point's format (R65); a NaN is never converted. -/
def convReal (fmt : Nat) (x : Real32) : Option U32 :=
  if isNaN x then none
  else match fmt with
    | 0 => some (finiteReal x)
    | 1 => some (u32 (bit (isTrue x)))
    | 2 => some (u32 (fclampNat x 0xFFFF))
    | _ => some (u32 (fclampNat x 0xFFFFFFFF))

/-- VALUE of a point as a REAL: an integer is taken as the single nearest to it (R71, R146). -/
def valueReal (fmt : Nat) (v : U32) : Real32 := if fmt = 0 then v else realOfNat v.toNat

/-- A raw value that a source lands, or that a field device gives. -/
inductive Raw where
  | real (x : Real32)
  | enum (n : Nat)
  | bool (b : Bool)
  deriving DecidableEq, Repr

/-- A raw value as a REAL (R71). -/
def Raw.toReal : Raw → Real32
  | .real x => x
  | .enum n => realOfNat n
  | .bool b => ofTruth b

/-- The value a landing gives a point (R71): none for a NaN, and whether a REAL result overflowed. -/
def landValue (fmt : Nat) (scale offset : Real32) (raw : Raw) : Option (U32 × Bool) :=
  match fmt, raw with
  | 0, _ =>
    let x := fadd (fmul raw.toReal scale) offset
    if isNaN x then none else some (finiteReal x, isInf x)
  | 1, .bool b => some (u32 (bit b), false)
  | 2, .enum n => some (u32 (min n 0xFFFF), false)
  | _, _ => (convReal fmt raw.toReal).map (fun v => (v, false))

/-! ## Updates, alarms and COV (R66, R81 to R85, R509) -/

/-- An integer compared with a REAL limit. -/
def cmpVal (fmt : Nat) (v : U32) (lim : Real32) : Option Ordering :=
  if fmt = 0 then fcmp v lim
  else match Fl.ofBits lim with
    | .nan => none
    | .inf n => some (if n then .gt else .lt)
    | .fin t n f =>
      let e0 := min f 0
      some (compare (Fl.scaled false v.toNat 0 e0) (Fl.scaled t n f e0))

/-- The alarm condition (R83) and the limit crossed. R85 gives the limit no code; DESIGN CHOICE (notes/assumptions/15.md): 0 the high
limit or the alarm value, 1 the low limit. -/
def alarmCond (fmt : Nat) (lim : Img) (v : U32) : Option Nat :=
  let hiEn := flag lim 112
  let loEn := flag lim 113
  if fmt = 1 ∨ fmt = 2 then (if hiEn && v.toNat == fld lim 0 16 then some 0 else none)
  else if hiEn && cmpVal fmt v (u32 (fld lim 0 32)) == some .gt then some 0
  else if loEn && cmpVal fmt v (u32 (fld lim 32 32)) == some .lt then some 1
  else none

/-- The return to normal; a limit that is not enabled does not hold it up (R83; notes/assumptions/15.md). -/
def normalCond (fmt : Nat) (lim : Img) (v : U32) : Bool :=
  let hiEn := flag lim 112
  let loEn := flag lim 113
  let db := u32 (fld lim 64 32)
  if fmt = 1 ∨ fmt = 2 then !(hiEn && v.toNat == fld lim 0 16)
  else
    (!hiEn || (match cmpVal fmt v (fsub (u32 (fld lim 0 32)) db) with | some .lt | some .eq => true | _ => false))
    && (!loEn || (match cmpVal fmt v (fadd (u32 (fld lim 32 32)) db) with | some .gt | some .eq => true | _ => false))

/-- One evaluation of a point's alarm (R83): the point after it, and the event it raises: IN_ALARM and the limit. -/
def alarmEval (s : State) (pn : Nat) (p : Point) : Point × Option (Bool × Nat) :=
  if !ptBit s pn 47 || p.stale || p.fault || p.oos then ({ p with almHold := none, nrmHold := none }, none)
  else
    let lim := liveImg s Kind.alarm (ptFld s pn 240 12)
    let fmt := ptFormat s pn
    let delay : Int := fld lim 96 16 * 65536
    if p.inAlarm then
      if normalCond fmt lim p.value then
        let t := p.nrmHold.getD s.now
        if delay ≤ s.now.diff t then ({ p with inAlarm := false, almHold := none, nrmHold := none }, some (false, 0))
        else ({ p with almHold := none, nrmHold := some t }, none)
      else ({ p with almHold := none, nrmHold := none }, none)
    else
      match alarmCond fmt lim p.value with
      | some l =>
        let t := p.almHold.getD s.now
        if delay ≤ s.now.diff t then ({ p with inAlarm := true, almHold := none, nrmHold := none }, some (true, l))
        else ({ p with almHold := some t, nrmHold := none }, none)
      | none => ({ p with almHold := none, nrmHold := none }, none)

/-- The event of an alarm evaluation (R85). -/
def alarmEvent (pn : Nat) (v : U32) (ev : Option (Bool × Nat)) (s : State) : State :=
  match ev with
  | some (true, l) => raise 1 0x30 [ef 4 pn, ef 4 v.toNat, ef 1 l] s
  | some (false, _) => raise 1 0x31 [ef 4 pn, ef 4 v.toNat] s
  | none => s

/-- The bits of R81 whose change is reported: IN_ALARM, FAULT, OVERRIDDEN, OUT_OF_SERVICE. -/
def Point.covFlags (p : Point) : Nat := p.flagBits % 16

/-- An update is due for a report (R81): an increment of 0 reports a changed VALUE, any other the distance from COV_REF. -/
def covDue (s : State) (pn : Nat) (o p : Point) : Bool :=
  let inc := u32 (ptFld s pn 160 32)
  let changed := o.value != p.value
  if o.covFlags != p.covFlags then true
  else match ptFormat s pn with
    | 0 => if inc.toNat % 2 ^ 31 = 0 then changed else fle inc (fabs (fsub p.value p.covRef))
    | 3 => if inc = 0 then changed else decide (inc.toNat ≤ ((p.value.toNat : Int) - (p.covRef.toNat : Int)).natAbs)
    | _ => changed

/-- The COV report of an update, when one is due (R81, R85). -/
def covReport (pn : Nat) (o : Point) (s : State) : State :=
  let p := s.point pn
  if ptBit s pn 46 && covDue s pn o p then
    let s : State := { s with pts := { s.pts with pt := s.pts.pt.upd pn (fun p => { p with covRef := p.value }) } }
    raiseCov pn [ef 4 pn, ef 4 p.value.toNat, ef 2 (ptWord s pn p)] s
  else s

/-- Why FAULT sets: the cause and the detail of POINT_FAULT (R85). -/
structure FaultWhy where
  cause : Nat := 0
  detail : Nat := 0
  deriving DecidableEq, Repr, Inhabited

/-- An event that may update a point (R509): a change of VALUE or of a flag stamps it and starts the evaluations of R81 and
R83. `quiet` is R84: no POINT_COV and no POINT_FAULT. -/
def updatePoint (pn : Nat) (quiet : Bool) (why : FaultWhy) (f : Point → Point) (s : State) : State :=
  let o := s.point pn
  let n := f o
  if o.value = n.value ∧ o.flagBits = n.flagBits then { s with pts := { s.pts with pt := s.pts.pt.set pn n } }
  else
    let n := { n with updC := s.now.c, updA := s.now.a }
    let (n, ev) := alarmEval s pn n
    let s : State := { s with pts := { s.pts with pt := s.pts.pt.set pn n } }
    let s := when (n.fault && !o.fault && !quiet)
      (raise 2 0x32 [ef 4 pn, ef 1 why.cause, ef 4 why.detail]) s
    let s := alarmEvent pn n.value ev s
    if quiet then s else covReport pn o s

/-- The alarm evaluation of a cycle boundary (R83). -/
def boundaryAlarm (pn : Nat) (s : State) : State :=
  let o := s.point pn
  let (n, ev) := alarmEval s pn o
  let n := if ev.isSome then { n with updC := s.now.c, updA := s.now.a } else n
  let s : State := { s with pts := { s.pts with pt := s.pts.pt.set pn n } }
  if ev.isSome then covReport pn o (alarmEvent pn n.value ev s) else s

/-- A flag changes outside the events of R509 (R66): it stamps, and reports nothing here. -/
def flagPoint (pn : Nat) (f : Point → Point) (s : State) : State :=
  let o := s.point pn
  let n := f o
  let n := if o.flagBits = n.flagBits then n else { n with updC := s.now.c, updA := s.now.a }
  { s with pts := { s.pts with pt := s.pts.pt.set pn n } }

/-- A point turns STALE and keeps its VALUE (R66). -/
def stalePoint (pn : Nat) (s : State) : State := flagPoint pn (fun p => { p with stale := true }) s

/-! ## Bindings (R69 to R72) -/

/-- A binding is in use: the point it names is configured, is a LOCAL_IN (input) or LOCAL_OUT (output) point and names it
(R69). -/
def bindingInUse (s : State) (b : Nat) : Bool :=
  let pn := liveFld s Kind.binding b 16 17
  let out := liveBit s Kind.binding b 33
  ptConfigured s pn && ptKind s pn == (if out then 2 else 1) && ptRef s pn == b

/-- The bindings in use of a source (input) or a sink (output), in ascending index. -/
def bindingsOf (s : State) (src : Nat) (out : Bool) : List Nat :=
  (s.live.filter (fun e => e.1 / 0x40000 == Kind.binding)).filterMap (fun e =>
    let b := e.1 % 0x40000
    if liveFld s Kind.binding b 0 16 == src && liveBit s Kind.binding b 33 == out && bindingInUse s b then some b else none)

/-- The conditions of R72 on a landing: FAULT with its detail, SUSPECT. -/
structure LandCond where
  fault : Option Nat := none
  suspect : Bool := false
  deriving DecidableEq, Repr, Inhabited

/-- A raw value lands in the point of a binding (R66, R71, R72). -/
def landBinding (raw : Raw) (c : LandCond) (b : Nat) (s : State) : State :=
  let pn := liveFld s Kind.binding b 16 17
  let p := s.point pn
  if p.quarantined then s
  else if p.oos then { s with pts := { s.pts with pt := s.pts.pt.upd pn (fun p => { p with missed := 0 }) } }
  else
    let scale := u32 (liveFld s Kind.binding b 64 32)
    let offset := u32 (liveFld s Kind.binding b 96 32)
    match landValue (ptFormat s pn) scale offset raw with
    | none => updatePoint pn false { cause := 0, detail := c.fault.getD 6 }
        (fun p => { p with fault := true, stale := false, suspect := c.suspect, missed := 0 }) s
    | some (v, clipped) => updatePoint pn false { cause := 0, detail := c.fault.getD 5 }
        (fun p => { p with value := v, fault := clipped || c.fault.isSome, stale := false, suspect := c.suspect, missed := 0 }) s

/-- A source lands in every point bound to it (R70). -/
def landSource (src : Nat) (raw : Raw) (c : LandCond) (s : State) : State := forAll (bindingsOf s src false) (landBinding raw c) s

/-- A source misses a landing instant: its points turn STALE at the second in a row (R66, R72). -/
def missSource (src : Nat) (s : State) : State :=
  forAll (bindingsOf s src false) (fun b s =>
    let pn := liveFld s Kind.binding b 16 17
    let m := min ((s.point pn).missed + 1) 2
    flagPoint pn (fun p => { p with missed := m, stale := p.stale || m == 2 }) s) s

/-- What an output binding hands its sink at the sink's update instant (R71). -/
inductive SinkVal where
  /-- No binding in use names the sink. -/
  | unbound
  /-- The sink keeps its last value: OUT_OF_SERVICE, a NaN, or a quarantined record. -/
  | hold
  | val (x : Real32)
  deriving DecidableEq, Repr

/-- VALUE × SCALE + OFFSET of the point bound to a sink (R71). -/
def sinkVal (s : State) (src : Nat) : SinkVal :=
  match bindingsOf s src true with
  | [] => .unbound
  | b :: _ =>
    let pn := liveFld s Kind.binding b 16 17
    let p := s.point pn
    if p.oos || p.quarantined then .hold
    else
      let x := fadd (fmul (valueReal (ptFormat s pn) p.value) (u32 (liveFld s Kind.binding b 64 32)))
        (u32 (liveFld s Kind.binding b 96 32))
      if isNaN x then .hold else .val x

/-- The point bound to a sink. -/
def sinkPoint (s : State) (src : Nat) : Option Nat :=
  ((bindingsOf s src true).head?).map (fun b => liveFld s Kind.binding b 16 17)

/-- x clamped to lo..hi; infinities clamp to the ends. -/
def clampReal (lo hi x : Real32) : Real32 := if flt x lo then lo else if flt hi x then hi else x

/-! ## The priority array (R73 to R75) -/

/-- The writer classes of R73 and R74. -/
inductive WClass where
  | loop | network | host | key | cascade
  deriving DecidableEq, Repr

def WClass.code : WClass → Nat
  | .loop => 0 | .network => 1 | .host => 2 | .key => 3 | .cascade => 4

/-- A WRITER tag (R73): class in [2:0], identity in [16:3]. -/
def writerTag (c : WClass) (ident : Nat) : Nat := c.code + 8 * (ident % 2 ^ 14)

/-- The lowest priority whose slot holds a value (R75). -/
def activePri (a : PArray) : Nat := (((List.range 17).drop 1).find? (fun p => a.notNull.get p)).getD 0

/-- The relinquish default of an array, in force. -/
def relinqDefault (s : State) (pa : Nat) : U32 := u32 (liveImg s Kind.relinq pa)

/-- A quarantined priority array is not used until it is rewritten (R32). -/
def arrayLost (s : State) (pn : Nat) : Bool := (s.pts.arr.get (ptArray s pn)).quarantined

/-- The present value of an array and its winning priority (R75). -/
def presentOf (s : State) (pa : Nat) : U32 × Nat :=
  let a := s.pts.arr.get pa
  let act := activePri a
  (if act = 0 then relinqDefault s pa else a.val.get act, act)

/-- The resolution of a local commandable point (R75); it counts as the point's landing, which clears FAULT (R66, R509). The stamp
follows R509 (notes/assumptions/16.md). A quarantined array has none. -/
def resolve (pn : Nat) (s : State) : State :=
  if arrayLost s pn then s else
  let pa := ptArray s pn
  let a := s.pts.arr.get pa
  let (present, act) := presentOf s pa
  let p := s.point pn
  let takes := !p.oos && present != p.value
  let a' := { a with active := act, chgC := if act ≠ a.active ∨ takes then s.now.c else a.chgC }
  let s : State := { s with pts := { s.pts with arr := s.pts.arr.set pa a' } }
  updatePoint pn false {} (fun p => { p with
    value := if takes then present else p.value
    fault := p.fault && (p.quarantined || p.oos)
    overridden := decide (act > 0) && a.writer.get act % 8 == WClass.key.code
    mirrored := if s.duty then false else p.mirrored }) s

/-- A coil channel bound to the point takes its changed value at the next eighth-cycle instant (R181). -/
def markEarly (pn : Nat) (s : State) : State :=
  forRange 24 (fun ch s =>
    if sinkPoint s (0xB000 + ch) == some pn then
      { s with cb := { s.cb with ch := s.cb.ch.upd ch (fun c => { c with early := true }) } }
    else s) s

/-- An accepted write or relinquish of a slot, then the resolution (R73, R75); the array is mirrored in class M3 when the point
says so, and key slots in class M6 (R330). A quarantined array takes none. -/
def slotWrite (pn pri tag : Nat) (null : Bool) (v : U32) (s : State) : State :=
  if arrayLost s pn then s else
  let pa := ptArray s pn
  let s : State := { s with pts := { s.pts with arr := s.pts.arr.upd pa (fun a => { a with
    val := a.val.set pri (if null then 0 else v)
    notNull := a.notNull.set pri (!null)
    writer := a.writer.set pri tag }) } }
  let s := when (ptBit s pn 45) (markDirty 3 pa) s
  let s := when (tag % 8 == WClass.key.code) (markDirty 6 (pn * 32 + pri)) s
  let before := (s.point pn).value
  let s := resolve pn s
  when (decide (pri ≤ 2) && (s.point pn).value != before) (markEarly pn) s

/-- A configured point starts as R510 gives: VALUE 0, its kind's STALE, every other status flag 0 but OUT_OF_SERVICE; a local
commandable point is then resolved, and one that is OUT_OF_SERVICE takes the present value all the same (notes/assumptions/16.md).
At a commit (R465) the change of VALUE or of a flag stamps it (R62, R66); a reset leaves the stamp at its reset value. -/
def startPoint (commit : Bool) (pn : Nat) (s : State) : State :=
  let p := s.point pn
  let k := ptKind s pn
  let stale := k == 1 || k == 3 || k == 4 || k == 5
  let q : Point := { (default : Point) with oos := p.oos, stale := stale }
  let q : Point := if p.oos && ptLocalCmd s pn && !arrayLost s pn then { q with value := (presentOf s (ptArray s pn)).1 } else q
  let changed := p.value != q.value || p.flagBits != q.flagBits
  let q : Point := if commit then { q with covRef := p.covRef, updC := p.updC, updA := p.updA } else q
  let q : Point := if commit && changed then { q with updC := s.now.c, updA := s.now.a } else q
  let s : State := { s with pts := { s.pts with pt := s.pts.pt.set pn q } }
  if ptLocalCmd s pn then resolve pn s else s

/-- A write that has no command to answer is refused: it is counted (R74). -/
def countRefused (s : State) : State := { s with pts := { s.pts with writeRefused := sat32 s.pts.writeRefused } }

/-- The configured zone whose member list names a point (R67), of the lowest index. -/
def zoneWith (zones : List (Nat × Img)) (member : Nat → Img) (pn : Nat) : Option Nat :=
  (zones.find? (fun z => flag z.2 6 &&
    (List.range (fld z.2 22 15)).any (fun i => fld (member (fld z.2 8 14 + i)) 0 17 == pn))).map (·.1)

/-! ## The image of a priority array (R73) -/

/-- The 128 bytes of a priority array. -/
def arrayImage (s : State) (pa : Nat) : Img :=
  let a := s.pts.arr.get pa
  let pris := (List.range 17).drop 1
  pris.foldl (fun x p => x + (a.val.get p).toNat * 2 ^ (32 * (p - 1)) + bit (a.notNull.get p) * 2 ^ (511 + p)
      + a.writer.get p % 2 ^ 24 * 2 ^ (576 + 24 * (p - 1))) 0
    + (relinqDefault s pa).toNat * 2 ^ 544 + a.chgC.toNat * 2 ^ 960 + a.active * 2 ^ 992

/-- The run-time fields of an array from its image (R76). -/
def arrayOfImage (x : Img) : PArray :=
  let pris := (List.range 17).drop 1
  { val := pris.foldl (fun t p => t.set p (u32 (fld x (32 * (p - 1)) 32))) []
    notNull := pris.foldl (fun t p => t.set p (flag x (511 + p))) []
    writer := pris.foldl (fun t p => t.set p (fld x (576 + 24 * (p - 1)) 24)) []
    chgC := u32 (fld x 960 32)
    active := fld x 992 5 }

/-- The image of a shadow record (R78). -/
def shadowImage (h : Shadow) : Img :=
  h.pn + h.pri * 2 ^ 17 + h.writer * 2 ^ 22 + bit h.relinq * 2 ^ 25 + bit h.valid * 2 ^ 26 + h.value.toNat * 2 ^ 32
    + h.at_.c.toNat * 2 ^ 64 + h.at_.a.toNat * 2 ^ 96

end Sys2Proof.Machine
end

