-- ==== Sys2Proof/Machine/Cal.lean ====
section
/-!
DEFINITION. The event calendar (02_mains_time.md R47 to R51): handles, insertion, cancelling, and the entries that are due.
Which free slot an insertion takes the manual leaves open (notes/assumptions/22.md).
-/

namespace Sys2Proof.Machine

open Sys2Proof

/-- Slots of the calendar (R47). -/
def calSlots : Nat := 4096

/-- The handle of an entry (R47). -/
def CalEntry.handle (e : CalEntry) : Nat := e.slot + 4096 * e.gen

/-- The generation that follows g in a slot: 0 to 15, in slot 4,095 0 to 14, so that no handle is 0xFFFF (R47). -/
def nextGen (slot g : Nat) : Nat := if slot = 4095 then (g + 1) % 15 else (g + 1) % 16

/-- The first free slot from the hint on. -/
def freeSlot (s : State) : Option Nat :=
  ((List.range calSlots).map (fun i => (i + s.cal.hint) % calSlots)).find? (fun n => !s.cal.entries.any (fun e => e.slot == n))

/-- Insert an entry: none when the calendar is full (R51); else its handle and the state. -/
def calInsert (key : CalKey) (job : CalJob) (s : State) : Option (Nat × State) :=
  match freeSlot s with
  | none => none
  | some n =>
    let e : CalEntry := { slot := n, gen := s.cal.gen.get n, key := key, ord := s.cal.ord, job := job }
    some (e.handle, { s with cal := { s.cal with
      entries := s.cal.entries ++ [e], gen := s.cal.gen.set n (nextGen n e.gen), hint := (n + 1) % calSlots, ord := s.cal.ord + 1 } })

/-- Take an entry out of the calendar. -/
def calRemove (e : CalEntry) (s : State) : State :=
  { s with cal := { s.cal with entries := s.cal.entries.filter (fun x => x.slot != e.slot) } }

/-- Change the job of the entry with a handle. -/
def calSetJob (handle : Nat) (job : CalJob) (s : State) : State :=
  { s with cal := { s.cal with entries := s.cal.entries.map (fun e => if e.handle = handle then { e with job := job } else e) } }

/-- The pending entry that a handle names (R47). -/
def calFind (s : State) (handle : Nat) : Option CalEntry := s.cal.entries.find? (fun e => e.handle == handle)

/-- An MT more than 2^30 cycles ahead (R50). -/
def tooFarAhead (s : State) (t : MT) : Bool := decide (2 ^ 30 * 65536 < t.diff s.now)

/-- The MT at which an MT-keyed entry dispatches: a coil event 256 AU before its start (R222). -/
def CalEntry.due (e : CalEntry) : Option MT :=
  match e.key with
  | .utc _ => none
  | .mt t => match e.job with
    | .coil _ => some { c := if t.a.toNat < 256 then t.c - 1 else t.c, a := t.a - 256 }
    | _ => some t

/-- The pending MT-keyed entry that dispatches first: the earliest, and of equal ones the first inserted (R48). -/
def earliest (l : List CalEntry) : Option (CalEntry × MT) :=
  l.foldl (fun best e =>
    match e.due with
    | none => best
    | some t => match best with
      | none => some (e, t)
      | some (b, u) => if t.diff u < 0 ∨ (t.diff u = 0 ∧ e.ord < b.ord) then some (e, t) else best) none

/-- The entry that dispatches next, if its MT is reached. -/
def dueEntry (s : State) : Option (CalEntry × MT) :=
  match earliest s.cal.entries with
  | some (e, t) => if t.diff s.now ≤ 0 then some (e, t) else none
  | none => none

/-- How late a dispatch for t is, and whether it is flagged LATE (R49). -/
def lateBy (s : State) (t : MT) : Int := s.now.diff t
def isLate (s : State) (t : MT) : Bool := decide (64 < lateBy s t)

end Sys2Proof.Machine
end

