-- ==== Sys2Proof/Machine/Mains.lean ====
section
/-!
DEFINITION. Mains Time (02_mains_time.md): the progress of MT and of the real-time clock, the tracker (R36 to R46, R57, R59), the
mains measurements (R35, R61), and the cards of Mains Time. A seam's boundary is in Boundary.lean.
-/

namespace Sys2Proof.Machine

open Sys2Proof

def mtUpd (f : Tracker → Tracker) (s : State) : State := { s with mt := f s.mt }

/-- MT_CFG in force (R58). -/
def mtSynthOnly (s : State) : Bool := liveFld s Kind.mt 0 0 2 == 1
def mtRef (s : State) : Nat := liveFld s Kind.mt 0 2 2
def mtPhaseEn (s : State) (i : Nat) : Bool := liveBit s Kind.mt 0 (5 + i)
def mtAmin (s : State) : Nat := liveFld s Kind.mt 0 8 8
def mtConfirm (s : State) : Nat := liveFld s Kind.mt 0 16 8

/-- SYNTH_ONLY is in force: the tracker ignores the ML inputs (R57). -/
def mlIgnored (s : State) : Bool := mtSynthOnly s && s.sys.restored

/-! ## The progress of time -/

/-- Of n AU of Mains Time, those that a slew covers (R44). -/
def slewed (n : Nat) (s : State) : Nat := min n s.mt.slew.natAbs

/-- The time of n AU of Mains Time, in units of 1/1,023 of 500 / f of 1/32,768 s. A slew gains or loses 2,048 AU per free-running
cycle: 33 AU of MT take the time of 32 where MT gains, 31 where it loses (R44). -/
def slewTime (n : Nat) (s : State) : Nat :=
  let k := slewed n s
  1023 * (n - k) + (if 0 < s.mt.slew then 992 else 1056) * k

/-- n AU of Mains Time pass on the real-time clock (R53): a free-running AU is 500 / f of 1/32,768 s at f mHz. -/
def passTime (n : Nat) (s : State) : State :=
  let f := max 1 s.mt.freq * 1023
  let x := s.rtc.frac + 500 * slewTime n s
  let k : Int := slewed n s
  mtUpd (fun m => { m with slew := if 0 < m.slew then m.slew - k else m.slew + k })
    { s with rtc := { s.rtc with frac := x % f, utc := s.rtc.utc + x / f, up := s.rtc.up + x / f } }

/-- A slew that removes the correction c (R44): it runs for 33 AU of MT for each AU gained, for 31 for each AU lost. -/
def slewOf (c : Int) : Int := if 0 < c then 33 * c else 31 * c

/-- The correction that the slew has still to make. -/
def slewLeft (s : State) : Int := if 0 < s.mt.slew then (s.mt.slew + 32) / 33 else -((30 - s.mt.slew) / 31)

/-- MT reaches an angle of the cycle in progress, where it has not passed it. -/
def reachAngle (a : U16) (s : State) : State :=
  if s.mt.started && s.now.a.toNat < a.toNat then
    mtUpd (fun m => { m with now := { m.now with a := a } }) (passTime (a.toNat - s.now.a.toNat) s)
  else s

/-- MT stands at the MT(0, 0) of its start, and that boundary has not come yet (R24, R38; notes/assumptions/37.md). -/
def atStart (s : State) : Bool := s.mt.first && s.now.c == 0 && s.now.a == 0

/-- MT reaches the next cycle boundary, which a boundary's arrival says: the first one is that of the instant at which MT starts. -/
def reachCycle (s : State) : State :=
  if atStart s then mtUpd (fun m => { m with first := false }) s
  else mtUpd (fun m => { m with first := false, now := { c := m.now.c + 1, a := 0 } }) (passTime (65536 - s.now.a.toNat) s)

/-- MT reaches the next half-cycle boundary at angle 32,768. -/
def reachHalf (s : State) : State :=
  if s.now.a.toNat < 32768 then reachAngle 32768 s
  else mtUpd (fun m => { m with now := { c := m.now.c + 1, a := 32768 } }) (passTime (98304 - s.now.a.toNat) s)

/-- One tick of the clock: MT gains one AU, but a boundary's instant waits for the boundary; before MT runs, real time alone
passes (notes/assumptions/1.md). -/
def tickTime (s : State) : State :=
  if !s.mt.started then (if s.sys.power == .off then s else passTime 1 s)
  else if !atStart s && s.now.a.toNat % 32768 < 32767 then reachAngle (s.now.a + 1) s else s

/-! ## The tracker (R36 to R38, R43 to R46, R57, R59) -/

/-- A frequency in mHz from a sum of n periods in units of 40 ns. -/
def freqOf (sum n : Nat) : Nat := if sum = 0 then 0 else (2 * 25000000000 * n + sum) / (2 * sum)

/-- A sum of periods. -/
def sumNat (l : List Nat) : Nat := l.foldl (· + ·) 0

/-- Mains events are raised only after configuration restore and under TRACK (R42). -/
def mainsEvent (typ : Nat) (f : List EvF) (s : State) : State :=
  if s.sys.restored && !mtSynthOnly s then raise 2 typ f s else s

/-- The amplitude and interval conditions of a valid crossing (R36): 1/70 s to 1/40 s on the 25 MHz crystal. -/
def validCrossing (s : State) (interval amp : Nat) : Bool :=
  decide (mtAmin s ≤ amp) && decide (357142 ≤ interval) && decide (interval ≤ 625000)

/-- A signed angle: AU from the nearest boundary of a cycle, −32,768 to 32,767. -/
def signedAngle (a : U16) : Int := signed 16 a.toNat

/-- The gate of LOCK: ±4,096 AU of the predicted crossing, which a slew or a pending seam shifts (R36, R44, R45). -/
def inGate (s : State) (a : U16) : Bool :=
  let expect : Int := -(slewLeft s + s.mt.seam.getD 0)
  let d := (signedAngle a - expect) % 65536
  decide (d ≤ 4096 ∨ 61440 ≤ d)

/-- A run is consistent: its last CONFIRM periods lie within 0.5 % of their mean (R37). -/
def consistent (s : State) (run : List Nat) : Bool :=
  let n := mtConfirm s
  let l := run.take n
  let sum := sumNat l
  decide (n ≤ run.length) && l.all (fun p => decide (((p * n : Int) - sum).natAbs * 200 ≤ sum))

/-- The correction c from the angle at the crossing (R43). -/
def relockC (a : U16) : Int :=
  let c : Int := (65536 - a.toNat) % 65536
  if c > 32768 then c - 65536 else c

/-- Re-lock (R43 to R45): slew or a pending seam, and MAINS_LOCK. -/
def relock (a : U16) (s : State) : State :=
  let c := relockC a
  let seam := decide (16384 < c.natAbs)
  let s := mtUpd (fun m => { m with
    state := .lock, slew := if seam then 0 else slewOf c, seam := if seam then some c else none, newRef := false, corr := false }) s
  mainsEvent 0x22 [efInt 4 c, ef 1 (bit seam), ef 4 s.mt.freq] s

/-- Mains Time starts at MT(0, 0) (R38, R40). A run in progress goes on: only what R38 names ends it. -/
def startMT (freq : Nat) (st : Track) (s : State) : State :=
  mtUpd (fun m => { m with started := true, now := {}, first := true, freq := freq, state := st }) s

/-- The mean frequency of the last CONFIRM periods of a run. -/
def runFreq (s : State) (run : List Nat) : Nat := let l := run.take (mtConfirm s); freqOf (sumNat l) l.length

/-- PHASE_ERR at an angle of MT, positive where MT lags as the correction of R43 is (notes/assumptions/26.md). -/
def phaseErrAt (a : U16) : Int := min 32767 (relockC a)

/-- What a valid crossing leaves for R35 and R38: its MT, its period among the last 8, and, once MT runs, its phase error. -/
def noteCrossing (interval : Nat) (a : U16) (s : State) : State :=
  mtUpd (fun m => { m with
    lastValid := m.now, last8 := (interval :: m.last8).take 8, phaseErr := if m.started then phaseErrAt a else m.phaseErr }) s

/-- What a change of the frequency from f to g moves MT by in a free-running cycle, in AU, rounded up (R37). -/
def freqShift (f g : Nat) : Nat := (65536 * (max f g - min f g) + f - 1) / max 1 f

/-- A frequency from f that moves MT by at most b AU per cycle, and lies in the lock range (R37). -/
def nearFreq (f b g : Nat) : Nat :=
  let d := f * b / 65536
  let h := max (f - d) (min (f + d) g)
  if 40000 ≤ h ∧ h ≤ 70000 then h else f

/-- A valid crossing in LOCK: phase and frequency are corrected, together by at most 2,048 AU per cycle (R37, R38). How the tracker
divides them is a free value within that limit; a slew or a pending seam leaves no room for a phase correction
(notes/assumptions/26.md). -/
def lockCrossing (interval : Nat) (a : U16) (s : State) : State :=
  let (n, s) := takeFree s
  if s.mt.slew ≠ 0 then s
  else
    let f := nearFreq s.mt.freq 2048 (Config.lockFreq s.mt.freq interval n)
    let b : Int := ((2048 - freqShift s.mt.freq f : Nat) : Int)
    let p := if s.mt.seam.isSome then 0 else max (-b) (min b (Config.lockPhase a.toNat n))
    mtUpd (fun m => { m with freq := f, slew := slewOf p, corr := p != 0 }) s

/-- The run of valid crossings with one more interval. -/
def longerRun (interval : Nat) (s : State) : List Nat := (interval :: s.mt.run).take 32

/-- A valid crossing in LOCK; the flag says that a pending seam happens at it. -/
def crossingInLock (interval : Nat) (a : U16) (s : State) : State × Bool :=
  if s.mt.newRef then (relock a (noteCrossing interval a s), false)
  else if !inGate s a then (mtUpd (fun m => { m with phaseHits := sat32 m.phaseHits }) s, false)
  else (lockCrossing interval a (noteCrossing interval a s), s.mt.seam.isSome)

/-- A valid crossing in ACQUIRE: a consistent run starts Mains Time in LOCK, at this crossing. -/
def crossingInAcquire (interval : Nat) (a : U16) (s : State) : State :=
  let run := longerRun interval s
  let s := noteCrossing interval a s
  if consistent s run then mtUpd (fun m => { m with run := [], lastValid := {} }) (startMT (runFreq s run) .lock s)
  else mtUpd (fun m => { m with run := run }) s

/-- A valid crossing in RIDE or SYNTH: a consistent run locks again. -/
def crossingInRide (interval : Nat) (a : U16) (s : State) : State :=
  let run := longerRun interval s
  let s := noteCrossing interval a s
  if consistent s run then relock a (mtUpd (fun m => { m with freq := runFreq s run, run := [], toNominal := false }) s)
  else mtUpd (fun m => { m with run := run }) s

/-- An invalid crossing breaks the run outside LOCK. -/
def crossingInvalid (s : State) : State := if s.mt.state == .lock then s else mtUpd (fun m => { m with run := [] }) s

/-- A crossing of the reference phase outside a seam (R38): phase, interval in units of 40 ns since the previous crossing of the
phase (0 for none), amplitude, and MT's angle. The flag says that a pending seam happens at this crossing. -/
def crossingStep (phase interval amp : Nat) (a : U16) (s : State) : State × Bool :=
  if phase ≠ mtRef s ∨ (mlIgnored s && s.mt.state == .synth) then (s, false)
  else
    let s := reachAngle a s
    if !validCrossing s interval amp then (crossingInvalid s, false)
    else match s.mt.state with
      | .lock => crossingInLock interval a s
      | .acquire => (crossingInAcquire interval a s, false)
      | _ => (crossingInRide interval a s, false)

/-- CROSSING_TIMEOUT: 1.5 nominal cycles without a valid crossing (R38, R45). -/
def crossingTimeoutRow (s : State) : State :=
  match s.mt.state with
  | .lock =>
    let f := if s.mt.last8.isEmpty then s.mt.freq else freqOf (sumNat s.mt.last8) s.mt.last8.length
    let s := mtUpd (fun m => { m with state := .ride, freq := f, slew := 0, seam := none, newRef := false, run := [] }) s
    mainsEvent 0x20 [efMT s.mt.lastValid, ef 4 f] s
  | _ => mtUpd (fun m => { m with run := [] }) s

/-- ACQUIRE_TIMEOUT: 700 ms after the start of the reset sequence (R38). Two valid crossings seen give a measured period, though a gap
may have ended their run since (notes/assumptions/26.md). -/
def acquireTimeoutRow (s : State) : State :=
  match s.mt.state with
  | .acquire =>
    if 2 ≤ s.mt.last8.length then startMT (freqOf (sumNat s.mt.last8) s.mt.last8.length) .ride s else startMT s.nomFreq .synth s
  | _ => s

/-- RIDE_TIMEOUT: 10 s in RIDE (R38). -/
def rideTimeoutRow (s : State) : State :=
  match s.mt.state with
  | .ride => mainsEvent 0x21 [ef 4 s.nomFreq] (mtUpd (fun m => { m with state := .synth, toNominal := true }) s)
  | _ => s

/-- MODE becomes SYNTH_ONLY (R38, R57). -/
def modeSynth (s : State) : State :=
  match s.mt.state with
  | .acquire => mtUpd (fun m => { m with run := [] }) (startMT s.nomFreq .synth s)
  | .synth => mtUpd (fun m => { m with run := [] }) s
  | _ => mtUpd (fun m => { m with state := .synth, run := [], slew := 0, seam := none, newRef := false, toNominal := true }) s

/-- A new or restored MT_CFG takes effect (R59). A change of REF_PHASE in LOCK ends a running slew and a pending seam: R38 makes no
phase correction until the first crossing of the new phase, and does not name them (notes/assumptions/26.md). -/
def mtTakesEffect (s : State) : State :=
  let oldRef := mtRef s
  let oldMode := mtSynthOnly s
  let s := takeEffect Kind.mt 0 s
  let s := if mtRef s = oldRef then s
    else if s.mt.state == .lock then mtUpd (fun m => { m with newRef := true, slew := 0, seam := none }) s
    else mtUpd (fun m => { m with run := [] }) s
  if mtSynthOnly s && !oldMode then modeSynth s else s

/-- The tracker's part of a cycle boundary (R38, R59): the rate that waited for the boundary, a new record. -/
def mtBoundary (s : State) : State :=
  let s := mtUpd (fun m => { m with
    freq := if m.toNominal || m.state == .synth then s.nomFreq else m.freq
    toNominal := false }) s
  if s.nv.due.contains (Kind.mt, 0) then
    mtTakesEffect { s with nv := { s.nv with due := s.nv.due.filter (fun e => e != (Kind.mt, 0)) } }
  else s

/-- The clock is latched with the cycle count (R53); timed commands that are in the calendar by now are those of this boundary (R54). -/
def latchUtc (s : State) : State :=
  { s with rtc := { s.rtc with corrC := s.now.c, corrUtc := s.rtc.utc }, cal := { s.cal with latched := s.cal.ord } }

/-! ## Measurements (R35, R61) -/

def measAmp (m : MainsMeas) (i : Nat) : Nat := if i = 0 then m.amp1 else if i = 1 then m.amp2 else m.amp3
def measRms (m : MainsMeas) (i : Nat) : Real32 := if i = 0 then m.rms1 else if i = 1 then m.rms2 else m.rms3

/-- A phase is present: enabled, and at or above AMIN. Where the ML inputs are ignored, none is (R57; notes/assumptions/26.md). -/
def phasePresent (s : State) (m : MainsMeas) (i : Nat) : Bool :=
  !mlIgnored s && mtPhaseEn s i && decide (mtAmin s ≤ measAmp m i)

/-- PHASE_LOSS and PHASE_OK of an enabled phase other than the reference, before restore too (R60, R61). In SYNTH_ONLY the tracker
ignores the ML inputs and raises neither (R57). -/
def phaseWatch (m : MainsMeas) (i : Nat) (s : State) : State :=
  let up := decide (mtAmin s ≤ measAmp m i)
  let s := mtUpd (fun t => { t with
    present_ := t.present_.set i (phasePresent s m i)
    below := t.below.set i (if up then 0 else min (t.below.get i + 1) 2)
    above := t.above.set i (if up then min (t.above.get i + 1) 2 else 0) }) s
  if mlIgnored s then mtUpd (fun t => { t with below := t.below.set i 0, above := t.above.set i 0 }) s
  else if !mtPhaseEn s i || i == mtRef s then mtUpd (fun t => { t with lost := t.lost.set i false }) s
  else if s.mt.below.get i = 2 ∧ !s.mt.lost.get i then
    raise 2 0x24 [ef 1 i] (mtUpd (fun t => { t with lost := t.lost.set i true }) s)
  else if s.mt.above.get i = 2 ∧ s.mt.lost.get i then
    raise 2 0x25 [ef 1 i] (mtUpd (fun t => { t with lost := t.lost.set i false }) s)
  else s

/-- A measurement lands; an unusable one lands its last value with FAULT (R35, R72). -/
def landMeas (item : Nat) (ok : Bool) (x : Real32) (s : State) : State :=
  let v := if ok then x else s.mt.meas.get item
  let s := mtUpd (fun t => { t with meas := t.meas.set item v, measBad := t.measBad.set item (!ok) }) s
  landSource (0x5000 + item) (.real v) { fault := if ok then none else some 4 } s

/-- The mains sources land at step 3 of R24 (R35). -/
def landMains (m : MainsMeas) (s : State) : State :=
  let s := forRange 3 (fun i s =>
    landMeas i (phasePresent s m i) (fmul (measRms m i) (fdiv (realOfNat (liveFld s Kind.mt 0 (64 + 16 * i) 16)) 0x41200000)) s) s
  let s := forAll [1, 2] (fun i s =>
    landMeas (3 + i) (phasePresent s m i) (if mtRef s = i then 0 else if i = 1 then m.ang2 else m.ang3) s) s
  let s := landSource 0x5003 (.real (fdiv (realOfNat s.mt.freq) 0x447A0000)) {} s
  landSource 0x5006 (.enum (match s.mt.state with | .acquire => 0 | .lock => 1 | .ride => 2 | .synth => 3)) {} s

/-! ## Cards (R60) -/

/-- MT_SET_CFG. -/
def cardMtSetCfg (org : Origin) (_lvl : Nat) (p : List Byte) (s : State) : State × Res :=
  let x := le p 0 16
  let old := cfgImg s Kind.mt 0
  ranged (mapped mtFields 0 x ++ [(flag x (5 + fld x 2 2), 0)]) s fun _ =>
    if (fld x 0 4 != fld old 0 4) && !allNormal s then (s, .no St.busy 0) else journal org true [wr Kind.mt 0 x] [] s

def Track.code : Track → Nat
  | .acquire => 0 | .lock => 1 | .ride => 2 | .synth => 3

/-- MT_GET_STATUS. -/
def cardMtStatus (_org : Origin) (_lvl : Nat) (_p : List Byte) (s : State) : State × Res :=
  let m := s.mt
  let flags := bit (m.slew != 0 && !m.corr) + 2 * bit m.seam.isSome + 4 * bit (m.present_.get 0) + 8 * bit (m.present_.get 1)
    + 16 * bit (m.present_.get 2)
  (s, .ok (leBytes 1 m.state.code ++ leBytes 1 flags ++ leBytes 2 0 ++ leBytes 4 m.now.c.toNat ++ leBytes 2 m.now.a.toNat ++
    leBytes 2 (m.phaseErr % 65536).toNat ++ leBytes 4 m.freq ++ leBytes 4 m.seamCount ++ leBytes 4 m.seamC.toNat ++
    leBytes 2 m.seamA.toNat ++ leBytes 2 s.cal.entries.length ++ leBytes 8 s.rtc.corrUtc ++ leBytes 4 s.rtc.corrC.toNat ++
    leBytes 4 m.lateCount ++ leBytes 4 m.timedStandby))

/-- MT_TIMED; `known` tells the opcodes that are assigned and may be embedded. -/
def cardMtTimed (known : Nat → Bool) (_org : Origin) (_lvl : Nat) (p : List Byte) (s : State) : State × Res :=
  let utc := le p 0 8
  let op := le p 12 2
  let body := p.drop 28
  if le p 18 2 ≠ body.length ∨ 980 < body.length then (s, .no St.badLen 0)
  else if le p 24 4 ≠ crc32 body then (s, .no St.badCrc 0)
  else if !known op then (s, .no St.badOpcode 0)
  else ranged ([(decide (utc ≤ s.rtc.utc + 400 * 86400 * 32768), 0)] ++ zero p 10 2) s fun _ =>
    match calInsert (.utc utc) (.timed (le p 8 2) op (le p 17 1) body) s with
    | some (h, s) => (s, .ok (leBytes 2 h))
    | none => (s, .no St.noResource 0)

/-- MT_CANCEL. -/
def cardMtCancel (_org : Origin) (_lvl : Nat) (p : List Byte) (s : State) : State × Res :=
  match calFind s (le p 0 2) with
  | some e => (calRemove e s, .ok [])
  | none => (s, .no St.notPending 0)

end Sys2Proof.Machine
end

