-- ==== Sys2Proof/Machine/Links.lean ====
section
/-!
DEFINITION. Field links (04_field_links.md): the transmit queues of R97, the MS/TP master node machine of Clause 9 with the
parameters of R100, the RTU client line of R104, the ports' ARP cache and transmission (R92, R97), and the fault counting of
R107. The Clause 9 machine itself is not in the manual; it is written from the standard (PRESUMED, notes/assumptions/17.md).
-/

namespace Sys2Proof.Machine

open Sys2Proof

/-- Links 0 to 7 are the trunks T0 to T7, 8 and 9 the ports E0 and E1 (R119, R423). -/
def isPort (l : Nat) : Bool := 8 ≤ l

def State.link (s : State) (l : Nat) : Link := s.links.link.get l

/-- Change one link. -/
def linkUpd (l : Nat) (f : Link → Link) (s : State) : State :=
  { s with links := { s.links with link := s.links.link.upd l f } }

/-! ## Fields of the records in force -/

def trunkMode (s : State) (t : Nat) : Nat := liveFld s Kind.trunk t 0 2
def trunkMac (s : State) (t : Nat) : Nat := liveFld s Kind.trunk t 16 7
def trunkMaxMaster (s : State) (t : Nat) : Nat := liveFld s Kind.trunk t 24 7
def trunkMaxInfo (s : State) (t : Nat) : Nat := liveFld s Kind.trunk t 32 8
def portEnabled (s : State) (p : Nat) : Bool := liveBit s Kind.eth p 0
/-- A MAC address as the record holds it: the first octet lowest (R111). -/
def portMac (s : State) (p : Nat) : Nat := liveFld s Kind.eth p 16 48
/-- An IPv4 address with its first octet highest (R111). -/
def portIp (s : State) (p : Nat) : Nat := liveFld s Kind.eth p 64 32
def portPrefix (s : State) (p : Nat) : Nat := liveFld s Kind.eth p 96 8
def portGateway (s : State) (p : Nat) : Nat := liveFld s Kind.eth p 128 32

/-- The network part of an address. -/
def netOf (ip pre : Nat) : Nat := ip / 2 ^ (32 - pre)

/-- The address that a frame is sent to on the wire: its own on the subnet, the gateway's off it (R95). -/
def nextHop (s : State) (p ip : Nat) : Nat :=
  if netOf ip (portPrefix s p) = netOf (portIp s p) (portPrefix s p) then ip else portGateway s p

/-- The device may transmit on its links: it has duty and its outputs are enabled (R105). -/
def linksActive (s : State) : Bool := s.duty && s.sys.outputs

/-! ## Bytes of frames and NPDUs -/

/-- A big-endian field of n bytes at offset o. -/
def be (f : List Byte) (o n : Nat) : Nat := ((f.drop o).take n).foldl (fun x b => x * 256 + b.toNat) 0

/-- Where the APDU of an NPDU lies: behind the version, the control byte, DNET, DLEN and DADR, SNET, SLEN and SADR, and the hop
count; none for a network-layer message or another version. -/
def apduOf (n : List Byte) : Option (List Byte) :=
  let ctl := be n 1 1
  if be n 0 1 ≠ 1 ∨ ctl.testBit 7 then none
  else
    let o := 2
    let o := if ctl.testBit 5 then o + 3 + be n (o + 2) 1 else o
    let o := if ctl.testBit 3 then o + 3 + be n (o + 2) 1 else o
    some (n.drop (if ctl.testBit 5 then o + 1 else o))

/-- The range of instances of an APDU that is a Who-Is; one without limits covers every instance. -/
def whoIsRange (a : List Byte) : Option (Nat × Nat) :=
  if be a 0 1 / 16 ≠ 1 ∨ be a 1 1 ≠ 8 then none
  else if a.length < 4 then some (0, 4194303)
  else
    let n := be a 2 1 % 8
    some (be a 3 n, be a (4 + n) (be a (3 + n) 1 % 8))

/-- The Who-Is that a frame of the device or of its host carries. -/
def frameWhoIs : Frame → Option (Nat × Nat)
  | .npdu (.bac _ _ (.whoIs lo hi)) => some (lo, hi)
  | .mstp typ _ data => if typ = 5 ∨ typ = 6 then (apduOf data).bind whoIsRange else none
  | .host b =>
    let u := b.drop 42
    if be b 12 2 = 0x0800 ∧ be b 23 1 = 17 ∧ be b 36 2 = 0xBAC0 then
      (apduOf (u.drop (if be u 1 1 = 4 then 10 else 4))).bind whoIsRange
    else none
  | _ => none

/-- A frame is sent on a link: a Who-Is is noted for 5 s (R124). -/
def noteSent (l : Nat) (f : Frame) (s : State) : State :=
  match frameWhoIs f with
  | some (lo, hi) => linkUpd l (fun k => { k with
      whoIs := (lo, hi, s.rtc.up) :: k.whoIs.filter (fun w => decide (s.rtc.up < w.2.2 + 5 * 32768)) }) s
  | none => s

/-- A Who-Is that covers an instance has been sent on the link within the preceding 5 s (R124). -/
def whoIsCovers (s : State) (l inst : Nat) : Bool :=
  (s.link l).whoIs.any (fun w => decide (w.1 ≤ inst ∧ inst ≤ w.2.1 ∧ s.rtc.up < w.2.2 + 5 * 32768))

/-! ## Queues (R97, R102) -/

/-- The request of PNT that a frame sends. -/
def frameReq (s : State) : Frame → Option PntReq
  | .pnt dv id _ => s.pnt.reqs.find? (fun r => r.dv == dv && r.id == some id)
  | _ => none

/-- The point that a frame writes. -/
def frameWrites (s : State) (f : Frame) : Option Nat :=
  (frameReq s f).bind (fun r => match r.kind with
    | .write pn _ _ _ => some pn
    | _ => none)

/-- The queue a frame of the device itself goes to: 1 for priority-1 and -2 writes, 2 for others. -/
def frameUrgent (s : State) (f : Frame) : Bool := (frameReq s f).any (·.urgent)

/-- Put a device frame into its transmit queue. A write of queue 1 takes earlier writes to its point out of queue 2 with it, so that
writes to one point leave in their order (R133; notes/assumptions/18.md). -/
def enqueue (l : Nat) (f : Frame) (s : State) : State :=
  if frameUrgent s f then
    let own (g : Frame) : Bool := (frameWrites s g).isSome && frameWrites s g == frameWrites s f
    linkUpd l (fun k => { k with
      qUrgent := k.qUrgent ++ k.qDevice.filter own ++ [f], qDevice := k.qDevice.filter (fun g => !own g) }) s
  else linkUpd l (fun k => { k with qDevice := k.qDevice ++ [f] }) s

/-- The next frame of the three queues (R97), the rest of the queues, and the count that keeps the host's share: in any 8
consecutive transmissions that find the host queue non-empty at least one is a host frame. -/
def nextFrame (k : Link) : Option (Frame × Link) :=
  let host (k : Link) : Option (Frame × Link) := match k.qHost with
    | f :: r => some (f, { k with qHost := r, noHost := 0 })
    | [] => none
  let count (k : Link) : Link := { k with noHost := if k.qHost.isEmpty then 0 else k.noHost + 1 }
  if k.noHost ≥ 7 ∧ ¬ k.qHost.isEmpty then host k
  else match k.qUrgent, k.qDevice with
    | f :: r, _ => some (f, count { k with qUrgent := r })
    | [], f :: r => some (f, count { k with qDevice := r })
    | [], [] => host k

/-- A frame starts on the wire of a trunk. -/
def onWire (t : Nat) (f : Frame) (s : State) : State := noteSent t f (linkUpd t (fun k => { k with wire := k.wire ++ [f] }) s)

/-- A port transmits its next frame (R97). A frame stays in its queue while the port may not transmit (R105). -/
def portSend (l : Nat) (s : State) : State :=
  let k := s.link l
  if linksActive s && (k.state == .up || k.state == .fault) then
    match nextFrame k with
    | some (f, k') => noteSent l f (linkUpd l (fun _ => { k' with wire := [f], tx := sat32 k'.tx }) s)
    | none => s
  else s

/-! ## Address resolution (R92) -/

/-- Record a mapping; the cache holds 512 entries and gives up its oldest. -/
def arpLearn (l ip mac : Nat) (s : State) : State :=
  linkUpd l (fun k =>
    let c := k.arp.filter (fun e => e.1 != ip)
    { k with arp := (if c.length ≥ 512 then c.drop 1 else c) ++ [(ip, mac)] }) s

/-- A frame to an IPv4 address: queued when its next hop is resolved, otherwise it waits while an ARP request is sent. -/
def sendIp (l ip : Nat) (f : Frame) (s : State) : State :=
  let hop := nextHop s (l - 8) ip
  let k := s.link l
  if k.arp.any (fun e => e.1 == hop) then enqueue l f s
  else
    let asked := k.arpWait.any (fun e => e.1 == hop)
    let s := linkUpd l (fun k => { k with arpWait := k.arpWait ++ [(hop, f)] }) s
    if asked then s else enqueue l (.arpReq hop) s

/-- Frames that waited for a resolved address are queued. -/
def arpResolved (l ip : Nat) (s : State) : State :=
  let w := (s.link l).arpWait
  let s := linkUpd l (fun k => { k with arpWait := w.filter (fun e => e.1 != ip) }) s
  forAll (w.filter (fun e => e.1 == ip)) (fun e s => enqueue l e.2 s) s

/-! ## The MS/TP master node machine (R100; Clause 9) -/

/-- A data frame expects a reply: it is the type 5 of R101. -/
def expectsReply : Frame → Bool
  | .pnt _ _ _ => true
  | .npdu (.bac _ _ (.subscribeCov _ _ _)) => true
  | .mstp typ _ _ => typ == 5
  | _ => false

/-- The station address after a, round to 0 behind MAX_MASTER. -/
def mstpNext (s : State) (t a : Nat) : Nat := (a + 1) % (trunkMaxMaster s t + 1)

/-- Send a Poll For Master to the poll station and wait for it. -/
def sendPfm (t ps : Nat) (s : State) : State :=
  onWire t (.mstp 1 ps []) (linkUpd t (fun k => { k with ps := ps, retries := 0, mstp := .pollForMaster }) s)

/-- Send the token to the next station and watch for its use. -/
def sendToken (t : Nat) (s : State) : State :=
  let ns := (s.link t).ns
  onWire t (.mstp 0 ns []) (linkUpd t (fun k => { k with retries := 0, mstp := .passToken }) s)

/-- The end of a token hold: pass the token, or poll for a new master every Npoll (50) tokens (Clause 9, DONE_WITH_TOKEN). A
sole master that has nothing to send spends its empty holds at once, and so comes to its maintenance poll. -/
def doneWithToken (t : Nat) (s : State) : State :=
  let k := s.link t
  let ts := trunkMac s t
  if !k.sole && k.ns == ts then sendPfm t (mstpNext s t ts) s
  else if !k.sole && k.tokens < 49 then sendToken t (linkUpd t (fun k => { k with tokens := k.tokens + 1 }) s)
  else if mstpNext s t k.ps ≠ k.ns then sendPfm t (mstpNext s t k.ps) s
  else if !k.sole then sendToken t (linkUpd t (fun k => { k with ps := ts, tokens := 1 }) s)
  else sendPfm t (mstpNext s t k.ns) (linkUpd t (fun k => { k with ns := ts, tokens := 1 }) s)

/-- The trunk uses the token it holds: up to MAX_INFO_FRAMES frames in the order of R97, then the token goes on (R102). One
frame at a time is on the wire. -/
def useToken (t : Nat) (s : State) : State :=
  let k := s.link t
  if k.mstp == .useToken && k.wire.isEmpty then
    let full := decide (k.frames ≥ trunkMaxInfo s t)
    -- a sole master goes on with a new hold, up to Npoll of them
    if full && !(k.sole && k.tokens < 49) then doneWithToken t s
    else match nextFrame k with
      | some (f, k') => onWire t f (linkUpd t (fun _ => { k' with
          frames := if full then 1 else k'.frames + 1, tokens := if full then k'.tokens + 1 else k'.tokens }) s)
      | none => doneWithToken t s
  else s

/-- The token arrives, or a sole master takes it again. -/
def takeToken (t : Nat) (s : State) : State := useToken t (linkUpd t (fun k => { k with mstp := .useToken, frames := 0 }) s)

/-- Clause 9 INITIALIZE, then IDLE (R106). -/
def mstpStart (t : Nat) (s : State) : State :=
  linkUpd t (fun k => { k with
    mstp := .idle, ns := trunkMac s t, ps := trunkMac s t, tokens := 50, sole := false, frames := 0, retries := 0 }) s

/-- The master is running on a trunk: MS/TP mode, transmitting allowed, not stopped by a duplicate address (R103, R105). -/
def mstpRuns (s : State) (t : Nat) : Bool :=
  let k := s.link t
  trunkMode s t == 1 && linksActive s && (k.state == .up || (k.state == .fault && k.cause != 4))

/-- A frame sent on MS/TP has ended: what the master does next. -/
def mstpSent (t : Nat) (f : Frame) (s : State) : State :=
  let k := s.link t
  if !mstpRuns s t then s
  else if k.mstp == .useToken then
    if expectsReply f then linkUpd t (fun k => { k with mstp := .waitForReply }) s else useToken t s
  else s

/-- A Token, Poll For Master or Reply To Poll For Master, or any frame seen by the master machine (Clause 9). -/
def mstpReceived (t : Nat) (typ src dst : Nat) (s : State) : State :=
  let k := s.link t
  let ts := trunkMac s t
  if !mstpRuns s t then s
  else match k.mstp with
    | .pollForMaster =>
      if typ = 2 ∧ dst = ts then
        sendToken t (linkUpd t (fun k => { k with sole := false, ns := src, ps := ts, tokens := 0 }) s)
      else linkUpd t (fun k => { k with mstp := .idle }) s
    | .waitForReply =>
      -- a reply or a Reply Postponed ends the wait; any other frame gives up the token (Clause 9)
      if dst = ts ∧ (typ = 6 ∨ typ = 7 ∨ typ = 4) then
        useToken t (linkUpd t (fun k => { k with mstp := .useToken }) s)
      else linkUpd t (fun k => { k with mstp := .idle }) s
    | .useToken => s
    | _ =>
      let s := linkUpd t (fun k => { k with mstp := .idle }) s
      if dst = ts ∧ typ = 0 then takeToken t (linkUpd t (fun k => { k with sole := false }) s)
      else if dst = ts ∧ typ = 1 then onWire t (.mstp 2 src []) s
      else s

/-- Tno_token and the slot time have passed in silence: the trunk generates a token (R100). -/
def mstpGenerate (t : Nat) (s : State) : State :=
  let k := s.link t
  if mstpRuns s t && (k.mstp == .idle || k.mstp == .noToken || k.mstp == .start) then
    sendPfm t (mstpNext s t (trunkMac s t)) (linkUpd t (fun k => { k with ns := trunkMac s t, tokens := 0 }) s)
  else s

/-- Treply_timeout without a reply: the hold ends (Clause 9, ReplyTimeout). -/
def mstpNoReply (t : Nat) (s : State) : State :=
  if mstpRuns s t && (s.link t).mstp == .waitForReply then
    doneWithToken t (linkUpd t (fun k => { k with mstp := .useToken, frames := trunkMaxInfo s t }) s)
  else s

/-- Tusage_timeout after a token pass: one retry, then a new successor is sought (R100, Nretry_token 1). -/
def mstpNoUse (t : Nat) (s : State) : State :=
  let k := s.link t
  if mstpRuns s t && k.mstp == .passToken then
    if k.retries < 1 then onWire t (.mstp 0 k.ns []) (linkUpd t (fun k => { k with retries := k.retries + 1 }) s)
    else sendPfm t (mstpNext s t k.ns) (linkUpd t (fun k => { k with ns := trunkMac s t, tokens := 0 }) s)
  else s

/-- Tslot without a reply to a Poll For Master (Clause 9, POLL_FOR_MASTER). -/
def mstpNoMaster (t : Nat) (s : State) : State :=
  let k := s.link t
  let ts := trunkMac s t
  if mstpRuns s t && k.mstp == .pollForMaster then
    if k.sole then takeToken t s
    else if k.ns ≠ ts then sendToken t s
    else if mstpNext s t k.ps ≠ ts then sendPfm t (mstpNext s t k.ps) s
    else takeToken t (linkUpd t (fun k => { k with sole := true }) s)
  else s

/-! ## The RTU client (R104, R138) -/

/-- The line is free and a request waits: it is sent, and its transaction is outstanding. -/
def rtuNext (t : Nat) (s : State) : State :=
  let k := s.link t
  if trunkMode s t == 2 && linksActive s && (k.state == .up || k.state == .fault) && k.rtu.isNone && !k.rtuWait
      && k.wire.isEmpty then
    match nextFrame k with
    | some (.pnt dv id p, k') =>
      onWire t (.pnt dv id p) (linkUpd t (fun _ => { k' with rtu := some (dv, id) }) s)
    | some (f, k') => onWire t f (linkUpd t (fun _ => k') s)
    | none => s
  else s

/-- A trunk with something in its queues goes on, as its mode allows. -/
def trunkKick (t : Nat) (s : State) : State :=
  if trunkMode s t == 1 then (if mstpRuns s t && (s.link t).mstp == .useToken then useToken t s else s)
  else rtuNext t s

/-! ## NPDUs of PNT that are no requests (R95, R118, R120) -/

/-- The subnet broadcast address of a port. -/
def portBroadcast (s : State) (p : Nat) : Nat :=
  let n := 2 ^ (32 - portPrefix s p)
  portIp s p / n * n + (n - 1)

/-- An NPDU to a station, or to an address behind a port. -/
def sendNpdu (l : Nat) (d : NetDest) (invoke : Nat) (a : Apdu) (s : State) : State :=
  let f : Frame := .npdu (.bac d invoke a)
  if isPort l then (if d.bvlc = 0x0B then enqueue l f s else sendIp l d.ip f s) else trunkKick l (enqueue l f s)

/-- A broadcast on a link. -/
def broadcastDest (s : State) (l : Nat) : NetDest :=
  if isPort l then { ip := portBroadcast s (l - 8), port := 0xBAC0, bvlc := 0x0B } else { station := 255 }

/-- A Who-Is is sent, at most 4 in a second on a link; others wait (R120). In FAULT the link takes probes only (R108). -/
def sendWhoIs (l lo hi : Nat) (s : State) : State :=
  let k := s.link l
  let n := if k.whoIsSec = s.secs then k.whoIsWin else 0
  if k.state != .up then s
  else if n < 4 then
    sendNpdu l (broadcastDest s l) 0 (.whoIs lo hi) (linkUpd l (fun k => { k with whoIsSec := s.secs, whoIsWin := n + 1 }) s)
  else if k.whoIsQ.contains (lo, hi) then s
  else linkUpd l (fun k => { k with whoIsQ := k.whoIsQ ++ [(lo, hi)] }) s

/-- The waiting Who-Is go when the second is over. -/
def drainWhoIs (l : Nat) (s : State) : State :=
  let q := (s.link l).whoIsQ
  if q.isEmpty then s
  else forAll q (fun r s => sendWhoIs l r.1 r.2 s) (linkUpd l (fun k => { k with whoIsQ := [] }) s)

/-! ## Counters -/

def linkRx (l : Nat) (s : State) : State := linkUpd l (fun k => { k with rx := sat32 k.rx, winRx := k.winRx + 1 }) s
def linkDrop (l : Nat) (s : State) : State := linkUpd l (fun k => { k with dropped := sat32 k.dropped }) s
def linkErr (l : Nat) (s : State) : State := linkUpd l (fun k => { k with errs := sat32 k.errs, winErr := k.winErr + 1 }) s

/-- A received frame goes to the host (R93, R94, R101): nothing on a device without duty (R105); on a port the frames of one
second are limited to FWD_RATE. -/
def linkForward (l kind typ src dst : Nat) (frame : List Byte) (s : State) : State :=
  if !s.duty then s
  else
    let k := s.link l
    let win := if k.fwdSec = s.secs then k.fwdWin else 0
    if isPort l ∧ liveFld s Kind.eth (l - 8) 208 16 ≤ win then
      linkUpd l (fun k => { k with fwdDropped := sat32 k.fwdDropped, fwdWin := win, fwdSec := s.secs }) s
    else
      forwardFrame l kind typ src dst frame
        (linkUpd l (fun k => { k with fwd := sat32 k.fwd, fwdWin := win + 1, fwdSec := s.secs }) s)

/-- The seconds a link has been in FAULT up to now, added to its counter (R113). -/
def endFault (l : Nat) (s : State) : State :=
  linkUpd l (fun k => { k with secsFault := min (k.secsFault + (s.rtc.up - k.secsFrom) / 32768) 0xFFFFFFFF, cause := 0 }) s

/-- Empty a link's transmit side, as leaving ACTIVE or a restart of the link does (R108). -/
def clearQueues (k : Link) : Link :=
  { k with
    qUrgent := [], qDevice := [], qHost := [], noHost := 0, wire := [], arpWait := [], rtu := none, rtuWait := false, rtuLate := none
    whoIsQ := []
    mstp := .start, echoBad := 0, rtuBad := 0, probeOk := false, garpDue := false }

end Sys2Proof.Machine
end

