-- ==== Sys2Proof/Machine/Pnt.lean ====
section
/-!
DEFINITION. Point acquisition and commanding (05_point_acquisition.md): the device table, requests and their identifiers,
dispatch to the links, shadows and remote writes (03_point_store.md R77 to R80), poll rounds, conversion of field values,
binding, restart, and the containment of a faulted link (04_field_links.md R108, R109).
-/

namespace Sys2Proof.Machine

open Sys2Proof

def State.dev (s : State) (dv : Nat) : Dev := s.pnt.dev.get dv

/-- What class M8 carries of an entry (R330): learned fields, STATE and RESTART_STAMP. -/
def Dev.mirrored (d : Dev) : Dev :=
  { (default : Dev) with state := d.state, rpmOff := d.rpmOff, rpmLimit := d.rpmLimit, station := d.station, ip := d.ip
                         udpPort := d.udpPort, dnet := d.dnet, dadr := d.dadr, dlen := d.dlen, maxApdu := d.maxApdu, seg := d.seg
                         inst := d.inst, link := d.link, restartStamp := d.restartStamp, stampKnown := d.stampKnown }

/-- Change one device-table entry. -/
def devUpd (dv : Nat) (f : Dev → Dev) (s : State) : State :=
  let d := s.pnt.dev.get dv
  when ((f d).mirrored != d.mirrored) (markDirty 8 dv) { s with pnt := { s.pnt with dev := s.pnt.dev.set dv (f d) } }

def devFld (s : State) (dv lo w : Nat) : Nat := liveFld s Kind.dev dv lo w
/-- KIND: 0 FREE, 1 BACNET, 2 MB_RTU, 3 MB_TCP (R119). -/
def devKind (s : State) (dv : Nat) : Nat := devFld s dv 0 2
def devStatic (s : State) (dv : Nat) : Bool := liveBit s Kind.dev dv 2
def devLink (s : State) (dv : Nat) : Nat := if (s.dev dv).state == .discovered then (s.dev dv).link else devFld s dv 4 4
def devRetries (s : State) (dv : Nat) : Nat := devFld s dv 240 4
def devInst (s : State) (dv : Nat) : Nat := if (s.dev dv).state == .discovered then (s.dev dv).inst else devFld s dv 24 22

/-- The configured points of a device, in ascending PN. -/
def devPoints (s : State) (dv : Nat) : List Nat :=
  (s.live.filter (fun e => e.1 / 0x40000 == Kind.point)).filterMap (fun e =>
    let pn := e.1 % 0x40000
    if ptConfigured s pn && (ptKind s pn == 3 || ptKind s pn == 4) && ptDv s pn == dv then some pn else none)

/-- The devices of a link in a state of the table. -/
def linkDevs (s : State) (l : Nat) (p : DevState → Bool) : List Nat :=
  (s.pnt.dev.filter (fun e => p e.2.state && devLink s e.1 == l)).map (·.1)

/-- The field devices bound to a link (R107, R114). -/
def boundDevs (s : State) (l : Nat) : List Nat := linkDevs s l (· == .bound)

/-- The poll class of a point: CMD_CLASS for a REMOTE point, POLL_CLASS otherwise (R132). -/
def ptClass (s : State) (pn : Nat) : Nat :=
  if ptRemote s pn then devFld s (ptDv s pn) 20 4 else devFld s (ptDv s pn) 16 4

/-! ## Requests, identifiers and dispatch (R117, R133, R136) -/

/-- A request expects to be seen again by its device and identifier. -/
def findReq (s : State) (dv id : Nat) : Option PntReq := s.pnt.reqs.find? (fun r => r.dv == dv && r.id == some id)

/-- Remove a request in flight. -/
def dropReq (dv id : Nat) (s : State) : State :=
  { s with pnt := { s.pnt with reqs := s.pnt.reqs.filter (fun r => !(r.dv == dv && r.id == some id)) } }

/-- Requests in flight to a device. -/
def inFlight (s : State) (dv : Nat) : List PntReq := s.pnt.reqs.filter (fun r => r.dv == dv && r.id.isSome)

/-- Requests in flight on a link. -/
def linkFlight (s : State) (l : Nat) : Nat := (s.pnt.reqs.filter (fun r => r.id.isSome && devLink s r.dv == l)).length

/-- How many identifiers a device has: 256 invoke IDs, or 65,536 transaction identifiers of a connection (R136). -/
def idSpace (s : State) (dv : Nat) : Nat := if devKind s dv = 3 then 65536 else 256

/-- The next identifier that is neither in flight nor quarantined (R136). -/
def freeId (s : State) (dv : Nat) : Option Nat :=
  let d := s.dev dv
  let n := idSpace s dv
  let used := (inFlight s dv).filterMap (·.id) ++ d.quarantine
  -- among one more candidates than there are used identifiers, one is free, if any is
  ((List.range (min n (used.length + 1))).map (fun i => (d.nextId + i) % n)).find? (fun i => !used.contains i)

/-- The point that a request writes. -/
def PntReq.writes (r : PntReq) : Option Nat := match r.kind with | .write pn _ _ _ => some pn | _ => none

/-- The point and the priority that a request writes. -/
def PntReq.slot (r : PntReq) : Option (Nat × Nat) := match r.kind with | .write pn pri _ _ => some (pn, pri) | _ => none

/-- A request is a probe. -/
def PntReq.probes (r : PntReq) : Bool := match r.kind with | .probe _ => true | _ => false

/-- A request may be sent, given the requests before it: its link is up (or takes probes only, in FAULT), its device is BOUND (but for
a probe or a cancellation, R123), and the device and the link have room: an urgent write takes the reserved slot (R108, R117, R133). A
write waits for one in flight to its slot, and for an earlier one to its point. -/
def mayDispatch (s : State) (before : List PntReq) (r : PntReq) : Bool :=
  let l := devLink s r.dv
  let st := (s.link l).state
  let out := inFlight s r.dv
  let fl := out.length
  let most := devFld s r.dv 244 4
  let budget := if isPort l then liveFld s Kind.pa 0 80 9 else liveFld s Kind.pa 0 64 8
  let anyState := match r.kind with | .probe _ | .cancel _ _ => true | _ => false
  let waits := (r.slot.isSome && out.any (fun q => q.slot == r.slot)) ||
    (r.writes.isSome && before.any (fun q => q.id.isNone && q.writes == r.writes))
  linksActive s && (st == .up || (st == .fault && r.probes)) && (anyState || (s.dev r.dv).state == .bound) && !waits
    && (if r.urgent then decide (fl < most + 1) else decide (fl < most + bit (out.any (·.urgent))) && decide (linkFlight s l < budget))

/-! ## What requests carry (R115 to R117, R122, R128, R130, R134) -/

/-- BACnet properties and the device object's type, as the standard numbers them (PRESUMED, notes/assumptions/17.md). -/
def propPresent : Nat := 85
def propSystemStatus : Nat := 112
def propRestartTime : Nat := 203
def deviceObject (inst : Nat) : Nat := 8 * 2 ^ 22 + inst

/-- Octets that an APDU to a device may take (R117). -/
def apduLimit (s : State) (dv : Nat) : Nat := min (s.dev dv).maxApdu (if isPort (devLink s dv) then 1476 else 480)

/-- Objects of a ReadPropertyMultiple: RPM_LIMIT, and what an APDU holds at 4 octets of header and 11 for each object with its two
properties, as the standard encodes them (R117; PRESUMED, notes/assumptions/17.md). -/
def rpmObjects (s : State) (dv : Nat) : Nat :=
  if (s.dev dv).rpmOff then 1 else max 1 (min (s.dev dv).rpmLimit ((apduLimit s dv - 4) / 11))

/-- The registers, or bits, that a Modbus point takes from its address on. -/
def mbWidth (ref : Nat) : Nat := let ty := (ref / 2 ^ 18) % 8; if ty = 2 ∨ ty = 3 ∨ ty = 4 then 2 else 1
def mbTable (ref : Nat) : Nat := (ref / 2 ^ 16) % 4
def mbAddr (ref : Nat) : Nat := ref % 65536
def mbType (ref : Nat) : Nat := (ref / 2 ^ 18) % 8

/-- The function code that reads a table (R116). -/
def mbReadFn (table : Nat) : Nat := match table with | 0 => 1 | 1 => 2 | 2 => 4 | _ => 3

/-- The Modbus read of some points of one table: from the lowest address to the end of the last point. -/
def mbRead (s : State) (pns : List Nat) : MbReq :=
  let refs := pns.map (ptRef s)
  let first := ((refs.map mbAddr).min?).getD 0
  let last := ((refs.map (fun r => mbAddr r + mbWidth r)).max?).getD 1
  { fn := mbReadFn (mbTable (refs.headD (3 * 65536))), addr := first, count := last - first }

/-- An integer clamped to lo..hi. -/
def clampInt (lo hi i : Int) : Int := max lo (min hi i)

/-- A value of a point's format rounded half away from zero and clamped to lo..hi (R134). -/
def valueInt (fmt : Nat) (v : U32) (lo hi : Int) : Int :=
  if fmt ≠ 0 then clampInt lo hi v.toNat
  else match Fl.ofBits v with
    | .inf n => if n then lo else hi
    | _ => clampInt lo hi ((froundAway v).getD 0)

/-- The bit or registers that a Modbus write carries (R134): the low word of a 32-bit type is first where SRC_REF says so. -/
def mbData (fmt ref : Nat) (v : U32) : List Nat :=
  let words (x : Nat) : List Nat := if ref.testBit 21 then [x % 65536, x / 65536] else [x / 65536, x % 65536]
  match mbType ref with
  | 0 => [(valueInt fmt v 0 65535).toNat]
  | 1 => [(valueInt fmt v (-32768) 32767 % 65536).toNat]
  | 2 => words (valueInt fmt v 0 4294967295).toNat
  | 3 => words (valueInt fmt v (-2147483648) 2147483647 % 4294967296).toNat
  | 4 => words (valueReal fmt v).toNat
  | _ => [bit (if fmt = 0 then isTrue v else v != 0)]

/-- The Modbus write of a point (R116). -/
def mbWrite (s : State) (pn : Nat) (v : U32) : MbReq :=
  let ref := ptRef s pn
  let multi := liveBit s Kind.dev (ptDv s pn) 13
  let d := mbData (ptFormat s pn) ref v
  { fn := if mbTable ref = 0 then (if multi then 15 else 5) else if multi || d.length == 2 then 16 else 6
    addr := mbAddr ref, count := d.length, data := d }

/-- The value that a WriteProperty gives Present_Value, by object type and format (R134); how a REAL becomes an integer there is that of
R65 (notes/assumptions/18.md). -/
def bacValue (fmt obj : Nat) (v : U32) : BacVal :=
  let typ := obj / 2 ^ 22
  let int := (valueInt fmt v 0 4294967295).toNat
  if typ ≤ 2 then .real (valueReal fmt v)
  else if typ ≤ 5 then .enum int
  else if typ = 13 ∨ typ = 14 ∨ typ = 19 then .unsigned int
  else match fmt with
    | 0 => .real v
    | 1 => .bool (v != 0)
    | _ => .unsigned v.toNat

/-- The point of a device with the lowest Modbus address, of the lowest table among equals. -/
def lowestPoint (s : State) (pns : List Nat) : Option Nat :=
  pns.foldl (fun b pn => match b with
    | none => some pn
    | some q =>
      let key (n : Nat) : Nat := mbAddr (ptRef s n) * 4 + mbTable (ptRef s n)
      if key pn < key q then some pn else b) none

/-- What a request carries. A Modbus probe of a device that no point names reads holding register 0 (notes/assumptions/18.md). -/
def bodyOf (s : State) (r : PntReq) : ReqBody :=
  let bacnet := devKind s r.dv == 1
  let reads (pns : List Nat) : ReqBody :=
    if !bacnet then .mb (mbRead s pns)
    else match pns with
      | [pn] => .bac (if (s.dev r.dv).rpmOff then .readProperty (ptRef s pn) propPresent else .readMultiple [ptRef s pn])
      | _ => .bac (.readMultiple (pns.map (ptRef s)))
  match r.kind with
  | .read pns _ => reads pns
  | .readNow pn _ => reads [pn]
  | .probe rt =>
    if bacnet then .bac (.readProperty (deviceObject (devInst s r.dv)) (if rt then propRestartTime else propSystemStatus))
    else .mb (mbRead s (lowestPoint s (devPoints s r.dv)).toList)
  | .write pn pri null v =>
    if !bacnet then .mb (mbWrite s pn v)
    else .bac (.writeProperty (ptRef s pn) (if null then .null else bacValue (ptFormat s pn) (ptRef s pn) v) pri)
  | .subscribe pn => .bac (.subscribeCov pn (ptRef s pn) (some (devFld s r.dv 14 2 == 2, devFld s r.dv 272 16)))
  | .cancel pid obj => .bac (.subscribeCov pid obj none)

/-- How a device is addressed (R95, R119). -/
def destOf (s : State) (dv : Nat) : NetDest :=
  let d := s.dev dv
  if isPort (devLink s dv) then { ip := d.ip, port := d.udpPort, dnet := d.dnet, dadr := d.dadr, dlen := d.dlen }
  else { station := d.station, srcPort := 0, bvlc := 0, dnet := d.dnet, dadr := d.dadr, dlen := d.dlen }

/-- The frame of a request. -/
def pduOf (s : State) (dv id : Nat) (b : ReqBody) : Pdu :=
  match b with
  | .bac a => .bac (destOf s dv) id a
  | .mb q => if isPort (devLink s dv) then .tcp (s.dev dv).station id q else .rtu (s.dev dv).station q

/-- The frame that sends a request in flight. -/
def reqFrame (s : State) (dv id : Nat) : Frame :=
  .pnt dv id (pduOf s dv id (match findReq s dv id with
    | some r => r.body.getD (bodyOf s r)
    | none => .bac .covAck))

/-! ## Dispatch -/

/-- The free connection of lowest index, if any (R96). -/
def freeConn (s : State) : Option Nat := (List.range 128).find? (fun i => !(s.links.conn.get i).used)

/-- The connection of a device. -/
def connOf (s : State) (dv : Nat) : Option Nat :=
  (List.range 128).find? (fun i => (s.links.conn.get i).used && (s.links.conn.get i).dv == dv)

/-- A connection to a device is opened: SYN (R96). -/
def openConn (i dv : Nat) (s : State) : State :=
  let l := devLink s dv
  let s : State := { s with links := { s.links with
    conn := s.links.conn.set i { used := true, port := l - 8, dv := dv }
    connWait := s.links.connWait.filter (· != dv) } }
  sendIp l (s.dev dv).ip (.tcp i (.syn 1460)) s

/-- A request with its identifier goes to its link (R95, R96, R102, R104). -/
def transmitReq (dv id : Nat) (s : State) : State :=
  let l := devLink s dv
  let d := s.dev dv
  let f := reqFrame s dv id
  if !isPort l then trunkKick l (enqueue l f s)
  else if devKind s dv = 3 then
    match connOf s dv with
    | some i => if (s.links.conn.get i).established then sendIp l d.ip f s else s
    | none =>
      match freeConn s with
      | some i => openConn i dv s
      | none =>
        if s.links.connWait.contains dv then s
        else { s with links := { s.links with connWait := s.links.connWait ++ [dv] } }
  else sendIp l d.ip f s

/-- Send the queued request at an index of the list, if it may go. -/
def dispatchAt (i : Nat) (s : State) : State :=
  match s.pnt.reqs[i]? with
  | some r =>
    if r.id.isNone && mayDispatch s (s.pnt.reqs.take i) r then
      match freeId s r.dv with
      | some id =>
        let s : State := { s with pnt := { s.pnt with reqs := s.pnt.reqs.set i { r with id := some id, body := some (r.body.getD (bodyOf s r)) } } }
        let s := devUpd r.dv (fun d => { d with nextId := (id + 1) % idSpace s r.dv, issued := max d.issued (id + 1) }) s
        transmitReq r.dv id s
      | none => s
    else s
  | none => s

/-- PNT sends what it may, in the order of its list (R125, R133). -/
def pump (s : State) : State := forRange s.pnt.reqs.length dispatchAt s

/-- Queue a request behind the others. -/
def queueReq (r : PntReq) (s : State) : State := { s with pnt := { s.pnt with reqs := s.pnt.reqs ++ [r] } }

/-- Queue a write (R133): a newer one replaces a waiting one of its slot, and takes its place in the order of arrival; an urgent one
goes to the head, behind urgent ones, and the waiting writes to its point go with it, because writes to one point leave in their
order (notes/assumptions/18.md). -/
def queueWrite (r : PntReq) (s : State) : State :=
  let q := s.pnt.reqs.filter (fun x => !(x.id.isNone && x.slot == r.slot))
  if !r.urgent then { s with pnt := { s.pnt with reqs := q ++ [r] } }
  else
    let own (x : PntReq) : Bool := x.id.isNone && !x.urgent && x.writes == r.writes
    let rest := q.filter (fun x => !own x)
    let k := (rest.takeWhile (fun x => x.id.isSome || x.urgent)).length
    { s with pnt := { s.pnt with reqs := rest.take k ++ q.filter own ++ r :: rest.drop k } }

/-- Identifiers of requests that are given up go to quarantine (R137). -/
def quarantineIds (dv : Nat) (ids : List Nat) (s : State) : State :=
  devUpd dv (fun d => { d with quarantine := d.quarantine ++ ids }) s

/-- A frame sends a request of a device. -/
def Frame.isOf (dv : Nat) : Frame → Bool
  | .pnt d _ _ => d == dv
  | _ => false

/-- Requests in flight to a device are abandoned: their identifiers go to quarantine, and what the transmit queues still hold of them
is taken out (R108, R120, R125, R137). Of queued ones, a PA_READ_NOW and a probe go too where the device `leaves` BOUND. A PA_READ_NOW
ends with FIELD_TIMEOUT (notes/assumptions/18.md). -/
def abandonReqs (dv : Nat) (leaves : Bool) (s : State) : State :=
  let goes (r : PntReq) : Bool := r.dv == dv &&
    (r.id.isSome || (leaves && (match r.kind with | .readNow _ _ | .probe _ => true | _ => false)))
  let gone := s.pnt.reqs.filter goes
  let s : State := { s with pnt := { s.pnt with reqs := s.pnt.reqs.filter (fun r => !goes r) } }
  let s := if devKind s dv = 2 then s else quarantineIds dv (gone.filterMap (·.id)) s
  let s := linkUpd (devLink s dv) (fun k => { k with
    rtu := if k.rtu.any (fun r => r.1 == dv) then none else k.rtu
    qUrgent := k.qUrgent.filter (fun f => !f.isOf dv), qDevice := k.qDevice.filter (fun f => !f.isOf dv)
    arpWait := k.arpWait.filter (fun e => !e.2.isOf dv) }) s
  forAll gone (fun r s => match r.kind with
    | .readNow _ org => complete org St.fieldTimeout 0 [] s
    | _ => s) s

/-! ## Shadows and remote writes (R77 to R80, R109, R123, R134) -/

/-- The index of the shadow of a point and priority. -/
def shadowOf (s : State) (pn pri : Nat) : Option Nat :=
  (s.pts.shadow.find? (fun e => e.2.valid && e.2.pn == pn && e.2.pri == pri)).map (·.1)

/-- The lowest free index of the shadow table. -/
def freeShadow (s : State) : Nat :=
  ((List.range (s.pts.shadow.length + 1)).find? (fun i => !(s.pts.shadow.get i).valid)).getD s.pts.shadow.length

/-- A shadow may be made: 8,192 in all, of which 1,024 are kept for priorities 1 and 2 (R79). -/
def shadowRoom (s : State) (pri : Nat) : Bool :=
  let used := (s.pts.shadow.filter (fun e => e.2.valid)).length
  if pri ≤ 2 then used < 8192
  else (s.pts.shadow.filter (fun e => e.2.valid && decide (e.2.pri > 2))).length < 7168 && decide (used < 8192)

/-- Record a write as the shadow of its point and priority; a null sets RELINQ on the shadow that is there; without room it is counted and reported at most once per cycle
(R78, R79). -/
def putShadow (pn pri cls : Nat) (null : Bool) (v : U32) (s : State) : State :=
  let h : Shadow := { pn := pn, pri := pri, writer := cls, relinq := null, valid := true, value := if null then 0 else v, at_ := s.now }
  match shadowOf s pn pri with
  | some i =>
    let h := if null then { h with value := (s.pts.shadow.get i).value } else h
    { s with pts := { s.pts with shadow := s.pts.shadow.set i h } }
  | none =>
    if shadowRoom s pri then { s with pts := { s.pts with shadow := s.pts.shadow.set (freeShadow s) h } }
    else
      let n := min (s.pts.unshSince + 1) 0xFFFFFFFF
      let s : State := { s with pts := { s.pts with unshadowed := sat32 s.pts.unshadowed, unshSince := n } }
      if s.pts.shadowFull = some s.now.c then s
      else raise 2 0x34 [ef 4 pn, ef 1 pri, ef 4 n]
        { s with pts := { s.pts with unshSince := 0, shadowFull := some s.now.c } }

/-- Free a shadow (R78). -/
def freeShadowOf (pn pri : Nat) (s : State) : State :=
  match shadowOf s pn pri with
  | some i => { s with pts := { s.pts with shadow := s.pts.shadow.set i {} } }
  | none => s

/-- The shadows of a point in ascending priority (R80). -/
def shadowsOf (s : State) (pn : Nat) : List Shadow :=
  ((List.range 17).drop 1).filterMap (fun p => (shadowOf s pn p).map (fun i => s.pts.shadow.get i))

/-- The lowest-numbered shadow of a point that is not a pending null (R134). -/
def bestShadow (s : State) (pn : Nat) : Option Shadow := (shadowsOf s pn).find? (fun h => !h.relinq)

/-- Hold a write for a link in FAULT: the latest for each point and priority, at most 1,024 (R109). -/
def holdWrite (l : Nat) (h : Held) (s : State) : State :=
  linkUpd l (fun k =>
    let same (x : Held) : Bool := x.pn == h.pn && x.pri == h.pri
    if k.held.any same then { k with held := k.held.filter (fun x => !same x) ++ [h] }
    else if k.held.length < 1024 then { k with held := k.held ++ [h] }
    else match k.held.findIdx? (fun x => x.pri > 2) with
      | some i => { k with held := k.held.eraseIdx i ++ [h], heldDropped := sat32 k.heldDropped }
      | none => { k with heldDropped := sat32 k.heldDropped }) s

/-- A write leaves for its device, is held for a faulted link, or stays in its shadow while the device is not BOUND (R109,
R123, R133). -/
def forwardWrite (pn pri cls : Nat) (null : Bool) (v : U32) (s : State) : State :=
  let dv := ptDv s pn
  let l := devLink s dv
  if (s.link l).state == .fault then holdWrite l { pn := pn, pri := pri, null := null, value := v, cls := cls } s
  else if (s.dev dv).state == .bound then
    pump (queueWrite { dv := dv, kind := .write pn pri null v, urgent := pri ≤ 2 } s)
  else s

/-- A write to a remote point (R77, R134): its shadow, and the value forwarded. A newer write ends the repetition of a failed
one (R135). -/
def remoteWrite (pn pri : Nat) (cls : WClass) (null : Bool) (v : U32) (s : State) : State :=
  let s : State := { s with pnt := { s.pnt with resend := s.pnt.resend.set (pn * 32 + pri) none } }
  if ptKind s pn = 4 then
    let before := bestShadow s pn
    if null then
      let s := freeShadowOf pn pri s
      if before.any (fun h => h.pri == pri) then
        match bestShadow s pn with
        | some h => forwardWrite pn h.pri h.writer false h.value s
        | none => s
      else s
    else
      let s := putShadow pn pri cls.code false v s
      if before.any (fun h => h.pri < pri) then s else forwardWrite pn pri cls.code false v s
  else
    forwardWrite pn pri cls.code null v (putShadow pn pri cls.code null v s)

/-- The shadows of a device's points are queued again (R80, R125, R134), ahead of all its other requests; a queued write that one of
them repeats goes, any other stays. -/
def reissue (dv : Nat) (s : State) : State × Nat :=
  let reqs : List PntReq := (devPoints s dv).flatMap (fun pn =>
    if !ptRemote s pn then []
    else if ptKind s pn = 4 then
      match bestShadow s pn with
      | some h => [{ dv := dv, kind := .write pn h.pri false h.value, urgent := h.pri ≤ 2 }]
      | none => []
    else (shadowsOf s pn).map (fun h => { dv := dv, kind := .write pn h.pri h.relinq h.value, urgent := h.pri ≤ 2 }))
  let again (r : PntReq) : Bool := r.dv == dv && r.id.isNone && r.slot.isSome && reqs.any (fun q =>
    q.slot == r.slot || (q.writes == r.writes && ptKind s (r.writes.getD 0) == 4))
  ({ s with pnt := { s.pnt with reqs := reqs ++ s.pnt.reqs.filter (fun r => !again r) } }, reqs.length)

/-! ## Reads: the grouping of points into requests (R116, R128) -/

/-- Merge points sorted by address into runs: gaps up to `gap`, at most `lim` items a request (R119, R128). -/
def mbRuns (s : State) (gap lim : Nat) : List Nat → List Nat → Nat → Nat → List (List Nat)
  | [], cur, _, _ => if cur.isEmpty then [] else [cur]
  | pn :: r, cur, first, last =>
    let a := mbAddr (ptRef s pn)
    let e := a + mbWidth (ptRef s pn)
    if cur.isEmpty then mbRuns s gap lim r [pn] a e
    else if a ≤ last + gap ∧ max last e - first ≤ lim then mbRuns s gap lim r (cur ++ [pn]) first (max last e)
    else cur :: mbRuns s gap lim r [pn] a e

/-- Insert a point into a list sorted by Modbus address. -/
def mbInsert (s : State) (pn : Nat) : List Nat → List Nat
  | [] => [pn]
  | q :: r => if mbAddr (ptRef s pn) < mbAddr (ptRef s q) then pn :: q :: r else q :: mbInsert s pn r

/-- The requests that read some points of a device. -/
def readGroups (s : State) (dv : Nat) (pns : List Nat) : List (List Nat) :=
  if devKind s dv = 1 then
    let n := rpmObjects s dv
    (List.range ((pns.length + n - 1) / n)).map (fun i => (pns.drop (i * n)).take n)
  else
    (List.range 4).flatMap (fun t =>
      let l := (pns.filter (fun pn => mbTable (ptRef s pn) == t)).foldl (fun l pn => mbInsert s pn l) []
      mbRuns s (devFld s dv 56 8) (if t ≤ 1 then 2000 else 125) l [] 0 0)

/-- Queue the reads of some points. -/
def queueReads (dv : Nat) (pns : List Nat) (cls : Option Nat) (s : State) : State :=
  forAll (readGroups s dv pns) (fun g s => queueReq { dv := dv, kind := .read g cls } s) s

/-! ## Conversion of field values (R129) -/

/-- A received REAL in a REAL point: a NaN is outside, and so is an infinity, which is no value in the format's range
(notes/assumptions/18.md). -/
def convSingle (fmt : Nat) (x : Real32) : Option U32 := if fmt = 0 && !isNaN x && !isInf x then some x else none

/-- The value of a field read in a point's format; none sets FAULT with cause FIELD_TYPE. -/
def convField (fmt : Nat) : FieldVal → Option U32
  | .real v => convSingle fmt v
  | .double v => convSingle fmt (realOfDouble v)
  | .enum n =>
    if fmt = 1 ∧ n ≤ 1 then some (u32 n) else if fmt = 2 ∧ n ≤ 65535 then some (u32 n) else none
  | .bool b => if fmt = 1 then some (u32 (bit b)) else none
  | .unsigned n =>
    if fmt = 0 then some (realOfNat n) else if fmt = 1 ∧ n ≤ 1 then some (u32 n)
    else if fmt = 2 ∧ n ≤ 65535 then some (u32 n) else if fmt = 3 ∧ n < 2 ^ 32 then some (u32 n) else none
  | .signed i =>
    if fmt = 0 then some (realOfInt i) else if fmt = 3 ∧ 0 ≤ i ∧ i < 2 ^ 32 then some (u32 i.toNat) else none
  | .mbInt i =>
    if fmt = 0 then some (realOfInt i)
    else if fmt = 2 ∧ 0 ≤ i ∧ i ≤ 65535 then some (u32 i.toNat)
    else if fmt = 3 ∧ 0 ≤ i ∧ i < 2 ^ 32 then some (u32 i.toNat) else none
  | .mbFloat v => convSingle fmt v
  | .mbBit b => if fmt = 1 then some (u32 (bit b)) else none
  | .other => none

/-- A point is a configured field point of a device: what its replies may still land in (R62, R63). -/
def isFieldPoint (s : State) (dv pn : Nat) : Bool :=
  ptConfigured s pn && (ptKind s pn == 3 || ptKind s pn == 4) && ptDv s pn == dv

/-- A read result or notification of a device refreshes its point (R66, R129, R132). An OUT_OF_SERVICE point takes no value. -/
def refreshField (dv pn : Nat) (r : FieldRead) (s : State) : State :=
  let p := s.point pn
  if !isFieldPoint s dv pn || p.quarantined then s
  else if p.oos then { s with pts := { s.pts with pt := s.pts.pt.upd pn (fun p => { p with age := 0 }) } }
  else match convField (ptFormat s pn) r.val with
    | some v => updatePoint pn false { cause := 1 }
        (fun p => { p with value := v, fault := r.fault, overridden := r.overridden, stale := false, age := 0 }) s
    | none => updatePoint pn false { cause := 3 }
        (fun p => { p with fault := true, overridden := r.overridden, stale := false, age := 0 }) s

/-- A field device answered the read of one point with an error (R129). -/
def errorField (dv pn detail : Nat) (s : State) : State :=
  if !isFieldPoint s dv pn || (s.point pn).oos || (s.point pn).quarantined then s
  else
    updatePoint pn false { cause := 4, detail := detail } (fun p => { p with fault := true }) s

/-! ## Binding, restart and silence (R120 to R125) -/

/-- The device is heard (R120). -/
def heard (dv : Nat) (s : State) : State := devUpd dv (fun d => { d with heard := s.now }) s

/-- A device's points are to be subscribed (R130). -/
def subscribes (s : State) (dv : Nat) : Bool := devKind s dv == 1 && devFld s dv 14 2 != 0

/-- A request makes or renews a subscription. -/
def PntReq.subscribes (r : PntReq) : Bool := match r.kind with | .subscribe _ => true | _ => false

/-- Queue a SubscribeCOV for points of a device, while active subscriptions and those asked for number fewer than 16,384 (R130). -/
def queueSubs (dv : Nat) (pns : List Nat) (s : State) : State :=
  if !subscribes s dv then s
  else
    let room := 16384 - s.pnt.sub.length - (s.pnt.reqs.filter (·.subscribes)).length
    forAll (pns.take room) (fun pn s => queueReq { dv := dv, kind := .subscribe pn } s) s

/-- Steps 3 to 5 of R125, with step 1 and the event of step 2: cause 0 I-Am, 1 Time_Of_Device_Restart, 2 return from SILENT,
3 PA_REBIND, none for a first binding. -/
def restartActions (dv : Nat) (cause : Option Nat) (s : State) : State :=
  let s := abandonReqs dv false s
  let (s, n) := reissue dv s
  let s := match cause with
    | some c => raise 2 0x54 [ef 2 dv, ef 1 c, ef 4 n]
        (devUpd dv (fun d => { d with restarts := sat16 d.restarts }) s)
    | none => s
  let pns := devPoints s dv
  let s : State := { s with pnt := { s.pnt with
    sub := pns.foldl (fun t pn => t.set pn false) s.pnt.sub, reqs := s.pnt.reqs.filter (fun r => !(r.dv == dv && r.subscribes)) } }
  pump (queueSubs dv pns (queueReads dv pns none s))

/-- DEVICE_BOUND (R141). -/
def deviceBoundEvent (dv : Nat) (s : State) : State :=
  let id := if devKind s dv = 1 then devInst s dv else (s.dev dv).station
  raise 3 0x50 [ef 2 dv, ef 4 id, ef 1 (devLink s dv)] s

/-- A device binds, from SEEKING or SILENT (R120). Only its first binding since PA_SET_DEV raises no DEVICE_RESTART (R125); a later one
from SEEKING has the cause of a return from SILENT (notes/assumptions/18.md). -/
def bindDev (dv : Nat) (s : State) : State :=
  let first := !(s.dev dv).wasBound
  let s := devUpd dv (fun d => { d with state := .bound, heard := s.now, staleDue := false, wasBound := true }) s
  restartActions dv (if first then none else some 2) (deviceBoundEvent dv s)

/-- A valid frame from a device: it is heard, and a SILENT one binds (R120). -/
def validFrame (dv : Nat) (s : State) : State :=
  match (s.dev dv).state with
  | .bound => heard dv s
  | .silent => bindDev dv s
  | _ => s

/-- A valid reply from a device: it binds a SEEKING one too that needs no I-Am (R120). -/
def validReply (dv : Nat) (s : State) : State :=
  if (s.dev dv).state == .seeking then (if devKind s dv ≠ 1 ∨ devStatic s dv then bindDev dv s else s) else validFrame dv s

/-- The learned fields of an entry take the values of its record (R119, R120). -/
def learnedFromRecord (s : State) (dv : Nat) (d : Dev) : Dev :=
  { d with
    station := devFld s dv 48 8, ip := devFld s dv 64 32, udpPort := devFld s dv 96 16, dnet := devFld s dv 112 16
    dadr := devFld s dv 128 48, dlen := devFld s dv 176 3, maxApdu := devFld s dv 192 16, seg := 3 }

/-- The learned address is cleared (R120). -/
def clearAddress (d : Dev) : Dev := { d with station := 0, ip := 0, udpPort := 0xBAC0, dnet := 0, dadr := 0, dlen := 0 }

/-- The points of a device turn STALE in the pass of a cycle boundary, with no event (R84, R132). -/
def staleDevPoints (dv : Nat) (s : State) : State := forAll (devPoints s dv) stalePoint s

/-- The run of consecutive instances around one, among a list, as far as the list is long. -/
def runFrom (insts : List Nat) (next : Nat → Nat) : Nat → Nat → Nat
  | 0, x => x
  | fuel + 1, x => if insts.contains (next x) && next x != x then runFrom insts next fuel (next x) else x

/-- An entry is found by Who-Is: BACnet, and not static (R120). -/
def byWhoIs (s : State) (dv : Nat) : Bool := devKind s dv == 1 && !devStatic s dv

/-- The Who-Is range of a device: the SEEKING instances of its link that follow each other without a gap are merged (R120; that a range
covers no other instance is the model's choice, notes/assumptions/18.md). -/
def whoIsRun (s : State) (dv : Nat) : Nat × Nat :=
  let insts := ((linkDevs s (devLink s dv) (· == .seeking)).filter (byWhoIs s)).map (devInst s)
  let x := devInst s dv
  (runFrom insts (· - 1) insts.length x, runFrom insts (· + 1) insts.length x)

/-- A probe read of a device, unless one waits or is in flight (R108, R120, R122). -/
def probeDev (dv : Nat) (s : State) : State :=
  if s.pnt.reqs.any (fun r => r.dv == dv && r.probes) then s
  else pump (queueReq { dv := dv, kind := .probe (devKind s dv == 1 && liveBit s Kind.dev dv 12 && !(s.dev dv).noRestartTime) } s)

/-- A seek of an entry: Who-Is, or a probe read for a static or a Modbus entry (R120). -/
def seekDev (dv : Nat) (s : State) : State :=
  if byWhoIs s dv then let r := whoIsRun s dv; sendWhoIs (devLink s dv) r.1 r.2 s else probeDev dv s

/-! ## Faults and recovery of a link (R107 to R109) -/

/-- A cause of R107 on a link that is UP: the fault is declared; in FAULT the cause is present again, and a probe answered
before counts no more (R108). A duplicate address makes DUP_MAC the cause in FAULT too, and the trunk stops (R103;
notes/assumptions/17.md). Causes are coded as in FL_GET_STATUS (R113). -/
def faultLink (l cause : Nat) (s : State) : State :=
  let k := s.link l
  match k.state with
  | .up =>
    let bound := boundDevs s l
    let s := linkUpd l (fun k => { k with
      state := .fault, cause := cause, faults := sat32 k.faults, faultAt := s.rtc.up, secsFrom := s.rtc.up, probeOk := false, staleDue := true }) s
    let s := raise 2 (if isPort l then 0x42 else 0x40) [ef 1 (if isPort l then l - 8 else l), ef 1 cause, ef 2 bound.length] s
    forAll (linkDevs s l (fun _ => true)) (fun dv s => abandonReqs dv false s) s
  | .fault => linkUpd l (fun k => { k with probeOk := false, cause := if cause = 4 then 4 else k.cause }) s
  | _ => s

/-- A write of a priority is one to send: for a Modbus point only the lowest-numbered shadow's (R134). -/
def standsOut (s : State) (pn pri : Nat) : Bool := ptKind s pn != 4 || (bestShadow s pn).all (fun b => b.pri == pri)

/-- Held writes are forwarded in ascending priority, then the priority-1 and -2 shadows that none of them covered (R109). -/
def forwardHeld (l : Nat) (s : State) : State × Nat :=
  let held := (s.link l).held
  let s := linkUpd l (fun k => { k with held := [] }) s
  let sorted := ((List.range 17).drop 1).flatMap (fun p => held.filter (fun h => h.pri == p && standsOut s h.pn p))
  let s := forAll sorted (fun h s => forwardWrite h.pn h.pri h.cls h.null h.value s) s
  let more : List Shadow := [1, 2].flatMap (fun p =>
    (linkDevs s l (fun _ => true)).flatMap (fun dv => (devPoints s dv).flatMap (fun pn =>
      if held.any (fun h => h.pn == pn && h.pri == p) then []
      else (shadowsOf s pn).filter (fun h => h.pri == p && standsOut s pn p))))
  (forAll more (fun h s => forwardWrite h.pn h.pri h.writer h.relinq h.value s) s, sorted.length)

/-- A trunk rejoins its ring, a line goes on (R106). -/
def startTrunk (t : Nat) (s : State) : State := if trunkMode s t = 1 then mstpStart t s else rtuNext t s

/-- A link returns from FAULT to UP (R108). -/
def recoverLink (l : Nat) (s : State) : State :=
  let k := s.link l
  let secs := (s.rtc.up - k.faultAt) / 32768
  let dup := k.cause == 4
  let s := linkUpd l (fun k => { k with state := .up, probeOk := false, echoBad := 0, rtuBad := 0 }) (endFault l s)
  let (s, n) := forwardHeld l s
  let s := if isPort l then raise 2 0x43 [ef 1 (l - 8), ef 1 k.speed, ef 4 secs] s
    else raise 2 0x41 [ef 1 l, ef 4 secs, ef 2 n] s
  let s := if dup then startTrunk l s else s
  pump s

/-! ## The arbiter's entry (R26, R65, R74 to R77) -/

/-- A class may write, or relinquish, at a priority (R74). `life` is a loop flagged life-safety. -/
def mayWrite (cls : WClass) (life : Bool) (pri : Nat) : Bool :=
  match cls with
  | .loop => (if life then 2 else 3) ≤ pri && pri ≤ 16
  | .network | .host => 3 ≤ pri && pri ≤ 16
  | .key => 1 ≤ pri && pri ≤ 16
  | .cascade => pri == 1 || pri == 2

/-- A null is accepted: at priority 1 and 2 only from the class in the slot's WRITER (R74). For a remote point the class is that
of its shadow. -/
def nullAccepted (s : State) (pn pri : Nat) (cls : WClass) : Bool :=
  if pri > 2 then true
  else if ptRemote s pn then
    match shadowOf s pn pri with
    | some i => (s.pts.shadow.get i).writer == cls.code
    | none => true
  else
    let a := s.pts.arr.get (ptArray s pn)
    !a.notNull.get pri || a.writer.get pri % 8 == cls.code

/-- A slot of a local point is null, so that a null has no effect on it (R74). -/
def slotNull (s : State) (pn pri : Nat) : Bool := !(s.pts.arr.get (ptArray s pn)).notNull.get pri

/-- An accepted write or relinquish of a commandable point (R75, R77). -/
def arbApply (pn pri : Nat) (cls : WClass) (ident : Nat) (null : Bool) (v : U32) (s : State) : State :=
  if ptRemote s pn then
    -- a null is forwarded whether or not a shadow stands: the device may hold a value (R78, R79)
    remoteWrite pn pri cls null v s
  else if null && slotNull s pn pri then s
  else slotWrite pn pri (writerTag cls ident) null v s

/-- A write request of a loop, a key or the cascade: a refused one is discarded and counted (R74). The value is in the point's
format. -/
def arbRequest (pn pri : Nat) (cls : WClass) (ident : Nat) (life null : Bool) (v : U32) (s : State) : State :=
  if !(ptConfigured s pn && ptCommandable s pn) || !mayWrite cls life pri || (null && !nullAccepted s pn pri cls)
      || (!null && !fitsFormat (ptFormat s pn) v) then countRefused s
  else arbApply pn pri cls ident null v s

/-- A write request; on a device without duty the arbiter applies mirror writes only (R76). -/
def arbWrite (pn pri : Nat) (cls : WClass) (ident : Nat) (life null : Bool) (v : U32) (s : State) : State :=
  if s.duty then arbRequest pn pri cls ident life null v s else s

end Sys2Proof.Machine
end

