-- ==== Sys2Proof/Machine/Field.lean ====
section
/-!
DEFINITION. What the events of the field links and of point acquisition do (04_field_links.md R89 to R108, 05_point_acquisition.md
R120 to R138): received frames and their classification, the PHYs, address resolution, TCP connections, the trunks' timers,
and the replies, notifications and timeouts of PNT.
-/

namespace Sys2Proof.Machine

open Sys2Proof

/-! ## Bytes of a received Ethernet frame -/

/-- The FCS of a frame, its last four bytes (least significant first), fits the rest (R93). -/
def fcsOk (f : List Byte) : Bool := le f (f.length - 4) 4 == crc32 (f.take (f.length - 4))

/-- The one's complement sum of 16-bit words. -/
def sum16 (n : Nat) (f : List Byte) : Nat :=
  let x := ((List.range ((n + 1) / 2)).map (fun i => be ((f.take n) ++ [0]) (2 * i) 2)).foldl (· + ·) 0
  let x := x % 65536 + x / 65536
  x % 65536 + x / 65536

/-- The IPv4 header checksum fits and the header has no options (R93). -/
def ipHeaderOk (f : List Byte) : Bool := be f 14 1 == 0x45 && sum16 20 (f.drop 14) == 0xFFFF

/-- A UDP checksum that is not 0 fits (R93). -/
def udpOk (f : List Byte) : Bool :=
  let len := be f 38 2
  be f 40 2 == 0 ||
    (let pseudo := ((f.drop 26).take 8) ++ [0, 17] ++ ((f.drop 38).take 2)
     sum16 (12 + len) (pseudo ++ ((f.drop 34).take len)) == 0xFFFF)

/-- The entry that holds a BACnet device instance, a configured one before a DISCOVERED one (R120). -/
def iAmHolder (s : State) (inst : Nat) : Option (Nat × Dev) :=
  match s.pnt.dev.find? (fun e => e.2.state != .free && e.2.state != .discovered && devKind s e.1 == 1 && devInst s e.1 == inst) with
  | some e => some e
  | none => s.pnt.dev.find? (fun e => e.2.state == .discovered && devInst s e.1 == inst)

/-- The services whose answers PNT takes (R115), as the standard numbers them: SubscribeCOV 5, ReadProperty 12, ReadPropertyMultiple
14, WriteProperty 15 (PRESUMED, notes/assumptions/17.md). -/
def ackServices : List Nat := [5, 15]
def complexServices : List Nat := [12, 14]

/-- An APDU belongs to PNT (R115, R118): I-Am, the two COV notifications, and the answers to its services. A segment does as one of up
to 4 that answer a request of PNT in flight (R117). -/
def apduOwned (s : State) (l : Nat) (a : List Byte) : Bool :=
  let typ := be a 0 1 / 16
  let seg := (be a 0 1).testBit 3
  match typ with
  | 0 => !seg && be a 3 1 == 1
  | 1 =>
    -- an I-Am of an instance that no entry holds goes to the host while FWD_IAM is 1
    if be a 1 1 = 0 then (iAmHolder s (be a 3 4 % 2 ^ 22)).isSome || !liveBit s Kind.pa 0 1 else be a 1 1 == 2
  | 2 => ackServices.contains (be a 2 1)
  | 3 =>
    if seg then complexServices.contains (be a 4 1) && decide (be a 2 1 < 4) &&
      s.pnt.reqs.any (fun r => r.id == some (be a 1 1) && devLink s r.dv == l)
    else complexServices.contains (be a 2 1)
  | 5 => (ackServices ++ complexServices).contains (be a 2 1)
  | 6 | 7 => true
  | _ => false

/-- The source of an NPDU: its link's address, with SNET and SADR where it comes from behind a router (R119). -/
def npduSource (a : DevAddr) (n : List Byte) : DevAddr :=
  let ctl := be n 1 1
  let o := if ctl.testBit 5 then 5 + be n 4 1 else 2
  if be n 0 1 = 1 ∧ ctl.testBit 3 then
    let m := be n (o + 2) 1
    { a with dnet := u16 (be n o 2), dadr := le n (o + 3) m, dlen := m }
  else a

/-- The device whose address a frame shows (R131): by station on a trunk, by IPv4 address and port behind a port, and by network
and address behind a router. -/
def devOfAddr (s : State) (l : Nat) (a : DevAddr) : Option Nat :=
  (linkDevs s l (fun st => st == .bound || st == .silent || st == .seeking)).find? (fun dv =>
    let d := s.dev dv
    d.dnet == a.dnet.toNat && d.dadr == a.dadr &&
      (if isPort l then d.ip == a.ip.toNat && d.udpPort == a.port.toNat else d.station == a.station.toNat))

/-- A frame has come from an address: the device that has it is heard (R120), while the links are active. -/
def heardFrom (l : Nat) (a : DevAddr) (s : State) : State :=
  if !linksActive s then s
  else match devOfAddr s l a with
    | some dv => validFrame dv s
    | none => s

/-- A received NPDU on a link: PNT's own is brought by the rows of its services, the rest goes to the host (R93, R118). -/
def npduRx (l kind typ src dst : Nat) (a : DevAddr) (npdu whole : List Byte) (s : State) : State :=
  let s := heardFrom l (npduSource a npdu) s
  match apduOf npdu with
  | some a => if apduOwned s l a then s else linkForward l kind typ src dst whole s
  | none => linkForward l kind typ src dst whole s

/-! ## Ethernet ports -/

/-- An ARP packet (R92, R93): a claim of the port's own address from another MAC, a request for it, a reply, another. -/
def arpRx (l : Nat) (f whole : List Byte) (s : State) : State :=
  let p := l - 8
  let op := be f 20 2
  let sha := le f 22 6
  let spa := be f 28 4
  let tpa := be f 38 4
  let own := portIp s p
  let s := if spa = own ∧ sha ≠ portMac s p ∧ s.every (s.link l).conflictAt 10 then
      raise 2 0x44 [ef 1 p, ef 8 sha] (linkUpd l (fun k => { k with conflictAt := some s.rtc.up }) s)
    else s
  if op = 1 ∧ tpa = own then (if s.duty then enqueue l (.arpReply sha spa) s else s)
  else if op = 2 then linkForward l 0 0 0 0 whole (arpResolved l spa (arpLearn l spa sha s))
  else linkForward l 0 0 0 0 whole s

/-- A connection closes: the first device that waits for one takes it (R96). -/
def closeConn (i : Nat) (s : State) : State :=
  let s : State := { s with links := { s.links with conn := s.links.conn.set i {} } }
  match s.links.connWait with
  | dv :: _ => openConn i dv s
  | [] => s

/-- A segment's reply carries another function code than its request (R116): a Modbus frame's code stands behind its 7-byte header. -/
def strangeReply (s : State) (dv : Nat) (f : List Byte) : Bool :=
  let m := (f.drop (34 + 4 * (be f 46 1 / 16))).take (be f 16 2 - 20 - 4 * (be f 46 1 / 16))
  decide (8 ≤ m.length) && match (findReq s dv (be m 0 2)).bind (·.body) with
    | some (.mb q) => be m 7 1 % 128 != q.fn
    | _ => false

/-- A TCP segment of an open client connection (R93, R96): RST or FIN closes it, SYN with ACK establishes it and lets the waiting
requests go. -/
def tcpRx (i : Nat) (f : List Byte) (s : State) : State :=
  let fl := be f 47 1
  let dv := (s.links.conn.get i).dv
  if fl.testBit 2 || fl.testBit 0 then closeConn i s
  else if fl.testBit 1 && fl.testBit 4 then
    let s : State := { s with links := { s.links with
      conn := s.links.conn.upd i (fun c => { c with established := true, retries := 0 }) } }
    forAll (inFlight s dv) (fun r s => match r.id with
      | some id => sendIp (devLink s dv) (s.dev dv).ip (reqFrame s dv id) s
      | none => s) s
  else
    when (strangeReply s dv f) (linkDrop (devLink s dv))
      { s with links := { s.links with conn := s.links.conn.upd i (fun c => { c with retries := 0 }) } }

/-- The connection that a TCP segment belongs to (R93). -/
def connFor (s : State) (p : Nat) (f : List Byte) : Option Nat :=
  let dst := be f 36 2
  let i := dst - 49152
  let c := s.links.conn.get i
  if 49152 ≤ dst ∧ i < 128 ∧ c.used ∧ c.port = p ∧ be f 34 2 = 502 ∧ be f 26 4 = (s.dev c.dv).ip ∧
      be f 30 4 = portIp s p then some i else none

/-- An IPv4 frame (R93). -/
def ipRx (l : Nat) (f whole : List Byte) (s : State) : State :=
  let p := l - 8
  let dst := be f 30 4
  let own := portIp s p
  let bcast := portBroadcast s p
  if !ipHeaderOk f then linkDrop l s
  else if be f 20 2 % 0x4000 ≠ 0 then linkForward l 0 0 0 0 whole s
  else if be f 23 1 = 17 ∧ be f 36 2 = 0xBAC0 ∧ (dst = own ∨ dst = bcast ∨ dst = 0xFFFFFFFF) then
    if !udpOk f then linkDrop l s
    else
      let u := f.drop 42
      let fn := be u 1 1
      if be u 0 1 = 0x81 ∧ (fn = 4 ∨ fn = 0x0A ∨ fn = 0x0B) ∧ (apduOf (u.drop (if fn = 4 then 10 else 4))).isSome then
        -- a Forwarded-NPDU carries its sender's address
        let a : DevAddr := if fn = 4 then { ip := u32 (be u 4 4), port := u16 (be u 8 2) }
          else { ip := u32 (be f 26 4), port := u16 (be f 34 2) }
        npduRx l 0 0 0 0 a (u.drop (if fn = 4 then 10 else 4)) whole s
      else linkForward l 0 0 0 0 whole s
  else if be f 23 1 = 6 then
    -- a SYN without ACK is never a client's segment (R96)
    match if (be f 47 1).testBit 1 && !(be f 47 1).testBit 4 then none else connFor s p f with
    | some i => tcpRx i f s
    | none => linkForward l 0 0 0 0 whole s
  else linkForward l 0 0 0 0 whole s

/-- ETH_FRAME_RX: a received frame, with its FCS, is sorted by the first matching row of R93. The host's copy has no FCS (R423). -/
def ethRx (p : Nat) (frame : List Byte) (s : State) : State :=
  let l := 8 + p
  let k := s.link l
  if k.state == .off then s
  else
    let s := linkRx l s
    let f := frame.take (frame.length - 4)
    let dst := le f 0 6
    let multi := dst % 2 = 1
    let bcast := dst = 2 ^ 48 - 1
    if frame.length < 64 ∨ 1518 < frame.length ∨ !fcsOk frame then linkErr l (linkDrop l s)
    else if dst ≠ portMac s p ∧ !multi then linkDrop l s
    else if multi ∧ !bcast ∧ !liveBit s Kind.eth p 11 then linkDrop l s
    else
      let et := be f 12 2
      -- a pause frame (R91)
      if et = 0x8808 then linkDrop l s
      else if et = 0x0806 then arpRx l f f s
      else if et = 0x0800 then ipRx l f f s
      else linkForward l 0 0 0 0 f s

/-- The PHY of a port is read (R89): link down, or a speed that SPEED_FORCE does not accept, is a cause of PORT_FAULT (R108,
R111). -/
def phyRead (p : Nat) (y : PhyStatus) (s : State) : State :=
  let l := 8 + p
  if (s.link l).state == .off then s
  else
    let force := liveFld s Kind.eth p 3 2
    let ok := y.up && (force == 0 || force == y.speed.val + 1)
    let s := linkUpd l (fun k => { k with phyUp := ok, speed := y.speed.val, full := y.full || y.speed.val == 2 }) s
    if ok then s else faultLink l 6 s

/-- PHYINT: with PHYINT_EN of a port both PHYs are read (R89). -/
def phyintRow (y0 y1 : PhyStatus) (s : State) : State :=
  if liveBit s Kind.eth 0 10 || liveBit s Kind.eth 1 10 then phyRead 1 y1 (phyRead 0 y0 s) else s

/-- PORT_SILENCE: no frame for 10 s on a port with bound devices is PORT_FAULT (R108), with the cause code 6 LINK of a link that is
down: R113 names none for it (notes/assumptions/17.md). -/
def portSilenceRow (p : Nat) (s : State) : State :=
  if (boundDevs s (8 + p)).isEmpty then s else faultLink (8 + p) 6 s

/-- PORT_RECOVER (R108): the link has been up for RECOVER_S and a probe has been answered. -/
def portRecoverRow (p : Nat) (s : State) : State :=
  let k := s.link (8 + p)
  if k.state == .fault && k.phyUp && k.probeOk then recoverLink (8 + p) s else s

/-- ARP_RESOLUTION_TIMEOUT: the frames that waited for the address are dropped and counted (R92). -/
def arpTimeoutRow (p ip : Nat) (s : State) : State :=
  let l := 8 + p
  let w := (s.link l).arpWait.filter (fun e => e.1 == ip)
  linkUpd l (fun k => { k with
    arpWait := k.arpWait.filter (fun e => e.1 != ip), dropped := min (k.dropped + w.length) 0xFFFFFFFF }) s

/-- ARP_AGEOUT (R92). -/
def arpAgeoutRow (p ip : Nat) (s : State) : State :=
  linkUpd (8 + p) (fun k => { k with arp := k.arp.filter (fun e => e.1 != ip) }) s

/-- GRATUITOUS_ARP: the second one on each enabled port, 1 s after becoming ACTIVE (R106). -/
def gratuitousRow (s : State) : State :=
  forAll [8, 9] (fun l s => if (s.link l).garpDue && linksActive s then
    enqueue l .arpGratuitous (linkUpd l (fun k => { k with garpDue := false }) s) else s) s

/-- TCP_RETRANSMIT_TIMEOUT: the segment is sent again, or the connection abandoned after TCP_RETRIES (R96). -/
def tcpRetransmitRow (i : Nat) (s : State) : State :=
  let c := s.links.conn.get i
  if !c.used then s
  else if c.retries ≥ liveFld s Kind.eth c.port 202 4 then closeConn i s
  else
    let s : State := { s with links := { s.links with conn := s.links.conn.upd i (fun c => { c with retries := c.retries + 1 }) } }
    enqueue (8 + c.port) (.tcp i (if c.established then .data else .syn 1460)) s

/-- TCP_IDLE_CLOSE: a connection without a transaction for TCP_IDLE s is closed; 0 keeps it open (R96). -/
def tcpIdleRow (i : Nat) (s : State) : State :=
  let c := s.links.conn.get i
  if c.used && c.established && liveFld s Kind.eth c.port 176 16 != 0 && (inFlight s c.dv).isEmpty then
    closeConn i (enqueue (8 + c.port) (.tcp i .fin) s)
  else s

/-! ## Trunks -/

/-- The device of a trunk with a station address. -/
def devAt (s : State) (l station : Nat) : Option Nat :=
  (linkDevs s l (fun st => st != .free)).find? (fun dv => (s.dev dv).station == station)

/-- An NPDU on MS/TP that is addressed to the device (R101, R118): a confirmed request is answered at once with Reply Postponed, unless
it is a ConfirmedCOVNotification, which PNT acknowledges itself. -/
def mstpNpdu (t : Nat) (f : MstpFrame) (s : State) : State :=
  let a := (apduOf f.data).getD []
  let mine := be a 0 1 / 16 == 0 && be a 3 1 == 1
  let s := if f.typ = 5 ∧ !mine ∧ mstpRuns s t then onWire t (.mstp 7 f.src.toNat []) s else s
  npduRx t 1 f.typ.toNat f.src.toNat f.dst.toNat { station := f.src } f.data f.data s

/-- TRUNK_FRAME_RX (R101, R103, R107). Of data frames, Test_Request and Test_Response the receive machine of Clause 9 delivers those to
MAC_ADDR, and a broadcast one of types 4 and 6; an NPDU of more than 501 octets is discarded (R100; notes/assumptions/17.md). -/
def trunkRx (t : Nat) (f : MstpFrame) (s : State) : State :=
  let k := s.link t
  if k.state == .off || trunkMode s t != 1 then s
  else
    let s := linkRx t s
    if !f.hdrOk || !f.dataOk then linkErr t (linkDrop t s)
    else if f.src.toNat = trunkMac s t ∧ k.wire.isEmpty ∧ s.duty then
      -- a duplicate address: the trunk stops transmitting at once (R103)
      faultLink t 4 (linkUpd t (fun k => { k with mstp := .start, wire := [] }) s)
    else
      let s := heardFrom t { station := f.src } s
      let s := mstpReceived t f.typ.toNat f.src.toNat f.dst.toNat s
      let own := f.dst.toNat == trunkMac s t
      let bcast := f.dst == 255
      match f.typ.toNat with
      | 0 | 1 | 2 => s
      | 3 => if mstpRuns s t && own then onWire t (.mstp 4 f.src.toNat f.data) s else s
      | 4 => if (own || bcast) && (devAt s t f.src.toNat).isSome then linkUpd t (fun k => { k with probeOk := k.probeOk || k.state == .fault }) s else s
      | 5 | 6 =>
        if !own && !(bcast && f.typ == 6) then s
        else if 501 < f.data.length then linkDrop t s
        else mstpNpdu t f s
      | 7 => s
      | _ => linkDrop t s

/-- TRUNK_FRAME_SENT: the echo of the frame is judged (R107), and the mode goes on. -/
def trunkSent (t : Nat) (echoOk : Bool) (s : State) : State :=
  let k := s.link t
  match k.wire with
  | [] => s
  | f :: r =>
    let bad := liveBit s Kind.trunk t 8 && !echoOk
    let n := if bad then k.echoBad + 1 else 0
    let s := linkUpd t (fun k => { k with wire := r, tx := sat32 k.tx, echoBad := n }) s
    let s := if bad ∧ (n ≥ 3 ∨ k.state == .fault) then faultLink t 1 s else s
    if trunkMode s t = 1 then mstpSent t f s
    else if trunkMode s t = 2 then
      match f with
      | .pnt dv id (.rtu server _) =>
        if k.rtu ≠ some (dv, id) then rtuNext t s
        -- a broadcast write has no reply; it is followed by RTU_BCAST_DELAY of silence (R104)
        else if server = 0 then
          linkUpd t (fun k => { k with rtu := none, rtuWait := true, rtuLate := none }) (dropReq dv id s)
        else s
      | _ => rtuNext t s
    else s

/-- A read that a PA_READ_NOW asked for has ended (R140). -/
def endReadNow (org : Origin) (dv pn : Nat) (r : ReadItem) (s : State) : State :=
  match r.val with
  | some v =>
    let s := refreshField dv pn v s
    complete org St.ok 0 (leBytes 4 (s.ptView pn).value.toNat ++ leBytes 2 (ptWord s pn (s.ptView pn))) s
  | none => complete org St.fieldError (r.cls.toNat % 256 + r.code.toNat % 256 * 256) []
      (errorField dv pn (r.cls.toNat + r.code.toNat * 65536) s)

/-- The items of a good reply land in their points (R129). -/
def readItems (r : PntReq) (items : List ReadItem) (s : State) : State :=
  forAll items (fun it s =>
    let pn := it.pn.val
    match r.kind with
    | .read pns _ =>
      if !pns.contains pn then s
      else match it.val with
        | some v => refreshField r.dv pn v s
        | none => errorField r.dv pn (it.cls.toNat + it.code.toNat * 65536) s
    | .readNow p org => if p = pn then endReadNow org r.dv pn it s else s
    | _ => s) s

/-- The points of a read request are queued again in smaller requests (R128). -/
def readAgain (r : PntReq) (s : State) : State :=
  match r.kind with
  | .read pns cls => pump (queueReads r.dv pns cls s)
  | _ => s

/-- The request was a ReadPropertyMultiple. -/
def wasRpm (r : PntReq) : Bool := match r.body with | some (.bac (.readMultiple _)) => true | _ => false

/-- A whole read is answered with an error (R129). The FAULT is that point's alone: of a read of several points, those of a Modbus
exception are read again one by one, and those of an Error keep what they have (notes/assumptions/18.md). A PA_READ_NOW ends with
FIELD_ERROR, `code` its DETAIL. `faults` tells an answer that sets FAULT: an Error, or a Modbus exception 2 or 3. -/
def readFailed (r : PntReq) (faults : Bool) (detail code : Nat) (s : State) : State :=
  match r.kind with
  | .read [pn] _ => when faults (errorField r.dv pn detail) s
  | .read pns cls =>
    if faults && !wasRpm r then forAll pns (fun pn s => queueReq { dv := r.dv, kind := .read [pn] cls } s) s else s
  | .readNow pn org => complete org St.fieldError code [] (when faults (errorField r.dv pn detail) s)
  | _ => s

/-- A ReadPropertyMultiple was answered with an Abort or a Reject that R128 names: RPM_LIMIT is halved, down to 1, and the objects are
sent again; at 1 the read has failed. -/
def rpmRefused (r : PntReq) (reason : Nat) (s : State) : State :=
  let d := s.dev r.dv
  if wasRpm r && (match r.kind with | .read _ _ => true | _ => false) && (d.rpmOff || decide (1 < d.rpmLimit)) then
    readAgain r (when (!d.rpmOff) (devUpd r.dv (fun d => { d with rpmLimit := max 1 (d.rpmLimit / 2) })) s)
  else readFailed r false reason reason s

/-- The answer to a probe, whether the device had been SEEKING or SILENT: the stamp of a device that has just been bound is no second
restart (R122, R124). -/
def probeReply (dv : Nat) (restartTime fresh : Bool) (rep : ReadReply) (s : State) : State :=
  match rep with
  | .restartTime st =>
    let d := s.dev dv
    let s := devUpd dv (fun d => { d with restartStamp := st, stampKnown := true }) s
    when (d.stampKnown && d.restartStamp != st && !fresh) (restartActions dv (some 1)) s
  -- unknown-property (class 2 property, code 32): probed for System_Status from then on (R122)
  | .error cls code => when (restartTime && cls == 2 && code == 32) (devUpd dv (fun d => { d with noRestartTime := true })) s
  | _ => s

/-- The answer to a read (R128, R129). -/
def readReply (r : PntReq) (rep : ReadReply) (s : State) : State :=
  match rep with
  | .items l => readItems r l s
  | .reject reason =>
    -- 9 is unrecognized-service (R128)
    if reason = 9 && wasRpm r && (match r.kind with | .read _ _ => true | _ => false) then
      readAgain r (devUpd r.dv (fun d => { d with rpmOff := true }) s)
    else rpmRefused r reason.toNat s
  | .abort reason =>
    -- 1 buffer-overflow, 4 segmentation-not-supported (R128)
    if reason = 1 || reason = 4 then rpmRefused r reason.toNat s else readFailed r false reason.toNat reason.toNat s
  | .error cls code => readFailed r true (cls.toNat + code.toNat * 65536) (cls.toNat % 256 + code.toNat % 256 * 256) s
  | .exception code => readFailed r (code == 2 || code == 3) code.toNat code.toNat s
  | _ => s

/-- A probe has been answered: the link's recovery may count it (R108). -/
def probeAnswered (dv : Nat) (s : State) : State :=
  linkUpd (devLink s dv) (fun k => { k with probeOk := k.probeOk || k.state == .fault }) s

/-- A reply whose identifier is in quarantine: late, and it proves the device alive (R137). -/
def lateReply (dv : Nat) (s : State) : State := validFrame dv (devUpd dv (fun d => { d with late := sat16 d.late }) s)

/-- A reply that answers nothing in flight: stray when its identifier was never issued (R137). -/
def strayReply (dv id : Nat) (s : State) : State :=
  if (s.dev dv).issued ≤ id then { s with pnt := { s.pnt with stray := sat32 s.pnt.stray } } else s

/-- The transaction of an RTU line has its reply (R104, R107). -/
def rtuAnswered (dv id : Nat) (s : State) : State :=
  linkUpd (devLink s dv) (fun k => { k with rtu := if k.rtu = some (dv, id) then none else k.rtu, rtuBad := 0 }) s

/-- After a reply the link and PNT go on. -/
def goOn (dv : Nat) (s : State) : State :=
  pump (if isPort (devLink s dv) then s else trunkKick (devLink s dv) s)

/-- READ_REPLY (R128, R129, R137): a reply with a quarantined identifier is late, one whose identifier was never issued is stray. -/
def readReplyRow (dv id : Nat) (rep : ReadReply) (s : State) : State :=
  let d := s.dev dv
  if d.quarantine.contains id then lateReply dv s
  else match findReq s dv id with
  | none => strayReply dv id s
  | some r =>
    let s := rtuAnswered dv id (dropReq dv id s)
    let s := validReply dv s
    goOn dv (match r.kind with
      | .probe rt => probeReply dv rt (d.state != .bound) rep (probeAnswered dv s)
      | _ => readReply r rep s)

/-- The Simple-ACK to a confirmed notification (R118): on MS/TP at once, within Treply_delay, as the answer of the frame that expects
it; on a port it is queued. -/
def sendCovAck (l : Nat) (d : NetDest) (invoke : Nat) (s : State) : State :=
  if isPort l then sendNpdu l d invoke .covAck s
  else if mstpRuns s l then onWire l (.npdu (.bac d invoke .covAck)) s
  else s

/-- An address as a destination (R95). -/
def destOfAddr (l : Nat) (a : DevAddr) : NetDest :=
  if isPort l then { ip := a.ip.toNat, port := a.port.toNat, dnet := a.dnet.toNat, dadr := a.dadr, dlen := a.dlen }
  else { station := a.station.toNat, srcPort := 0, bvlc := 0, dnet := a.dnet.toNat, dadr := a.dadr, dlen := a.dlen }

/-- COV_NOTIFICATION, a confirmed one with its invoke ID (R131): matched by source, process identifier and object; a confirmed one is
acknowledged in any case, and an unmatched one is discarded, counted and cancelled. The cancellation to a source that no entry holds
has invoke ID 0 and is not repeated (notes/assumptions/18.md). In FAULT the link takes probes only (R108). -/
def covRow (l : Nat) (src : DevAddr) (pid obj : Nat) (item : Option FieldRead) (confirmed : Option Nat) (s : State) : State :=
  if !linksActive s || (s.link l).state != .up then s
  else
    let s := heardFrom l src s
    let s := match confirmed with
      | some id => sendCovAck l (destOfAddr l src) id s
      | none => s
    let hit := (devOfAddr s l src).any (fun dv => isFieldPoint s dv pid && ptKind s pid == 3 && ptRef s pid == obj && decide (pid < 131072))
    if hit then (match item with | some v => refreshField (ptDv s pid) pid v s | none => s)
    else
      let s : State := { s with pnt := { s.pnt with stray := sat32 s.pnt.stray } }
      match devOfAddr s l src with
      | some dv => pump (queueReq { dv := dv, kind := .cancel pid obj } s)
      | none => sendNpdu l (destOfAddr l src) 0 (.subscribeCov pid obj none) s

/-- WRITE_FAILED (R135, R141): bench 1 for priorities 1 and 2, bench 2 otherwise; cause 0 Error, 1 Reject, 2 Abort, 3 exception,
4 timeout. A point that is no longer configured has no events (R62). -/
def writeFailed (pn pri cause cls code : Nat) (s : State) : State :=
  if !ptConfigured s pn then s
  else raise (if pri ≤ 2 then 1 else 2) 0x56 [ef 4 pn, ef 1 pri, ef 1 cause, ef 2 cls, ef 2 code] s

/-- Modbus exceptions 5 and 6 (R135). -/
def busyAnswer : WriteAns → Bool
  | .exception c => c.toNat == 5 || c.toNat == 6
  | _ => false

/-- The answer to a write (R135); exceptions 5 and 6 leave the request, and MODBUS_BUSY_RETRY sends it again. -/
def writeAnswered (dv id pn pri tries : Nat) (null : Bool) (rep : WriteAns) (s : State) : State :=
  let s := rtuAnswered dv id s
  if busyAnswer rep && decide (tries < devRetries s dv) then validFrame dv s
  else
    let s := validReply dv (dropReq dv id s)
    let s := match rep with
      -- a write that has replaced the null since keeps its shadow (R78)
      | .ack => if null && (shadowOf s pn pri).any (fun i => (s.pts.shadow.get i).relinq) then freeShadowOf pn pri s else s
      | .error c e => writeFailed pn pri 0 c.toNat e.toNat s
      | .reject r => writeFailed pn pri 1 0 r.toNat s
      | .abort r => writeFailed pn pri 2 0 r.toNat s
      | .exception c => writeFailed pn pri 3 0 c.toNat s
    goOn dv { s with pnt := { s.pnt with resend := s.pnt.resend.set (pn * 32 + pri) none } }

/-- WRITE_REPLY (R135, R137). -/
def writeReplyRow (dv id : Nat) (rep : WriteAns) (s : State) : State :=
  if (s.dev dv).quarantine.contains id then lateReply dv s
  else match findReq s dv id with
  | some r => match r.kind with
    | .write pn pri null _ => writeAnswered dv id pn pri r.tries null rep s
    | _ => s
  | none => strayReply dv id s

/-- COV_REFUSED, once per device until it is tried again (R130, R141). -/
def covRefused (dv pn cause : Nat) (s : State) : State :=
  if (s.dev dv).covRefused then s
  else raise 2 0x57 [ef 2 dv, ef 4 pn, ef 1 cause] (devUpd dv (fun d => { d with covRefused := true }) s)

/-- A SubscribeCOV was refused or not answered: the point is polled, until R125 (R130). -/
def subscribeFailed (dv pn cause : Nat) (s : State) : State :=
  covRefused dv pn cause { s with pnt := { s.pnt with sub := s.pnt.sub.set pn false } }

/-- SUBSCRIBE_COV_REPLY (R130). -/
def subscribeReplyRow (dv id : Nat) (ok : Bool) (cause : Nat) (s : State) : State :=
  if (s.dev dv).quarantine.contains id then lateReply dv s
  else match findReq s dv id with
  | some r => match r.kind with
    | .subscribe pn =>
      let s := validReply dv (dropReq dv id s)
      goOn dv (if !ok then subscribeFailed dv pn cause s
        else when (isFieldPoint s dv pn) (fun s => { s with pnt := { s.pnt with sub := s.pnt.sub.set pn true } }) s)
    | .cancel _ _ => goOn dv (validReply dv (dropReq dv id s))
    | _ => s
  | none => strayReply dv id s

/-- The last retry of a request has timed out (R130, R135, R137, R140). -/
def requestFailed (r : PntReq) (id : Nat) (s : State) : State :=
  let s := dropReq r.dv id s
  let s := devUpd r.dv (fun d => { d with timeouts := sat16 d.timeouts }) s
  let s := if devKind s r.dv = 2 then s else quarantineIds r.dv [id] s
  match r.kind with
  | .write pn pri null v =>
    let s := writeFailed pn pri 4 0 0 s
    if pri ≤ 2 then { s with pnt := { s.pnt with resend := s.pnt.resend.set (pn * 32 + pri) (some (null, v)) } } else s
  | .subscribe pn => subscribeFailed r.dv pn 4 s
  | .readNow _ org => complete org St.fieldTimeout 0 [] s
  | _ => s

/-- REQUEST_TIMEOUT (R136, R137): a retry reuses the identifier; after the last one the request fails. -/
def requestTimeoutRow (dv id : Nat) (s : State) : State :=
  match findReq s dv id with
  | none => s
  | some r =>
    if r.tries < devRetries s dv then
      let s : State := { s with pnt := { s.pnt with reqs := s.pnt.reqs.map (fun q =>
        if q.dv == dv && q.id == some id then { q with tries := q.tries + 1 } else q) } }
      transmitReq dv id s
    else pump (requestFailed r id s)

/-- INVOKE_ID_QUARANTINE_END (R137). -/
def quarantineEndRow (dv id : Nat) (s : State) : State :=
  pump (devUpd dv (fun d => { d with quarantine := d.quarantine.filter (· != id) }) s)

/-- MODBUS_BUSY_RETRY: the write is sent again, counting against RETRIES (R135). -/
def busyRetryRow (dv id : Nat) (s : State) : State :=
  match findReq s dv id with
  | none => s
  | some r =>
    if r.tries < devRetries s dv then requestTimeoutRow dv id s else s

/-- WRITE_RESEND: a priority-1 or -2 write that timed out is sent again (R135), from its shadow or without one (R79); on Modbus only
while it is the one to send (R134). -/
def writeResendRow (pn pri : Nat) (s : State) : State :=
  match s.pnt.resend.get (pn * 32 + pri) with
  | none => s
  | some (null, v) =>
    if !standsOut s pn pri then s
    else match shadowOf s pn pri with
      | some i =>
        let h := s.pts.shadow.get i
        forwardWrite pn pri h.writer h.relinq h.value s
      | none => forwardWrite pn pri WClass.cascade.code null v s

/-- A point of a class is in the rounds: not subscribed, or subscribed and STALE_MULT − 1 periods without a refresh (R130). -/
def inRound (s : State) (cls pn : Nat) : Bool :=
  ptClass s pn == cls &&
    (!s.pnt.sub.get pn ||
      decide ((liveFld s Kind.cls cls 32 4 - 1) * liveFld s Kind.cls cls 0 16 ≤ (s.point pn).age))

/-- A request of a round of a class. -/
def readOfClass (cls : Nat) (r : PntReq) : Bool :=
  match r.kind with
  | .read _ (some c) => c == cls
  | _ => false

/-- The round of one BOUND device (R127): a device whose previous round is still awaiting a reply skips it. -/
def pollDevice (cls dv : Nat) (s : State) : State :=
  if (s.link (devLink s dv)).state != .up then s
  else
    let pns := (devPoints s dv).filter (inRound s cls)
    if pns.isEmpty then s
    else if s.pnt.reqs.any (fun r => r.dv == dv && readOfClass cls r) then devUpd dv (fun d => { d with skipped := sat16 d.skipped }) s
    else queueReads dv pns (some cls) s

/-- The devices that take part in rounds. -/
def pollDevices (s : State) : List Nat := (s.pnt.dev.filter (fun e => e.2.state == .bound)).map (·.1)

/-- A class is due in a cycle (R126): enabled, its PERIOD divides C, and it has not been due in the cycle. -/
def pollDueIn (s : State) (cls : Nat) (c : U32) : Bool :=
  let img := liveImg s Kind.cls cls
  flag img 36 && c.toNat % (max 1 (fld img 0 16)) == 0 && s.pnt.roundC.get cls != some c

/-- The round of a class that is due in cycle c (R127): one for every BOUND device of the class; a class with requests still queued has
overrun. -/
def pollRound (cls : Nat) (c : U32) (s : State) : State :=
  if !pollDueIn s cls c || !linksActive s then s
  else
    let s : State := { s with pnt := { s.pnt with roundC := s.pnt.roundC.set cls (some c) } }
    let queued := (s.pnt.reqs.filter (fun r => readOfClass cls r && r.id.isNone)).length
    let s := if queued > 0 ∧ s.every (s.pnt.overrunAt.get cls) 60 then
        raise 2 0x58 [ef 1 cls, ef 4 queued]
          { s with pnt := { s.pnt with overrunAt := s.pnt.overrunAt.set cls (some s.rtc.up) } }
      else s
    pump (forAll (pollDevices s) (pollDevice cls) s)

/-- POLL_CLASS_DUE: MT has reached ANGLE of a cycle that the class is due in (R126). -/
def pollRow (cls : Nat) (s : State) : State :=
  if pollDueIn s cls s.now.c then pollRound cls s.now.c (reachAngle (u16 (liveFld s Kind.cls cls 16 16)) s) else s

/-- At a seam the classes whose instants lie in the jumped interval fall due (R126). -/
def jumpedPolls (cut : MT) (s : State) : State :=
  forRange 16 (fun cls s => when (decide (cut.a.toNat ≤ liveFld s Kind.cls cls 16 16)) (pollRound cls cut.c) s) s

/-- LIVENESS_PROBE (R122): a BOUND device with nothing in flight is probed. -/
def livenessRow (dv : Nat) (s : State) : State :=
  if (s.dev dv).state == .bound && (inFlight s dv).isEmpty && linksActive s then probeDev dv s else s

/-- DEVICE_SILENCE (R120). -/
def silenceRow (dv : Nat) (s : State) : State :=
  let d := s.dev dv
  if d.state != .bound then s
  else
    let s := devUpd dv (fun d => { d with state := .silent, staleDue := true }) (abandonReqs dv true s)
    pump (raise 2 0x52 [ef 2 dv, ef 4 (devPoints s dv).length, efMT d.heard] s)

/-- SILENT_PROBE: one probe read, and Who-Is if not static (R120). -/
def silentProbeRow (dv : Nat) (s : State) : State :=
  if (s.dev dv).state != .silent || !linksActive s then s
  else
    let s := probeDev dv s
    if byWhoIs s dv then sendWhoIs (devLink s dv) (devInst s dv) (devInst s dv) s else s

/-- UNBIND_TIMEOUT (R120). -/
def unbindRow (dv : Nat) (s : State) : State :=
  if (s.dev dv).state == .silent && !devStatic s dv then
    raise 2 0x53 [ef 2 dv] (devUpd dv (fun d => clearAddress { d with state := .seeking }) s)
  else s

/-- SEEK (R120). -/
def seekRow (dv : Nat) (s : State) : State :=
  if (s.dev dv).state == .seeking && linksActive s then seekDev dv s else s

/-- DISC_AGE_TIMEOUT (R120). -/
def discAgeRow (dv : Nat) (s : State) : State :=
  if (s.dev dv).state == .discovered then devUpd dv (fun _ => {}) s else s

/-- COV_RENEWAL: at 75 % of the lifetime the subscription is made again (R130). -/
def covRenewRow (pn : Nat) (s : State) : State :=
  if s.pnt.sub.get pn && linksActive s then pump (queueReq { dv := ptDv s pn, kind := .subscribe pn } s) else s

/-- The lowest free DV (R120). -/
def freeDv (s : State) : Option Nat :=
  (List.range (min 4096 (s.pnt.dev.length + 1))).find? (fun dv => (s.dev dv).state == .free)

/-- The address of a frame goes into an entry (R119). -/
def learnAddr (a : DevAddr) (maxApdu seg : Nat) (d : Dev) : Dev :=
  { d with
    station := a.station.toNat, ip := a.ip.toNat, udpPort := a.port.toNat, dnet := a.dnet.toNat, dadr := a.dadr % 2 ^ 48
    dlen := a.dlen % 8, maxApdu := max 50 (min maxApdu 1476), seg := seg % 4 }

/-- An address as an event carries it (R141): IPv4 address or station, UDP port, DNET, and DADR with its length above it. The fields are
the model's choice (notes/assumptions/18.md). -/
def addrFields (l ip station port dnet dadr dlen : Nat) : List EvF :=
  [ef 4 (if isPort l then ip else station), ef 2 (if isPort l then port else 0), ef 2 dnet, ef 8 (dadr % 2 ^ 48 + dlen % 8 * 2 ^ 48)]

/-- The address of a frame's source, and that of an entry. -/
def srcFields (l : Nat) (a : DevAddr) : List EvF :=
  addrFields l a.ip.toNat a.station.toNat a.port.toNat a.dnet.toNat a.dadr a.dlen
def entryFieldsOf (l : Nat) (d : Dev) : List EvF := addrFields l d.ip d.station d.udpPort d.dnet d.dadr d.dlen

/-- I_AM (R120, R121, R124). -/
def iAmRow (l : Nat) (src : DevAddr) (inst maxApdu seg : Nat) (s : State) : State :=
  if !linksActive s then s
  else
    match iAmHolder s inst with
    | none =>
      if liveBit s Kind.pa 0 0 then
        match freeDv s with
        | some dv =>
          let s := devUpd dv (fun _ => learnAddr src maxApdu seg
            { (default : Dev) with state := .discovered, inst := inst, link := l, heard := s.now }) s
          raise 3 0x51 ([ef 2 dv, ef 4 inst] ++ srcFields l src) s
        | none => s
      else s
    | some (dv, d) =>
      let own := devLink s dv == l
      let same := own && d.dnet == src.dnet.toNat && d.dadr == src.dadr &&
        (if isPort l then d.ip == src.ip.toNat && d.udpPort == src.port.toNat else d.station == src.station.toNat)
      match d.state with
      | .seeking => if own then bindDev dv (if devStatic s dv then s else devUpd dv (learnAddr src maxApdu seg) s) else s
      | .discovered => if own then devUpd dv (fun d => learnAddr src maxApdu seg { d with heard := s.now }) s else s
      | .silent => if same then bindDev dv s else s
      | .bound =>
        if !same then
          if s.every d.dupAt 60 then
            raise 2 0x55 ([ef 2 dv, ef 4 inst] ++ entryFieldsOf (devLink s dv) d ++ srcFields l src)
              (devUpd dv (fun d => { d with dupAt := some s.rtc.up }) s)
          else s
        else when (!whoIsCovers s l inst) (restartActions dv (some 0)) (heard dv s)
      | .free => s

/-- An RTU frame of n bytes answers a request (R104, R116, R138): its function code, and the length that this asks for, or an exception
to it. -/
def rtuAnswers (q : MbReq) (adu : List Byte) : Bool :=
  let fn := be adu 1 1
  let n := adu.length
  if fn = q.fn + 128 then n == 5
  else if fn ≠ q.fn then false
  else
    let bytes := if q.fn ≤ 2 then (q.count + 7) / 8 else 2 * q.count
    if q.fn ≤ 4 then n == 5 + bytes && be adu 2 1 == bytes else n == 8

/-- RTU_FRAME_RX (R104, R138): frames in the silence after a timeout are late, counted with the entry of the server, or of the
transaction's device where none has its address (notes/assumptions/18.md); another server, function code or length, a bad CRC or a gap
discards the frame. The values of a good reply are brought by READ_REPLY and WRITE_REPLY. -/
def rtuRx (t : Nat) (adu : List Byte) (gapOk : Bool) (s : State) : State :=
  let k := s.link t
  if k.state == .off || trunkMode s t != 2 then s
  else
    let s := linkRx t s
    let n := adu.length
    let crcOk := n ≥ 4 && n ≤ 256 && le adu (n - 2) 2 == crcModbus (adu.take (n - 2))
    if !gapOk || !crcOk then linkErr t (linkDrop t s)
    else if k.rtuWait then
      linkDrop t (match k.rtuLate with
        | some last => devUpd ((devAt s t (be adu 0 1)).getD last) (fun d => { d with late := sat16 d.late }) s
        | none => s)
    else match k.rtu with
    | none => linkDrop t s
    | some (dv, id) =>
      match (findReq s dv id).bind (·.body) with
      | some (.mb q) => if be adu 0 1 = (s.dev dv).station && rtuAnswers q adu then validFrame dv s else linkDrop t s
      | _ => linkDrop t s

/-- RTU_RESP_TIMEOUT: the transaction ends as a timeout, and the 16th in a row is a fault (R104, R107, R138). -/
def rtuTimeoutRow (t : Nat) (s : State) : State :=
  let k := s.link t
  match k.rtu with
  | none => s
  | some (dv, id) =>
    let s := linkUpd t (fun k => { k with rtu := none, rtuWait := true, rtuLate := some dv, rtuBad := k.rtuBad + 1 }) s
    let s := requestTimeoutRow dv id s
    if k.rtuBad + 1 ≥ 16 then faultLink t 5 s else s

/-- RTU_BCAST_DELAY and RTU_TIMEOUT_SILENCE: the line is free again (R104, R138). -/
def rtuFreeRow (t : Nat) (s : State) : State :=
  if (s.link t).rtuWait then rtuNext t (linkUpd t (fun k => { k with rtuWait := false }) s) else s

/-- RX_STUCK (R107). -/
def rxStuckRow (t : Nat) (s : State) : State := if trunkMode s t = 0 then s else faultLink t 2 s

/-- ERR_RATE_WINDOW: at least 20 frames and more than FAULT_ERR_PCT % of them in error (R107). -/
def errRateRow (t : Nat) (s : State) : State :=
  let k := s.link t
  let bad := 20 ≤ k.winRx ∧ liveFld s Kind.trunk t 96 7 * k.winRx < 100 * k.winErr
  let s := linkUpd t (fun k => { k with winRx := 0, winErr := 0 }) s
  if trunkMode s t ≠ 0 ∧ bad then faultLink t 3 s else s

/-- NO_PEER: MS/TP with a bound device and no frame of another node for 10 s (R107). The 16 timeouts of an RTU line are counted by
RTU_RESP_TIMEOUT; the row raises the fault where they stand. -/
def noPeerRow (t : Nat) (s : State) : State :=
  let k := s.link t
  if trunkMode s t = 1 ∧ !(boundDevs s t).isEmpty then faultLink t 5 s
  else if trunkMode s t = 2 ∧ k.rtuBad ≥ 16 then faultLink t 5 s
  else s

/-- TRUNK_PROBE, of a port too: one request to the bound device least recently heard (R108). -/
def trunkProbeRow (t : Nat) (s : State) : State :=
  let k := s.link t
  if k.state != .fault || k.cause == 4 then s
  else match boundDevs s t with
  | [] => s
  | d :: ds =>
    let dv := ds.foldl (fun b x => if (s.dev x).heard.diff (s.dev b).heard < 0 then x else b) d
    probeDev dv s

/-- TRUNK_RECOVER (R108): a probe answered since a cause was last present; after DUP_MAC none is asked for. -/
def trunkRecoverRow (t : Nat) (s : State) : State :=
  let k := s.link t
  if k.state == .fault && (k.probeOk || k.cause == 4) then recoverLink t s else s

/-- MSTP_FRAME_ABORT: the receive machine abandons the frame (R100); it counts as a framing error. -/
def mstpAbortRow (t : Nat) (s : State) : State :=
  if trunkMode s t = 1 ∧ (s.link t).state ≠ .off then linkErr t (linkRx t s) else s

end Sys2Proof.Machine
end

