-- ==== Sys2Proof/Machine/FieldCards.lean ====
section
/-!
DEFINITION. The command cards of the field links (04_field_links.md R113) and of point acquisition (05_point_acquisition.md
R140), what their records do when they take effect (R110, R120, R126), and what the links and the device table do when the
device gains or loses duty (R105, R106, R108) and at a cycle boundary (R132).
-/

namespace Sys2Proof.Machine

open Sys2Proof

/-! ## Taking effect -/

/-- A link starts as its record in force says (R108): OFF, LISTEN on a device without duty, UP otherwise. Two points are the model's
choice (notes/assumptions/17.md): an ACTIVE device whose outputs are disabled starts it in LISTEN, because R105 lets it transmit
nothing; and the held writes of a link that left FAULT through OFF or LISTEN are forwarded when it comes UP. -/
def startLink (l : Nat) (s : State) : State :=
  let on := if isPort l then portEnabled s (l - 8) else trunkMode s l != 0
  if !on then linkUpd l (fun k => { k with state := .off }) s
  else if !linksActive s then linkUpd l (fun k => { k with state := .listen }) s
  else
    let s := linkUpd l (fun k => { k with state := .up, garpDue := isPort l }) s
    -- R106: the first gratuitous ARP, or the ring
    let s := if isPort l then enqueue l .arpGratuitous s else startTrunk l s
    let s := if (s.link l).held.isEmpty then s else (forwardHeld l s).1
    pump s

/-- What a trunk that goes OFF still sends: the frame in progress, and the token if it holds it (R108). -/
def lastFrames (s : State) (l : Nat) : List Frame :=
  let k := s.link l
  let token := !isPort l && trunkMode s l == 1 && (k.mstp == .useToken || k.mstp == .waitForReply)
  k.wire.take 1 ++ (if token then [.mstp 0 k.ns []] else [])

/-- A new record of a link takes effect: the link leaves through OFF and starts again, and its points are STALE until they are
read (R110). -/
def restartLink (l : Nat) (s : State) : State :=
  let k := s.link l
  let last := lastFrames s l
  let s := if k.state == .fault then endFault l s else s
  let s := forAll (linkDevs s l (fun _ => true)) (fun dv s => staleDevPoints dv (abandonReqs dv false s)) s
  let s := linkUpd l (fun k => { clearQueues k with state := .off, cause := 0, arp := [], wire := last }) s
  let s := takeEffect (if isPort l then Kind.eth else Kind.trunk) (if isPort l then l - 8 else l) s
  startLink l s

/-- The links of a device that becomes ACTIVE (R106, R108): LISTEN goes to UP. -/
def linksGainDuty (s : State) : State :=
  forRange 10 (fun l s => if (s.link l).state == .listen then startLink l s else s) s

/-- The links of a device that leaves ACTIVE: DE low, queues emptied, LISTEN (R108); its requests are abandoned, and with duty its
shadows end (R80, R344). -/
def linksLoseDuty (s : State) : State :=
  let s := forAll ((s.pnt.dev.filter (fun e => e.2.state != .free)).map (·.1)) (fun dv s => abandonReqs dv true s) s
  let s : State := { s with pnt := { s.pnt with reqs := [], resend := [] }, pts := { s.pts with shadow := [] } }
  let s := forRange 10 (fun l s =>
    let k := s.link l
    if k.state == .up || k.state == .fault then
      let s := if k.state == .fault then endFault l s else s
      linkUpd l (fun k => { clearQueues k with state := .listen }) s
    else s) s
  { s with links := { s.links with conn := [], connWait := [] } }

/-- A cancellation for an active subscription goes to the address of its device before a new record replaces it (R120). It is sent as a
frame with the next invoke ID and without a request, and so is not repeated (notes/assumptions/18.md). -/
def cancelSub (dv pn : Nat) (s : State) : State :=
  if !linksActive s || (s.link (devLink s dv)).state != .up then s
  else match freeId s dv with
    | none => s
    | some id =>
      sendNpdu (devLink s dv) (destOf s dv) id (.subscribeCov pn (ptRef s pn) none)
        (devUpd dv (fun d => { d with nextId := (id + 1) % idSpace s dv, issued := max d.issued (id + 1) }) s)

/-- A device record takes effect (R120): the entry is freed, or starts seeking; its subscriptions are cancelled. -/
def devTakesEffect (dv : Nat) (s : State) : State :=
  let d := s.dev dv
  let s := if d.state == .seeking || d.state == .bound || d.state == .silent then
      let subs := (devPoints s dv).filter (fun pn => s.pnt.sub.get pn)
      let s := forAll subs (cancelSub dv) (abandonReqs dv true s)
      { s with pnt := { s.pnt with sub := subs.foldl (fun t pn => t.set pn false) s.pnt.sub } }
    else s
  let s := takeEffect Kind.dev dv s
  if devKind s dv = 0 then
    devUpd dv (fun _ => {}) { s with pnt := { s.pnt with reqs := s.pnt.reqs.filter (fun r => r.dv != dv) } }
  else
    let s := devUpd dv (fun d => learnedFromRecord s dv
      { d with state := .seeking, rpmOff := false, rpmLimit := 32, stampKnown := false, restartStamp := 0, covRefused := false
               noRestartTime := false, staleDue := false, wasBound := false }) s
    if linksActive s then seekDev dv s else s

/-- The cycle-boundary pass of R132: links and devices whose points turn STALE, and points older than their limit. -/
def staleBoundary (s : State) : State :=
  let s := forRange 10 (fun l s =>
    if (s.link l).staleDue then
      let s := linkUpd l (fun k => { k with staleDue := false }) s
      forAll (linkDevs s l (fun st => st != .free && st != .discovered)) staleDevPoints s
    else s) s
  let s := forAll ((s.pnt.dev.filter (fun e => e.2.staleDue)).map (·.1)) (fun dv s =>
    staleDevPoints dv (devUpd dv (fun d => { d with staleDue := false }) s)) s
  if !s.duty then s
  else
    forAll ((s.live.filter (fun e => e.1 / 0x40000 == Kind.point)).map (fun e => e.1 % 0x40000)) (fun pn s =>
      if ptConfigured s pn && (ptKind s pn == 3 || ptKind s pn == 4) then
        let c := ptClass s pn
        let limit := liveFld s Kind.cls c 32 4 * liveFld s Kind.cls c 0 16
        let age := (s.point pn).age + 1
        flagPoint pn (fun p => { p with age := age, stale := p.stale || decide (age > limit) }) s
      else s) s

/-! ## Cards of the field links (R113) -/

/-- FL_SET_ETH. -/
def cardSetEth (org : Origin) (_lvl : Nat) (p : List Byte) (s : State) : State × Res :=
  let port := le p 0 1
  let x := le p 4 32
  let mac := fld x 16 48
  let pre := fld x 96 8
  let o := 1 - port
  let other := s.nv.cfg.get (recKey Kind.eth o)
  let overlap := match other with
    | some y => let n := min pre (fld y 96 8); netOf (fld x 64 32) n == netOf (fld y 64 32) n
    | none => false
  let gw := fld x 128 32
  ranged ([(decide (port ≤ 1), 0)] ++ zero p 1 3 ++
      [(mac % 2 == 0 && mac != 0, 6), (!overlap, 12)] ++ mapped ethFields 4 x ++
      [(gw == 0 || netOf gw pre == netOf (fld x 64 32) pre, 20)]) s fun _ =>
    if other.any (fun y => fld y 5 5 == fld x 5 5) then (s, conflict 0x0C o 0x0C port)
    else if !allNormal s then (s, .no St.busy 0)
    else journal org true [wr Kind.eth port x] [] s

/-- The fields of FL_TRUNK_CFG that a mode does not use hold their reset values (R112). -/
def trunkUnused (x : Img) : List (Bool × Nat) :=
  let mode := fld x 0 2
  let r := resetImg Kind.trunk 0
  let same (lo w : Nat) : Bool := fld x lo w == fld r lo w
  let rtu : List (Bool × Nat) := [(same 5 2, 4), (same 7 1, 4), (same 64 16, 12), (same 80 16, 14)]
  let ms : List (Bool × Nat) := [(same 16 7, 6), (same 24 7, 7), (same 32 8, 8), (same 40 9, 9), (same 49 7, 10)]
  if mode = 1 then rtu else if mode = 2 then ms else rtu ++ ms

/-- FL_SET_TRUNK. -/
def cardSetTrunk (org : Origin) (_lvl : Nat) (p : List Byte) (s : State) : State × Res :=
  let t := le p 0 1
  let x := le p 4 16
  ranged ([(decide (t ≤ 7), 0)] ++ zero p 1 3 ++ mapped trunkFields 4 x ++ trunkUnused x ++
      [(fld x 0 2 != 1 || decide (fld x 16 7 ≤ fld x 24 7), 7)]) s fun _ =>
    if !allNormal s then (s, .no St.busy 0) else journal org true [wr Kind.trunk t x] [] s

/-- FL_GET_STATUS. -/
def cardLinkStatus (_org : Origin) (_lvl : Nat) (p : List Byte) (s : State) : State × Res :=
  let l := le p 0 1
  ranged [(decide (l ≤ 9), 0)] s fun _ =>
    let k := s.link l
    let st := match k.state with | .off => 0 | .listen => 1 | .up => 2 | .fault => 3
    let secs := if k.state == .fault then min (k.secsFault + (s.rtc.up - k.secsFrom) / 32768) 0xFFFFFFFF else k.secsFault
    (s, .ok (leBytes 1 st ++ leBytes 1 k.cause ++ leBytes 1 (if isPort l then k.speed else liveFld s Kind.trunk l 2 3) ++ [0] ++
      leBytes 4 k.rx ++ leBytes 4 k.tx ++ leBytes 4 k.dropped ++ leBytes 4 k.errs ++ leBytes 4 k.fwd ++ leBytes 4 k.fwdDropped ++
      leBytes 4 k.heldDropped ++ leBytes 4 k.faults ++ leBytes 4 secs))

/-- Bytes of the bulk window (R417). -/
def bulkBytes (s : State) (o n : Nat) : List Byte := s.port.bulk.getMany o n

/-- FL_ETH_TX (R97). A link in LISTEN on a device with duty, whose outputs are disabled, answers LINK_DOWN: the model's choice
(notes/assumptions/17.md). -/
def cardEthTx (_org : Origin) (_lvl : Nat) (p : List Byte) (s : State) : State × Res :=
  let port := le p 0 1
  let bulk := le p 1 1 == 1
  let n := le p 2 2
  let off := le p 4 4
  ranged [(decide (port ≤ 1), 0), (decide (le p 1 1 ≤ 1), 1)] s fun _ =>
    if n < 60 ∨ 1514 < n then (s, .no St.frame 0)
    else ranged [(!bulk || decide (off + n ≤ 65536), 4)] s fun _ =>
      if !s.duty then (s, .no St.role 0)
      else
        let k := s.link (8 + port)
        if k.state == .off || k.state == .fault || k.state == .listen then (s, .no St.linkDown 0)
        else if k.qHost.length ≥ 32 then (s, .no St.noResource 0)
        else
          let f := if bulk then bulkBytes s off n else (p.drop 4).take n
          (linkUpd (8 + port) (fun k => { k with qHost := k.qHost ++ [.host f] }) s, .ok [])

/-- FL_MDIO (R90). What the PHY answers is free. -/
def cardMdio (_org : Origin) (_lvl : Nat) (p : List Byte) (s : State) : State × Res :=
  let phy := le p 0 1
  let reg := le p 1 1
  let op := le p 2 1
  ranged ([(decide (phy ≤ 31), 0), (decide (reg ≤ 31), 1), (decide (op ≤ 1), 2)] ++ zero p 3 1) s fun _ =>
    if op = 1 then
      ({ s with links := { s.links with mdio := s.links.mdio.set (phy * 32 + reg) (le p 4 2) } }, .ok (leBytes 2 0))
    else
      let (n, s) := takeFree s
      if Config.mdioAnswers phy reg n then
        let d := (Config.mdioData phy reg n).toNat
        ({ s with links := { s.links with mdio := s.links.mdio.set (phy * 32 + reg) d } }, .ok (leBytes 2 d))
      else (s, .no St.mdioTimeout 0)

/-- FL_TRUNK_TX (R101), with LINK_DOWN in LISTEN as for FL_ETH_TX. -/
def cardTrunkTx (_org : Origin) (_lvl : Nat) (p : List Byte) (s : State) : State × Res :=
  let t := le p 0 1
  let typ := le p 1 1
  let n := le p 4 2
  ranged ([(decide (t ≤ 7), 0), (trunkMode s t != 2, 0), (decide (5 ≤ typ ∧ typ ≤ 7), 1)] ++ zero p 3 1 ++
      [(decide (n ≤ 501), 4)]) s fun _ =>
    if !s.duty then (s, .no St.role 0)
    else
      let k := s.link t
      if k.state != .up then (s, .no St.linkDown 0)
      else if k.qHost.length ≥ 16 then (s, .no St.noResource 0)
      else
        (trunkKick t (linkUpd t (fun k => { k with qHost := k.qHost ++ [.mstp typ (le p 2 1) ((p.drop 6).take n)] }) s), .ok [])

/-! ## Cards of point acquisition (R140) -/

/-- PA_SET_CFG. -/
def cardPaSetCfg (org : Origin) (_lvl : Nat) (p : List Byte) (s : State) : State × Res :=
  let x := le p 0 16
  ranged (mapped paFields 0 x) s fun _ => journal org true [wr Kind.pa 0 x] [] s

/-- PA_SET_CLASS. -/
def cardPaSetClass (org : Origin) (_lvl : Nat) (p : List Byte) (s : State) : State × Res :=
  let x := le p 8 8
  ranged ([(decide (le p 0 1 ≤ 15), 0)] ++ zero p 1 7 ++ mapped clsFields 8 x) s fun _ =>
    if !allNormal s then (s, .no St.busy 0) else journal org true [wr Kind.cls (le p 0 1) x] [] s

/-- The conditions of R119 that join fields of an entry. -/
def devJoint (s : State) (x : Img) : List (Bool × Nat) :=
  let kind := fld x 0 2
  let link := fld x 4 4
  let mb := kind ≥ 2
  let mode := trunkMode s link
  let st := fld x 48 8
  [(!mb || flag x 2, 4),
   (if kind = 1 then decide (8 ≤ link) || mode == 1 else if kind = 2 then decide (link ≤ 7) && mode == 2 else decide (8 ≤ link), 4),
   (!mb || fld x 14 2 == 0, 5), (!mb || fld x 24 22 == 0, 7),
   (if kind = 1 then decide (8 ≤ link) || decide (st ≤ 127) else if kind = 2 then decide (1 ≤ st ∧ st ≤ 247) else true, 10),
   (!mb || fld x 96 16 == 0, 16), (kind != 2 || fld x 244 4 == 1, 34)]

/-- Another entry that names the same BACnet INSTANCE, or the same Modbus link and station (R119). -/
def devClash (s : State) (dv : Nat) (x : Img) : Option Nat :=
  (s.nv.cfg.filter (fun e => e.1 / 0x40000 == Kind.dev)).findSome? (fun e =>
    match e.2 with
    | some y =>
      let kx := fld x 0 2
      let ky := fld y 0 2
      if e.1 % 0x40000 ≠ dv && ky ≠ 0 && ((kx == 1 && ky == 1 && fld x 24 22 == fld y 24 22) ||
          (decide (2 ≤ kx) && decide (2 ≤ ky) && fld x 4 4 == fld y 4 4 && fld x 48 8 == fld y 48 8))
      then some (e.1 % 0x40000) else none
    | none => none)

/-- PA_SET_DEV (R120). KIND 0 checks only KIND and the reserved fields, and leaves the Reset image. -/
def cardPaSetDev (org : Origin) (_lvl : Nat) (p : List Byte) (s : State) : State × Res :=
  let dv := le p 0 2
  let x := le p 4 128
  let free := fld x 0 2 == 0
  let fs := if free then devFields.filter (fun f => f.kind == .rsv) else devFields
  ranged ([(decide (dv ≤ 4095), 0)] ++ zero p 2 2 ++ mapped fs 4 x ++
      (if free then [((devPoints s dv).isEmpty, 4)] else devJoint s x)) s fun _ =>
    match if free then none else devClash s dv x with
    | some o => (s, conflict 0x0B o 0x0B dv)
    | none =>
      if !allNormal s then (s, .no St.busy 0)
      else journal org true [{ kind := Kind.dev, idx := dv, image := if free then none else some (cleanImg devFields x) }] [] s

/-- STATE of an entry (R119). -/
def devStateCode : DevState → Nat
  | .free => 0 | .seeking => 1 | .bound => 2 | .silent => 3 | .discovered => 4

/-- The image of a device-table entry with its learned and RO fields (R119). -/
def devImage (s : State) (dv : Nat) : Img :=
  let d := s.dev dv
  let x := liveImg s Kind.dev dv
  let disc := d.state == .discovered
  let x := if disc then setFld (setFld (setFld x 0 2 1) 4 4 d.link) 24 22 d.inst else x
  let put (lo w v : Nat) (x : Img) : Img := setFld x lo w v
  let subs := ((devPoints s dv).filter (fun pn => s.pnt.sub.get pn)).length
  let x := put 8 3 (devStateCode d.state) (put 11 1 (bit d.rpmOff) (put 216 8 d.rpmLimit (put 208 2 d.seg x)))
  let x := if d.state == .free then x
    else put 48 8 d.station (put 64 32 d.ip (put 96 16 d.udpPort (put 112 16 d.dnet (put 128 48 d.dadr
      (put 176 3 d.dlen (put 192 16 d.maxApdu x))))))
  put 288 32 d.heard.c.toNat (put 320 16 d.heard.a.toNat (put 352 16 subs (put 368 64 d.restartStamp.toNat
    (put 432 16 d.restarts (put 448 16 d.timeouts (put 464 16 d.late (put 480 18 (devPoints s dv).length x)))))))

/-- PA_GET_DEV. -/
def cardPaGetDev (_org : Origin) (_lvl : Nat) (p : List Byte) (s : State) : State × Res :=
  let dv := le p 0 2
  ranged [(decide (dv ≤ 4095), 0)] s fun _ => (s, .ok (leBytes 128 (devImage s dv)))

/-- PA_REBIND of one entry (R124). -/
def rebindDev (dv : Nat) (s : State) : State :=
  match (s.dev dv).state with
  | .bound => restartActions dv (some 3) s
  | .seeking | .silent => seekDev dv s
  | _ => s

/-- PA_REBIND: one entry, or every one. -/
def cardPaRebind (_org : Origin) (_lvl : Nat) (p : List Byte) (s : State) : State × Res :=
  let dv := le p 0 2
  ranged [(decide (dv ≤ 4095) || dv == 0xFFFF, 0)] s fun _ =>
    if !s.duty then (s, .no St.role 0)
    else if dv = 0xFFFF then (forAll (List.map (·.1) s.pnt.dev) rebindDev s, .ok [])
    else (rebindDev dv s, .ok [])

/-- PA_READ_NOW. -/
def cardPaReadNow (org : Origin) (_lvl : Nat) (p : List Byte) (s : State) : State × Res :=
  let pn := le p 0 4
  ranged [(decide (pn < 131072), 0)] s fun _ =>
    if !s.duty then (s, .no St.role 0)
    else if !(ptConfigured s pn && (ptKind s pn == 3 || ptKind s pn == 4)) then (s, .no St.notField 0)
    else if (s.dev (ptDv s pn)).state != .bound then (s, .no St.notBound 0)
    else (pump (queueReq { dv := ptDv s pn, kind := .readNow pn org } s), .wait (.readNow pn))

end Sys2Proof.Machine
end

