-- ==== Sys2Proof/Machine/Analog.lean ====
section
/-!
DEFINITION. Analogue conversion (10_analog.md): entries and their owners (R243 to R246), injected sequences and the
simultaneous group (R247 to R249), integration and landing (R250, R251), over-range (R252), the result registers (R253), the
jig and calibration (R254 to R257), what a new record does (R258), and the command cards (R259).
-/

namespace Sys2Proof.Machine

open Sys2Proof

def State.conv (s : State) (c : Nat) : Conv := s.ad.conv.get c
def convUpd (c : Nat) (f : Conv → Conv) (s : State) : State := { s with ad := { s.ad with conv := s.ad.conv.upd c f } }

/-! ## Records and entries (R243 to R245) -/

def convEnabled (x : Img) : Bool := flag x 0
def convRef (x : Img) : Nat := fld x 1 2
def convRegLen (x : Img) : Nat := fld x 4 6
def convInjLen (x : Img) : Nat := fld x 10 4
/-- Regular entry e, or injected entry e − 32, of a converter's record. -/
def convEntry (x : Img) (e : Nat) : Img := fld x (64 + 32 * e) 32

/-- Any supervised input is enabled (R167), by the record of LS_IN given. -/
def anySup (x : Img) : Bool := (List.range 8).any (fun n => flag x (32 * n))

/-- The supervised-input classifier owns entry e of converter c (R245). -/
def supOwns (lsIn : Img) (c e : Nat) : Bool := c == 0 && decide (24 ≤ e ∧ e ≤ 31) && anySup lsIn
/-- The coil rail check owns entry e of converter c (R245). -/
def railOwns (anyBank : Bool) (c e : Nat) : Bool := c == 1 && decide (30 ≤ e ∧ e ≤ 31) && anyBank

/-- Any bank in force has ENABLE set. -/
def anyBankLive (s : State) : Bool := (List.range 6).any (fun b => liveBit s Kind.bank b 0)
/-- Any committed bank record has ENABLE set. -/
def anyBankCfg (s : State) : Bool := (List.range 6).any (fun b => flag (cfgImg s Kind.bank b) 0)

/-- A regular entry as it runs: an owned entry has the setting of R245. -/
def regEntry (s : State) (c e : Nat) : Img :=
  if supOwns (liveImg s Kind.lsIn 0) c e then (8 + (e - 24)) + 25 * 2 ^ 8
  else if railOwns (anyBankLive s) c e then (8 + (e - 30)) + 2 ^ 7 + 8 * 2 ^ 8
  else convEntry (liveImg s Kind.conv c) e

/-- The record under which a converter's injected sequences run (R258). -/
def injImg (s : State) (c : Nat) : Img := ((s.conv c).oldImg).getD (liveImg s Kind.conv c)

/-- The classifier's entries run: with duty, and in NAP with PAIR_EN low (R245, R390). -/
def classifierRuns (s : State) : Bool := s.duty || (s.sys.power == .nap && !s.sys.straps.pairEn)

/-- The regular entries of a converter, in the order of R246; the classifier's are skipped without duty (R245). -/
def regEntries (s : State) (c : Nat) : List Nat :=
  let n := convRegLen (liveImg s Kind.conv c)
  (List.range 32).filter (fun e =>
    decide (e < n) || (supOwns (liveImg s Kind.lsIn 0) c e && classifierRuns s) || railOwns (anyBankLive s) c e)

def entDiff (x : Img) : Bool := flag x 5
def entRec (x : Img) : Bool := flag x 6
def entInteg (x : Img) : Bool := flag x 7
def entK (x : Img) : Nat := fld x 16 4 + 1

/-! ## The regular sequence (R246) -/

/-- Start the regular sequence at entry n, or at the next one in use, or at its lowest. -/
def startRegular (c n : Nat) (s : State) : State :=
  let l := regEntries s c
  match (l.find? (fun e => n ≤ e)).orElse (fun _ => l.head?) with
  | some e => convUpd c (fun k => { k with busy := .regular e, next := e }) s
  | none => convUpd c (fun k => { k with busy := .idle, next := 0 }) s

/-! ## Injected sequences (R247 to R249) -/

/-- The members of the simultaneous group. -/
def groupMembers (s : State) : List Nat := (List.range 4).filter (fun c => liveBit s Kind.group 0 c)

/-- The converters that a trigger accepted by c starts: c, or the members of its group in RUN (R249). -/
def startSet (s : State) (c : Nat) : List Nat :=
  if (groupMembers s).contains c then (groupMembers s).filter (fun m => (s.conv m).state == .run) else [c]

/-- The injected sequence of the converters starts, once none is in a recovery slot (R248, R249). -/
def beginInjected (ms : List Nat) (s : State) : State :=
  if ms.any (fun m => (s.conv m).busy == .recovery) then
    forAll ms (fun m s => convUpd m (fun k => { k with
      busy := if k.busy = .recovery then .recovery else .idle, afterRec := some 0 }) s) s
  else
    forAll ms (fun m s => convUpd m (fun k => { k with busy := .injected 0, afterRec := none, injAt := none }) s) s

/-- The injected sequence starts on converters (R248, R249): a regular conversion is aborted. -/
def startInjected (ms : List Nat) (i : Inject) (s : State) : State :=
  beginInjected ms (forAll ms (fun m s => convUpd m (fun k =>
    let aborts := match k.busy with | .regular _ => true | _ => false
    { k with inj := some i, pend := none, busy := if aborts then .idle else k.busy, sequences := sat32 k.sequences
             aborts := if aborts then sat32 k.aborts else k.aborts }) s) s)

/-- A pending start, or a start that waits for a recovery slot, goes on once nothing it waits for is left (R248, R249); a pending start
whose converter has INJ_LEN 0 by then is ignored and counted (R247). -/
def resumePending (s : State) : State :=
  let s := forRange 4 (fun c s =>
    if (s.conv c).inj.isNone && (s.conv c).pend.isSome && convInjLen (liveImg s Kind.conv c) == 0 then
      convUpd c (fun k => { k with pend := none, ignored := sat32 k.ignored }) s
    else s) s
  forRange 4 (fun c s =>
    let k := s.conv c
    let ms := startSet s c
    if k.state != .run then s
    else match k.inj, k.pend with
      | none, some i => if ms.all (fun m => (s.conv m).inj.isNone) then startInjected ms i s else s
      | some _, _ =>
        if k.afterRec == some 0 && k.busy == .idle && !ms.any (fun m => (s.conv m).busy == .recovery) then
          beginInjected (ms.filter (fun m => (s.conv m).inj.isSome && (s.conv m).afterRec == some 0)) s
        else s
      | none, none => s) s

/-- What a converter did with a trigger. -/
inductive TrigRes where
  | started | pending | overrun | ignored | excluded | merged
  deriving DecidableEq, Repr

/-- A trigger that is dropped on converter c (R248): it is counted, and reported at most once per 60 s (R260). -/
def injOverrun (c : Nat) (s : State) : State :=
  let s := convUpd c (fun k => { k with overruns := sat32 k.overruns, overrunSince := sat32 k.overrunSince }) s
  let k := s.conv c
  if s.every k.overrunAt 60 then
    convUpd c (fun k => { k with overrunAt := some s.rtc.up, overrunSince := 0 })
      (raise 2 0xA1 [ef 1 c, ef 4 k.overrunSince] s)
  else s

/-- A trigger reaches converter c (R247 to R249). -/
def trigger (src : TrigSrc) (i : Inject) (c : Nat) (s : State) : TrigRes × State :=
  let k := s.conv c
  let x := liveImg s Kind.conv c
  let en := match src with
    | .calendar => flag x 14 | .mark => flag x 15 | .fan => flag x 16 | .host => flag x 17
  if k.state == .jig || k.state == .cal then (.excluded, convUpd c (fun k => { k with excluded := sat32 k.excluded }) s)
  else if !en || convInjLen x == 0 || k.state == .off then
    (.ignored, convUpd c (fun k => { k with ignored := sat32 k.ignored }) s)
  else
    -- members of the group out of service are left out, and the trigger counts on them (R249)
    let s := if (groupMembers s).contains c then
        forAll ((groupMembers s).filter (fun m => (s.conv m).state == .jig || (s.conv m).state == .cal))
          (fun m s => convUpd m (fun k => { k with excluded := sat32 k.excluded }) s) s
      else s
    let ms := startSet s c
    if ms.all (fun m => (s.conv m).inj.isNone && (s.conv m).pend.isNone) then
      (.started, startInjected ms i s)
    else if ms.all (fun m => (s.conv m).pend.isNone) then
      (.pending, forAll ms (fun m s => convUpd m (fun k => { k with pend := some i, pendings := sat32 k.pendings }) s) s)
    else (.overrun, injOverrun c s)

/-- Triggers of one source reach the converters of a mask in one clock: those to other members of a group that has taken one
are merged (R249). The triggers of one command are in one clock, those of two are not (notes/assumptions/38.md). The answers are in
ascending converter. -/
def triggerMask (src : TrigSrc) (i : Inject) (mask : Nat) (s : State) : List TrigRes × State :=
  let (l, _, s) := ((List.range 4).filter (fun c => mask.testBit c)).foldl
    (fun (a : List TrigRes × Bool × State) c =>
      let (l, taken, s) := a
      if taken && (groupMembers s).contains c && (s.conv c).state == .run then
        (l ++ [.merged], taken, convUpd c (fun k => { k with merged := sat32 k.merged }) s)
      else
        let (r, s) := trigger src i c s
        (l ++ [r], taken || ((groupMembers s).contains c && (r == .started || r == .pending || r == .overrun)), s)) ([], false, s)
  (l, s)

/-- Bits [31:16] of a result register (R253). -/
def ConvReg.flagBits (r : ConvReg) : Nat :=
  bit r.ovr + 2 * bit r.suspect + 4 * bit r.unsettled + 8 * bit r.seam + 16 * bit r.late + 32 * bit r.valid

/-- The 8 bytes of a result register (R253). -/
def ConvReg.bytes (r : ConvReg) : List Byte :=
  leBytes 2 r.code ++ leBytes 2 r.flagBits ++ leBytes 2 r.n ++ leBytes 2 r.angle.toNat

/-- AD_INJ_DONE of a sequence that ends (R260). -/
def injDone (c : Nat) (s : State) : State :=
  let k := s.conv c
  match k.inj.bind (·.report) with
  | none => s
  | some h =>
    let regs := (List.range (convInjLen (injImg s c))).flatMap (fun j =>
      let r := k.reg.get (32 + j)
      [ef 2 r.code, ef 1 r.flagBits])
    raise 3 0xA5 ([ef 1 c, ef 2 h, efMT (k.injAt.getD s.now)] ++ regs) s

/-- INJECTED_SEQUENCE_END (R248): the pending sequence starts, once every member of a group is free, or the regular sequence
resumes. -/
def injectedEndRow (c : Nat) (s : State) : State :=
  let k := s.conv c
  if k.state != .run || k.inj.isNone || k.busy != .idle || k.afterRec.isSome then s
  else
    let s := convUpd c (fun k => { k with inj := none, injAt := none, oldImg := none }) (injDone c s)
    let s := resumePending s
    let t := s.conv c
    if t.inj.isNone && t.pend.isNone then startRegular c k.next s else s

/-! ## A conversion ends (R246, R248, R250, R252) -/

/-- The code of a conversion and OVR (R238, R252): the trimmed code, clamped. A comparator finding clamps to the nearer end. -/
def clampCode (diff outside : Bool) (raw : Int) : Int × Bool :=
  let lo : Int := if diff then -32768 else 0
  let hi : Int := if diff then 32767 else 65535
  let v := max lo (min hi raw)
  if outside then (if 2 * v ≤ lo + hi then lo else hi, true) else (v, v != raw)

/-- A code as its 16 bits. -/
def code16 (v : Int) : Nat := (v % 65536).toNat
/-- A code as a number. -/
def codeInt (diff : Bool) (n : Nat) : Int := if diff then signed 16 n else n

/-- p / q rounded half away from zero, q not 0. -/
def roundDiv (p : Int) (q : Nat) : Int :=
  let m : Nat := (2 * p.natAbs + q) / (2 * q)
  if p < 0 then -(m : Int) else m

/-- AD_OVERRANGE (R260): set 0 regular, 1 injected. -/
def overRange (c slot code : Nat) (s : State) : State :=
  if s.every ((s.conv c).overAt.get slot) 60 then
    convUpd c (fun k => { k with overAt := k.overAt.set slot (some s.rtc.up) })
      (raise 2 0xA0 [ef 1 c, ef 1 (slot / 32), ef 1 (slot % 32), ef 2 code] s)
  else s

/-- A sample of a supervised input is kept for its reading (R168). -/
def keepSample (n : Nat) (t : MT) (code : Nat) (s : State) : State :=
  { s with ls := { s.ls with samples := s.ls.samples.upd n (fun l => l.filter (fun e => decide (t.diff e.1 ≤ 2048)) ++ [(t, code)]) } }

/-- The register of a slot takes a result, or the accumulator of an integrating entry a sample (R250, R253). -/
def landResult (c slot : Nat) (ent : Img) (v : Int) (r : ConvReg) (s : State) : State :=
  convUpd c (fun k =>
    if slot < 32 ∧ entInteg ent then
      { k with acc := k.acc.upd slot (fun a => { a with
          sum := a.sum + v, n := a.n + 1, ovr := a.ovr || r.ovr, suspect := a.suspect || r.suspect
          unsettled := a.unsettled || r.unsettled }) }
    else { k with reg := k.reg.set slot r }) s

/-- One result of a running converter (R252, R253): slot e of a regular, 32 + j of an injected entry. It answers whether a
recovery slot follows. -/
def takeResult (c slot : Nat) (ent : Img) (raw : Int) (outside : Bool) (angle : U16) (s : State) : Bool × State :=
  let k := s.conv c
  let (v, ovr) := clampCode (entDiff ent) outside raw
  let suspect := k.suspectNext || k.calFail
  let r : ConvReg := { code := code16 v, ovr := ovr, suspect := suspect, unsettled := !k.refRdy
                       late := decide (32 ≤ slot) && (k.inj.map (·.late)).getD false, valid := true, n := 1, angle := angle }
  let recovers := ovr && entRec ent
  let s := landResult c slot ent v r s
  let s := convUpd c (fun k => { k with
    suspectNext := ovr && !recovers
    conversions := sat32 k.conversions
    ovrs := if ovr then sat32 k.ovrs else k.ovrs
    suspects := if suspect then sat32 k.suspects else k.suspects }) s
  (recovers, when ovr (overRange c slot r.code) s)

/-- The MT of a sample whose angle is given and which lies less than a cycle back. -/
def sampleMT (s : State) (angle : U16) : MT :=
  { c := if s.now.a.toNat < angle.toNat then s.now.c - 1 else s.now.c, a := angle }

/-- A jig's entry, COUNT and SMP (R254): byte 0 COUNT, byte 1 SMP, then the entries from byte 4 on. -/
def jigCount (s : State) (c : Nat) : Nat := liveFld s Kind.jig c 0 8
def jigEntryImg (s : State) (c e : Nat) : Img := liveFld s Kind.jig c (32 + 32 * e) 32

/-- The jig goes on behind an entry (R254). -/
def jigNext (c : Nat) (s : State) : State :=
  convUpd c (fun k => { k with jigEntry := if k.jigEntry + 1 < jigCount s c then k.jigEntry + 1 else 0, jigRep := 0, jigDelay := false }) s

/-- One conversion of the jig (R254). -/
def jigConversion (c : Nat) (raw : Int) (outside : Bool) (s : State) : State :=
  let k := s.conv c
  let ent := jigEntryImg s c k.jigEntry
  let (v, ovr) := clampCode (flag ent 5) outside raw
  let r := k.jigRes.get k.jigEntry
  let first := k.jigRep == 0
  let lo := if first then v else min r.curLo v
  let hi := if first then v else max r.curHi v
  let sum := if first then v else r.sum + v
  let any := if first then ovr else r.curOvr || ovr
  let done := decide (fld ent 8 8 ≤ k.jigRep)
  -- OVR of a pass is cleared at its start, and recorded from then on (R254)
  let r := { r with curLo := lo, curHi := hi, sum := sum, cnt := k.jigRep + 1, curOvr := any, ovr := any }
  let r := if done then
      { r with last := code16 v, lo := code16 lo, hi := code16 hi, mean := code16 (roundDiv sum (k.jigRep + 1)), done := true }
    else r
  let suspect := k.suspectNext || k.calFail
  let s := convUpd c (fun k => { k with
    jigRes := k.jigRes.set k.jigEntry r
    jigRep := k.jigRep + 1
    suspectNext := ovr
    conversions := sat32 k.conversions
    ovrs := if ovr then sat32 k.ovrs else k.ovrs
    suspects := if suspect then sat32 k.suspects else k.suspects
    jigOvrs := if done && any then sat32 k.jigOvrs else k.jigOvrs }) s
  if !done then s
  else if fld ent 16 16 = 0 then jigNext c s
  else convUpd c (fun k => { k with jigDelay := true }) s

/-- JIG_DELAY_EXPIRY (R254). -/
def jigDelayRow (c : Nat) (s : State) : State :=
  if (s.conv c).state == .jig && (s.conv c).jigDelay then jigNext c s else s

/-- CONVERSION_END (R246, R248, R252, R254). In NAP only ADC0 converts, with PAIR_EN low (R387, R390). -/
def conversionEndRow (c : Nat) (raw : Int) (outside : Bool) (angle : U16) (s : State) : State :=
  let k := s.conv c
  if s.sys.power == .nap && (c != 0 || s.sys.straps.pairEn) then s
  else if k.state == .jig then (if k.jigDelay then s else jigConversion c raw outside s)
  else if k.state != .run then s
  else match k.busy with
    | .idle => s
    | .regular e =>
      let (rec_, s) := takeResult c e (regEntry s c e) raw outside angle s
      let s := when (supOwns (liveImg s Kind.lsIn 0) c e) (keepSample (e - 24) (sampleMT s angle) ((s.conv c).reg.get e).code) s
      let s := startRegular c (e + 1) s
      if rec_ then convUpd c (fun k => { k with busy := .recovery, afterRec := none }) s else s
    | .injected j =>
      let x := injImg s c
      let s := when (j == 0) (convUpd c (fun k => { k with injAt := some (sampleMT s angle) })) s
      let (rec_, s) := takeResult c (32 + j) (convEntry x (32 + j)) raw outside angle s
      let more := decide (j + 1 < convInjLen x)
      convUpd c (fun k => { k with
        busy := if rec_ then .recovery else if more then .injected (j + 1) else .idle
        afterRec := if rec_ && more then some (j + 1) else none }) s
    | .recovery =>
      -- the dummy conversion updates no register
      match k.inj, k.afterRec with
      | none, _ => startRegular c k.next s
      | some _, none => convUpd c (fun k => { k with busy := .idle }) s
      | some _, some 0 => resumePending (convUpd c (fun k => { k with busy := .idle }) s)
      | some _, some j => convUpd c (fun k => { k with busy := .injected j, afterRec := none }) s

/-! ## Integration and landing at a cycle boundary (R24 steps 2 and 3, R250, R251) -/

/-- The latch of one integrating entry at a boundary of its period (R250). -/
def latchEntry (c e : Nat) (s : State) : State :=
  let a := (s.conv c).acc.get e
  let diff := entDiff (regEntry s c e)
  let fresh : Accum := { partial_ := false, latched := !a.partial_ && decide (0 < a.n) }
  if a.partial_ ∨ a.n = 0 then convUpd c (fun k => { k with acc := k.acc.set e fresh }) s
  else
    let lo : Int := if diff then -32768 else 0
    let hi : Int := if diff then 32767 else 65535
    let r : ConvReg := { code := code16 (max lo (min hi (roundDiv a.sum a.n))), ovr := a.ovr, suspect := a.suspect
                         unsettled := a.unsettled, seam := a.seam, valid := true, n := min a.n 65535 }
    convUpd c (fun k => { k with acc := k.acc.set e fresh, reg := k.reg.set e r }) s

/-- Step 2 of R24: at a seam, every period in progress contains it (R46). -/
def integLatch (seam : Bool) (s : State) : State :=
  forRange 4 (fun c s =>
    if (s.conv c).state != .run then s
    else forAll ((regEntries s c).filter (fun e => entInteg (regEntry s c e))) (fun e s =>
      let s := when seam (convUpd c (fun k => { k with acc := k.acc.upd e (fun a => { a with seam := true }) })) s
      if s.now.c.toNat % entK (regEntry s c e) = 0 then latchEntry c e s else s) s) s

/-- A register's raw value and the source conditions of R72. -/
def landRegister (c slot : Nat) (ent : Img) (s : State) : State :=
  let r := (s.conv c).reg.get slot
  landSource (c * 64 + slot) (.real (realOfInt (codeInt (entDiff ent) r.code)))
    { fault := if r.ovr then some 1 else none, suspect := r.suspect || r.unsettled || r.seam } s

/-- A register holds something to land (R251). -/
def lands (s : State) (c slot : Nat) : Bool :=
  let k := s.conv c
  k.state == .run && (k.reg.get slot).valid &&
    (if slot < 32 then
      (regEntries s c).contains slot && (!entInteg (regEntry s c slot) || (k.acc.get slot).latched)
    else decide (slot - 32 < convInjLen (liveImg s Kind.conv c)))

/-- Converter results land at step 3 of R24 (R251). -/
def landConverters (s : State) : State :=
  forRange 4 (fun c s =>
    let s := forRange 40 (fun slot s =>
      if lands s c slot then
        landRegister c slot (if slot < 32 then regEntry s c slot else convEntry (liveImg s Kind.conv c) slot) s
      else missSource (c * 64 + slot) s) s
    convUpd c (fun k => if k.state == .run then { k with landC := s.now.c } else k) s) s

/-! ## References (R242, R260) -/

/-- The converters in service that select EXT. -/
def extConvs (s : State) : List Nat :=
  (List.range 4).filter (fun c => convEnabled (liveImg s Kind.conv c) && convRef (liveImg s Kind.conv c) == 1)

/-- REF_SETTLED: the settling time has run without interruption (R242). -/
def refSettledRow (c : Nat) (s : State) : State :=
  if convRef (liveImg s Kind.conv c) = 1 ∧ s.ad.extOut then s else convUpd c (fun k => { k with refRdy := true }) s

/-- VREF_EXT_WINDOW: the reference leaves or enters its window (R242). -/
def vrefExtRow (inside : Bool) (s : State) : State :=
  let s : State := { s with ad := { s.ad with extOut := !inside, extBad := 0, extGood := 0 } }
  if inside then s
  else forRange 4 (fun c s => if convRef (liveImg s Kind.conv c) = 1 then convUpd c (fun k => { k with refRdy := false }) s else s) s

/-- AD_REF_FAULT and AD_REF_OK at a cycle boundary, once a whole cycle has passed outside or inside the window (R260). -/
def extBoundary (s : State) : State :=
  if s.ad.extOut then
    let n := min (s.ad.extBad + 1) 2
    let s : State := { s with ad := { s.ad with extBad := n } }
    if n = 2 ∧ !s.ad.extFault ∧ !(extConvs s).isEmpty then
      raise 2 0xA2 [efMask (extConvs s)] { s with ad := { s.ad with extFault := true } }
    else s
  else
    let n := min (s.ad.extGood + 1) 2
    let s : State := { s with ad := { s.ad with extGood := n } }
    if n = 2 ∧ s.ad.extFault then raise 2 0xA3 [] { s with ad := { s.ad with extFault := false } } else s

/-! ## States (R255 to R258) -/

/-- Leave RUN for the jig, calibration or OFF (R255): the conversion is aborted, a running sequence ends, a pending start is
discarded; a pending start and the registers count as R255 says where `jig`. -/
def leaveRun (jig : Bool) (c : Nat) (s : State) : State :=
  let k := s.conv c
  let s := injDone c s
  convUpd c (fun _ => { k with
    busy := .idle, inj := none, pend := none, injAt := none, afterRec := none, oldImg := none, next := 0
    aborts := if k.state == .run && k.busy != .idle then sat32 k.aborts else k.aborts
    excluded := if jig && k.pend.isSome then sat32 k.excluded else k.excluded }) s

/-- A period of k cycles begins now: MT stands at a boundary of it (R250). -/
def periodBegins (s : State) (k : Nat) : Bool := s.mt.started && s.now.a == 0 && s.now.c.toNat % k == 0

/-- The accumulators of a converter restart empty; a period that does not begin now is not latched (R255, R258). -/
def restartAcc (c : Nat) (s : State) : State :=
  convUpd c (fun k => { k with acc := (List.range 32).foldl (fun t e =>
    let x := regEntry s c e
    t.set e { partial_ := !(entInteg x && periodBegins s (entK x)) }) [] }) s

/-- RUN begins: the regular sequence starts at its lowest entry (R246, R257). -/
def enterRun (c : Nat) (s : State) : State := startRegular c 0 (convUpd c (fun k => { k with state := .run }) (restartAcc c s))

/-- Calibration starts (R256, R257). -/
def startCal (c : Nat) (s : State) : State := resumePending (convUpd c (fun k => { k with state := .cal }) (leaveRun true c s))

/-- The jig table starts, once its record is journalled (R257). -/
def startJig (c : Nat) (s : State) : State :=
  resumePending (convUpd c (fun k => { k with state := .jig, jigEntry := 0, jigRep := 0, jigDelay := false, jigRes := [] })
    (leaveRun true c (takeEffect Kind.jig c s)))

/-- The jig stops (R257). -/
def stopJig (c : Nat) (s : State) : State :=
  if convEnabled (liveImg s Kind.conv c) then enterRun c s else convUpd c (fun k => { k with state := .off, busy := .idle }) s

/-- CALIBRATION_END (R256, R257): offset in LSB, gain error in 0.01 %. -/
def calibrationEndRow (c : Nat) (offset gain : Int) (s : State) : State :=
  if (s.conv c).state != .cal then s
  else
    let bad := decide (64 < offset.natAbs) || decide (100 < gain.natAbs)
    let s := if bad then raise 2 0xA4 [ef 1 c, efInt 2 offset, efInt 2 gain] (convUpd c (fun k => { k with calFail := true }) s)
      else convUpd c (fun k => { k with calFail := false, offset := offset, gain := gain }) s
    let s := if s.sys.restored && convEnabled (liveImg s Kind.conv c) then enterRun c s
      else convUpd c (fun k => { k with state := .off }) s
    completeWait (.calib c) St.ok 0 [] s

/-- The registers of entries whose settings changed are reset, and their accumulators restart; a period that begins at this
boundary is a full one (R253, R258). -/
def resetChanged (c : Nat) (old new : Nat → Img) (s : State) : State :=
  forRange 40 (fun slot s =>
    if old slot = new slot then s
    else convUpd c (fun k => { k with
      reg := k.reg.set slot {}
      acc := k.acc.set slot { partial_ := !periodBegins s (entK (new slot)) } }) s) s

/-- The settings of every slot of a converter: those of entries not in use are told apart by a bit. -/
def slotSettings (s : State) (c slot : Nat) : Img :=
  if slot < 32 then
    if (regEntries s c).contains slot || supOwns (liveImg s Kind.lsIn 0) c slot then regEntry s c slot else 2 ^ 32
  else if slot - 32 < convInjLen (liveImg s Kind.conv c) then convEntry (liveImg s Kind.conv c) slot else 2 ^ 32

/-- Records that own entries, or a converter's own record, take effect (R245, R258): `f` puts them in force. -/
def withEntries (f : State → State) (s : State) : State :=
  let t := f s
  forRange 4 (fun c t =>
    let t := resetChanged c (slotSettings s c) (slotSettings t c) t
    -- a regular sequence that runs goes on under the entries now in use
    match (t.conv c).state, (t.conv c).busy with
    | .run, .idle => if (t.conv c).inj.isNone then startRegular c 0 t else t
    | .run, .regular e => if (regEntries t c).contains e then t else startRegular c e t
    | _, _ => t) t

/-- The classifier's entries of ADC0 come into use, or go out of it, with duty or NAP (R245): the regular sequence follows. -/
def entriesFollow (s : State) : State := withEntries id s

/-- A new AD_CONV takes effect at a cycle boundary, after step 2 of R24 (R257, R258). -/
def convTakesEffect (c : Nat) (s : State) : State :=
  let old := liveImg s Kind.conv c
  let s := convUpd c (fun k => if k.inj.isSome && k.oldImg.isNone then { k with oldImg := some old } else k) s
  let s := withEntries (takeEffect Kind.conv c) s
  let new := liveImg s Kind.conv c
  let s := when (convRef old != convRef new || (convEnabled new && !convEnabled old)) (convUpd c (fun k => { k with refRdy := false })) s
  match (s.conv c).state with
  | .off => if convEnabled new then enterRun c (convUpd c (fun k => { k with refRdy := false }) s) else s
  | .run => if convEnabled new then resumePending s
      else resumePending (convUpd c (fun k => { k with state := .off }) (leaveRun false c s))
  | _ => s

/-- New converter records and the group at a cycle boundary (R258). -/
def analogBoundary (s : State) : State :=
  let (now, later) := s.nv.due.partition (fun e => e.1 == Kind.conv || e.1 == Kind.group)
  forAll now (fun e s => if e.1 = Kind.group then resumePending (takeEffect e.1 e.2 s) else convTakesEffect e.2 s)
    { s with nv := { s.nv with due := later } }

/-- Configuration restore completes (R257): converters that are OFF with ENABLE 1 start. A converter that is enabled by it, or whose REF
it changes from INT, clears REF_RDY (R242). -/
def analogRestore (s : State) : State :=
  forRange 4 (fun c s =>
    let x := liveImg s Kind.conv c
    let s := when (convEnabled x || convRef x != 0) (convUpd c (fun k => { k with refRdy := false })) s
    if (s.conv c).state == .off && convEnabled x then enterRun c s else s) s

/-- Start-up: every converter that is OFF calibrates (R256, R257). -/
def analogStartUp (s : State) : State := forRange 4 (fun c s => if (s.conv c).state == .off then startCal c s else s) s

/-! ## Command cards (R259) -/

/-- A channel code is one of a converter's inputs (R236), and with DIFF an even AIN code (R238). -/
def chanOk (c : Nat) (ent : Img) : Bool :=
  let ch := fld ent 0 5
  let ok := decide (ch ≤ 15) || (decide (16 ≤ ch ∧ ch ≤ 19) && decide (2 ≤ c)) || decide (24 ≤ ch ∧ ch ≤ 26)
  ok && (!flag ent 5 || (decide (ch ≤ 6) && ch % 2 == 0))

/-- The checks of one entry of AD_SET_CONV at its offset in the payload. -/
def entryChecks (c e : Nat) (base : Nat) (ent : Img) : List (Bool × Nat) :=
  [(chanOk c ent, base), (decide (e < 32) || !flag ent 7, base)] ++ mapped adEntryFields base ent

/-- The members of a group match (R249): the same INJ_LEN, and the same SMP and REC in each injected entry in use. -/
def groupMatches (x y : Img) : Bool :=
  convInjLen x == convInjLen y && (List.range (convInjLen x)).all (fun j =>
    let a := convEntry x (32 + j)
    let b := convEntry y (32 + j)
    fld a 8 8 == fld b 8 8 && flag a 6 == flag b 6)

/-- The key matrix owns the ADC3 codes 0 to 7 (R241, R279). -/
def keysTake (x : Img) : Bool := flag x 1

/-- An entry in use of ADC3's record that names a code of the key matrix. -/
def keyEntry (x : Img) : Option Nat :=
  (List.range 40).find? (fun e =>
    (if e < 32 then decide (e < convRegLen x) else decide (e - 32 < convInjLen x)) && decide (fld (convEntry x e) 0 5 ≤ 7))

/-- The first conflict of a converter's record (R241, R242, R245), in the order of its fields. -/
def convConflict (s : State) (c : Nat) (x : Img) : Option Res :=
  let lsIn := cfgImg s Kind.lsIn 0
  if c = 0 ∧ convRef x ≠ 0 ∧ anySup lsIn then some (conflict 0x09 0 0x05 24)
  else if c = 0 ∧ 24 < convRegLen x ∧ anySup lsIn then some (conflict 0x09 0 0x05 24)
  else if c = 1 ∧ 30 < convRegLen x ∧ anyBankCfg s then some (conflict 0x0A 0 0x05 (64 + 30))
  else if c = 3 ∧ keysTake (cfgImg s Kind.ky 0) then (keyEntry x).map (fun e => conflict 0x08 0 0x05 (3 * 64 + e))
  else none

/-- AD_SET_CONV. -/
def cardSetConv (org : Origin) (_lvl : Nat) (p : List Byte) (s : State) : State × Res :=
  let c := le p 0 1
  let x := le p 8 168
  let owned (e : Nat) : Bool := supOwns (cfgImg s Kind.lsIn 0) c e || railOwns (anyBankCfg s) c e
  let grp := cfgImg s Kind.group 0
  let others := (List.range 4).filter (fun m => flag grp m && m != c)
  let breaks := flag grp c && others.any (fun m => !groupMatches x (cfgImg s Kind.conv m))
  ranged ([(decide (c ≤ 3), 0)] ++ zero p 1 7 ++ mapped convFields 8 x ++
      (List.range 40).flatMap (fun e => if e < 32 ∧ owned e then [] else entryChecks c e (16 + 4 * e) (convEntry x e)) ++
      [(!breaks, 9)]) s fun _ =>
    match convConflict s c x with
    | some r => (s, r)
    | none => if !allNormal s then (s, .no St.busy 0) else journal org true [wr Kind.conv c x] [] s

/-- AD_SET_GROUP. -/
def cardSetGroup (org : Origin) (_lvl : Nat) (p : List Byte) (s : State) : State × Res :=
  let m := le p 0 1
  let ms := (List.range 4).filter (fun c => m.testBit c)
  let match_ := match ms with
    | [] => true
    | a :: r => !r.isEmpty && r.all (fun b => groupMatches (cfgImg s Kind.conv a) (cfgImg s Kind.conv b))
  ranged ([(decide (m < 16) && match_, 0)] ++ zero p 1 3) s fun _ =>
    if !allNormal s then (s, .no St.busy 0) else journal org true [wr Kind.group 0 m] [] s

/-- The code of a converter's state (R259). -/
def ConvState.code : ConvState → Nat
  | .off => 0 | .cal => 1 | .run => 2 | .jig => 3

/-- AD_READ. -/
def cardAdRead (_org : Origin) (_lvl : Nat) (p : List Byte) (s : State) : State × Res :=
  let c := le p 0 1
  let set := le p 1 1
  ranged ([(decide (c ≤ 3), 0), (decide (set ≤ 1), 1)] ++ zero p 2 2) s fun _ =>
    let k := s.conv c
    let regs := if set = 0 then List.range 32 else (List.range 8).map (· + 32)
    (s, .ok (leBytes 4 k.landC.toNat ++ leBytes 1 k.state.code ++
      leBytes 1 (bit k.refRdy + 2 * bit k.pend.isSome + 4 * bit k.calFail) ++ leBytes 2 0 ++
      regs.flatMap (fun e => (k.reg.get e).bytes)))

/-- AD_INJECT. -/
def cardAdInject (_org : Origin) (_lvl : Nat) (p : List Byte) (s : State) : State × Res :=
  let mask := le p 0 1
  let flags := le p 1 1
  let at_ := flags.testBit 0
  let report := flags.testBit 1
  let t : MT := { c := u32 (le p 4 4), a := u16 (le p 8 2) }
  ranged ([(decide (0 < mask ∧ mask < 16), 0), (decide (flags < 4), 1)] ++ zero p 2 2 ++ [(!at_ || !tooFarAhead s t, 4)]) s fun _ =>
    if at_ then
      match calInsert (.mt t) (.inject (mask + 16 * bit report)) s with
      | none => (s, .no St.noResource 0)
      | some (h, s) => (s, .ok (leBytes 2 h))
    else
      let (l, s) := triggerMask .host { report := if report then some 0xFFFF else none } mask s
      if l.all (fun r => r == .excluded) then (s, .no St.jigActive 0)
      else if l.all (fun r => r == .excluded || r == .ignored || r == .overrun) then (s, .no St.injDropped 0)
      else (s, .ok (leBytes 2 0xFFFF))

/-- AD_JIG. -/
def cardAdJig (org : Origin) (_lvl : Nat) (p : List Byte) (s : State) : State × Res :=
  let c := le p 0 1
  let act := le p 1 1
  let n := le p 2 1
  let k := s.conv c
  let ents := (List.range n).flatMap (fun i =>
    let e := le p (8 + 4 * i) 4
    [(chanOk c e, 8 + 4 * i), (fld e 6 2 == 0, 8 + 4 * i)])
  let table := if act = 1 then [(decide (1 ≤ n ∧ n ≤ 64), 2), (decide (4 ≤ le p 3 1), 3)] ++ ents else []
  ranged ([(decide (c ≤ 3), 0), (decide (act ≤ 3), 1)] ++ table ++ zero p 4 4) s fun _ =>
    if act = 0 then
      match k.state with
      | .jig => (stopJig c s, .ok [])
      | .cal => (s, .no St.jigActive 0)
      | _ => (s, .ok [])
    else if act = 3 then
      if k.state != .jig then (s, .no St.jigActive 0)
      else
        let mask := (List.range 64).foldl (fun m e => if (k.jigRes.get e).ovr then m + 2 ^ e else m) 0
        (s, .ok (leBytes 8 mask ++ leBytes 8 0 ++ (List.range (jigCount s c)).flatMap (fun e =>
          let r := k.jigRes.get e
          leBytes 2 r.last ++ leBytes 2 r.lo ++ leBytes 2 r.hi ++ leBytes 2 r.mean)))
    else if k.state == .cal || (act == 1 && k.state == .jig) then (s, .no St.jigActive 0)
    else if !allNormal s then (s, .no St.busy 0)
    else if act = 2 then (startCal c s, .wait (.calib c))
    else journal org false [wr Kind.jig c (n + le p 3 1 * 2 ^ 8 + le p 8 (4 * n) * 2 ^ 32)] [] s

/-- AD_GET_STATS. -/
def cardAdStats (_org : Origin) (_lvl : Nat) (p : List Byte) (s : State) : State × Res :=
  let c := le p 0 1
  ranged [(decide (c ≤ 3), 0)] s fun _ =>
    let k := s.conv c
    (s, .ok ([k.conversions, k.aborts, k.sequences, k.pendings, k.overruns, k.merged, k.excluded, k.ignored, k.ovrs, k.suspects,
      k.jigOvrs].flatMap (leBytes 4)))

end Sys2Proof.Machine
end

