-- ==== Sys2Proof/Machine/Keys.lean ====
section
/-!
DEFINITION. The key matrix (12_keys.md): the scan with its decoding, faults and debounce (R275 to R278), the landing and the
key actions of a half-cycle boundary (R277, R281), and the cards.
-/

namespace Sys2Proof.Machine

open Sys2Proof

def kyUpd (f : Keys → Keys) (s : State) : State := { s with ky := f s.ky }
def keyUpd (k : Nat) (f : Key → Key) (s : State) : State := kyUpd (fun y => { y with key := y.key.upd k f }) s

/-- KY_CFG in force (R279). -/
def kyEnable (s : State) : Bool := liveBit s Kind.ky 0 0
def kyCols (s : State) : Nat := if liveBit s Kind.ky 0 1 then 16 else 8
def kyRow (s : State) (r : Nat) : Bool := liveBit s Kind.ky 0 (8 + r)

/-- Row, column and position of a key (R274). -/
def keyRow (k : Nat) : Nat := k / 64
def keyCol (k : Nat) : Nat := k / 4 % 16
def keyPos (k : Nat) : Nat := k % 4

/-- A fault of the scan freezes a key (R278). -/
def keyFrozen (s : State) (k : Nat) : Bool :=
  (s.ky.grid.get (16 * keyRow k + keyCol k)).stands || (s.ky.col.get (keyCol k)).stands || (s.ky.row.get (keyRow k)).stands

/-- The fault flag of a key (R278). -/
def keyFlag (s : State) (k : Nat) : Bool := keyFrozen s k || (s.ky.key.get k).stuck

/-- One scan of a fault's condition: confirmed by three in a row, cleared by three in a row without it (R278). -/
def KeyFault.scan (bad : Bool) (f : KeyFault) : KeyFault :=
  if bad then { bad := min (f.bad + 1) 3, good := 0, stands := f.stands || decide (2 ≤ f.bad) }
  else { bad := 0, good := min (f.good + 1) 3, stands := f.stands && decide (f.good < 2) }

/-- Frozen keys, and keys whose fault clears, start their count afresh (R278). -/
def restartCounts (p : Nat → Bool) (s : State) : State :=
  kyUpd (fun y => { y with key := Tab.map y.key (fun k x => if p k then { x with count := 0 } else x) }) s

/-- The events of a fault's change, for the landing: the confirmation, or KEY_FAULT_CLR with the fault's number
(notes/assumptions/24.md). -/
def faultChange (old new : KeyFault) (confirmed cleared : Nat × Nat × Nat × Nat) (p : Nat → Bool) (s : State) : State :=
  if old.stands = new.stands then s
  else restartCounts p (markDirty 6 (2 ^ 23)
    (kyUpd (fun y => { y with pendEv := y.pendEv ++ [if new.stands then confirmed else cleared] }) s))

/-- The null step of a column (R275, R278). -/
def scanColumn (n c : Nat) (s : State) : State :=
  let old := s.ky.col.get c
  let new := old.scan (decide (liveFld s Kind.ky 0 24 8 < n))
  let s := kyUpd (fun y => { y with col := y.col.set c new, nul := y.nul.set c n }) s
  faultChange old new (0xC1, c, n, 0) (0xC4, 1, c, 0) (fun k => keyCol k == c) s

/-- The row drive of a row step (R278): the deviation from KBIAS + 1.000 V in mV. -/
def scanRow (dev : Int) (r : Nat) (s : State) : State :=
  let old := s.ky.row.get r
  let new := old.scan (decide (50 < dev.natAbs))
  let s := kyUpd (fun y => { y with row := y.row.set r new }) s
  faultChange old new (0xC2, r, (max 0 (2250 + dev)).toNat, 0) (0xC4, 2, 16 * r, 0) (fun k => keyRow k == r) s

/-- The position bits that a reading decodes to; none off grid (R276). -/
def decodeReading (tol : Nat) (x : Int) : Option Nat :=
  let n := roundDiv x 200
  if 0 ≤ n ∧ n ≤ 15 ∧ (x - 200 * n).natAbs ≤ tol then some n.toNat else none

/-- The raw state of a key in a scan against its debounced state (R277); a stuck key's release ends the fault (R278). -/
def debounce (raw : Bool) (k : Nat) (s : State) : State :=
  let x := s.ky.key.get k
  if raw = x.pressed then keyUpd k (fun x => { x with count := 0 }) s
  else if x.count < 2 then keyUpd k (fun x => { x with count := x.count + 1 }) s
  else
    let s := if x.stuck && !raw then kyUpd (fun y => { y with pendEv := y.pendEv ++ [(0xC4, 3, 0, k)] }) s else s
    let s := keyUpd k (fun x => { x with pressed := raw, count := 0, stuck := x.stuck && raw }) s
    markDirty 6 (2 ^ 23) (kyUpd (fun y => { y with changed := y.changed ++ [k] }) s)

/-- One intersection of a row step (R276 to R278), for keys frozen or not as the scan began: the scan that clears a fault does not count,
since its keys debounce afresh behind it (R278). -/
def scanCross (was : Nat → Bool) (reading : Nat) (r c : Nat) (s : State) : State :=
  let nul := s.ky.nul.get c
  let x : Int := if (s.ky.col.get c).stands then (reading : Int) else (reading : Int) - (nul : Int)
  let i := 16 * r + c
  let n := decodeReading (liveFld s Kind.ky 0 16 8) x
  let old := s.ky.grid.get i
  let new := old.scan n.isNone
  let s := kyUpd (fun y => { y with grid := y.grid.set i new, offGrid := if n.isNone then sat32 y.offGrid else y.offGrid }) s
  let s := faultChange old new (0xC0, r, c, (x % 65536).toNat) (0xC4, 0, i, 0) (fun k => keyRow k == r && keyCol k == c) s
  match n with
  | none => s
  | some n => forRange 4 (fun j s =>
      let k := 64 * r + 4 * c + j
      if keyFrozen s k || was k then s else debounce (n.testBit j) k s) s

/-- KY and key records that wait for a scan take effect (R283). -/
def keysTakeEffect (s : State) : State :=
  let due := s.nv.due.filter (fun e => e.1 == Kind.key)
  takeDue [Kind.ky, Kind.key] (forAll due (fun e s => keyUpd e.2 (fun x => { x with quarantined := false }) s) s)

/-- KEY_SCAN (R275 to R278, R282): only the device that drives the rows scans, and its first scan is discarded. -/
def keyScanRow (x : KeyScan) (s : State) : State :=
  let s := keysTakeEffect s
  if !s.duty || !s.sys.outputs || !kyEnable s then s
  else
    let s := kyUpd (fun y => { y with scans := sat32 y.scans }) s
    if s.ky.discard then kyUpd (fun y => { y with discard := false }) s
    else
      let was := keyFrozen s
      let s := forRange (kyCols s) (fun c s => scanColumn (x.nul.getD c 0) c s) s
      forRange 8 (fun r s =>
        if kyRow s r then
          let s := scanRow (x.dev.getD r 0) r s
          forRange (kyCols s) (fun c s => scanCross was ((x.rows.getD r []).getD c 0) r c s) s
        else s) s

/-- STUCK_TIMEOUT (R278): the key has been debounced pressed for its stuck time. -/
def stuckTimeoutRow (k : Nat) (s : State) : State :=
  let x := s.ky.key.get k
  if s.duty && x.pressed && !x.stuck && liveFld s Kind.key k 32 8 != 0 then
    markDirty 6 (2 ^ 23) (kyUpd (fun y => { y with pendEv := y.pendEv ++ [(0xC3, k, 0, 0)] })
      (keyUpd k (fun x => { x with stuck := true }) s))
  else s

/-! ## The landing of a half-cycle boundary (R25 step 2) -/

/-- The events of the confirmed and cleared faults (R285). -/
def keyEvent (e : Nat × Nat × Nat × Nat) (s : State) : State :=
  match e with
  | (0xC0, r, c, x) => raise 2 0xC0 [ef 1 r, ef 1 c, ef 2 x] s
  | (0xC1, c, n, _) => raise 2 0xC1 [ef 1 c, ef 2 n] s
  | (0xC2, r, v, _) => raise 2 0xC2 [ef 1 r, ef 2 v] s
  | (0xC3, k, _, _) => raise 2 0xC3 [ef 2 k] s
  | (_, 1, c, _) => raise 2 0xC4 [ef 1 1, ef 1 0, ef 1 c, ef 2 0] s
  | (_, f, i, k) => raise 2 0xC4 [ef 1 f, ef 1 (i / 16), ef 1 (i % 16), ef 2 k] s

/-- The sources of class 0x2 that a binding names, ascending. -/
def keySources (s : State) : List Nat :=
  (List.range 512).filter (fun k => !(bindingsOf s (0x2000 + k) false).isEmpty)

/-- The action of a debounced change (R281). A damaged record takes none (R283). -/
def keyAction (k : Nat) (s : State) : State :=
  let x := s.ky.key.get k
  let press := x.pressed
  let pn := liveFld s Kind.key k 64 17
  let pri := liveFld s Kind.key k 8 5
  let v := u32 (liveFld s Kind.key k 96 32)
  let write (null : Bool) (s : State) : State := arbWrite pn pri .key k false null (if null then 0 else v) s
  if x.quarantined || keyFrozen s k then s
  else match liveFld s Kind.key k 0 2, liveFld s Kind.key k 2 2 with
    | 1, 0 => write (!press) s
    | 1, 1 => if press then write (liveBit s Kind.key k 4) s else s
    | 1, _ => if press then
        markDirty 6 (2 ^ 23) (keyUpd k (fun x => { x with toggle := !x.toggle }) (write x.toggle s))
      else s
    | 2, _ => if press then
        { s with ls := { s.ls with ffp := s.ls.ffp ++ [(k, liveFld s Kind.key k 16 6, liveFld s Kind.key k 24 3)] } }
      else s
    | _, _ => s

/-- The keys' part of R25 step 2: landings, events, then the actions of the changed keys in ascending number (R277). -/
def keysLand (s : State) : State :=
  if s.duty && s.sys.outputs && kyEnable s then
    let s := forAll (keySources s) (fun k s =>
      landSource (0x2000 + k) (.bool (s.ky.key.get k).pressed) { fault := if keyFlag s k then some 0 else none } s) s
    let evs := s.ky.pendEv
    let changed := s.ky.changed
    let s := kyUpd (fun y => { y with pendEv := [], changed := [] }) s
    forAll ((List.range 512).filter (fun k => changed.contains k)) keyAction (forAll evs keyEvent s)
  else forAll (keySources s) (fun k s => missSource (0x2000 + k) s) s

/-! ## Cards (R284) -/

/-- A key lies on a selected column and a scanned row (R280). -/
def keyInSet (cfg : Img) (k : Nat) : Bool := decide (keyCol k < if flag cfg 1 then 16 else 8) && flag cfg (8 + keyRow k)

/-- What R280 refuses in a key's reference to its point: the status, or the zone of a CFG_CONFLICT. -/
def keyTarget (pt : Nat → Img) (zones : List (Nat × Img)) (member : Nat → Img) (k : Nat) (x : Img) : Option Res :=
  if fld x 0 2 ≠ 1 then none
  else
    let pn := fld x 64 17
    let p := pt pn
    if !(flag p 42 && flag p 43) then some (.no St.notCommandable 0)
    else if !fitsFormat (fld p 40 2) (u32 (fld x 96 32)) then some (.no St.format 0)
    else if fld x 8 5 = 2 then (zoneWith zones member pn).map (fun z => conflict 0x02 z 0x07 k)
    else none

/-- KY_SET_CFG. -/
def cardKySetCfg (org : Origin) (_lvl : Nat) (p : List Byte) (s : State) : State × Res :=
  let x := le p 0 8
  let out (y : Img) : Bool := (committed s Kind.key).all (fun e => fld e.2 0 2 == 0 || keyInSet y e.1)
  ranged (mapped kyFields 0 x ++ [(out (setFld x 8 8 0xFF), 0), (out x, 1)]) s fun _ =>
    match (if keysTake x then keyEntry (cfgImg s Kind.conv 3) else none) with
    | some e => (s, conflict 0x05 (3 * 64 + e) 0x08 0)
    | none =>
      if !allNormal s then (s, .no St.busy 0) else journal org true [wr Kind.ky 0 x] [] s

/-- KY_SET_KEYS. -/
def cardKySetKeys (org : Origin) (_lvl : Nat) (p : List Byte) (s : State) : State × Res :=
  let first := le p 0 2
  let count := le p 2 2
  let cfg := cfgImg s Kind.ky 0
  let recs := (List.range count).map (fun i => (i, le p (8 + 16 * i) 16))
  ranged ([(decide (first ≤ 511), 0), (decide (1 ≤ count ∧ count ≤ 62), 2), (decide (first + count ≤ 512), 2)] ++ zero p 4 4 ++
      recs.flatMap (fun r =>
        let b := 8 + 16 * r.1
        mapped keyFields b r.2 ++ [(fld r.2 0 2 == 0 || keyInSet cfg (first + r.1), b), (!flag r.2 4 || fld r.2 2 2 == 1, b),
          (fld r.2 0 2 != 2 || flag (cfgImg s Kind.area (fld r.2 16 6)) 0, b + 2)])) s fun _ =>
    match recs.findSome? (fun r =>
        keyTarget (cfgImg s Kind.point) (committed s Kind.zone) (cfgImg s Kind.member) (first + r.1) r.2) with
    | some e => (s, e)
    | none =>
      if !allNormal s then (s, .no St.busy 0) else journal org true (recs.map (fun r => wr Kind.key (first + r.1) r.2)) [] s

/-- One bit for each of n items, least first, as bytes. -/
def bitBytes (n : Nat) (f : Nat → Bool) : List Byte :=
  leBytes ((n + 7) / 8) ((List.range n).foldl (fun x i => x + bit (f i) * 2 ^ i) 0)

/-- KY_GET_STATE. -/
def cardKyState (_org : Origin) (_lvl : Nat) (_p : List Byte) (s : State) : State × Res :=
  (s, .ok (bitBytes 512 (fun k => (s.ky.key.get k).pressed) ++ bitBytes 512 (keyFlag s) ++
    (List.range 16).flatMap (fun c => leBytes 2 (s.ky.nul.get c)) ++ bitBytes 16 (fun c => (s.ky.col.get c).stands) ++
    bitBytes 8 (fun r => (s.ky.row.get r).stands) ++ leBytes 1 0 ++ leBytes 4 s.ky.scans ++ leBytes 4 s.ky.offGrid))

end Sys2Proof.Machine
end

