-- ==== Sys2Proof/Machine/Loops.lean ====
section
/-!
DEFINITION. The loop engine (06_loop_engine.md): descriptors and programs, the checks of R147 and R148, scans and lanes (R150
to R156), lane faults (R158 to R160), editing (R161, R162) and the cards of R164. The operations stand in LoopOps.lean.
-/

namespace Sys2Proof.Machine

open Sys2Proof

def State.loop (s : State) (ln : Nat) : Loop := s.lp.loop.get ln
def State.lane (s : State) (l : Nat) : Lane := s.lp.lane.get l

/-- Change one loop. -/
def loopUpd (ln : Nat) (f : Loop → Loop) (s : State) : State := { s with lp := { s.lp with loop := s.lp.loop.upd ln f } }
/-- Change one lane. -/
def laneUpd (l : Nat) (f : Lane → Lane) (s : State) : State := { s with lp := { s.lp with lane := s.lp.lane.upd l f } }

/-! ## The fields of a loop's record (R143, R145, R460) -/

def lpEnable (x : Img) : Bool := flag x 0
def lpLife (x : Img) : Bool := flag x 1
def lpMirror (x : Img) : Bool := flag x 2
def lpPin (x : Img) : Nat := fld x 4 3
def lpPeriod (x : Img) : Nat := fld x 8 16
def lpOffset (x : Img) : Nat := fld x 24 16
def lpDefPri (x : Img) : Nat := fld x 40 5
def lpLength (x : Img) : Nat := fld x 48 7
/-- Initial register r. -/
def lpReg (x : Img) (r : Nat) : U64 := BitVec.ofNat 64 (fld x (128 + 64 * r) 64)
/-- Program word i. -/
def lpWord (x : Img) (i : Nat) : Nat := fld x (1152 + 64 * i) 64

def opOpc (w : Nat) : Nat := fld w 0 8
def opD (w : Nat) : Nat := fld w 8 4
def opA (w : Nat) : Nat := fld w 12 4
def opB (w : Nat) : Nat := fld w 16 4
def opC (w : Nat) : Nat := fld w 20 4
def opMod (w : Nat) : Nat := fld w 24 8
def opImm (w : Nat) : Nat := fld w 32 32
/-- IMM[16:0], a point. -/
def opPn (w : Nat) : Nat := fld w 32 17

/-- The clocks of an operation (R146); none for an unknown OPC. -/
def opClocks (opc : Nat) : Option Nat :=
  match opc with
  | 0x00 => some 2 | 0x01 => some 12 | 0x02 => some 12 | 0x03 => some 1 | 0x04 => some 1 | 0x05 => some 4 | 0x06 => some 4
  | 0x07 => some 1 | 0x08 => some 2 | 0x09 => some 2 | 0x0A => some 2 | 0x0B => some 8 | 0x0C => some 1 | 0x0D => some 1
  | 0x0E => some 1 | 0x0F => some 2 | 0x10 => some 1 | 0x11 => some 1 | 0x12 => some 4 | 0x13 => some 1 | 0x14 => some 1
  | 0x15 => some 1 | 0x16 => some 1 | 0x18 => some 2 | 0x20 => some 40 | 0x21 => some 6 | 0x22 => some 3 | 0x23 => some 8
  | 0x24 => some 20 | 0x25 => some 3 | 0x26 => some 3
  | _ => none

/-- The MOD bits an operation defines (R146, R147). -/
def opModMask (opc : Nat) : Nat :=
  match opc with
  | 0x05 | 0x06 => 0x1F
  | 0x11 => 0x07
  | 0x18 => 0x03
  | 0x20 | 0x22 => 0x01
  | _ => 0

/-- The executable words of a program: each index with its word; the data words of a TAB are passed over (R147). -/
def execWords (x : Img) (len : Nat) : Nat → Nat → List (Nat × Nat)
  | 0, _ => []
  | fuel + 1, i =>
    if len ≤ i then []
    else
      let w := lpWord x i
      (i, w) :: execWords x len fuel (if opOpc w = 0x24 then i + 1 + fld w 32 5 else i + 1)

/-- The executable words of a loop. -/
def loopWords (x : Img) : List (Nat × Nat) := execWords x (lpLength x) (lpLength x) 0

/-- The x values of a TAB rise strictly (R147). -/
def tabRises (x : Img) (i : Nat) : Nat → Bool
  | 0 | 1 => true
  | n + 1 => flt (u32 (fld (lpWord x (i + n)) 0 32)) (u32 (fld (lpWord x (i + n + 1)) 0 32)) && tabRises x i n

/-- A word passes R146 to R148. -/
def wordOk (x : Img) (iw : Nat × Nat) : Bool :=
  let (i, w) := iw
  let opc := opOpc w
  let len := lpLength x
  let n := fld w 32 5
  (opClocks opc).isSome && (opMod w &&& opModMask opc) == opMod w &&
  (match opc with
   | 0x11 => opMod w ≤ 5
   | 0x18 => i < fld w 32 6 && fld w 32 6 ≤ len && (fld w 32 6 == len || (loopWords x).any (fun e => e.1 == fld w 32 6))
   | 0x20 => opC w ≤ 12 && !(opC w ≤ opD w && opD w ≤ opC w + 3)
   | 0x23 => 1 ≤ fld w 32 4 && fld w 32 4 ≤ 8
   | 0x24 => 2 ≤ n && n ≤ 16 && i + n < len && tabRises x i n
   | _ => true)

/-- COST of a program: 40 clocks of overhead and the clocks of every executable word (R148). -/
def loopCost (x : Img) : Nat := (loopWords x).foldl (fun n e => n + (opClocks (opOpc e.2)).getD 0) 40

/-- The priority of an STP or RELP (R146). -/
def opPri (x : Img) (w : Nat) : Nat := if fld w 24 5 = 0 then lpDefPri x else fld w 24 5

/-- What R155 finds wrong with a target of a loop, given the points' images: RANGE, CFG_CONFLICT with the other loop, or
PRIORITY_RESERVED, each with the word's index. -/
inductive TargetFault where
  | range (i : Nat)
  | conflict (ln : Nat)
  | priority (i : Nat)
  deriving DecidableEq, Repr

/-- The check of one target (R155). -/
def targetFault (pt : Nat → Img) (ln : Nat) (x : Img) (iw : Nat × Nat) : Option TargetFault :=
  let (i, w) := iw
  if opOpc w = 0x05 ∨ opOpc w = 0x06 then
    let p := pt (opPn w)
    if !flag p 42 then some (.range i)
    else if fld p 96 4 = 5 then (if fld p 128 13 = ln then none else some (.conflict (fld p 128 13)))
    else if !flag p 43 then some (.range i)
    else if !mayWrite .loop (lpLife x) (opPri x w) then some (.priority i)
    else none
  else none

/-- The first target of a loop that R155 refuses. -/
def targetsFault (pt : Nat → Img) (ln : Nat) (x : Img) : Option TargetFault := (loopWords x).findSome? (targetFault pt ln x)

/-- The points that a life-safety loop writes at priority 2 (R180). -/
def lifeTargets (x : Img) : List Nat :=
  if lpLife x then (loopWords x).filterMap (fun iw =>
    if (opOpc iw.2 = 0x05 ∨ opOpc iw.2 = 0x06) ∧ opPri x iw.2 = 2 then some (opPn iw.2) else none)
  else []

/-! ## Assignment of loops to lanes (R156, R160) -/

/-- A fraction a / b ≤ c / d. -/
def fracLe (a b : Nat × Nat) : Bool := a.1 * b.2 ≤ b.1 * a.2
/-- The sum of two fractions, over the least common denominator. -/
def fracAdd (a b : Nat × Nat) : Nat × Nat := let l := Nat.lcm a.2 b.2; (a.1 * (l / a.2) + b.1 * (l / b.2), l)

/-- COST / PERIOD of a loop. -/
def loopLoad (s : State) (ln : Nat) : Nat × Nat := let x := liveImg s Kind.loop ln; (loopCost x, max 1 (lpPeriod x))

/-- Insert a loop into a list in descending order of load, ascending LN among equals. -/
def insertByLoad (s : State) (ln : Nat) : List Nat → List Nat
  | [] => [ln]
  | k :: r =>
    let a := loopLoad s ln
    let b := loopLoad s k
    if !fracLe a b || (fracLe b a && decide (ln < k)) then ln :: k :: r else k :: insertByLoad s ln r

/-- The enabled loops, ascending. -/
def enabledLoops (s : State) : List Nat :=
  (s.live.filter (fun e => e.1 / 0x40000 == Kind.loop)).filterMap (fun e =>
    if lpEnable (liveImg s Kind.loop (e.1 % 0x40000)) then some (e.1 % 0x40000) else none)

/-- The lanes in service. -/
def serviceLanes (s : State) : List Nat := (List.range 4).filter (fun l => (s.lane l).state == .inService)

/-- The lane in service with the lowest sum, the lowest-numbered among equals. -/
def lightest (loads : Tab (Nat × Nat)) : List Nat → Nat
  | [] => 0
  | l :: r => r.foldl (fun b x => if fracLe (loads.get b) (loads.get x) then b else x) l

/-- Place loops on lanes one after the other, given the loads so far (R156). -/
def place (lanes : List Nat) (s : State) (lns : List Nat) (loads : Tab (Nat × Nat)) : State × Tab (Nat × Nat) :=
  lns.foldl (fun (sl : State × Tab (Nat × Nat)) ln =>
    let pin := lpPin (liveImg s Kind.loop ln)
    let l := if pin ≥ 1 && lanes.contains (pin - 1) then pin - 1 else lightest sl.2 lanes
    (loopUpd ln (fun k => { k with home := l }) sl.1, sl.2.set l (fracAdd (sl.2.get l) (loopLoad s ln)))) (s, loads)

/-- Assign some loops to the lanes in service: those whose PIN names one first, then the life-safety loops, then the rest, each
pass in descending order of load (R156). The other loops keep their lanes, and their loads count. -/
def assign (lns : List Nat) (s : State) : State :=
  let lanes := serviceLanes s
  if lanes.isEmpty then s
  else
    let img (ln : Nat) : Img := liveImg s Kind.loop ln
    let pinned (ln : Nat) : Bool := lpPin (img ln) ≥ 1 && lanes.contains (lpPin (img ln) - 1)
    let rest := (enabledLoops s).filter (fun ln => !lns.contains ln)
    let zero : Tab (Nat × Nat) := lanes.foldl (fun t l => Tab.put t l (0, 1)) []
    let loads0 := rest.foldl (fun t ln => let h := (s.loop ln).home
      Tab.put t h (fracAdd (if lanes.contains h then t.get h else (0, 1)) (loopLoad s ln))) zero
    let sorted (l : List Nat) : List Nat := l.foldl (fun r ln => insertByLoad s ln r) []
    let (s, loads) := place lanes s (sorted (lns.filter pinned)) loads0
    let (s, loads) := place lanes s (sorted (lns.filter (fun ln => !pinned ln && lpLife (img ln)))) loads
    (place lanes s (sorted (lns.filter (fun ln => !pinned ln && !lpLife (img ln)))) loads).1

/-- Queued scans follow their loops to their lanes. -/
def moveScans (s : State) : State :=
  let all := (List.range 4).flatMap (fun l => (s.lane l).queue)
  forRange 4 (fun l s => laneUpd l (fun k => { k with queue := all.filter (fun q => (s.loop q.ln).home == l) }) s) s

/-- The re-homing of a cycle boundary (R156, R159, R160). -/
def rehomeBoundary (s : State) : State :=
  if s.lp.rehome then
    let s := moveScans (assign (enabledLoops s) s)
    let s := forRange 4 (fun l s => laneUpd l (fun k => { k with waitRebalance := false }) s) s
    { s with lp := { s.lp with rehome := false, outDue := [] } }
  else if s.lp.outDue.isEmpty then s
  else
    let lns := (enabledLoops s).filter (fun ln => s.lp.outDue.contains (s.loop ln).home)
    moveScans (assign lns { s with lp := { s.lp with outDue := [] } })

/-- LIVE writes that waited for the end of a scan reach the registers (R164). -/
def applyLive (ln : Nat) (s : State) : State :=
  loopUpd ln (fun k => { k with regs := k.liveDue.foldl (fun t e => t.set e.1 e.2) k.regs, liveDue := [] }) s

/-- A loop's scans are discarded, queued ones and the one in flight: they leave no trace (R152). -/
def dropScans (ln : Nat) (s : State) : State :=
  applyLive ln (forRange 4 (fun l => laneUpd l (fun k => { k with
    queue := k.queue.filter (fun q => q.ln != ln), run := k.run.filter (fun r => r.ln != ln) })) s)

/-- INIT is set; the commit of a scan that runs does not clear it (R154). -/
def setInit (ln : Nat) (s : State) : State :=
  forRange 4 (fun l => laneUpd l (fun k => { k with run := k.run.map (fun r => { r with reinit := r.reinit || r.ln == ln }) }))
    (loopUpd ln (fun k => { k with init := true }) s)

/-! ## Scans (R150 to R154) -/

/-- The lanes run: the device has duty, in RUN, and a lane is in service (R150, R160). -/
def lanesRun (s : State) : Bool := s.duty && s.sys.power == .run && !s.lp.halted && !(serviceLanes s).isEmpty

/-- An instant of a loop is covered by the scan still queued (R151): a stretch, or for a life-safety loop an overrun. LOOP_OVERRUN
carries the loop's instants since its last one, LOOP_STRETCH the loops since the last one (R165;
notes/assumptions/59.md). -/
def skipScan (ln : Nat) (life : Bool) (s : State) : State :=
  let s := loopUpd ln (fun k => { k with skips := sat16 k.skips }) s
  if life then
    let n := (s.loop ln).skipped + 1
    let s : State := { s with lp := { s.lp with overruns := sat32 s.lp.overruns } }
    if s.lp.overrunC = some s.now.c then loopUpd ln (fun k => { k with skipped := n }) s
    else
      let s := loopUpd ln (fun k => { k with skipped := 0 }) s
      raise 1 0x63 [ef 2 ln, ef 4 n] { s with lp := { s.lp with overrunC := some s.now.c } }
  else
    let lns := if s.lp.stretched.contains ln then s.lp.stretched else s.lp.stretched ++ [ln]
    let s : State := { s with lp := { s.lp with stretches := sat32 s.lp.stretches, stretched := lns } }
    if s.every s.lp.stretchAt 60 then
      raise 2 0x64 [ef 4 lns.length] { s with lp := { s.lp with stretched := [], stretchAt := some s.rtc.up } }
    else s

/-- The scan of a loop is queued on its lane, or covered by the one still queued (R151). -/
def queueScan (ln : Nat) (due : MT) (s : State) : State :=
  let x := liveImg s Kind.loop ln
  let k := s.loop ln
  if !lanesRun s || !lpEnable x || k.quarantined then s
  else
    let l := k.home
    let lane := s.lane l
    if lane.queue.any (fun q => q.ln == ln && q.due == due) || lane.run.any (fun r => r.ln == ln && r.due == due)
        || k.lastDue == some due.c then s
    else if lane.queue.any (fun q => q.ln == ln) then skipScan ln (lpLife x) s
    else laneUpd l (fun k => { k with queue := k.queue ++ [{ ln := ln, due := due }] }) s

/-- LOOP_DUE: the loop is due at MT(C, OFFSET) of the present cycle, which MT has reached, when PERIOD divides C (R150). -/
def loopDueRow (ln : Nat) (s : State) : State :=
  let x := liveImg s Kind.loop ln
  if s.now.c.toNat % max 1 (lpPeriod x) = 0 then
    queueScan ln { c := s.now.c, a := u16 (lpOffset x) } (when (lpEnable x) (reachAngle (u16 (lpOffset x))) s)
  else s

/-- The scans of step 5 of R24: loops due at angle 0. -/
def dueAtZero (s : State) : State :=
  forAll ((enabledLoops s).filter (fun ln => lpOffset (liveImg s Kind.loop ln) == 0)) loopDueRow s

/-- A queued scan goes before another: life-safety loops first, then the older due instant, then the lower LN (R151). -/
def scanBefore (s : State) (a b : Scan) : Bool :=
  let la := lpLife (liveImg s Kind.loop a.ln)
  let lb := lpLife (liveImg s Kind.loop b.ln)
  if la != lb then la
  else
    let d := a.due.diff b.due
    if d ≠ 0 then decide (d < 0) else decide (a.ln < b.ln)

/-- The scan a lane takes next. -/
def nextScan (s : State) : List Scan → Option Scan
  | [] => none
  | q :: r => some (r.foldl (fun b x => if scanBefore s x b then x else b) q)

/-- dt (R153). -/
def scanDt (s : State) (ln : Nat) (due : MT) : Nat :=
  match (s.loop ln).lastDue with
  | some c => let d := cycDiff due.c c; if d < 1 then 1 else min d.toNat 65535
  | none => 1

/-- A lane is faulted (R158, R159): its scan in flight is discarded, to be repeated; its loops are re-homed at the next boundary.
Without another lane in service the loops halt (R160). Causes: 1 WATCHDOG, 2 MEM_UE, 3 SELF_CHECK. -/
def faultLane (l cause : Nat) (s : State) : State :=
  let k := s.lane l
  let last := (serviceLanes s).all (· == l)
  let homed := ((enabledLoops s).filter (fun ln => (s.loop ln).home == l)).length
  let inFlight := match k.run with | some r => r.ln | none => 0xFFFF
  match k.state with
  | .inService =>
    let s := laneUpd l (fun k => { k with
      state := .faulted, cause := cause, faults := sat32 k.faults, run := none
      queue := if last then [] else k.queue ++ (match k.run with | some r => [{ ln := r.ln, due := r.due }] | none => []) }) s
    let s := match k.run with | some r => applyLive r.ln s | none => s
    let s := raise 2 0x60 [ef 1 l, ef 1 cause, ef 2 (if last then 0 else homed), ef 2 inFlight] s
    if last then
      raise 1 0x62 [ef 1 l, ef 1 cause] { s with lp := { s.lp with halted := true } }
    else
      { s with lp := { s.lp with
          outDue := s.lp.outDue ++ [l], repeated := if k.run.isSome then sat32 s.lp.repeated else s.lp.repeated } }
  | .testing =>
    let s := laneUpd l (fun k => { k with state := .faulted, cause := cause, faults := sat32 k.faults }) s
    raise 2 0x60 [ef 1 l, ef 1 cause, ef 2 0, ef 2 0xFFFF] s
  | _ => s

/-- A lane runs a scan of the loop. -/
def scanning (s : State) (ln : Nat) : Bool := (List.range 4).any (fun l => (s.lane l).run.any (fun r => r.ln == ln))

/-- The lane takes its next scan (R151); a loop whose scan still runs on the lane it was moved from waits for its end (R156). The
run-time registers are loaded, from the initial image on INIT (R154). -/
def takeScan (l : Nat) (s : State) : State :=
  let k := s.lane l
  if k.state != .inService || k.run.isSome || k.waitRebalance || !lanesRun s then s
  else match nextScan s (k.queue.filter (fun q => !scanning s q.ln)) with
  | none => s
  | some q =>
    let x := liveImg s Kind.loop q.ln
    let lp := s.loop q.ln
    let s := laneUpd l (fun k => { k with queue := k.queue.filter (· != q) }) s
    if lp.quarantined || !lpEnable x then s
    else
      let regs : Tab U64 := if lp.init then (List.range 16).foldl (fun t r => t.set r (lpReg x r)) [] else lp.regs
      let s := if lp.init then loopUpd q.ln (fun k => { k with regs := regs }) s else s
      let run : ScanRun := {
        ln := q.ln, due := q.due, image := x, regs := regs, init := lp.init
        dt := if lp.init then lpPeriod x else scanDt s q.ln q.due }
      laneUpd l (fun k => { k with run := some run }) s

/-- A write of a committed scan to its point (R155): kind 5, remote, local. -/
def commitWrite (ln : Nat) (life : Bool) (w : LoopWrite) (s : State) : State :=
  let v := convReal (ptFormat s w.pn) w.value
  if !ptConfigured s w.pn then countRefused s
  else if ptKind s w.pn = 5 then
    if ptRef s w.pn % 8192 ≠ ln then countRefused s
    else if w.null then stalePoint w.pn s
    else match v with
      | none => countRefused s
      | some v =>
        if (s.point w.pn).oos || (s.point w.pn).quarantined then s
        else updatePoint w.pn false {} (fun p => { p with value := v, stale := false, fault := false }) s
  else if !w.null && v.isNone then countRefused s
  else
    let v := v.getD 0
    if ptRemote s w.pn then
      let sh := (shadowOf s w.pn w.pri).map (fun i => s.pts.shadow.get i)
      let pass := match sh with
        | none => !w.null
        | some h => if w.null then !h.relinq else h.relinq || h.value != v
      if pass then arbWrite w.pn w.pri .loop ln life w.null v s
      else { s with lp := { s.lp with suppressed := sat32 s.lp.suppressed } }
    else arbWrite w.pn w.pri .loop ln life w.null v s

/-- LOOP_NUMERIC for a scan that produced a NaN or infinity, at most once per 60 s per loop (R149, R165). -/
def numericEvent (ln word : Nat) (s : State) : State :=
  let k := s.loop ln
  let s : State := { s with lp := { s.lp with numerics := sat32 s.lp.numerics } }
  let s := loopUpd ln (fun k => { k with numeric := true }) s
  if s.every k.numericAt 60 then
    raise 2 0x65 [ef 2 ln, ef 1 word] (loopUpd ln (fun k => { k with numericAt := some s.rtc.up }) s)
  else s

/-- The atomic commit of a scan (R152), with the numeric flag of a NaN or infinity in it: a scan that does not commit leaves no trace.
-/
def commitScan (l : Nat) (s : State) : State :=
  match (s.lane l).run with
  | none => s
  | some r =>
    let x := r.image
    let s := loopUpd r.ln (fun k => { k with
      regs := k.liveDue.foldl (fun t e => t.set e.1 e.2) r.regs, liveDue := [], init := r.reinit
      lastCommit := s.now.c, lastCommitA := s.now.a, lastDue := some r.due.c, lastClocks := r.clocks, mirrored := false }) s
    let s := laneUpd l (fun k => { k with run := none, commits := sat32 k.commits, busy := k.busy + r.clocks }) s
    let s := when r.numeric (numericEvent r.ln r.numWord) s
    let s := forAll r.writes (commitWrite r.ln (lpLife x)) s
    when (lpMirror x) (markDirty 4 r.ln) s

/-! ## Lanes (R158, R160) -/

/-- LANE_SELF_CHECK: 200 clocks in idle time; a wrong signature faults the lane (R158). -/
def laneSelfCheckRow (l : Nat) (pass : Bool) (s : State) : State :=
  if (s.lane l).state != .inService then s else if pass then s else faultLane l 3 s

/-- Loops homed on a lane. -/
def homedOn (s : State) (l : Nat) : List Nat := (enabledLoops s).filter (fun ln => (s.loop ln).home == l)

/-- STATE of a lane (R164). -/
def laneCode (s : State) (l : Nat) : Nat :=
  match (s.lane l).state with | .inService => 0 | .faulted => 1 | .out => 2 | .testing => 3

/-- The response of LP_LANE (R164). -/
def laneResp (s : State) (l : Nat) : List Byte :=
  leBytes 1 (laneCode s l) ++ leBytes 1 (s.lane l).cause ++ leBytes 2 (homedOn s l).length ++ leBytes 4 (s.lane l).faults

/-- A lane faults, in service or in TESTING, where RESTORE completes with it (R158, R160, R164). -/
def laneFaults (l cause : Nat) (s : State) : State :=
  let s' := faultLane l cause s
  if (s.lane l).state == .testing then completeWait (.lane l) St.ok 0 (laneResp s' l) s' else s'

/-- LANE_WATCHDOG: a scan, or the self-check of a lane in TESTING, has run for 1,024 clocks (R158, R160). -/
def laneWatchdogRow (l : Nat) (s : State) : State :=
  if (s.lane l).state == .testing || (s.lane l).run.isSome then laneFaults l 1 s else s

/-- LOOP_SCAN: the lane takes its next scan; or an uncorrectable error in its buffers is detected, which faults it at once, whether it
scans, is idle or is in TESTING (R158). -/
def loopScanRow (l : Nat) (ue : Bool) (s : State) : State := if ue then laneFaults l 2 s else takeScan l s

/-- LANE_TEST_END (R160). The lane takes scans only behind the rebalance. -/
def laneTestEndRow (l : Nat) (pass : Bool) (s : State) : State :=
  if (s.lane l).state != .testing then s
  else
    let s := if pass then
        let s := laneUpd l (fun k => { k with state := .inService, waitRebalance := true }) s
        raise 2 0x61 [ef 1 l] { s with lp := { s.lp with rehome := true } }
      else faultLane l 3 s
    completeWait (.lane l) St.ok 0 (laneResp s l) s

/-! ## Records and boundaries (R150, R155, R161, R162) -/

/-- A null for every STP target and priority of a disabled loop (R161). -/
def relinquishLoop (ln : Nat) (s : State) : State :=
  let x := liveImg s Kind.loop ln
  forAll ((loopWords x).filter (fun e => opOpc e.2 == 0x05)) (fun e s =>
    let pn := opPn e.2
    let pri := opPri x e.2
    if !ptCommandable s pn then s
    else if ptRemote s pn then
      match shadowOf s pn pri with
      | some i => if (s.pts.shadow.get i).writer = 0 then arbWrite pn pri .loop ln (lpLife x) true 0 s else s
      | none => s
    else if (s.pts.arr.get (ptArray s pn)).writer.get pri = writerTag .loop ln then arbWrite pn pri .loop ln (lpLife x) true 0 s
    else s) s

/-- New records of loops take effect at the cycle boundary (R150); INIT as R154 gives. -/
def loopRecordsBoundary (s : State) : State :=
  let due := (s.lp.loop.filter (fun e => e.2.newDue)).map (·.1)
  let s := forAll due (fun ln s =>
    let old := liveImg s Kind.loop ln
    let s := takeEffect Kind.loop ln s
    let x := liveImg s Kind.loop ln
    let init := !(s.loop ln).keep || (lpEnable x && !lpEnable old)
    let s := loopUpd ln (fun k => { k with
      newDue := false, keep := true, mirrored := k.mirrored && !init, lastDue := if init then none else k.lastDue }) s
    let s := when init (setInit ln) s
    -- a queued scan of a disabled loop is dropped
    let s := if lpEnable x then s
      else forRange 4 (fun l s => laneUpd l (fun k => { k with queue := k.queue.filter (fun q => q.ln != ln) }) s) s
    if lpEnable x ≠ lpEnable old ∨ lpPeriod x ≠ lpPeriod old ∨ lpPin x ≠ lpPin old ∨ loopCost x ≠ loopCost old then
      { s with lp := { s.lp with rehome := true } }
    else s) s
  let s := forAll s.lp.relinquish relinquishLoop s
  { s with lp := { s.lp with relinquish := [] } }

/-- Damaged loops are reloaded from MRAM and start with INIT (R32, R162). -/
def loopReloadBoundary (s : State) : State :=
  forAll ((s.lp.loop.filter (fun e => e.2.quarantined)).map (·.1)) (fun ln s =>
    let s := takeEffect Kind.loop ln s
    raise 2 0x66 [ef 2 ln] (setInit ln (loopUpd ln (fun k => { k with quarantined := false, mirrored := false, lastDue := none }) s))) s

/-- A kind-5 point whose loop has not committed for 2 × PERIOD cycles turns STALE (R66, R155). -/
def loopStaleBoundary (s : State) : State :=
  forAll ((s.live.filter (fun e => e.1 / 0x40000 == Kind.point)).map (fun e => e.1 % 0x40000)) (fun pn s =>
    if ptConfigured s pn && ptKind s pn == 5 && !(s.point pn).stale then
      let ln := ptRef s pn % 8192
      let k := s.loop ln
      let limit : Int := 2 * lpPeriod (liveImg s Kind.loop ln) * 65536
      if limit ≤ s.now.diff { c := k.lastCommit, a := k.lastCommitA } then stalePoint pn s else s
    else s) s

/-- The clocks of the last cycle go into the 64-cycle record (R164). -/
def laneBusyBoundary (s : State) : State :=
  forRange 4 (fun l s => laneUpd l (fun k => { k with busy := 0, busy64 := (k.busy :: k.busy64).take 64 }) s) s

/-- The lanes of a device that leaves duty are parked: scans in flight and queued scans leave no trace (R150, R152). -/
def parkLanes (s : State) : State :=
  forRange 4 (fun l s =>
    let s' := laneUpd l (fun k => { k with run := none, queue := [] }) s
    match (s.lane l).run with
    | some r => applyLive r.ln s'
    | none => s') s

/-! ## Cards (R164) -/

/-- A loop that LP_SET_LOOP has configured. -/
def loopConfigured (s : State) (ln : Nat) : Bool := (s.nv.cfg.get (recKey Kind.loop ln)).isSome

/-- The record that a payload of LP_SET_LOOP gives: the descriptor, the 16 registers and LENGTH words (R157). -/
def loopRecord (p : List Byte) : Img :=
  let desc := cleanImg loopFields (le p 4 16)
  desc + le p 20 128 * 2 ^ 128 + le p 148 (8 * fld desc 48 7) * 2 ^ 1152

/-- Committed loops other than `ln` whose MIRROR bit is set (R163). -/
def mirrorLoops (s : State) (ln : Nat) : Nat :=
  (s.nv.cfg.filter (fun e => e.1 / 0x40000 == Kind.loop && e.1 % 0x40000 != ln && (e.2.getD 0).testBit 2)).length

/-- A point stands in the member list of a committed zone (R67, R180). -/
def isMember (s : State) (pn : Nat) : Bool := (zoneWith (committed s Kind.zone) (cfgImg s Kind.member) pn).isSome

/-- The program record of a loop, its range checks passed (R155, R157 to R160, R163, R180). -/
def setLoop (org : Origin) (ln arg : Nat) (x : Img) (s : State) : State × Res :=
  if !(loopWords x).all (wordOk x) then (s, .no St.badProgram 0)
  else if loopCost x > 700 then (s, .no St.loopCost 0)
  else match targetsFault (cfgImg s Kind.point) ln x with
  | some (.range i) => (s, .no St.range (148 + 8 * i + 4))
  | some (.conflict o) => (s, conflict 0x03 o 0x03 ln)
  | some (.priority _) => (s, .no St.priorityReserved 0)
  | none =>
    if let some pn := (lifeTargets x).find? (isMember s) then (s, conflict 0x01 pn 0x03 ln)
    else if lpMirror x && decide (2048 ≤ mirrorLoops s ln) then (s, .no St.noResource 0)
    else if !allNormal s && (lpLife x || (loopConfigured s ln && lpLife (cfgImg s Kind.loop ln))) then (s, .no St.busy 0)
    else journalArg org true arg [wr Kind.loop ln x] (leBytes 2 (loopCost x)) s

/-- LP_SET_LOOP. -/
def cardSetLoop (org : Origin) (_lvl : Nat) (p : List Byte) (s : State) : State × Res :=
  let desc := cleanImg loopFields (le p 4 16)
  ranged ([(decide (le p 0 2 ≤ 8191), 0), (decide (le p 2 1 ≤ 1), 2)] ++ zero p 3 1 ++ mapped loopFields 4 (le p 4 16) ++
      [(lpLife desc || decide (3 ≤ lpDefPri desc), 9)]) s fun _ => setLoop org (le p 0 2) (le p 2 1) (loopRecord p) s

/-- LP_DESC as it reads: with HOME and COST (R143). -/
def descImage (s : State) (ln : Nat) (x : Img) : Nat :=
  setFld (setFld (fld x 0 128) 56 2 (s.loop ln).home) 64 10 (if loopConfigured s ln then loopCost x else 0)

/-- LP_GET_LOOP. A loop whose INIT is pending, or one without mirrored registers on a device without duty, shows its initial
image. -/
def cardGetLoop (_org : Origin) (_lvl : Nat) (p : List Byte) (s : State) : State × Res :=
  let ln := le p 0 2
  ranged [(decide (ln ≤ 8191), 0)] s fun _ =>
    let x := liveImg s Kind.loop ln
    let k := s.loop ln
    let init := !s.duty && !k.mirrored
    let regs := (List.range 16).flatMap (fun r => leBytes 8 (if init then lpReg x r else k.regs.get r).toNat)
    (s, .ok (leBytes 16 (descImage s ln x) ++ regs ++ leBytes 4 k.lastCommit.toNat ++ leBytes 2 k.lastClocks ++ leBytes 2 k.skips ++
      leBytes 2 (bit k.numeric + 2 * bit k.init) ++ leBytes 6 0 ++ (List.range (lpLength x)).flatMap (fun i => leBytes 8 (lpWord x i))))

/-- LP_ENABLE. -/
def cardLpEnable (org : Origin) (_lvl : Nat) (p : List Byte) (s : State) : State × Res :=
  let first := le p 0 2
  let n := le p 2 2
  let act := le p 4 1
  ranged ([(decide (first ≤ 8191), 0), (decide (1 ≤ n ∧ n ≤ 8192 ∧ (first > 8191 ∨ first + n ≤ 8192)), 2), (decide (act ≤ 2), 4)] ++
      zero p 5 3) s fun _ =>
    let lns := (s.nv.cfg.filter (fun e => e.1 / 0x40000 == Kind.loop && e.2.isSome)).filterMap (fun e =>
      let ln := e.1 % 0x40000
      if first ≤ ln ∧ ln < first + n then some ln else none)
    if !allNormal s && lns.any (fun ln => lpLife (cfgImg s Kind.loop ln)) then (s, .no St.busy 0)
    else
      let ws := lns.map (fun ln => wr Kind.loop ln (setFld (cfgImg s Kind.loop ln) 0 1 (bit (act == 1))))
      journalArg org true (16 + act) ws [] s

/-- LP_SET_REG. On a device without duty LIVE alone is refused with ROLE; with PERSIST only the LIVE part is left out (R459). -/
def cardSetReg (org : Origin) (_lvl : Nat) (p : List Byte) (s : State) : State × Res :=
  let ln := le p 0 2
  let first := le p 2 1
  let n := le p 3 1
  let fl := le p 4 1
  ranged ([(decide (ln ≤ 8191) && loopConfigured s ln, 0), (decide (first ≤ 15), 2),
      (decide (1 ≤ n ∧ n ≤ 16 ∧ (first > 15 ∨ first + n ≤ 16)), 3), (decide (fl ≤ 3), 4)] ++ zero p 5 3) s fun _ =>
    let persist := fl % 2 == 1
    let live := fl / 2 == 1
    let vals := (List.range n).map (fun i => (first + i, BitVec.ofNat 64 (le p (8 + 8 * i) 8)))
    if live && !s.duty && !persist then (s, .no St.role 0)
    else
      let x := vals.foldl (fun x v => setFld x (128 + 64 * v.1) 64 v.2.toNat) (cfgImg s Kind.loop ln)
      let (s', r) := if persist then journalArg org true 32 [wr Kind.loop ln x] [] s else (s, .ok [])
      let go := match r with | .done st _ _ => st == St.ok | .wait _ => true
      if live && s.duty && go then
        (loopUpd ln (fun k => if scanning s ln then { k with liveDue := k.liveDue ++ vals }
          else { k with regs := vals.foldl (fun t v => t.set v.1 v.2) k.regs }) s', r)
      else (s', r)

/-- A journalled record of loops has committed (R150, R161): `arg` says which card wrote it: 0, 1 LP_SET_LOOP without and with
KEEP_REGS, 16 to 18 LP_ENABLE with its action, 32 LP_SET_REG. -/
def loopCommitted (arg : Nat) (ln : Nat) (s : State) : State :=
  if arg ≤ 1 then loopUpd ln (fun k => { k with newDue := true, keep := k.keep && arg == 1 }) s
  else
    let s := loopUpd ln (fun k => { k with newDue := true }) s
    if arg = 18 then { s with lp := { s.lp with relinquish := s.lp.relinquish ++ [ln] } } else s

/-- LP_LANE. -/
def cardLane (_org : Origin) (_lvl : Nat) (p : List Byte) (s : State) : State × Res :=
  let l := le p 0 1
  let act := le p 1 1
  ranged ([(decide (l ≤ 3), 0), (decide (act ≤ 2), 1)] ++ zero p 2 2) s fun _ =>
    if act = 0 then (s, .ok (laneResp s l))
    else if !s.duty || s.th.hold then (s, .no St.role 0)
    else if act = 1 then
      if (s.lane l).state == .inService && decide ((serviceLanes s).length > 1) then
        -- a scan in flight goes on to its end; the lane's loops move at the next boundary
        let s := laneUpd l (fun k => { k with state := .out }) s
        let s : State := { s with lp := { s.lp with outDue := s.lp.outDue ++ [l] } }
        (s, .ok (laneResp s l))
      else (s, .no St.laneState 0)
    else if (s.lane l).state == .faulted || (s.lane l).state == .out then
      -- its queued scans, and one in flight, are repeated on the loops' new lanes (R156, R159)
      let s := match (s.lane l).run with | some r => applyLive r.ln s | none => s
      (laneUpd l (fun k => { k with
        state := .testing, run := none, queue := k.queue ++ (match k.run with | some r => [{ ln := r.ln, due := r.due }] | none => []) }) s,
        .wait (.lane l))
    else (s, .no St.laneState 0)

/-- LP_GET_STATS; shares in 0.1 % are rounded down (notes/assumptions/19.md). -/
def cardLpStats (_org : Origin) (_lvl : Nat) (_p : List Byte) (s : State) : State × Res :=
  let lane (l : Nat) : List Byte :=
    let k := s.lane l
    let homed := homedOn s l
    let sum := homed.foldl (fun a ln => fracAdd a (loopLoad s ln)) (0, 1)
    let load := sum.1 * s.mt.freq / (sum.2 * 250000000)
    let busy := (k.busy64.foldl (· + ·) 0) * s.mt.freq / (64 * 250000000)
    leBytes 1 (laneCode s l) ++ leBytes 1 k.cause ++ leBytes 2 homed.length ++
      leBytes 2 (homed.filter (fun ln => lpLife (liveImg s Kind.loop ln))).length ++ leBytes 2 (min load 65535) ++
      leBytes 2 (min busy 65535) ++ leBytes 2 0 ++ leBytes 4 k.commits
  (s, .ok ((List.range 4).flatMap lane ++ leBytes 4 s.lp.stretches ++ leBytes 4 s.lp.overruns ++ leBytes 4 s.lp.numerics ++
    leBytes 4 s.lp.suppressed ++ leBytes 4 s.lp.repeated))

end Sys2Proof.Machine
end

