-- ==== Sys2Proof/Machine/LoopOps.lean ====
section
/-!
DEFINITION. The operations of the lanes (06_loop_engine.md R145 to R149, R152, R155): what each does to the scan in flight, and
the fetch that gives the word at the lane's place in the program. Arithmetic is single precision; where the manual gives a
formula, each of its operations rounds once, in the order written (notes/assumptions/21.md).
-/

namespace Sys2Proof.Machine

open Sys2Proof

/-- The V half of a register of a scan. -/
def ScanRun.v (r : ScanRun) (i : Nat) : Real32 := (r.regs.get i).setWidth 32
/-- The W half. -/
def ScanRun.w (r : ScanRun) (i : Nat) : U32 := BitVec.ofNat 32 ((r.regs.get i).toNat / 2 ^ 32)
/-- A register with a new V half; W stays (R144). -/
def ScanRun.setV (r : ScanRun) (i : Nat) (x : Real32) : ScanRun :=
  { r with regs := r.regs.set i (BitVec.ofNat 64 (x.toNat + (r.w i).toNat * 2 ^ 32)) }
/-- A register with a new W half; V stays. -/
def ScanRun.setW (r : ScanRun) (i : Nat) (x : U32) : ScanRun :=
  { r with regs := r.regs.set i (BitVec.ofNat 64 ((r.v i).toNat + x.toNat * 2 ^ 32)) }
/-- An operation writes a computed V half; a NaN or infinity is produced by it (R149). -/
def ScanRun.produce (r : ScanRun) (i : Nat) (x : Real32) : ScanRun :=
  { r.setV i x with numeric := r.numeric || isNaN x || isInf x }
/-- An operation writes a truth value (R145). -/
def ScanRun.truth (r : ScanRun) (i : Nat) (b : Bool) : ScanRun := r.setV i (ofTruth b)

/-- A point as a REAL for LDP, PID and RAMP (R86, R146). -/
def pointReal (s : State) (pn : Nat) : Real32 := valueReal (ptFormat s pn) (s.ptView pn).value

/-! ## The operations: the scan after the word, its place in the program apart -/

def opLdp (s : State) (w : Nat) (r : ScanRun) : ScanRun :=
  let p := s.ptView (opPn w)
  { r.setV (opD w) (pointReal s (opPn w)) with q := r.q || p.stale || p.fault || p.oos }

def opLdf (s : State) (w : Nat) (r : ScanRun) : ScanRun := r.setV (opD w) (realOfNat ((s.ptView (opPn w)).flagBits % 128))
def opLdk (w : Nat) (r : ScanRun) : ScanRun := r.setV (opD w) (u32 (opImm w))
def opLdw (w : Nat) (r : ScanRun) : ScanRun := r.setW (opD w) (u32 (opImm w))
def opStp (w : Nat) (r : ScanRun) : ScanRun :=
  { r with writes := r.writes ++ [{ pn := opPn w, pri := opPri r.image w, null := false, value := r.v (opA w) }] }
def opRelp (w : Nat) (r : ScanRun) : ScanRun :=
  { r with writes := r.writes ++ [{ pn := opPn w, pri := opPri r.image w, null := true, value := 0 }] }
def opMov (w : Nat) (r : ScanRun) : ScanRun := r.setV (opD w) (r.v (opA w))
/-- ADD, SUB, MUL, DIV, MIN, MAX: two operands, one result. -/
def opBin (f : Real32 → Real32 → Real32) (w : Nat) (r : ScanRun) : ScanRun := r.produce (opD w) (f (r.v (opA w)) (r.v (opB w)))
def opAbs (w : Nat) (r : ScanRun) : ScanRun := r.produce (opD w) (fabs (r.v (opA w)))
/-- LIM: the low limit wins (R146). -/
def opLim (w : Nat) (r : ScanRun) : ScanRun :=
  r.produce (opD w) (fmax (fmin (r.v (opA w)) (r.v (opC w))) (r.v (opB w)))
def opSel (w : Nat) (r : ScanRun) : ScanRun := r.setV (opD w) (if isTrue (r.v (opC w)) then r.v (opA w) else r.v (opB w))

/-- The relations of CMP; with a NaN all are false except ≠ (R149). -/
def relTruth (rel : Nat) (a b : Real32) : Bool :=
  match rel, fcmp a b with
  | 3, c => c != some .eq
  | _, none => false
  | 0, some c => c == .lt
  | 1, some c => c != .gt
  | 2, some c => c == .eq
  | 4, some c => c != .lt
  | _, some c => c == .gt

def opCmp (w : Nat) (r : ScanRun) : ScanRun := r.truth (opD w) (relTruth (opMod w % 8) (r.v (opA w)) (r.v (opB w)))

/-- QNT (R146): the quotient rounded half away from zero, times the step; unchanged where the step is not above 0. -/
def opQnt (w : Nat) (r : ScanRun) : ScanRun :=
  let a := r.v (opA w)
  let b := r.v (opB w)
  if fle b 0 then r.produce (opD w) a
  else
    let q := fdiv a b
    r.produce (opD w) (match froundAway q with | some i => fmul (realOfInt i) b | none => fmul q b)

/-- AND, OR, XOR of two truth values. -/
def opLogic (f : Bool → Bool → Bool) (w : Nat) (r : ScanRun) : ScanRun :=
  r.truth (opD w) (f (isTrue (r.v (opA w))) (isTrue (r.v (opB w))))
def opNot (w : Nat) (r : ScanRun) : ScanRun := r.truth (opD w) (!isTrue (r.v (opA w)))

/-- JMP is taken (R146). -/
def jmpTaken (w : Nat) (r : ScanRun) : Bool :=
  match opMod w % 4 with
  | 0 => true
  | 1 => !isTrue (r.v (opA w))
  | 2 => isTrue (r.v (opA w))
  | _ => r.q

/-- PID (R147). -/
def opPid (s : State) (w : Nat) (r : ScanRun) : ScanRun :=
  let c := opC w
  let pv := r.v (opA w)
  let sp := r.v (opB w)
  if isNaN pv || isNaN sp then r
  else
    let neg := opMod w % 2 = 1
    let kp := r.v c
    let ti := (r.w c).toNat
    let td := r.v (c + 1)
    let lo := r.v (c + 2)
    let hi := r.w (c + 2)
    let dt := realOfNat r.dt
    let e0 := fsub sp pv
    let e := if neg then fneg e0 else e0
    let base := if flag (opImm w) 17 then pointReal s (opPn w) else r.v (opD w)
    let i := if r.init then fsub base (fmul kp e) else r.v (c + 3)
    let prev := if r.init then pv else r.w (c + 3)
    let p := fmul kp e
    let skp := if neg then kp else fneg kp
    let d := if feq td 0 then 0 else fdiv (fmul (fmul skp td) (fsub pv prev)) dt
    let i := if ti > 0 then fadd i (fdiv (fmul (fmul kp e) dt) (realOfNat ti)) else i
    let i := fmax (fmin i (fsub (fsub hi p) d)) (fsub (fsub lo p) d)
    let out := fmax (fmin (fadd (fadd p i) d) hi) lo
    ((r.produce (opD w) out).produce (c + 3) i).setW (c + 3) pv

/-- RAMP (R146, R147). -/
def opRamp (s : State) (w : Nat) (r : ScanRun) : ScanRun :=
  let d := opD w
  let tgt := r.v (opA w)
  let rate := r.v (opB w)
  let x := if r.init then (if flag (opImm w) 17 then pointReal s (opPn w) else tgt) else r.v d
  if isNaN tgt || isNaN rate || flt rate 0 then (if r.init then r.produce d x else r)
  else
    let step := fmul rate (realOfNat r.dt)
    if isInf rate || fle (fabs (fsub tgt x)) step then r.produce d tgt
    else r.produce d (if flt x tgt then fadd x step else fsub x step)

/-- TPOS (R146). -/
def opTpos (w : Nat) (r : ScanRun) : ScanRun :=
  let d := opD w
  let a := r.v (opA w)
  let b := r.v (opB w)
  let c := r.v (opC w)
  if isNaN a then r
  else
    let on := if opMod w % 2 = 0 then fle b a else fle a b
    let off := if opMod w % 2 = 0 then fle a (fsub b c) else fle (fadd b c) a
    if on then r.truth d true else if off then r.truth d false else r

/-- SEQ (R147). -/
def opSeq (w : Nat) (r : ScanRun) : ScanRun :=
  let d := opD w
  let a := r.v (opA w)
  let b := r.v (opB w)
  let c := r.v (opC w)
  let n := fld w 32 4
  let dwell := fld w 48 16
  let step := fdiv (realOfNat 100) (realOfNat n)
  let k : Int := match Fl.ofBits (r.v d) with
    | .nan => 0
    | .inf neg => if neg then 0 else n
    | .fin _ _ _ => max 0 (min ((ftrunc (r.v d)).getD 0) n)
  let ripe := decide (dwell ≤ (r.w d).toNat)
  let up := decide (k < n) && ripe && fle (fadd (fmul (realOfInt k) step) b) a
  let down := decide (k > 0) && ripe && fle a (fsub (fadd (fmul (realOfInt (k - 1)) step) b) c)
  if up then (r.produce d (realOfInt (k + 1))).setW d 0
  else if down then (r.produce d (realOfInt (k - 1))).setW d 0
  else (r.produce d (realOfInt k)).setW d (u32 (min ((r.w d).toNat + r.dt) 0xFFFFFFFF))

/-- The linear interpolation of TAB between two points. -/
def lerp (x0 y0 x1 y1 x : Real32) : Real32 := fadd y0 (fdiv (fmul (fsub x x0) (fsub y1 y0)) (fsub x1 x0))

/-- TAB's value over n data words from word i on, with the point before them (R147). -/
def tabValue (x : Img) (v : Real32) : Nat → Nat → Option (Real32 × Real32) → Real32
  | 0, _, last => match last with | some (_, y) => y | none => v
  | n + 1, i, last =>
    let px := u32 (fld (lpWord x i) 0 32)
    let py := u32 (fld (lpWord x i) 32 32)
    if fle v px then
      match last with
      | some (qx, qy) => if feq v px then py else lerp qx qy px py v
      | none => py
    else tabValue x v n (i + 1) (some (px, py))

/-- TAB (R147): a NaN input gives NaN. -/
def opTab (w : Nat) (r : ScanRun) : ScanRun :=
  let a := r.v (opA w)
  r.produce (opD w) (if isNaN a then realNaN 7 a.toNat 0 else tabValue r.image a (fld w 32 5) (r.pc + 1) none)

/-- DON (R146). -/
def opDon (w : Nat) (r : ScanRun) : ScanRun :=
  let d := opD w
  let t := if isTrue (r.v (opA w)) then min ((r.w d).toNat + r.dt) 0xFFFFFFFF else 0
  (r.truth d (decide (opImm w ≤ t))).setW d (u32 t)

/-- DOFF (R146). -/
def opDoff (w : Nat) (r : ScanRun) : ScanRun :=
  let d := opD w
  if isTrue (r.v (opA w)) then (r.truth d true).setW d 0
  else
    let t := min ((r.w d).toNat + r.dt) 0xFFFFFFFF
    (r.truth d (decide (t < opImm w))).setW d (u32 t)

/-! ## Fetch and end of a word -/

/-- The word at the place of the scan that a lane runs, when its operation is the one given. -/
def fetchOp (l opc : Nat) (s : State) : Option (ScanRun × Nat) :=
  match (s.lane l).run with
  | some r =>
    let w := lpWord r.image r.pc
    if r.pc < lpLength r.image ∧ opOpc w = opc then some (r, w) else none
  | none => none

/-- A word has executed: the scan goes on at `next`, or ends and commits behind its last word (R148, R152). The word of the first NaN or
infinity is kept for LOOP_NUMERIC (R149). -/
def endWord (l : Nat) (old r : ScanRun) (w next : Nat) (s : State) : State :=
  let r := { r with
    pc := next, clocks := r.clocks + (opClocks (opOpc w)).getD 0, numWord := if r.numeric && !old.numeric then old.pc else r.numWord }
  let s := laneUpd l (fun k => { k with run := some r }) s
  if lpLength r.image ≤ next then commitScan l s else s

/-- An operation that goes on at the next word. -/
def opRow (l opc : Nat) (f : Nat → ScanRun → ScanRun) (s : State) : State :=
  match fetchOp l opc s with
  | some (r, w) => endWord l r (f w r) w (r.pc + 1) s
  | none => s

/-- LOOP_END: END commits the scan (R146, R152). -/
def loopEndRow (l : Nat) (s : State) : State :=
  match fetchOp l 0 s with
  | some (r, _) => commitScan l (laneUpd l (fun k => { k with run := some { r with clocks := r.clocks + 2 } }) s)
  | none => s

/-- LOOP_JMP: a target of LENGTH ends the scan (R148). -/
def loopJmpRow (l : Nat) (s : State) : State :=
  match fetchOp l 0x18 s with
  | some (r, w) => endWord l r r w (if jmpTaken w r then fld w 32 6 else r.pc + 1) s
  | none => s

/-- TAB passes over its data words (R147). -/
def tabRow (l : Nat) (s : State) : State :=
  match fetchOp l 0x24 s with
  | some (r, w) => endWord l r (opTab w r) w (r.pc + 1 + fld w 32 5) s
  | none => s

end Sys2Proof.Machine
end

