-- ==== Sys2Proof/Machine/Life.lean ====
section
/-!
DEFINITION. Smoke-control areas and supervised inputs (07_life_safety.md): classification and landing (R166 to R170), triggers
(R173, R174), modes and firefighter commands (R171, R175 to R177), and the cascade (R178, R179, R182).
-/

namespace Sys2Proof.Machine

open Sys2Proof

def State.area (s : State) (an : Nat) : Area := s.ls.area.get an
def areaUpd (an : Nat) (f : Area → Area) (s : State) : State := { s with ls := { s.ls with area := s.ls.area.upd an f } }
def supUpd (n : Nat) (f : Sup → Sup) (s : State) : State := { s with ls := { s.ls with sup := s.ls.sup.upd n f } }

def areaConfigured (s : State) (an : Nat) : Bool := liveBit s Kind.area an 0
def areaConfirm (s : State) (an : Nat) : Nat := liveFld s Kind.lsArea an 12 2
def areaHostFfp (s : State) (an : Nat) : Bool := liveBit s Kind.lsArea an 14

/-! ## Supervised inputs (R166 to R170) -/

def supEnabled (s : State) (n : Nat) : Bool := liveBit s Kind.lsIn 0 (32 * n)

/-- The class of a reading: 0 OPEN, 1 NORMAL, 2 ACTIVE, 3 SHORT (R167). -/
def classify (s : State) (n r : Nat) : Nat :=
  if r < liveFld s Kind.lsIn 0 (32 * n + 8) 8 then 3
  else if r < liveFld s Kind.lsIn 0 (32 * n + 16) 8 then 2
  else if liveFld s Kind.lsIn 0 (32 * n + 24) 8 ≤ r then 0 else 1

/-- The enabled inputs. -/
def supInputs (s : State) : List Nat := (List.range 8).filter (supEnabled s)

/-- One reading of an input lands: events of R187, counts of R169 unless a bias fault runs. -/
def landSup (counts : Bool) (n r : Nat) (s : State) : State :=
  let c := classify s n r
  let i := s.ls.sup.get n
  let trouble := c == 0 || c == 3
  let bad := if !counts then 0 else if trouble then min (i.bad + 1) 4 else 0
  let good := if !counts then 0 else if trouble then 0 else min (i.good + 1) 4
  let s := supUpd n (fun i => { i with cls := c, reading := r, landed := true, bad := bad, good := good, handed := none }) s
  let s := when (c != i.cls) (markDirty 2 64) (landSource (0x1000 + n) (.enum c) {} s)
  let s := if c = 2 ∧ !i.active then raise 0 0x70 [ef 1 n, ef 1 r] (supUpd n (fun i => { i with active := true }) s)
    else if c = 1 ∧ i.active then raise 0 0x71 [ef 1 n] (supUpd n (fun i => { i with active := false }) s)
    else s
  if bad = 4 ∧ !i.trouble then
    markDirty 2 64 (raise 2 0x72 [ef 1 n, ef 1 c, ef 1 r] (supUpd n (fun i => { i with trouble := true }) s))
  else if good = 4 ∧ i.trouble then markDirty 2 64 (raise 2 0x73 [ef 1 n] (supUpd n (fun i => { i with trouble := false }) s))
  else s

/-- An input without a reading: it keeps its class; the hand-off state of the sentinel lands while it stands (R168, R401). -/
def noReading (n : Nat) (s : State) : State :=
  match (s.ls.sup.get n).handed with
  | some c => landSource (0x1000 + n) (.enum c) {} s
  | none => missSource (0x1000 + n) s

/-- The reading of an input: the mean of its samples in the 2,048 AU before the boundary, over 256 and rounded down (R168, R242;
notes/assumptions/60.md); none without a sample. -/
def supReading (s : State) (n : Nat) : Option Nat :=
  let w := (s.ls.samples.get n).filter (fun e => decide (0 ≤ s.now.diff e.1 ∧ s.now.diff e.1 ≤ 2048))
  if w.isEmpty then none else some (w.foldl (fun t e => t + e.2) 0 / (256 * w.length))

/-- The landing of the supervised inputs at a half-cycle boundary (R25 step 2): readings are taken by the device that drives
SUP_BIAS, behind the two readings after enabling it, while ADC0 runs its regular sequence (R168, R170). -/
def landSups (s : State) : State :=
  let ins := supInputs s
  if !s.ls.bias || (s.ad.conv.get 0).state != .run || ins.all (fun n => (supReading s n).isNone) then forAll ins noReading s
  else if s.ls.ignore > 0 then
    forAll ins noReading { s with ls := { s.ls with ignore := s.ls.ignore - 1 } }
  else
    let fault := ins.all (fun n => (supReading s n).any (fun r => classify s n r == 3))
    let s := if fault && !s.ls.biasFault then raise 2 0x74 [efMask ins] s else s
    let s : State := { s with ls := { s.ls with biasFault := fault } }
    forAll ins (fun n s => match supReading s n with
      | some r => landSup (!fault) n r s
      | none => noReading n s) s

/-- SUP_BIAS is enabled or released with duty (R170): two readings are ignored, samples taken before do not count, and the counts
restart. -/
def setBias (on : Bool) (s : State) : State :=
  let s : State := { s with ls := { s.ls with bias := on, ignore := 2, biasFault := false, samples := [] } }
  forRange 8 (fun n s => supUpd n (fun i => { i with bad := 0, good := 0 }) s) s

/-! ## The cascade (R178, R179, R182) -/

/-- The configured zones of an area. -/
def zonesOf (s : State) (an : Nat) : List Nat :=
  (s.live.filter (fun e => e.1 / 0x40000 == Kind.zone)).filterMap (fun e =>
    let zn := e.1 % 0x40000
    let x := liveImg s Kind.zone zn
    if flag x 6 && fld x 0 6 == an then some zn else none)

/-- Insert into an ascending list. -/
def insertNat (n : Nat) : List Nat → List Nat
  | [] => [n]
  | k :: r => if n ≤ k then n :: k :: r else k :: insertNat n r

/-- The member-list entries of an area, ascending (R67, R179). -/
def membersOf (s : State) (an : Nat) : List Nat :=
  ((zonesOf s an).flatMap (fun zn =>
    let x := liveImg s Kind.zone zn
    (List.range (fld x 22 15)).map (· + fld x 8 14))).foldl (fun l e => insertNat e l) []

/-- The LS_VAL index of an entry for a mode: 1 ALERT to 4 PURGE; none for no contribution (R178). -/
def respIndex (s : State) (e mode : Nat) : Option Nat :=
  if mode = 0 ∨ mode > 4 then none
  else
    let i := liveFld s Kind.resp e (12 * (mode - 1)) 12
    if i = 0xFFF then none else some i

/-- One contribution of the cascade to a point (R179): a value, or a null only where the slot is the cascade's own. Restore makes
them ahead of the role (R477). -/
def contribute (an pn pri : Nat) (v : Option U32) (s : State) : State :=
  if ptRemote s pn then
    let sh := (shadowOf s pn pri).map (fun i => s.pts.shadow.get i)
    match v with
    | some v =>
      if sh.any (fun h => !h.relinq && h.value == v && h.writer == WClass.cascade.code) then s
      else arbRequest pn pri .cascade an true false v s
    | none => if sh.any (fun h => !h.relinq && h.writer == WClass.cascade.code) then arbRequest pn pri .cascade an true true 0 s else s
  else
    match v with
    | some v => arbRequest pn pri .cascade an true false v s
    | none =>
      let a := s.pts.arr.get (ptArray s pn)
      if a.notNull.get pri && a.writer.get pri == writerTag .cascade an then arbRequest pn pri .cascade an true true 0 s else s

/-- The mode whose responses run at priority 2, and at priority 1 (R179). -/
def cascadeModes (a : Area) : Nat × Nat :=
  (if a.auto = 6 then a.testOf else a.auto, if a.mode = 5 then (if a.ffpSel = 0 then 0 else a.ffpSel + 1) else 0)

/-- The cascade writes every member of an area's zones (R179); a re-assertion writes local points only (R182). -/
def cascadeArea (reassert : Bool) (an : Nat) (s : State) : State :=
  let (m2, m1) := cascadeModes (s.area an)
  forAll (membersOf s an) (fun e s =>
    let pn := liveFld s Kind.member e 0 17
    if !(ptConfigured s pn && ptCommandable s pn) || (reassert && ptRemote s pn) then s
    else
      let val (i : Option Nat) : Option U32 := i.map (fun i => u32 (liveImg s Kind.val i))
      contribute an pn 1 (val (respIndex s e m1)) (contribute an pn 2 (val (respIndex s e m2)) s)) s

/-- Every area in a mode other than NORMAL. -/
def modeAreas (s : State) : List Nat := List.map (·.1) (s.ls.area.filter (fun e => e.2.mode != 0))

/-- The re-assertion of a cycle boundary (R182). -/
def reassertBoundary (s : State) : State :=
  if s.ls.reassert && s.duty then
    forAll (modeAreas s) (cascadeArea true) { s with ls := { s.ls with reassert := false } }
  else s

/-! ## Modes (R171, R174 to R177) -/

/-- The ranks of the modes (R171). -/
def modeRank (m : Nat) : Nat :=
  match m with
  | 1 => 2 | 2 => 5 | 3 => 4 | 4 => 3 | 6 => 1
  | _ => 0

/-- The higher-ranked of two modes. -/
def higherMode (a b : Nat) : Nat := if modeRank b > modeRank a then b else a

/-- A trigger's record in force: KIND, AN, MODE. -/
def trigKind (s : State) (t : Nat) : Nat := liveFld s Kind.trig t 0 2
def trigAn (s : State) (t : Nat) : Nat := liveFld s Kind.trig t 8 6
def trigMode (s : State) (t : Nat) : Nat := liveFld s Kind.trig t 16 3

/-- The triggers in use, ascending. -/
def trigList (s : State) : List Nat :=
  (s.live.filter (fun e => e.1 / 0x40000 == Kind.trig)).filterMap (fun e =>
    if trigKind s (e.1 % 0x40000) = 0 then none else some (e.1 % 0x40000))

/-- The evaluation of one trigger (R174): active, inactive, or held with its last state. -/
def trigEval (s : State) (t : Nat) : Option Bool :=
  let x := liveImg s Kind.trig t
  if fld x 0 2 = 1 then
    let i := s.ls.sup.get (fld x 4 3)
    if !i.landed then none else some (i.cls == 2 || (i.cls == 3 && flag x 2))
  else
    let pn := fld x 20 17
    let p := s.ptView pn
    if p.stale || p.fault || p.oos then none
    else some (if ptFormat s pn = 1 then p.value == 1 else p.value.toNat == fld x 48 16)

/-- Evaluate a trigger and count its consecutive active evaluations against CONFIRM (R174). -/
def evalTrig (t : Nat) (s : State) : State :=
  let k := s.ls.trig.get t
  let set (f : Trig → Trig) (s : State) : State :=
    when (f k != k) (markDirty 2 (65 + t)) { s with ls := { s.ls with trig := s.ls.trig.upd t f } }
  match trigEval s t with
  | some true =>
    let n := min (k.count + 1) 3
    set (fun k => { k with state := true, count := n, acts := decide (areaConfirm s (trigAn s t) ≤ n), held := false }) s
  | some false => set (fun _ => {}) s
  | none =>
    if k.held || trigKind s t ≠ 2 then s
    else
      let pn := liveFld s Kind.trig t 20 17
      raise 2 0x75 [ef 1 t, ef 4 pn, ef 1 (s.ptView pn).flagBits] (set (fun k => { k with held := true }) s)

/-- The acting triggers of an area. -/
def actingTrigs (s : State) (an : Nat) : List Nat :=
  (trigList s).filter (fun t => trigAn s t == an && (s.ls.trig.get t).acts)

/-- The latched state of an area as the journal and class M2 carry it (R184): MODE, AUTO_MODE, latch, FFP_SEL, FFP_SRC, TEST_OF,
ACT_SRC, ACT_TRIG, MODE_C and MODE_A. -/
def areaImage (a : Area) : Img :=
  a.mode + a.auto * 2 ^ 4 + a.latch * 2 ^ 8 + a.ffpSel * 2 ^ 12 + a.ffpSrc * 2 ^ 14 + a.testOf * 2 ^ 16 + a.actSrc * 2 ^ 20
    + a.actTrig * 2 ^ 24 + a.modeC.toNat * 2 ^ 32 + a.modeA.toNat * 2 ^ 64 + bit a.alertHold * 2 ^ 80 + bit a.testing * 2 ^ 81

/-- An area from such an image. -/
def areaOfImage (x : Img) : Area :=
  { mode := fld x 0 4, auto := fld x 4 4, latch := fld x 8 4, ffpSel := fld x 12 2, ffpSrc := fld x 14 1, testOf := fld x 16 4
    actSrc := fld x 20 2, actTrig := fld x 24 8, modeC := u32 (fld x 32 32), modeA := u16 (fld x 64 16)
    alertHold := flag x 80, testing := flag x 81 }

/-- AUTO_MODE and the latch after the triggers that act now, with ALERT's hold and the test (R171, R177). -/
def evalArea (s : State) (an : Nat) (a : Area) : Area :=
  let acting := actingTrigs s an
  let modes := acting.map (trigMode s)
  let latch := modes.foldl (fun l m => if m ≥ 2 ∧ m ≤ 4 then higherMode l m else l) a.latch
  let alert := a.alertHold || modes.contains 1
  let auto0 := modes.foldl higherMode (higherMode latch (if alert then 1 else 0))
  let testing := a.testing && auto0 == 0
  let auto := if testing then 6 else auto0
  let rises := modeRank auto > modeRank a.auto
  let by_ := acting.find? (fun t => trigMode s t == auto)
  { a with
    latch := latch, alertHold := alert, testing := testing, auto := auto, mode := if a.mode = 5 then 5 else auto
    actSrc := if rises ∧ by_.isSome then 1 else a.actSrc
    actTrig := if rises then by_.getD a.actTrig else a.actTrig }

/-- The change of an area is journalled, with the classified input states (R184). -/
def journalArea (an : Nat) (s : State) : State :=
  let inputs := (List.range 8).foldl (fun x n => x + (s.ls.sup.get n).cls * 4 ^ n) 0
  submit { typ := .area, writes := [wr Kind.latch an (areaImage (s.area an)), wr Kind.inputs 0 inputs] } s

/-- Steps 3 and 4 of R176 for an area, from what it was before the boundary's commands: evaluation, AREA_MODE, the journal
and the mirror (R184), and the cascade writes of a change. -/
def finishArea (an : Nat) (old : Area) (s : State) : State :=
  let a := evalArea s an (s.area an)
  let changed := a.mode ≠ old.mode ∨ a.auto ≠ old.auto
  let a := if changed then { a with modeC := s.now.c, modeA := s.now.a } else a
  let s := areaUpd an (fun _ => a) s
  let s := if changed then
      raise (if old.mode = 6 ∨ a.mode = 6 then 2 else 0) 0x76
        [ef 1 an, ef 1 old.mode, ef 1 a.mode, ef 1 old.auto, ef 1 a.auto, ef 1 a.actSrc, ef 1 a.actTrig] s
    else s
  let s := if changed ∨ a.latch ≠ old.latch ∨ a.ffpSel ≠ old.ffpSel then
      markDirty 2 an (journalArea an s)
    else s
  if changed ∨ a.ffpSel ≠ old.ffpSel then cascadeArea false an s else s

/-- A firefighter command of R175, of which RESET evaluates AUTO_MODE at once: 0 HOLD, 1 EXHAUST, 2 PRESSURISE, 3 PURGE, 4 AUTO, 5 RESET; source the key, or 0xFFFF. -/
def ffpCommand (an cmd src : Nat) (s : State) : State :=
  let host := bit (src == 0xFFFF)
  let s := raise 0 0x77 [ef 1 an, ef 1 cmd, ef 2 src] s
  areaUpd an (fun a =>
    if cmd ≤ 3 then { a with mode := 5, ffpSel := cmd, ffpSrc := host, testing := false }
    else if cmd = 4 then { a with mode := a.auto }
    else evalArea s an { a with latch := 0 }) s

/-- A host action on an area (R176, R177, R186): the state and the status it completes with. -/
def hostAction (an act arg : Nat) (s : State) : State × Nat :=
  let a := s.area an
  match act with
  | 0 =>
    let a' := if arg = 1 then { a with alertHold := true } else { a with latch := higherMode a.latch arg }
    let rises := modeRank arg > modeRank a.auto
    (areaUpd an (fun _ => { a' with actSrc := if rises then 2 else a.actSrc }) s, St.ok)
  | 1 => (areaUpd an (fun a => evalArea s an { a with latch := 0 }) s, St.ok)
  | 2 => if a.mode ≠ 0 then (s, St.modeState) else (areaUpd an (fun a => { a with testing := true, testOf := arg }) s, St.ok)
  | 3 => if a.mode ≠ 6 then (s, St.modeState) else (areaUpd an (fun a => { a with testing := false }) s, St.ok)
  | _ => (ffpCommand an arg 0xFFFF s, St.ok)

/-- The response of LS_MODE (R186). -/
def lsModeResp (s : State) : List Byte :=
  (List.range 64).flatMap (fun an =>
    let a := s.area an
    leBytes 1 a.mode ++ leBytes 1 a.auto ++ leBytes 1 (bit (a.latch != 0) + 2 * a.ffpSrc + 4 * a.ffpSel) ++ leBytes 1 a.testOf) ++
  (List.range 8).flatMap (fun n => let i := s.ls.sup.get n; leBytes 1 i.cls ++ leBytes 1 i.reading ++ leBytes 2 0)

/-- The LS_MODE commands that wait for this boundary, with their area, action and argument, in order of arrival (R176). -/
def lsModeWaiting (s : State) : List (Outst × Nat × Nat × Nat) :=
  (s.mb.outst.filter (fun o => o.wait == .lsMode)).map (fun o => (o, le o.req 0 1, le o.req 1 1, le o.req 2 1))

/-- Trigger records take effect at the half-cycle boundary (R186); a replaced trigger starts from no active evaluation. -/
def trigsTakeEffect (s : State) : State :=
  let due := s.nv.due.filter (fun e => e.1 == Kind.trig)
  takeDue [Kind.trig] (forAll due (fun e s => { s with ls := { s.ls with trig := s.ls.trig.set e.2 {} } }) s)

/-- The areas' part of a half-cycle boundary (R174, R176): each area in ascending AN handles the host's actions, the keys' commands,
its triggers and its mode, and its cascade writes; then the LS_MODE commands complete. -/
def areasBoundary (s : State) : State :=
  let s := trigsTakeEffect s
  if !s.duty then s
  else
    let waiting := lsModeWaiting s
    let (s, answers) := (List.range 64).foldl (fun (sa : State × List (Origin × Nat)) an =>
      let (s, ans) := sa
      let trigs := (trigList s).filter (fun t => trigAn s t == an)
      if !areaConfigured s an || (s.area an).quarantined then
        (forAll trigs evalTrig s, ans ++ (waiting.filter (fun w => w.2.1 == an)).map (fun w => (w.1.org, St.ok)))
      else
        let old := s.area an
        let (s, ans) := (waiting.filter (fun w => w.2.1 == an)).foldl (fun (sa : State × List (Origin × Nat)) w =>
          let (s, st) := hostAction an w.2.2.1 w.2.2.2 sa.1
          (s, sa.2 ++ [(w.1.org, st)])) (s, ans)
        let s := forAll (s.ls.ffp.filter (fun f => f.2.1 == an)) (fun f s => ffpCommand an f.2.2 f.1 s) s
        (finishArea an old (forAll trigs evalTrig s), ans)) (s, [])
    let s : State := { s with ls := { s.ls with ffp := [] } }
    let resp := lsModeResp s
    let s := forAll (waiting.filter (fun w => w.2.1 ≥ 64)) (fun w s => complete w.1.org St.ok 0 resp s) s
    forAll answers (fun a s => complete a.1 a.2 0 (if a.2 = St.ok then resp else []) s) s

/-- ALERT_HOLD_EXPIRY: the hold ends where no ALERT trigger acts (R171). -/
def alertHoldRow (an : Nat) (s : State) : State :=
  let old := s.area an
  if old.alertHold && !(actingTrigs s an).any (fun t => trigMode s t == 1) && s.duty then
    finishArea an old (areaUpd an (fun a => { a with alertHold := false }) s)
  else s

/-- TEST_MAX_EXPIRY (R177). -/
def testMaxRow (an : Nat) (s : State) : State :=
  let old := s.area an
  if old.testing && s.duty then finishArea an old (areaUpd an (fun a => { a with testing := false }) s) else s

end Sys2Proof.Machine
end

