-- ==== Sys2Proof/Machine/LifeCards.lean ====
section
/-!
DEFINITION. The command cards of smoke-control areas and supervised inputs (07_life_safety.md R186), and what their records do
when they take effect.
-/

namespace Sys2Proof.Machine

open Sys2Proof

/-- The areas whose member lists, as committed, hold an entry (R67). -/
def areasOfEntry (s : State) (e : Nat) : List Nat :=
  ((committed s Kind.zone).filter (fun z =>
    flag z.2 6 && decide (fld z.2 8 14 ≤ e ∧ e < fld z.2 8 14 + fld z.2 22 15))).map (fun z => fld z.2 0 6)

/-- An area is in a mode other than NORMAL. -/
def areaBusy (s : State) (an : Nat) : Bool := (s.area an).mode != 0

/-- The indexes of LS_VAL that a response record names. -/
def respIndexes (x : Img) : List Nat := ((List.range 4).map (fun i => fld x (12 * i) 12)).filter (· != 0xFFF)

/-- A value fits the committed format of the point of a member-list entry, if the point is configured (R178). -/
def fitsMember (s : State) (e : Nat) (v : Nat) : Bool :=
  let pt := cfgImg s Kind.point (fld (cfgImg s Kind.member e) 0 17)
  !flag pt 42 || fitsFormat (fld pt 40 2) (u32 v)

/-- LS_SET_AREA. -/
def cardSetArea (org : Origin) (_lvl : Nat) (p : List Byte) (s : State) : State × Res :=
  let an := le p 0 1
  let x := le p 4 48
  ranged ([(decide (an ≤ 63), 0)] ++ zero p 1 3 ++ mapped lsAreaFields 4 x) s fun _ =>
    if areaBusy s an then (s, .no St.busy 0) else journal org true [wr Kind.lsArea an (cleanImg lsAreaFields x)] [] s

/-- The checks of one trigger record (R173); an unused record names no mode, input, area or point. -/
def trigChecks (s : State) (base : Nat) (x : Img) : List (Bool × Nat) :=
  let kind := fld x 0 2
  let pt := cfgImg s Kind.point (fld x 20 17)
  let fmt := fld pt 40 2
  mapped (if kind = 0 then trigFields.filter (fun f => f.lo != 16) else trigFields) base x ++
    (if kind = 0 then [] else [(flag (cfgImg s Kind.area (fld x 8 6)) 0, base + 1)]) ++
    (if kind = 1 then [(flag (cfgImg s Kind.lsIn 0) (32 * fld x 4 3), base)] else []) ++
    (if kind = 2 then [(flag pt 42 && (fmt == 1 || fmt == 2), base + 2), (fmt != 1 || fld x 48 16 == 0, base + 6)] else [])

/-- LS_SET_TRIG. -/
def cardSetTrig (org : Origin) (_lvl : Nat) (p : List Byte) (s : State) : State × Res :=
  let first := le p 0 1
  let n := le p 1 1
  let r (i : Nat) : Img := le p (8 + 8 * i) 8
  ranged ([(decide (1 ≤ n ∧ n ≤ 125 ∧ first + n ≤ 256), 1)] ++ zero p 2 6 ++
      (List.range n).flatMap (fun i => trigChecks s (8 + 8 * i) (r i))) s fun _ =>
    let touches (x : Img) : Bool := fld x 0 2 != 0 && areaBusy s (fld x 8 6)
    if (List.range n).any (fun i => touches (r i) || touches (cfgImg s Kind.trig (first + i))) then (s, .no St.busy 0)
    else journal org true ((List.range n).map (fun i => wr Kind.trig (first + i) (r i))) [] s

/-- LS_SET_RESP. -/
def cardSetResp (org : Origin) (_lvl : Nat) (p : List Byte) (s : State) : State × Res :=
  let first := le p 0 2
  let n := le p 2 2
  let r (i : Nat) : Img := le p (8 + 8 * i) 8
  ranged ([(decide (first ≤ 16383), 0), (decide (1 ≤ n ∧ n ≤ 120 ∧ first + n ≤ 16384), 2)] ++ zero p 4 4 ++
      (List.range n).flatMap (fun i => mapped respFields (8 + 8 * i) (r i))) s fun _ =>
    if !(List.range n).all (fun i => (respIndexes (r i)).all (fun v => fitsMember s (first + i) (cfgImg s Kind.val v))) then
      (s, .no St.format 0)
    else if (List.range n).any (fun i => (areasOfEntry s (first + i)).any (areaBusy s)) then (s, .no St.busy 0)
    else journal org true ((List.range n).map (fun i => wr Kind.resp (first + i) (r i))) [] s

/-- LS_SET_VAL. -/
def cardSetVal (org : Origin) (_lvl : Nat) (p : List Byte) (s : State) : State × Res :=
  let first := le p 0 2
  let n := le p 2 2
  let r (i : Nat) : Img := le p (8 + 4 * i) 4
  ranged ([(decide (first ≤ 4094), 0), (decide (1 ≤ n ∧ n ≤ 240 ∧ first + n ≤ 4095), 2)] ++ zero p 4 4) s fun _ =>
    -- the member entries whose response names a value that the command writes
    let named := (committed s Kind.resp).flatMap (fun e =>
      ((respIndexes e.2).filter (fun v => decide (first ≤ v ∧ v < first + n))).map (fun v => (e.1, v)))
    if !named.all (fun ev => fitsMember s ev.1 (r (ev.2 - first))) then (s, .no St.format 0)
    else if named.any (fun ev => (areasOfEntry s ev.1).any (areaBusy s)) then (s, .no St.busy 0)
    else journal org true ((List.range n).map (fun i => wr Kind.val (first + i) (r i))) [] s

/-- The checks of LS_IN of input n at byte 4n of the payload (R167). -/
def lsInChecks (n : Nat) (x : Img) : List (Bool × Nat) :=
  mapped lsInFields (4 * n) x ++
    (if fld x 16 8 ≤ fld x 8 8 then [(false, 4 * n + 2)] else [(decide (fld x 16 8 < fld x 24 8), 4 * n + 3)])

/-- LS_SET_IN: enabling an input takes entries 24 to 31 of ADC0, which must select INT (R168, R242). -/
def cardSetIn (org : Origin) (_lvl : Nat) (p : List Byte) (s : State) : State × Res :=
  let x := le p 0 32
  let old := cfgImg s Kind.lsIn 0
  let conv := cfgImg s Kind.conv 0
  ranged ((List.range 8).flatMap (fun n => lsInChecks n (fld x (32 * n) 32))) s fun _ =>
    if anySup x && (decide (24 < convRegLen conv) || convRef conv != 0) then (s, conflict 0x05 24 0x09 0)
    else if (committed s Kind.trig).any (fun t =>
        fld t.2 0 2 == 1 && fld old (32 * fld t.2 4 3) 32 != fld x (32 * fld t.2 4 3) 32 && areaBusy s (fld t.2 8 6)) then
      (s, .no St.busy 0)
    else journal org true [wr Kind.lsIn 0 x] [] s

/-- LS_MODE: it completes at the half-cycle boundary that handles it (R176). -/
def cardLsMode (_org : Origin) (_lvl : Nat) (p : List Byte) (s : State) : State × Res :=
  let an := le p 0 1
  let act := le p 1 1
  let arg := le p 2 1
  let argOk := if act = 0 ∨ act = 2 then decide (1 ≤ arg ∧ arg ≤ 4) else if act = 4 then decide (arg ≤ 5) else true
  ranged ([(decide (an ≤ 63) || an == 0xFF, 0)] ++
      (if an = 0xFF then [] else [(decide (act ≤ 4), 1), (argOk, 2)]) ++ zero p 3 1) s fun _ =>
    if !s.duty then (s, .no St.role 0)
    else if an ≠ 0xFF ∧ act = 4 ∧ !areaHostFfp s an then (s, .no St.ffpDisabled 0)
    else (s, .wait .lsMode)

/-- LS_IN takes effect (R167, R245): the classifier takes or frees its entries of ADC0. -/
def lsInTakesEffect (s : State) : State := withEntries (takeEffect Kind.lsIn 0) s

end Sys2Proof.Machine
end

