-- ==== Sys2Proof/Machine/Coils.lean ====
section
/-!
DEFINITION. Coil banks (08_coil_banks.md): records (R209, R210), gates and the shared high side (R193 to R197), diagnostic codes and
their combination (R205, R206), latches (R207), the safe state (R208, R227), the end of an event (R198, R235), the event queue of a
bank (R222, R224), off-state diagnostics (R200 to R203), and the rail check (R189). Codes of a cause of COIL_EVENT_DROP and of an end of
COIL_DONE are those of 09_coil_sequencer.md R235.
-/

namespace Sys2Proof.Machine

open Sys2Proof

def State.coil (s : State) (ch : Nat) : Coil := s.cb.ch.get ch
def State.bank (s : State) (b : Nat) : Bank := s.cb.bank.get b
def coilUpd (ch : Nat) (f : Coil → Coil) (s : State) : State := { s with cb := { s.cb with ch := s.cb.ch.upd ch f } }
def bankUpd (b : Nat) (f : Bank → Bank) (s : State) : State := { s with cb := { s.cb with bank := s.cb.bank.upd b f } }
/-- Change the context of a channel's running event. -/
def ctxUpd (ch : Nat) (f : Ctx → Ctx) (s : State) : State := coilUpd ch (fun c => { c with ctx := c.ctx.map f }) s

/-! ## Records -/

def bankFld (s : State) (b lo w : Nat) : Nat := liveFld s Kind.bank b lo w
def chFld (s : State) (ch lo w : Nat) : Nat := liveFld s Kind.bank (ch / 4) (128 + 256 * (ch % 4) + lo) w
def bankEnabled (s : State) (b : Nat) : Bool := bankFld s b 0 1 == 1
def boostFit (s : State) (b : Nat) : Bool := bankFld s b 1 1 == 1
def chEnabled (s : State) (ch : Nat) : Bool := bankEnabled s (ch / 4) && chFld s ch 0 1 == 1
def chDiagOn (s : State) (ch : Nat) : Bool := chFld s ch 4 1 == 1
def csFld (s : State) (ch lo w : Nat) : Nat := liveFld s Kind.chan ch lo w
def entFld (s : State) (e lo w : Nat) : Nat := liveFld s Kind.entry e lo w
/-- A word of the microcode store (R214). -/
def microWord (s : State) (a : Nat) : Nat := liveFld s Kind.micro 0 (32 * a) 32
/-- The channels of a bank. -/
def bankChans (b : Nat) : List Nat := (List.range 4).map (· + 4 * b)

/-- Gates may be on: outputs are enabled and no cause of R208 or R495 stands. -/
def gatesOk (s : State) : Bool := s.sys.outputs && !s.sys.uvlo && !s.sys.bridgeLost && !s.sys.gateHold && !s.th.hold

/-! ## Time -/

/-- The frequency that MT uses, in mHz. -/
def freqInUse (s : State) : Nat := max 1 s.mt.freq
/-- AU as units of 10 ns at the frequency in use. -/
def auTo10ns (s : State) (au : Int) : Nat := if au ≤ 0 then 0 else au.toNat * 100000000000 / (65536 * freqInUse s)
/-- Units of 10 ns as AU at the frequency in use, to the nearest AU. -/
def tenNsToAu (s : State) (n : Nat) : Nat := (2 * n * 65536 * freqInUse s + 100000000000) / (2 * 100000000000)
/-- How late a start at an instant is, in units of 10 ns (R224). -/
def latenessAt (s : State) (t : MT) (e : CoilEvent) : Nat := min (auTo10ns s (t.diff e.start) - e.sub) 0xFFFFFFFF
/-- How late a start at this instant is (R224). -/
def latenessNow (s : State) (e : CoilEvent) : Nat := latenessAt s s.now e
/-- The start instant of an event has been reached (R223); within an AU the command says so (notes/assumptions/57.md). -/
def reached (s : State) (e : CoilEvent) : Bool := decide (e.start.diff s.now ≤ 0)
/-- Time since reset in units of 10 ns, as fine as the model keeps real time. -/
def time10ns (s : State) : Nat :=
  let f := freqInUse s * 1023
  (s.rtc.up * f + s.rtc.frac) * 390625 / (128 * f)
/-- The kerf of a channel's last event runs (R198). -/
def kerfRuns (s : State) (ch : Nat) : Bool :=
  match (s.coil ch).kerf with
  | some t => decide (time10ns s < t + chFld s ch 16 16 * 1000)
  | none => false

/-! ## Rails (R237) -/

/-- The code of a monitor of ADC1, where its result is valid. -/
def railCode (s : State) (e : Nat) : Option Nat :=
  let r := (s.conv 1).reg.get e
  if r.valid then some r.code else none
/-- VREF of ADC1 in µV (R242): 2.5 V from INT. -/
def railRef (s : State) : Nat :=
  let r := convRef (liveImg s Kind.conv 1)
  if r = 0 then 2500000 else Config.vref r

/-! ## Gates and the high side (R193 to R197, R217) -/

/-- A context is in the on-state of its program: no chop off-time, and END has not executed. -/
def Ctx.onTime (c : Ctx) : Bool := match c.wait with | .chop on _ => on | .ending => false | _ => !c.heldOff
/-- A context is in a BOOST phase. -/
def Ctx.inBoost (c : Ctx) : Bool := c.src == 2 && c.wait != .ending
/-- The boost of a phase runs: neither its peak limit nor BOOST_MAX has ended it (R196), be it in a chop's off-time. -/
def Ctx.boosting (c : Ctx) : Bool := c.inBoost && !c.noBoost && !c.spent
/-- The boost demand of a context stands. -/
def Ctx.boosts (c : Ctx) : Bool := c.boosting && c.onTime
/-- A context holds on the supply (R196), be it in a chop's off-time. -/
def Ctx.holds (c : Ctx) : Bool := c.src == 1 && c.wait != .ending
/-- A context demands the supply source now. -/
def Ctx.supplies (c : Ctx) : Bool := c.holds && c.onTime
/-- A context demands a source. -/
def Ctx.demands (c : Ctx) : Bool := c.boosts || c.supplies
/-- The channel drives (R196, R217). -/
def Ctx.drives (c : Ctx) : Bool := c.demands && c.lsw && !c.stealOff
/-- The dip detector's peak is reset without disarming (R231). -/
def Ctx.resetPeak (c : Ctx) : Ctx := { c with peak := 0, low := none }

/-- The contexts of the other channels of a channel's bank. -/
def otherCtxs (s : State) (ch : Nat) : List (Nat × Ctx) :=
  (bankChans (ch / 4)).filterMap (fun d => if d = ch then none else ((s.coil d).ctx).map (fun c => (d, c)))

/-- The first word of an event's entry starts a boost phase on this bank (R197; R189: without BOOST_FIT it runs on supply). -/
def firstIsBoost (s : State) (b entry : Nat) : Bool :=
  boostFit s b && fld (microWord s (entFld s entry 0 11)) 25 2 == 2

/-- A context has a boost on the bank: one runs, or it has been admitted and has not executed its first SRC. -/
def hasBoost (s : State) (d : Nat) (c : Ctx) : Bool :=
  c.boosting || (c.wait == .ready && c.pc == entFld s c.ev.entry 0 11 && firstIsBoost s (d / 4) c.ev.entry)

/-- The thresholds with which a channel chops (R196): those of its phase, else STEAL_IH and STEAL_IL; IH of 0 is none. -/
def thresholds (s : State) (d : Nat) (c : Ctx) : Nat × Nat :=
  if c.ih ≠ 0 then (c.ih, c.il) else (chFld s d 88 8, chFld s d 96 8)

/-- A channel holds on the supply and cannot be stolen (R196). -/
def unstealable (s : State) (d : Nat) (c : Ctx) : Bool := c.holds && (thresholds s d c).1 == 0

/-- The obstructions of a boost on a channel's bank (R197): boosts and holds that cannot be stolen. -/
def obstructions (s : State) (ch : Nat) : List (Nat × Ctx) :=
  (otherCtxs s ch).filter (fun d => hasBoost s d.1 d.2 || unstealable s d.1 d.2)

/-- The rest of a phase from a word on, in units of 10 ns, none when it is unlimited: the counts and timeouts of its words up to
the next SRC or END (notes/assumptions/23.md). -/
def phaseRest (s : State) : Nat → Nat → Option Nat
  | 0, _ => some 0
  | fuel + 1, a =>
    let w := microWord s a
    let t : Option Nat := match fld w 27 5 with
      | 0x04 => some (fld w 0 26 * (if flag w 26 then 1000 else 1))
      | 0x05 => some (fld w 8 17 * (if flag w 25 then 10000 else 100))
      | 0x06 => if fld w 0 26 = 0 then none else some (fld w 0 26 * (if flag w 26 then 100000 else 1000))
      | _ => some 0
    if fld w 27 5 ≤ 1 then some 0
    else match t, phaseRest s fuel (a + 1) with
      | some x, some y => some (x + y)
      | _, _ => none

/-- The worst remaining time W of an obstruction, in units of 10 ns (R197): L_b less the elapsed time of a boost, or the rest of
the phase of a channel that cannot be stolen. -/
def worstRest (s : State) (d : Nat) (c : Ctx) : Option Nat :=
  if hasBoost s d c then
    let lb := min (entFld s c.ev.entry 32 13) (chFld s d 32 13) * 1000
    some (lb - (time10ns s - c.phaseAt))
  else
    let a := if c.wait == .ready then c.pc else c.pc - 1
    (phaseRest s 64 a).map (fun n => n - (time10ns s - c.waitAt))

/-- A steal starts or ends with the boost of another channel (R196); either resets the detector's peak (R231). -/
def Ctx.stealing (now : Bool) (c : Ctx) : Ctx :=
  if now = c.steal then c else { c.resetPeak with steal := now, stealOff := false, stolen := c.stolen || now }

/-- CLAMP acts (R193): CLAMP_V is not 0 and is below VBOOST − 2 V by the latest monitor, where there is one. -/
def clampActs (s : State) (ch : Nat) : Bool :=
  let v := chFld s ch 104 8
  v != 0 && (match railCode s 31 with
    | some c => decide ((v * 500000 + 2000000) * 65536 < c * 32 * railRef s)
    | none => true)

/-- The gate of a channel's Q_LSn (R193, R194, R196, R217): driven, in SLOW decay, in clamp or off. `other` says that another
channel of the bank demands a source: a SLOW decay beside it goes on as FAST and is counted. An off-time in a steal is FAST. -/
def settleChan (ok other : Bool) (ch : Nat) (s : State) : State :=
  match (s.coil ch).ctx with
  | none => coilUpd ch (fun k => { k with ls := false, clamp := false }) s
  | some c =>
    let drives := c.drives && ok && !(s.coil ch).latched
    let slows := c.lsw && !drives && ok && c.decay == 0 && !c.fast && (c.slow || !c.steal)
    let promoted := slows && other
    let slow := slows && !other
    let fast := !drives && (c.fast || promoted || c.steal)
    let clamp := !drives && ok && c.decay == 2 && !fast && clampActs s ch
    coilUpd ch (fun k => { k with ls := drives || slow, clamp := clamp, ctx := some { c with slow := slow, fast := fast } })
      (when promoted (bankUpd (ch / 4) (fun k => { k with promoted := sat32 k.promoted })) s)

/-- A current above I_ZERO while the high side and Q_LSn are both on is seen by an open window (R204). -/
def noteCurrent (ch : Nat) (s : State) : State :=
  if (s.coil ch).flow && (s.coil ch).ls && (s.bank (ch / 4)).hs != 0 then
    ctxUpd ch (fun c => if c.dwin then { c with seen := true } else c) s
  else s

/-- Set the gates of a bank from its contexts (R193 to R196); without BOOST_FIT Q_HSB stays off (R189). -/
def settleBank (b : Nat) (s : State) : State :=
  let ok := gatesOk s && bankEnabled s b && !(s.bank b).latched
  let chs := bankChans b
  let is (p : Ctx → Bool) (d : Nat) : Bool := ((s.coil d).ctx).any p
  let boost := chs.any (is Ctx.boosting)
  let hs := if !ok then 0 else if boostFit s b && chs.any (is Ctx.boosts) then 2 else if chs.any (is Ctx.demands) then 1 else 0
  let s' := forAll chs (fun d s => ctxUpd d (fun c => c.stealing (boost && c.holds && (thresholds s d c).1 != 0)) s) s
  let s' := forAll chs (fun d s => settleChan ok (chs.any (fun e => e != d && is Ctx.demands e)) d s) s'
  forAll chs noteCurrent (bankUpd b (fun k => { k with hs := hs }) s')

/-! ## Codes (R205, R206) -/

/-- A channel's code changes: COIL_FAULT or COIL_OK (R206). A code that a sequence kept is no longer that one (R205). -/
def setCode (ch code : Nat) (s : State) : State :=
  let c := s.coil ch
  if c.code = code then s
  else
    let s := coilUpd ch (fun k => { k with code := code, kept := false }) s
    if code = 0 then raise 2 0x81 [ef 1 ch] s else raise 2 0x80 [ef 1 ch, ef 1 code, ef 1 c.windows] s

/-- An on-state finding (R204). -/
def onFinding (ch code : Nat) (s : State) : State :=
  setCode ch code (ctxUpd ch (fun c => { c with finding := true }) (coilUpd ch (fun k => { k with lastOn := code }) s))

/-- The code landed for an off-state outcome (R205). -/
def combine (code outcome : Nat) : Nat :=
  match code, outcome with
  | 7, 0 => 8
  | 7, 3 => 3
  | 6, 1 => 1
  | 6, 2 | 6, 5 => 2
  | 9, 5 => 5
  | 6, 0 | 9, 0 | 10, 0 | 11, 0 | 12, 0 => code
  | _, o => o

/-- An on-state code is combined with the next completed sequence; any other is replaced at once (R205). -/
def combines (code : Nat) : Bool := code == 6 || code == 7 || (9 ≤ code && code ≤ 12)

/-! ## Dropped and ended events (R224, R227, R235) -/

/-- A coil event is dropped (R227, R235): counted, and reported except for OUTPUTS_OFF, cause 6. -/
def dropEvent (cause lateness : Nat) (e : CoilEvent) (s : State) : State :=
  let s := coilUpd e.ch (fun k => { k with dropped := sat32 k.dropped }) s
  if cause = 6 then s
  else raise (if e.bound && e.urgent then 1 else 2) 0x90 [ef 1 e.ch, ef 1 e.entry, ef 2 e.handle, ef 1 cause, ef 4 lateness] s

/-- Drop the queued events of a bank that satisfy a test. -/
def dropQueued (b cause : Nat) (p : CoilEvent → Bool) (s : State) : State :=
  let gone := (s.bank b).queue.filter p
  forAll gone (fun e s => dropEvent cause (latenessNow s e) e s)
    (bankUpd b (fun k => { k with queue := k.queue.filter (fun e => !p e) }) s)

/-- A miss of the scribe (R231, R232). -/
def scribeMiss (ch : Nat) (s : State) : State :=
  let m := (s.coil ch).misses
  let s := coilUpd ch (fun k => { k with misses := min (m + 1) 255, lastMeas := 0 }) s
  if m + 1 = csFld s ch 128 8 then raise 2 0x94 [ef 1 ch, ef 1 (m + 1)] s else s

/-- The miss of an event that disarms or ends without a dip, counted once (R231). -/
def eventMiss (ch : Nat) (s : State) : State :=
  match (s.coil ch).ctx with
  | some c => if c.tried && !c.measured && !c.missed then scribeMiss ch (ctxUpd ch (fun c => { c with missed := true }) s) else s
  | none => s

/-- The diagnostic window closes by its DWIN or by END (R204, R216); an event that ends otherwise leaves it unjudged. -/
def closeWindow (ch : Nat) (s : State) : State :=
  match (s.coil ch).ctx with
  | none => s
  | some c =>
    if !c.dwin then s
    else
      let s := ctxUpd ch (fun c => { c with dwin := false }) s
      if !c.seen && chDiagOn s ch then onFinding ch 6 s else s

/-- The flags of R218 as a byte. -/
def Ctx.flags (c : Ctx) : Nat := bit c.to_ + 2 * bit c.dip + 4 * bit c.stolen + 8 * bit c.late + 16 * bit c.pre

/-- COIL_DONE of an event with REPORT (R235). -/
def coilDone (c : Ctx) (s : State) : State :=
  if c.ev.report then raise 3 0x91 [ef 2 c.ev.handle, ef 4 c.lateness, ef 1 c.flags, ef 1 c.ends, ef 1 (bit c.unsync)] s else s

/-- An event stops driving and decays FAST until its current has gone (R199, R204, R227): `ends` is the end code of COIL_DONE. One
that has executed END keeps that end, and its decay goes on as FAST. -/
def endFast (ch ends : Nat) (s : State) : State :=
  match (s.coil ch).ctx with
  | none => s
  | some _ =>
    settleBank (ch / 4) (ctxUpd ch (fun c => { c with
      wait := .ending, src := 0, decay := 1, lsw := false, dwin := false, ends := if c.wait = .ending then c.ends else ends }) s)

/-- The events of a set of channels go (R227): queued ones are dropped, running ones end with FAST decay. -/
def clearChannels (chs : List Nat) (cause ends : Nat) (s : State) : State :=
  forAll chs (fun ch s => endFast ch ends (dropQueued (ch / 4) cause (fun e => e.ch == ch) s)) s

/-- EVENT_END: an event whose Q_LSn is off is over and its kerf begins (R198), with its report, the detector's miss and the codes
of R205. -/
def eventEndRow (ch : Nat) (s : State) : State :=
  match (s.coil ch).ctx with
  | none => s
  | some c =>
    if c.wait != .ending || (s.coil ch).ls then s
    else
      let s := eventMiss ch s
      let s := coilUpd ch (fun k => { k with
        ctx := none, kerf := some (time10ns s), flow := false, oldRange := none
        trips := if c.ends = 4 ∧ k.lastOn = 7 then k.trips else 0 }) s
      let s := when (!c.finding && (s.coil ch).kept) (setCode ch 0) s
      coilDone c (settleBank (ch / 4) s)

/-! ## Latches and the safe state (R207, R208, R227) -/

/-- A channel latches off (R207). -/
def latchChannel (ch : Nat) (s : State) : State :=
  clearChannels [ch] 3 4 (coilUpd ch (fun k => { k with latched := true }) s)

/-- LOW_SIDE_TRIP (R192, R204, R207). -/
def lowSideTripRow (ch : Nat) (s : State) : State :=
  match (s.coil ch).ctx with
  | none => s
  | some c =>
    if c.wait == .ending && c.ends == 4 then s
    else
      let s := ctxUpd ch (fun c => { c with ends := 4 }) (endFast ch 4 (onFinding ch 7 s))
      let s := coilUpd ch (fun k => { k with trips := min (k.trips + 1) 255 }) s
      let s := if chFld s ch 5 3 + 1 ≤ (s.coil ch).trips ∧ !(s.coil ch).latched then latchChannel ch s else s
      settleBank (ch / 4) s

/-- HIGH_SIDE_TRIP (R204, R207). -/
def highSideTripRow (b : Nat) (s : State) : State :=
  if (s.bank b).hs = 0 then s
  else
    let chs := bankChans b
    let s := forAll (chs.filter (chEnabled s)) (fun ch s => onFinding ch 9 s) s
    let s := forAll chs (endFast · 4) s
    let recent := ((s.bank b).tripAt.filter (fun t => s.rtc.up < t + 60 * 32768)) ++ [s.rtc.up]
    let s := bankUpd b (fun k => { k with hsTrips := min (k.hsTrips + 1) 65535, tripAt := recent }) s
    if 3 ≤ recent.length ∧ !(s.bank b).latched then
      let s := bankUpd b (fun k => { k with latched := true }) s
      let s := forAll chs (fun ch s => coilUpd ch (fun k => { k with latched := true }) s) s
      raise 2 0x82 [ef 1 b] (settleBank b (clearChannels chs 3 4 s))
    else settleBank b s

/-- An off-state sequence stops and is discarded; it runs again at the next qualifying instant (R203), one that CB_RUN_DIAG asked for
within a second of this one (notes/assumptions/62.md). -/
def stopDiag (b : Nat) (s : State) : State :=
  if (s.bank b).diag.isNone then s
  else bankUpd b (fun k => { k with diag := none, diagAsk := k.diagAsk.map (fun _ => s.rtc.up) }) s

/-- Every bank enters the coil safe state (R208, R227): diagnostics stop, events go for OUTPUTS_OFF; `land` lands DRIVE_OFF on
every enabled channel. -/
def coilSafe (land : Bool) (s : State) : State :=
  forRange 6 (fun b s =>
    let s := clearChannels (bankChans b) 6 2 (stopDiag b s)
    let s := when land (forAll ((bankChans b).filter (chEnabled s)) (fun ch s => setCode ch 14 s)) s
    settleBank b s) s

/-! ## The queue of a bank (R222, R223) -/

/-- The cause for which an event of a channel is dropped while it lasts (R227), or because its entry is quarantined (R214). -/
def standingCause (s : State) (ch entry : Nat) : Option Nat :=
  if !gatesOk s then some 6
  else if (s.coil ch).latched || (s.bank (ch / 4)).latched then some 3
  else if !chEnabled s ch then some 9
  else if s.cb.badEntry.get entry then some 8
  else none

/-- An event enters its bank's queue of 16, or is dropped (R222, R227). -/
def queueEvent (e : CoilEvent) (s : State) : State :=
  match standingCause s e.ch e.entry with
  | some c => dropEvent c (latenessNow s e) e s
  | none =>
    if 16 ≤ (s.bank (e.ch / 4)).queue.length then dropEvent 4 (latenessNow s e) e s
    else bankUpd (e.ch / 4) (fun k => { k with queue := k.queue ++ [e] }) s

/-- The requested start of one event lies before that of another (R223). -/
def CoilEvent.before (e b : CoilEvent) : Bool :=
  decide (e.start.diff b.start < 0) || (e.start.diff b.start == 0 && decide (e.sub < b.sub))

/-- The earliest requested start, and of equal ones the first to arrive (R223). -/
def earliestEvent (l : List CoilEvent) : Option CoilEvent :=
  l.foldl (fun best e => match best with
    | none => some e
    | some b => if e.before b then some e else some b) none

/-- The queued events of a channel. -/
def chanQueue (s : State) (ch : Nat) : List CoilEvent := (s.bank (ch / 4)).queue.filter (fun e => e.ch == ch)

/-- The head event of a channel (R223). -/
def headEvent (s : State) (ch : Nat) : Option CoilEvent := earliestEvent (chanQueue s ch)

/-- The lateness of a waiting event reaches its allowance in the AU at which MT stands, or has done so (R224). -/
def allowanceGone (s : State) (e : CoilEvent) : Bool :=
  e.allow != 0xFFFF && reached s e && decide (e.allow * 1000 ≤ latenessAt s (s.now.add 1) e)

/-- LATENESS_ALLOWANCE_EXPIRY (R224): of any event of the channel that waits. -/
def allowanceRow (ch : Nat) (s : State) : State :=
  match (chanQueue s ch).find? (allowanceGone s) with
  | none => s
  | some e =>
      dropEvent 1 (max (e.allow * 1000) (latenessNow s e)) e
        (bankUpd (ch / 4) (fun k => { k with queue := k.queue.erase e }) s)

/-! ## Off-state diagnostics (R200 to R203, R212) -/

/-- The channels of a bank that the sequence tests. -/
def tested (s : State) (b : Nat) : List Nat := (bankChans b).filter (fun ch => chEnabled s ch && chFld s ch 3 1 == 1)

/-- An off-state outcome lands, combined with the channel's code (R205); an on-state code that stands after it has been kept. -/
def landOutcome (ch o : Nat) (s : State) : State :=
  let code := combine (s.coil ch).code o
  coilUpd ch (fun k => { k with kept := combines code }) (setCode ch code (coilUpd ch (fun k => { k with lastOff := o }) s))

/-- The state of a bank as CB_GET_DIAG returns it (R212). -/
def bankState (s : State) (b : Nat) : Nat :=
  let k := s.bank b
  if k.latched then 4
  else if !bankEnabled s b then 0
  else if k.diag.isSome then 3
  else if (bankChans b).any (fun ch => (s.coil ch).ctx.isSome) then 2 else 1

/-- The response of CB_GET_DIAG (R212). -/
def diagResp (s : State) (b : Nat) : List Byte :=
  let k := s.bank b
  leBytes 1 (bankState s b) ++ [0] ++ leBytes 2 k.hsTrips ++ leBytes 4 k.steals ++ leBytes 4 k.delayed ++ leBytes 4 k.promoted ++
  (bankChans b).flatMap (fun ch =>
    let c := s.coil ch
    leBytes 1 c.code ++ leBytes 1 c.lastOn ++ leBytes 1 c.lastOff ++ leBytes 1 c.windows ++ leBytes 1 c.trips ++
    leBytes 1 (bit c.latched + 2 * bit c.oldRange.isSome) ++ leBytes 2 0 ++ leBytes 4 c.kerfViol ++ leBytes 4 c.seqDone)

/-- The end of a completed sequence with the outcomes not landed yet. -/
def endSequence (b : Nat) (found : List (Nat × Nat)) (s : State) : State :=
  let s := forAll found (fun f s => landOutcome f.1 f.2 s) s
  let s := forAll (tested s b) (fun ch s => coilUpd ch (fun k => { k with seqDone := sat32 k.seqDone }) s) s
  let s := bankUpd b (fun k => { k with
    diag := none, diagCycles := 0, diagDue := false, dueCycles := 0, starved := false, diagAsk := none }) s
  completeWait (.diag b) St.ok 0 (diagResp s b) s

/-- The length of a sequence in units of 10 ns (R200). -/
def seqLength (s : State) (b : Nat) : Nat := (1 + (tested s b).length) * (bankFld s b 8 8 * 10000 + 5000)

/-- A bank's sequence is needed (R200): a period, outputs enabled and a channel to test. -/
def diagNeeded (s : State) (b : Nat) : Bool := bankFld s b 16 16 != 0 && s.sys.outputs && !(tested s b).isEmpty

/-- DIAG_SEQUENCE_START (R200): due, or asked for by CB_RUN_DIAG, on an idle bank whose kerfs have passed and with no event about to
start. -/
def diagStartRow (b : Nat) (s : State) : State :=
  let k := s.bank b
  let near := k.queue.any (fun e => auTo10ns s (e.start.diff s.now) ≤ seqLength s b + 100000)
  let idle := (bankChans b).all (fun ch => (s.coil ch).ctx.isNone && !kerfRuns s ch) && k.hs == 0
  let due := (k.diagDue && diagNeeded s b) || (k.diagAsk.isSome && !(tested s b).isEmpty)
  if due && idle && !near && gatesOk s && k.diag.isNone then bankUpd b (fun k => { k with diag := some {} }) s else s

/-- DIAG_STEP_A (R201): windows of HS_SW and of the four LS_D nodes. -/
def diagStepARow (b : Nat) (hs : Window) (ld : List Window) (s : State) : State :=
  match (s.bank b).diag with
  | some { stepB := none, .. } =>
    let ts := tested s b
    let w (ch : Nat) : Window := ld.getD (ch % 4) .l
    let s := forAll ts (fun ch s => coilUpd ch (fun k => { k with windows := hs.code + 4 * (w ch).code }) s) s
    let low := ts.filter (fun ch => w ch == .l)
    match hs with
    | .h => endSequence b (ts.map (fun ch => (ch, 3))) s
    | .n => if ts.isEmpty then endSequence b [] s else bankUpd b (fun k => { k with diag := some { stepB := some ts } }) s
    | .m => endSequence b (ts.map (fun ch => (ch, if low.length = 1 then (if low.contains ch then 2 else 13) else 5))) s
    | .l => endSequence b (ts.map (fun ch => (ch, 5))) s
  | _ => s

/-- The outcome of a step B with a nominal high-side node, by the window of the low-side node (R202). -/
def stepBCode : Window → Nat
  | .n => 0
  | .m => 4
  | .l => 1
  | .h => 3

/-- DIAG_STEP_B (R202) of the next channel. A code that needs no completed sequence lands at the end of its step (R206). -/
def diagStepBRow (b : Nat) (hs ld : Window) (s : State) : State :=
  match (s.bank b).diag with
  | some { stepB := some (ch :: rest), found := found } =>
    let o := if hs ≠ .n then 13 else stepBCode ld
    let s := coilUpd ch (fun k => { k with windows := k.windows % 16 + 16 * ld.code }) s
    let defer := combines (s.coil ch).code
    let s := if defer then s else landOutcome ch o s
    let found := if defer then found ++ [(ch, o)] else found
    if rest.isEmpty then endSequence b found s
    else bankUpd b (fun k => { k with diag := some { stepB := some rest, found := found } }) s
  | _ => s

/-- DIAG_STARVE_TIMEOUT (R203). -/
def diagStarveRow (b : Nat) (s : State) : State :=
  let k := s.bank b
  if k.diagDue && !k.starved && decide (4 * bankFld s b 16 16 ≤ k.dueCycles) then raise 2 0x83 [ef 1 b, ef 4 k.dueCycles] (bankUpd b (fun k => { k with starved := true }) s) else s

/-- The cycles since the banks' last sequences: one falls due while it is needed; and CB_RUN_DIAG on a bank that did not become idle
within 1 s (R200, R203, R212). -/
def diagBoundary (s : State) : State :=
  forRange 6 (fun b s =>
    let k := s.bank b
    let n := min (k.diagCycles + 1) 0xFFFFFFFF
    let due := diagNeeded s b && (k.diagDue || decide (bankFld s b 16 16 ≤ n))
    let s := bankUpd b (fun k => { k with
      diagCycles := n, diagDue := due, dueCycles := if due && k.diagDue then sat32 k.dueCycles else 0
      starved := due && k.starved }) s
    match k.diagAsk with
    | some t => if k.diag.isNone ∧ t + 32768 ≤ s.rtc.up then
        completeWait (.diag b) St.bankActive 0 [] (bankUpd b (fun k => { k with diagAsk := none }) s) else s
    | none => s) s

/-! ## Rails (R189) -/

/-- RAIL_ORDER at a cycle boundary (R189, R213). -/
def railBoundary (s : State) : State :=
  let banks := (List.range 6).filter (bankEnabled s)
  match railCode s 30, railCode s 31 with
  | some vc, some vb =>
    let d : Int := (vb : Int) - (vc : Int)
    let bad := if banks.isEmpty then false
      else if banks.any (boostFit s) then decide (d * (32 * railRef s : Nat) < 3000000 * 65536)
      else decide (d * (32 * railRef s : Nat) < -1500000 * 65536)
    let n := if bad then min (s.cb.rails + 1) 2 else 0
    let s : State := { s with cb := { s.cb with rails := n } }
    let tenths (c : Nat) : Nat := (c * 32 * railRef s + 3276800000) / 6553600000
    if n = 2 ∧ s.every s.cb.railAt 60 then
      raise 2 0x84 [ef 2 (tenths vc), ef 2 (tenths vb)] { s with cb := { s.cb with railAt := some s.rtc.up } }
    else s
  | _, _ => { s with cb := { s.cb with rails := 0 } }

/-! ## VGD, the bridge and the gate hold (R18, R190, R495) -/

/-- VGD_UVLO (R190). -/
def vgdUvloRow (s : State) : State :=
  if s.sys.uvlo then s else coilSafe true { s with sys := { s.sys with uvlo := true } }

/-- VGD_RELEASE (R190). -/
def vgdReleaseRow (s : State) : State := { s with sys := { s.sys with uvlo := false } }

/-- CORE_SUPPLY_GATE_HOLD (R495): every gate is held off. -/
def gateHoldRow (s : State) : State :=
  if s.sys.gateHold then s else coilSafe false { s with sys := { s.sys with gateHold := true } }

/-- CORE_SUPPLY_GATE_RELEASE (R495). -/
def gateReleaseRow (s : State) : State := { s with sys := { s.sys with gateHold := false } }

/-! ## New records (R211) -/

/-- A bank's records take effect (R211, R245): a running channel whose RANGE changes keeps its old one until its event ends; a
disabled channel loses its events (R227). -/
def bankTakesEffect (b : Nat) (s : State) : State :=
  let old (ch : Nat) : Nat := chFld s ch 1 2
  let kept := (bankChans b).map (fun ch => (ch, old ch))
  let s := withEntries (takeEffect Kind.bank b) (bankUpd b (fun k => { k with pendAt := none }) s)
  let s := forAll kept (fun ko s =>
    let was := (s.coil ko.1).oldRange.getD ko.2
    coilUpd ko.1 (fun k => { k with oldRange := if k.ctx.isSome && chFld s ko.1 1 2 != was then some was else none }) s) s
  let s := clearChannels ((bankChans b).filter (fun ch => !chEnabled s ch)) 9 2 s
  completeWait (.bank b) St.ok 0 [] (settleBank b s)

/-- A channel is in the decay that ends a phase (R211): its event has executed END, or its phase does not drive outside a chop and
its current has not gone. -/
def endDecay (s : State) (ch : Nat) (c : Ctx) : Bool :=
  c.wait == .ending || (!c.drives && (s.coil ch).flow && (match c.wait with | .chop _ _ => false | _ => true))

/-- CB_RECORDS_TAKE_EFFECT (R211): an idle bank; from 1 s after the commit a clock in which no channel is in a BOOST phase, in the
decay that ends a phase, or in a diagnostic window. -/
def recordsRow (b : Nat) (s : State) : State :=
  match (s.bank b).pendAt with
  | none => s
  | some t =>
    let idle := (bankChans b).all (fun ch => (s.coil ch).ctx.isNone)
    let quiet := (bankChans b).all (fun ch => ((s.coil ch).ctx).all (fun c => !c.inBoost && !endDecay s ch c && !c.dwin))
    if idle || (decide (t + 32768 ≤ s.rtc.up) && quiet) then bankTakesEffect b s else s

/-! ## Landing (R70, R72) -/

/-- Diagnostic codes and scribes land at step 3 of R24 (R70, R232). -/
def landCoils (s : State) : State :=
  forRange 24 (fun ch s =>
    let c := s.coil ch
    let cond : LandCond := { fault := if c.code = 0 then none else some (3 + 256 * c.code) }
    landSource (0x4000 + ch * 4 + 1) (.real (realOfNat (tenNsToAu s c.scribe))) cond
      (landSource (0x4000 + ch * 4) (.enum c.code) cond s)) s

/-! ## Command cards (R212) -/

/-- CB_SET_BANK. -/
def cardSetBank (org : Origin) (_lvl : Nat) (p : List Byte) (s : State) : State × Res :=
  let b := le p 0 1
  let x := le p 4 144
  let steal (k : Nat) : Bool :=
    let hi := fld x (128 + 256 * k + 88) 8
    let lo := fld x (128 + 256 * k + 96) 8
    (hi == 0 && lo == 0) || decide (lo < hi)
  ranged ([(decide (b ≤ 5), 0)] ++ zero p 1 3 ++ mapped bankFields 4 x ++
      (List.range 4).flatMap (fun k => mapped (chanFields k) 4 x ++ [(steal k, 20 + 32 * k + 11)])) s fun _ =>
    if !allNormal s then (s, .no St.busy 0) else journal org true [wr Kind.bank b x] [] s

/-- CB_GET_DIAG. -/
def cardGetDiag (_org : Origin) (_lvl : Nat) (p : List Byte) (s : State) : State × Res :=
  let b := le p 0 1
  ranged [(decide (b ≤ 5), 0)] s fun _ => (s, .ok (diagResp s b))

/-- CB_RUN_DIAG. -/
def cardRunDiag (_org : Origin) (_lvl : Nat) (p : List Byte) (s : State) : State × Res :=
  let b := le p 0 1
  ranged ([(decide (b ≤ 5), 0)] ++ zero p 1 3) s fun _ =>
    if !s.duty then (s, .no St.role 0)
    else if (s.bank b).latched then (s, .no St.channelLatched 0)
    else (bankUpd b (fun k => { k with diagAsk := k.diagAsk <|> some s.rtc.up }) s, .wait (.diag b))

/-- CB_CLEAR. -/
def cardCbClear (_org : Origin) (_lvl : Nat) (p : List Byte) (s : State) : State × Res :=
  let n := le p 0 1
  ranged ([(decide (n ≤ 23) || decide (0x80 ≤ n ∧ n ≤ 0x85), 0)] ++ zero p 1 3) s fun _ =>
    if !s.duty then (s, .no St.role 0)
    else if n ≤ 23 then (coilUpd n (fun k => { k with latched := (s.bank (n / 4)).latched, trips := 0 }) s, .ok [])
    else
      let b := n - 0x80
      let s := bankUpd b (fun k => { k with latched := false, hsTrips := 0, tripAt := [] }) s
      (forAll (bankChans b) (fun ch s => coilUpd ch (fun k => { k with latched := false, trips := 0 }) s) s, .ok [])

end Sys2Proof.Machine
end

