-- ==== Sys2Proof/Machine/Seq.lean ====
section
/-!
DEFINITION. The coil sequencer (09_coil_sequencer.md): the start of events (R222 to R225), the instructions (R215 to R219, R228),
the limiter (R199), bound commands and point-on-wave targets (R226, R229, R230), scribe learning (R231, R232), the check of an entry's
code (R220), and the command cards (R234).
-/

namespace Sys2Proof.Machine

open Sys2Proof

/-! ## Starting an event (R197, R223 to R225) -/

/-- The context of an event that starts (R217, R218): a pre-empting event begins with the gates its predecessor left, and with its
limiter's counts (R225). -/
def newCtx (s : State) (e : CoilEvent) (late : Bool) (pred : Option Ctx) : Ctx :=
  let base : Ctx := match pred with
    | some c =>
      { ev := e, src := c.src, decay := c.decay, ih := c.ih, il := c.il, lsw := c.lsw, noBoost := c.noBoost, spent := c.spent, pre := true
        steal := c.steal, heldOff := !c.onTime || c.stealOff, slow := c.slow, fast := c.fast, word := c.word }
    | none => { ev := e }
  { base with
    pc := entFld s e.entry 0 11, late := late, phaseAt := time10ns s, waitAt := time10ns s
    lateness := latenessNow s e, unsync := e.pow && s.mt.state != .lock }

/-- An event of a channel starts (R223 to R225): one that it pre-empts is abandoned, and the earlier ones of its queue are dropped. -/
def startEvent (ch : Nat) (e : CoilEvent) (s : State) : State :=
  let b := ch / 4
  -- an event that falls due stops a sequence, which is discarded and runs again (R203)
  let s := stopDiag b (bankUpd b (fun k => { k with queue := k.queue.erase e }) s)
  let old := (s.coil ch).ctx
  let s := match old with
    | none => s
    | some c =>
      let s := eventMiss ch s
      let s := coilDone { ((s.coil ch).ctx.getD c) with ends := 1 } s
      let s := coilUpd ch (fun k => { k with preempts := sat32 k.preempts }) s
      dropQueued b 5 (fun q => q.ch == ch && q.before e) s
  let late := e.waited || decide (1 < latenessNow s e)
  let c := newCtx s e late old
  let s := coilUpd ch (fun k => { k with
    ctx := some c, kerf := none, started := sat32 k.started, lastLate := c.lateness
    lates := if late then sat32 k.lates else k.lates }) s
  settleBank b s

/-- The event of a channel that is considered for starting: the head (R223), or beside a running event the earliest that pre-empts and
whose instant has come (R225). -/
def nextStart (s : State) (ch : Nat) : Option CoilEvent :=
  let takes := if ((s.coil ch).ctx).any (fun c => c.wait != .ending)
    then earliestEvent ((chanQueue s ch).filter (fun e => e.preempt && reached s e)) else none
  takes <|> headEvent s ch

/-- The channel itself holds an event back: an event that it does not pre-empt, an END, or the kerf (R223, R225). -/
def heldBack (s : State) (ch : Nat) (e : CoilEvent) : Bool :=
  match (s.coil ch).ctx with
  | none => kerfRuns s ch
  | some c => !e.preempt || c.wait == .ending

/-- A queued event is marked as one that has waited (R224). -/
def markWaited (e : CoilEvent) (s : State) : State :=
  bankUpd (e.ch / 4) (fun k => { k with queue := k.queue.map (fun q => if q == e then { q with waited := true } else q) }) s

/-- The worst remaining time of the obstructions of a boost, in units of 10 ns, none without limit (R197). -/
def worstOf (s : State) (ch : Nat) : Option Nat :=
  (obstructions s ch).foldl (fun m d => match m, worstRest s d.1 d.2 with
    | some x, some y => some (max x y)
    | _, _ => none) (some 0)

/-- A first phase BOOST that finds an obstruction is refused, or waits (R197). -/
def secondBoost (ch : Nat) (e : CoilEvent) (s : State) : State :=
  let fits := e.allow == 0xFFFF ||
    (match worstOf s ch with | some w => decide (latenessNow s e + w ≤ e.allow * 1000) | none => false)
  if !fits then dropQueued (ch / 4) 2 (fun q => q == e) s
  else if e.waited then s
  else markWaited e (bankUpd (ch / 4) (fun k => { k with delayed := sat32 k.delayed }) s)

/-- A boost that is admitted beside holds on the supply is a steal (R196). -/
def countSteal (ch : Nat) (s : State) : State :=
  when ((otherCtxs s ch).any (fun d => d.2.holds)) (bankUpd (ch / 4) (fun k => { k with steals := sat32 k.steals })) s

/-- A channel's next event starts, waits or is dropped, once its instant has come. -/
def startChannel (ch : Nat) (s : State) : State :=
  match nextStart s ch with
  | none => s
  | some e =>
    if !reached s e then s
    else match standingCause s ch e.entry with
    | some c => dropQueued (ch / 4) c (fun q => q == e) s
    | none =>
      let boost := firstIsBoost s (ch / 4) e.entry
      if heldBack s ch e then markWaited e s
      else if boost && !(obstructions s ch).isEmpty then secondBoost ch e s
      else startEvent ch e (when boost (countSteal ch) s)

/-- A boost phase, the first of its event, falls due on a channel. -/
def boostDue (s : State) (ch : Nat) : Bool :=
  (nextStart s ch).any (fun e => reached s e && firstIsBoost s (ch / 4) e.entry && !heldBack s ch e)

/-- COIL_EVENT_START: the event's instant has come and the kerf has passed (R198, R223); a first phase BOOST needs the bank's
admission (R196, R197), and of several that are due the lowest channel is served first. -/
def eventStartRow (ch : Nat) (s : State) : State :=
  let lower := if boostDue s ch then (bankChans (ch / 4)).filter (fun d => decide (d < ch) && boostDue s d) else []
  startChannel ch (forAll lower startChannel s)

/-! ## Instructions (R215 to R219) -/

/-- The effect of an SRC word on a context (R216): a phase begins, on the supply where its BOOST has no Q_HSB (R189). -/
def beginPhase (s : State) (b w : Nat) (c : Ctx) : Ctx :=
  let src := fld w 25 2
  { c with
    src := if src = 2 ∧ !boostFit s b then 1 else src, decay := fld w 23 2, ih := fld w 8 8, il := fld w 0 8, noBoost := false
    stealOff := false, heldOff := false, fast := false, wait := .ready, pc := c.pc + 1, phaseAt := time10ns s, word := c.pc
    peak := 0, low := none }

/-- A later BOOST phase that waits may start (R197): its obstructions have ended, or it has waited for 50 ms
(notes/assumptions/62.md). -/
def mayBoost (s : State) (ch : Nat) : Bool :=
  ((s.coil ch).ctx).any (fun c => c.wait == .boost && ((obstructions s ch).isEmpty || decide (c.waitAt + 5000000 ≤ time10ns s)))

/-- The later BOOST phases that may start do, the lowest channel first (R197). -/
def admitWaiting (b : Nat) : Nat → State → State
  | 0, s => s
  | fuel + 1, s =>
    match (bankChans b).find? (mayBoost s) with
    | none => s
    | some ch => admitWaiting b fuel (settleBank b (ctxUpd ch (fun c => beginPhase s b (microWord s c.pc) c) (countSteal ch s)))

/-- The gates of a bank after a change, and the boosts that may start now. -/
def bankStep (b : Nat) (s : State) : State := admitWaiting b 4 (settleBank b s)

/-- Later BOOST phases whose wait has come to its end with the time that passes start. -/
def boostWaits (s : State) : State := forRange 6 (fun b s => if (bankChans b).any (mayBoost s) then admitWaiting b 4 s else s) s

/-- A channel's ready context is next in its thread's round-robin order (R215). -/
def turn (s : State) (ch : Nat) : Bool :=
  let ready (k : Nat) : Bool := ((s.coil (4 * (ch / 4) + k)).ctx).any (fun c => c.wait == .ready)
  ([1, 2, 3, 4].map (fun i => ((s.bank (ch / 4)).issued + i) % 4)).find? ready == some (ch % 4)

/-- One instruction of a channel's ready context acts when it is that context's turn and the word at its program counter is the row's
operation (R215). -/
def issue (ch opc : Nat) (f : Nat → Ctx → State → State) (s : State) : State :=
  match (s.coil ch).ctx with
  | none => s
  | some c =>
    let w := microWord s c.pc
    if !turn s ch || fld w 27 5 != opc then s
    else bankStep (ch / 4) (f w c (bankUpd (ch / 4) (fun k => { k with issued := ch % 4 }) s))

/-- The context moves on by one word. -/
def next (ch : Nat) (f : Ctx → Ctx) (s : State) : State := ctxUpd ch (fun c => { f c with pc := c.pc + 1 }) s

/-- END (R198, R204, R216). -/
def csqEndRow (ch : Nat) (s : State) : State :=
  issue ch 0x00 (fun _ _ s => ctxUpd ch (fun c => { c with wait := .ending, src := 0, ends := 0 }) (closeWindow ch s)) s

/-- SRC (R216). A BOOST phase behind the first waits while another boost or an unstealable hold stands (R197). -/
def srcRow (ch : Nat) (s : State) : State :=
  issue ch 0x01 (fun w c s =>
    let b := ch / 4
    let boost := fld w 25 2 == 2 && boostFit s b
    let first := c.pc == entFld s c.ev.entry 0 11
    if boost && !first && !(obstructions s ch).isEmpty then
      ctxUpd ch (fun c => { c with wait := .boost, waitAt := time10ns s }) (bankUpd b (fun k => { k with delayed := sat32 k.delayed }) s)
    else
      ctxUpd ch (beginPhase s b w) (when (boost && !first) (countSteal ch) s)) s

/-- Q_LSn is commanded (R198): a command on during the kerf is held off and counted. -/
def commandLow (ch : Nat) (on : Bool) (s : State) : State :=
  let viol := on && kerfRuns s ch
  ctxUpd ch (fun c => { c with lsw := on && !viol })
    (when viol (coilUpd ch (fun k => { k with kerfViol := sat32 k.kerfViol })) s)

/-- LSW (R216); it resets the detector's peak (R231). -/
def lswRow (ch : Nat) (s : State) : State := issue ch 0x02 (fun w _ s => next ch Ctx.resetPeak (commandLow ch (flag w 0) s)) s

/-- DCY (R216). -/
def dcyRow (ch : Nat) (s : State) : State := issue ch 0x03 (fun w _ s => next ch (fun c => { c with decay := fld w 0 2 }) s) s

/-- WT (R216). -/
def wtRow (ch : Nat) (s : State) : State :=
  issue ch 0x04 (fun _ _ s => next ch (fun c => { c with wait := .wt, waitAt := time10ns s }) s) s

/-- WI (R216). -/
def wiRow (ch : Nat) (s : State) : State :=
  issue ch 0x05 (fun w _ s => next ch (fun c => { c with wait := .wi (flag w 26), waitAt := time10ns s }) s) s

/-- CHOP (R217): its first on-time begins, with Q_LSn on. -/
def chopRow (ch : Nat) (s : State) : State :=
  issue ch 0x06 (fun w _ s =>
    next ch (fun c => { c.resetPeak with wait := .chop true (fld w 0 26 == 0), waitAt := time10ns s }) (commandLow ch true s)) s

/-- MARK (R228). -/
def markRow (ch : Nat) (s : State) : State :=
  issue ch 0x07 (fun w _ s =>
    let s := if flag w 26 then raise 3 0x92 [ef 1 ch, ef 1 (fld w 0 8)] s else (triggerMask .mark {} (fld w 22 4) s).2
    next ch id s) s

/-- DWIN (R204, R216). -/
def dwinRow (ch : Nat) (s : State) : State :=
  issue ch 0x08 (fun w _ s =>
    if flag w 0 then next ch (fun c => { c with dwin := true, seen := false, crossed := false }) s
    else next ch id (closeWindow ch s)) s

/-- LOOP (R216): it jumps count times, and then falls through and clears the loop counter. -/
def loopRow (ch : Nat) (s : State) : State :=
  issue ch 0x09 (fun w _ s => ctxUpd ch (fun c =>
    if c.loopCnt < fld w 0 8 then { c with loopCnt := c.loopCnt + 1, pc := fld w 16 11 }
    else { c with loopCnt := 0, pc := c.pc + 1 }) s) s

/-- JMP (R216). -/
def csqJmpRow (ch : Nat) (s : State) : State := issue ch 0x0A (fun w _ s => ctxUpd ch (fun c => { c with pc := fld w 16 11 }) s) s

/-- BR (R216, R218). -/
def brRow (ch : Nat) (s : State) : State :=
  issue ch 0x0B (fun w _ s => ctxUpd ch (fun c =>
    if c.flags.testBit (fld w 0 4) != flag w 4 then { c with pc := fld w 16 11 } else { c with pc := c.pc + 1 }) s) s

/-- SCRB (R231): it arms the detector with its peak reset; disarming without a dip is a miss. -/
def scrbRow (ch : Nat) (s : State) : State :=
  issue ch 0x0C (fun w c s =>
    if flag w 0 then next ch (fun c => { c.resetPeak with armed := true, tried := true, confirmed := c.confirmed && c.armed }) s
    else next ch (fun c => { c with armed := false, confirmed := false }) (when c.armed (eventMiss ch) s)) s

/-! ## Waits, thresholds and limits -/

/-- WT_EXPIRY (R215). -/
def wtExpiryRow (ch : Nat) (s : State) : State :=
  ctxUpd ch (fun c => if c.wait = .wt then { c with wait := .ready } else c) s

/-- WI_TIMEOUT (R216). -/
def wiTimeoutRow (ch : Nat) (s : State) : State :=
  ctxUpd ch (fun c => match c.wait with | .wi _ => { c with wait := .ready, to_ := true } | _ => c) s

/-- CHOP_END: the channel is left driving (R217). -/
def chopEndRow (ch : Nat) (s : State) : State :=
  bankStep (ch / 4) (ctxUpd ch (fun c => match c.wait with | .chop _ false => { c.resetPeak with wait := .ready } | _ => c) s)

/-- The slope detector takes the shunt current in steps of RANGE (R231): the peak; from a fall by DIP_TH on the minimum; and from a
rise by DIP_TH on the minimum is confirmed. -/
def Ctx.track (th q : Nat) (c : Ctx) : Ctx :=
  if !c.armed || c.measured || c.confirmed then c
  else match c.low with
    | none => if q + th ≤ c.peak then { c with low := some q } else { c with peak := max c.peak q }
    | some l => if l + th ≤ q then { c with confirmed := true } else { c with low := some (min l q) }

/-- What a threshold's crossing does to a context (R193, R196, R217, R218): it ends a WI, turns a chop, or in a steal turns the low
side; a SLOW decay whose current has gone goes on as FAST. -/
def Ctx.cross (x : Comparator) (c : Ctx) : Ctx :=
  match x, c.wait with
  | .reachedIH, .chop true u => { c.resetPeak with wait := .chop false u }
  | .fellToIL, .chop false u => { c.resetPeak with wait := .chop true u }
  | .reachedIH, w =>
    let c := if w = .wi false then { c with wait := .ready, to_ := false } else c
    if c.steal && !c.stealOff then { c.resetPeak with stealOff := true } else c
  | .fellToIL, w =>
    let c := if w = .wi true then { c with wait := .ready, to_ := false } else c
    if c.stealOff then { c.resetPeak with stealOff := false } else c
  | .belowZero, _ => if c.slow then { c with fast := true } else c
  | _, _ => c

/-- The state of the current against I_ZERO after a report. -/
def flowAfter (x : Comparator) (was : Bool) : Bool :=
  match x with
  | .reachedIH | .aboveZero => true
  | .belowZero => false
  | _ => was

/-- COMPARATOR_CROSSING (R192, R193, R204, R217, R231): `elapsed` is the time since the diagnostic window opened, in µs. -/
def comparatorRow (ch : Nat) (x : Comparator) (elapsed : Nat) (s : State) : State :=
  match (s.coil ch).ctx with
  | none => s
  | some c =>
    let s := noteCurrent ch (coilUpd ch (fun k => { k with flow := flowAfter x k.flow }) s)
    let first := c.dwin && !c.crossed && x == .reachedIH
    let tmin := chFld s ch 112 16
    let s := when first (ctxUpd ch (fun c => { c with crossed := true })) s
    let s := if first && chDiagOn s ch && tmin != 0 && decide (elapsed < tmin) then onFinding ch 11 s else s
    bankStep (ch / 4) (ctxUpd ch (fun c => match x with | .current q => c.track (csFld s ch 40 8) q | x => c.cross x) s)

/-- PEAK_LIMIT (R219): the boost demand of the phase is withdrawn, a WI in progress ends, and TO is set. -/
def peakLimitRow (ch : Nat) (s : State) : State :=
  bankStep (ch / 4) (ctxUpd ch (fun c =>
    if c.inBoost && !c.noBoost then
      match c.wait with
      | .wi _ => { c with noBoost := true, to_ := true, wait := .ready }
      | _ => { c with noBoost := true, to_ := c.to_ || !c.spent }
    else c) s)

/-- BOOST_MAX_LIMIT (R199): the boost time of the event is spent. -/
def boostMaxRow (ch : Nat) (s : State) : State :=
  bankStep (ch / 4) (ctxUpd ch (fun c => if c.boosts then { c with spent := true } else c) s)

/-- A qualifying hold (R199): a regulated chop on the supply with IH at or below IHOLD_MAX. -/
def qualifies (s : State) (ch : Nat) (c : Ctx) : Bool :=
  c.src == 1 && c.ih != 0 && decide (c.ih ≤ chFld s ch 80 8) && (match c.wait with | .chop _ _ => true | _ => false)

/-- ON_TIME_LIMIT (R199): END stands against the limit, and with ON_MAX 0 a qualifying hold does not count. -/
def onTimeRow (ch : Nat) (s : State) : State :=
  match (s.coil ch).ctx with
  | none => s
  | some c =>
    if c.wait == .ending || (chFld s ch 48 16 == 0 && qualifies s ch c) then s
    else bankStep (ch / 4) (endFast ch 3 (onFinding ch 12 s))

/-- SLOW_DECAY_LIMIT (R193). -/
def slowDecayRow (ch : Nat) (s : State) : State :=
  bankStep (ch / 4) (ctxUpd ch (fun c => if c.slow then { c with fast := true } else c) s)

/-- RISE_TIMEOUT (R204). -/
def riseTimeoutRow (ch : Nat) (s : State) : State :=
  match (s.coil ch).ctx with
  | none => s
  | some c => if c.dwin && !c.crossed && chDiagOn s ch && chFld s ch 128 16 != 0 then onFinding ch 10 s else s

/-! ## Scribe learning (R231, R232) -/

/-- SCRIBE after an accepted measurement (R232). -/
def newScribe (old m shift : Nat) : Nat :=
  if old = 0 then m else ((old : Int) + roundDiv ((m : Int) - (old : Int)) (2 ^ shift)).toNat % 2 ^ 32

/-- The image of a channel's scribe as the journal carries it (R233). -/
def scribeImage (c : Coil) : Img := c.scribe % 2 ^ 32 + c.scrCount * 2 ^ 32 + c.misses * 2 ^ 48

/-- SCRIBE_DRIFT when SCRIBE first lies outside its limits, and again only after it has returned inside (R232). -/
def checkDrift (ch : Nat) (s : State) : State :=
  let v := (s.coil ch).scribe
  let lo := csFld s ch 96 16
  let hi := csFld s ch 112 16
  let out := v != 0 && hi != 0 && (decide (v < lo * 1000) || decide (hi * 1000 < v))
  let was := (s.coil ch).drifted
  let s := coilUpd ch (fun k => { k with drifted := out }) s
  if out && !was then raise 2 0x93 [ef 1 ch, ef 4 v, ef 2 lo, ef 2 hi] s else s

/-- DIP_CONFIRMED (R231, R232): the detector's minimum is the operate instant, m after the event's start in units of 10 ns. -/
def dipRow (ch m : Nat) (s : State) : State :=
  match (s.coil ch).ctx with
  | none => s
  | some c =>
    if !c.armed || !c.confirmed || c.measured then s
    else
      let s := ctxUpd ch (fun c => { c with measured := true, dip := true }) s
      let lo := csFld s ch 64 16 * 1000
      let hi := csFld s ch 80 16 * 1000
      if hi = 0 ∨ m < lo ∨ hi < m then scribeMiss ch s
      else
        let v := newScribe (s.coil ch).scribe m (csFld s ch 36 3)
        let s := coilUpd ch (fun k => { k with scribe := v, scrCount := sat16 k.scrCount, misses := 0, lastMeas := m }) s
        let s := markDirty 1 ch s
        checkDrift ch (submit { typ := .scribe, writes := [wr Kind.scribe ch (scribeImage (s.coil ch))] } s)

/-! ## Point-on-wave (R229, R230) -/

/-- The scribe used, in units of 10 ns, 0 for none (R229). -/
def usedScribe (s : State) (ch : Nat) : Nat :=
  if (s.coil ch).scribe ≠ 0 then (s.coil ch).scribe else csFld s ch 48 16 * 1000

/-- The instant n AU before t. -/
def MT.back (t : MT) (n : Nat) : MT :=
  let x : Int := (t.a.toNat : Int) - n
  { c := t.c + BitVec.ofInt 32 (x / 65536), a := u16 (x % 65536).toNat }

/-- The scribe used as AU at the frequency in use, rounded up. -/
def scribeAu (s : State) (ch : Nat) : Nat := (usedScribe s ch * 65536 * freqInUse s + 99999999999) / 100000000000

/-- An event aimed at a target (R229): its start is the target less the scribe, to 10 ns: a whole AU and the rest behind it. -/
def aimAt (s : State) (target : MT) (e : CoilEvent) : CoilEvent :=
  let n := scribeAu s e.ch
  { e with target := target, start := target.back n, sub := auTo10ns s n - usedScribe s e.ch }

/-- The step of ROLL in AU; 0 steps by nothing (R229). -/
def rollStep (roll : Nat) : Nat := if roll = 1 then 32768 else if roll = 2 then 65536 else 0

/-- By how many steps an event's target moves until its start lies ahead (R229). -/
def rollsAhead (s : State) (e : CoilEvent) (step : Nat) : Nat :=
  let behind := s.now.diff e.start
  if behind < 0 then 0 else (behind.toNat + step - bit (e.sub != 0)) / step

/-- A coil event with its start computed for the present instant (R229): none when there is no scribe. -/
def aimEvent (e : CoilEvent) (s : State) : Option (CoilEvent × Bool) :=
  if !e.pow then some (e, false)
  else if usedScribe s e.ch = 0 then none
  else
    let e := aimAt s e.target e
    let step := rollStep e.roll
    let n := if step = 0 || latenessNow s e ≤ 1 then 0 else rollsAhead s e step
    some (aimAt s (e.target.add (n * step)) e, decide (0 < n))

/-- The dispatch of a calendar entry of CSQ (R222, R229). -/
def dispatchCoil (e : CoilEvent) (s : State) : State :=
  match standingCause s e.ch e.entry with
  | some c => dropEvent c (latenessNow s e) e s
  | none =>
    match aimEvent e s with
    | none => dropEvent 7 0 e s
    | some (e, rolled) => queueEvent e (when rolled (coilUpd e.ch (fun k => { k with rolled := sat32 k.rolled })) s)

/-- A seam rolls a point-on-wave event whose start or target lies in the jumped interval, from the cut up to the present instant,
until its start follows (R230); ROLL 0 steps by a cycle. -/
def rollOver (cut : MT) (s : State) (e : CoilEvent) : CoilEvent :=
  let inside (t : MT) : Bool := decide (0 ≤ t.diff cut ∧ t.diff s.now < 0)
  if e.pow && (inside e.start || inside e.target) then
    let step := if e.roll = 1 then 32768 else 65536
    aimAt s (e.target.add (rollsAhead s e step * step)) e
  else e

/-- The queued events at a seam. -/
def rollAtSeam (cut : MT) (s : State) : State :=
  forRange 6 (fun b s => bankUpd b (fun k => { k with queue := k.queue.map (rollOver cut s) }) s) s

/-- A calendar entry of the jumped interval, as a seam dispatches it. -/
def CalEntry.rollOver (cut : MT) (s : State) (e : CalEntry) : CalEntry :=
  match e.job with
  | .coil ev => { e with job := .coil (Machine.rollOver cut s ev) }
  | _ => e

/-! ## Bound commands (R181, R226) -/

/-- The ACTIVE_PRI of a local commandable point is 1 or 2. -/
def urgentPoint (s : State) (pn : Nat) : Bool :=
  ptLocalCmd s pn && (let a := (s.pts.arr.get (ptArray s pn)).active; a == 1 || a == 2)

/-- The target of a bound ON command (R229): the first instant with POW_ANGLE, stepping by ROLL, whose start lies at least
256 AU ahead. -/
def boundTarget (s : State) (ch : Nat) : MT :=
  let step := if csFld s ch 32 2 = 1 then 32768 else 65536
  let need := s.now.a.toNat + 256 + scribeAu s ch
  let gap := (csFld s ch 16 16 % step + step - need % step) % step
  { c := s.now.c, a := 0 : MT }.add (need + gap)

/-- An event of a binding (R226). -/
def boundEvent (s : State) (ch entry : Nat) (preempt : Bool) (urgent : Bool) : CoilEvent :=
  { ch := ch, entry := entry, start := s.now, target := s.now, allow := entFld s entry 48 16, preempt := preempt
    roll := csFld s ch 32 2, bound := true, urgent := urgent }

/-- A coil channel takes its point's value (R226). -/
def takeCoil (ch : Nat) (s : State) : State :=
  match sinkVal s (0xB000 + ch), sinkPoint s (0xB000 + ch) with
  | .val x, some pn =>
    let on := isTrue x
    let was := (s.coil ch).taken
    let s := coilUpd ch (fun k => { k with taken := on, early := false }) s
    if on == was then s
    else if on then
      if csFld s ch 5 1 = 0 then s
      else
        let e := boundEvent s ch (csFld s ch 0 5) false (urgentPoint s pn)
        if csFld s ch 6 1 = 0 then queueEvent e s
        else if usedScribe s ch = 0 then dropEvent 7 0 { e with pow := true } s
        else queueEvent (aimAt s (boundTarget s ch) { e with pow := true }) s
    else if csFld s ch 13 1 = 1 then queueEvent (boundEvent s ch (csFld s ch 8 5) (csFld s ch 14 1 == 1) (urgentPoint s pn)) s
    else endFast ch 2 (dropQueued (ch / 4) 5 (fun e => e.ch == ch) s)
  | _, _ => coilUpd ch (fun k => { k with early := false }) s

/-- Coil channels take their points at step 1 of R24, or those that a priority-1 or -2 write changed (R181); while outputs are
disabled they take none, and the first value taken after that is taken against 0 (R226). -/
def takeCoils (early : Bool) (s : State) : State :=
  if !s.sys.outputs then s
  else forRange 24 (fun ch s => if !early || (s.coil ch).early then takeCoil ch s else s) s

/-! ## The microcode store: damage and checks (R214, R220) -/

/-- A damaged code word quarantines every entry whose range holds it: running events end with FAST decay, queued ones are
dropped with CODE_LOST (R214). -/
def damageMicro (code : Nat) (s : State) : State :=
  let hit (e : Nat) : Bool :=
    let start := entFld s e 0 11
    entFld s e 11 1 == 1 && decide (start ≤ 2 * code + 1 ∧ 2 * code < start + entFld s e 12 12)
  let bad := (List.range 32).filter hit
  let s : State := { s with cb := { s.cb with badEntry := bad.foldl (fun t e => t.set e true) s.cb.badEntry } }
  let s := forRange 6 (fun b s => dropQueued b 8 (fun e => bad.contains e.entry) s) s
  forRange 24 (fun ch s => if ((s.coil ch).ctx).any (fun c => bad.contains c.ev.entry) then endFast ch 2 s else s) s

/-- A word has a known operation and no bit set that the table does not name (R216, R220). -/
def codeWordOk (w : Nat) : Bool :=
  let src := fld w 25 2
  match fld w 27 5 with
  | 0x00 => fld w 0 27 == 0
  | 0x01 => fld w 16 7 == 0 && src != 3 && fld w 23 2 != 3 && (fld w 8 8 == 0 || decide (fld w 0 8 < fld w 8 8))
  | 0x02 => fld w 1 26 == 0
  | 0x03 => fld w 2 25 == 0 && fld w 0 2 != 3
  | 0x04 => fld w 0 26 != 0
  | 0x05 => fld w 0 8 == 0 && fld w 8 17 != 0
  | 0x06 => true
  | 0x07 => fld w 8 14 == 0 && (flag w 26 || fld w 22 4 != 0)
  | 0x08 => fld w 1 26 == 0
  | 0x09 => fld w 8 8 == 0 && fld w 0 8 != 0
  | 0x0A => fld w 0 16 == 0
  | 0x0B => fld w 5 11 == 0 && decide (fld w 0 4 ≤ 4)
  | 0x0C => fld w 1 26 == 0
  | _ => false

/-- An entry's code passes R220: START, LENGTH and POW of the record, and the words of the store. -/
def codeOk (word : Nat → Nat) (entry : Img) : Bool :=
  let start := fld entry 0 11
  let len := fld entry 12 12
  let ws := (List.range len).map (fun i => word (start + i))
  let op (i : Nat) : Nat := fld (ws.getD i 0) 27 5
  let srcs := (List.range len).filter (fun i => op i == 1)
  let phase (i : Nat) : Nat := ((srcs.filter (· ≤ i)).getLast?).getD 0
  let ph (i : Nat) : Nat := ws.getD (phase i) 0
  let targetOk (i : Nat) (t : Nat) : Bool :=
    decide (start ≤ t ∧ t < start + len) && (op (t - start) == 1 || phase (t - start) == phase i)
  op 0 == 1 && (op (len - 1) == 0 || op (len - 1) == 0x0A) && decide (srcs.length ≤ 8) && ws.all codeWordOk &&
  (List.range len).all (fun i =>
    let w := ws.getD i 0
    match op i with
    | 0x06 => fld (ph i) 0 8 != 0 && fld (ph i) 8 8 != 0
    | 0x05 => flag w 26 || fld (ph i) 8 8 != 0
    | 0x0A | 0x0B => targetOk i (fld w 16 11)
    | 0x09 =>
      let t := fld w 16 11
      targetOk i t && decide (t < start + i) && (List.range i).all (fun j => decide (start + j < t) || op j != 0x09)
    | _ => true) &&
  (!flag entry 24 || (List.range len).any (fun i => op i == 0x0C && flag (ws.getD i 0) 0))

/-- PHASES, the SRC words in an entry's range, as far as its 4 bits count them (R221; notes/assumptions/62.md). -/
def phasesOf (word : Nat → Nat) (entry : Img) : Nat :=
  min 15 ((List.range (fld entry 12 12)).filter (fun i => fld (word (fld entry 0 11 + i)) 27 5 == 1)).length

/-- An event runs or is queued in an entry (R234). -/
def entryInUse (s : State) (e : Nat) : Bool :=
  (List.range 24).any (fun ch => ((s.coil ch).ctx).any (fun c => c.ev.entry == e)) ||
  (List.range 6).any (fun b => (s.bank b).queue.any (fun q => q.entry == e))

/-! ## Command cards (R234) -/

/-- CS_LOAD. -/
def cardCsLoad (org : Origin) (_lvl : Nat) (p : List Byte) (s : State) : State × Res :=
  let a := le p 0 2
  let n := le p 2 2
  ranged ([(decide (a ≤ 2047), 0), (decide (1 ≤ n ∧ n ≤ 250 ∧ a + n ≤ 2048), 2)] ++ zero p 4 4) s fun _ =>
    let x := setFld (cfgImg s Kind.micro 0) (32 * a) (32 * n) (le p 8 (4 * n))
    let hit := (List.range 32).filter (fun e =>
      let r := cfgImg s Kind.entry e
      flag r 11 && decide (fld r 0 11 < a + n ∧ a < fld r 0 11 + fld r 12 12))
    if !hit.all (fun e => codeOk (fun i => fld x (32 * i) 32) (cfgImg s Kind.entry e)) then (s, .no St.badCode 0)
    else if hit.any (entryInUse s) then (s, .no St.codeInUse 0)
    else journal org true [wr Kind.micro 0 x] [] s

/-- A channel record names an entry as its ON or OFF entry. -/
def chanNames (x : Img) (e : Nat) : Bool := (flag x 5 && fld x 0 5 == e) || (flag x 13 && fld x 8 5 == e)

/-- CS_SET_ENTRY. A record that is not VALID has no code to check. The commit counts PHASES. -/
def cardSetEntry (org : Origin) (_lvl : Nat) (p : List Byte) (s : State) : State × Res :=
  let e := le p 0 1
  let x := cleanImg entryFields (le p 8 8)
  let valid := flag x 11
  let named := (List.range 24).any (fun ch => chanNames (cfgImg s Kind.chan ch) e)
  let fields := if valid then entryFields else entryFields.filter (fun f => f.lo != 12)
  let word (i : Nat) : Nat := fld (cfgImg s Kind.micro 0) (32 * i) 32
  ranged ([(decide (e ≤ 31), 0)] ++ zero p 1 7 ++ mapped fields 8 x ++
      [(valid || !named, 9), (decide (fld x 0 11 + fld x 12 12 ≤ 2048), 9)]) s fun _ =>
    if valid && !codeOk word x then (s, .no St.badCode 0)
    else if entryInUse s e then (s, .no St.codeInUse 0)
    else
      let n := phasesOf word x
      journal org true [wr Kind.entry e (setFld x 28 4 n)] (leBytes 1 n) s

/-- CS_SET_CHAN: without KEEP_SCRIBE the commit seeds the scribe (R233); the commit uses KEEP_SCRIBE. -/
def cardSetChan (org : Origin) (_lvl : Nat) (p : List Byte) (s : State) : State × Res :=
  let ch := le p 0 1
  let flags := le p 1 1
  let x := cleanImg csChanFields (le p 8 32)
  let on := fld x 0 5
  ranged ([(decide (ch ≤ 23), 0), (decide (flags ≤ 1), 1)] ++ zero p 2 6 ++ mapped csChanFields 8 x ++
      [(!flag x 6 || flag (cfgImg s Kind.entry on) 24, 8),
       (fld x 80 16 == 0 || decide (fld x 64 16 < fld x 80 16), 18)]) s fun _ =>
    if (flag x 5 && !flag (cfgImg s Kind.entry on) 11) || (flag x 13 && !flag (cfgImg s Kind.entry (fld x 8 5)) 11) then
      (s, .no St.entryInvalid 0)
    else if !allNormal s then (s, .no St.busy 0)
    else journalArg org true flags [wr Kind.chan ch x] [] s

/-- A channel's sequencer record takes effect, and its scribe is seeded without KEEP_SCRIBE (R233, R234); the limits may put the scribe
outside (R232). -/
def chanTakesEffect (ch : Nat) (keep : Bool) (s : State) : State :=
  let s := takeEffect Kind.chan ch s
  checkDrift ch (if keep then s
    else
      let s := coilUpd ch (fun k => { k with scribe := csFld s ch 48 16 * 1000, scrCount := 0, misses := 0 }) s
      markDirty 1 ch (submit { typ := .scribe, writes := [wr Kind.scribe ch (scribeImage (s.coil ch))] } s))

/-- CS_EVENT: it makes a calendar entry, once role negotiation has ended (R222, R229, R474). -/
def cardCsEvent (_org : Origin) (_lvl : Nat) (p : List Byte) (s : State) : State × Res :=
  let ch := le p 0 1
  let en := le p 1 1
  let fl := le p 2 1
  let roll := fl / 8 % 4
  let pow := fl.testBit 0
  let t : MT := { c := u32 (le p 4 4), a := u16 (le p 8 2) }
  ranged ([(decide (ch ≤ 23), 0), (decide (en ≤ 31), 1), (decide (fl < 32 ∧ roll ≤ 2), 2)] ++ zero p 3 1 ++
      [(!pow || entFld s en 24 1 == 1, 2), (!tooFarAhead s t, 4)]) s fun _ =>
    if !s.duty then (s, .no St.role 0)
    else if entFld s en 11 1 = 0 then (s, .no St.entryInvalid 0)
    else if (s.coil ch).latched then (s, .no St.channelLatched 0)
    else
      let e : CoilEvent := { ch := ch, entry := en, start := t, target := t, allow := le p 10 2
                             pow := pow, preempt := fl.testBit 1, report := fl.testBit 2, roll := roll }
      let e := if pow then aimAt s t e else e
      match calInsert (.mt e.start) (.coil e) s with
      | none => (s, .no St.noResource 0)
      | some (h, s) => (calSetJob h (.coil { e with handle := h }) s, .ok (leBytes 2 h))

/-- CS_STOP. -/
def cardCsStop (_org : Origin) (_lvl : Nat) (p : List Byte) (s : State) : State × Res :=
  let n := le p 0 1
  let mode := le p 1 1
  ranged ([(decide (n ≤ 23) || decide (0x80 ≤ n ∧ n ≤ 0x85), 0), (decide (mode ≤ 1), 1)] ++ zero p 2 2) s fun _ =>
    if !s.duty then (s, .no St.role 0)
    else
      let b := if n ≤ 23 then n / 4 else n - 0x80
      let chs := if n ≤ 23 then [n] else bankChans b
      let gone := ((s.bank b).queue.filter (fun e => chs.contains e.ch)).length
      let s := dropQueued b 5 (fun e => chs.contains e.ch) s
      let s := if mode = 1 then bankStep b (forAll chs (endFast · 2) s) else s
      (s, .ok (leBytes 1 gone))

/-- CS_GET_CHAN: CS_CHAN with its learned fields. -/
def cardGetChan (_org : Origin) (_lvl : Nat) (p : List Byte) (s : State) : State × Res :=
  let ch := le p 0 1
  ranged [(decide (ch ≤ 23), 0)] s fun _ =>
    let c := s.coil ch
    let x := liveImg s Kind.chan ch + scribeImage c * 2 ^ 160
    (s, .ok (leBytes 32 x ++ [c.started, c.lates, c.dropped, c.preempts, c.rolled, c.lastLate, c.lastMeas].flatMap (leBytes 4) ++
      leBytes 1 (s.bank (ch / 4)).queue.length ++ leBytes 1 ((c.ctx.map (·.ev.entry)).getD 0xFF) ++ leBytes 2 0))

end Sys2Proof.Machine
end

