-- ==== Sys2Proof/Machine/Fans.lean ====
section
/-!
DEFINITION. Fan channels, analogue outputs and GPIO (11_fans.md, 03_point_store.md R70): speed (R265), the current channel (R266),
the PI step (R267), the state machine (R268), codes (R269), the critical trip (R270), AOUT and GPIO at step 1 of R24 (R264, R71), and
the command cards (R273).
-/

namespace Sys2Proof.Machine

open Sys2Proof

def State.fan (s : State) (n : Nat) : Fan := s.out.fan.get n
def fanUpd (n : Nat) (f : Fan → Fan) (s : State) : State := { s with out := { s.out with fan := s.out.fan.upd n f } }
def fnFld (s : State) (n lo w : Nat) : Nat := liveFld s Kind.fan n lo w
def fnEnabled (s : State) (n : Nat) : Bool := fnFld s n 0 1 == 1

/-- The index of a fan, an AOUT and a GPIO among the records of class M1 (R330). -/
def m1Fan (n : Nat) : Nat := 100 + n
def m1Aout (n : Nat) : Nat := 200 + n
def m1Gpio (n : Nat) : Nat := 300 + n

/-- An AOUT that a fan channel in use owns (R263). -/
def fanOwns (x : Img) (n : Nat) : Bool := flag x 0 && flag x 1 && fld x 8 3 == n

/-! ## AOUT and GPIO (R71, R264) -/

/-- x × k rounded half away from zero, for a finite x that is at least 0. -/
def roundScaled (x : Real32) (k : Nat) : Nat :=
  match Fl.ofBits x with
  | .fin false m e =>
    if 0 ≤ e then m * k * 2 ^ e.toNat else (2 * m * k + 2 ^ (-e).toNat) / (2 * 2 ^ (-e).toNat)
  | _ => 0

/-- An AOUT takes a code; a change is mirrored in class M1. -/
def setAout (n code : Nat) (s : State) : State :=
  if s.out.aout.get n = code then s
  else markDirty 1 (m1Aout n) { s with out := { s.out with aout := s.out.aout.set n code } }

/-- A GPIO takes a level; a change is mirrored in class M1. -/
def setGpio (n : Nat) (v : Bool) (s : State) : State :=
  if s.out.gpio.get n = v then s
  else markDirty 1 (m1Gpio n) { s with out := { s.out with gpio := s.out.gpio.set n v } }

/-- The code of a voltage: round(V × 4,095 / 2.5) (R264). -/
def aoutCode (v : Real32) : Nat := roundScaled (clampReal 0 0x40200000 v) 1638

/-- AOUTs and GPIOs at step 1 of R24 (R71, R264). -/
def outputUpdate (s : State) : State :=
  if !s.sys.outputs then s
  else
    let s := forRange 8 (fun n s =>
      if (List.range 8).any (fun f => fanOwns (liveImg s Kind.fan f) n) then s
      else match sinkVal s (0x8000 + n) with
        | .unbound => setAout n 0 s
        | .hold => s
        | .val v => setAout n (aoutCode v) s) s
    forRange 16 (fun n s =>
      match sinkVal s (0x9000 + n) with
      | .val v => setGpio n (isTrue v) s
      | _ => s) s

/-! ## Speed, target and current (R265 to R267) -/

/-- TACH_EDGE: a filtered rising edge, with the interval in µs since the one before, 0 for none (R265). -/
def tachEdgeRow (n interval : Nat) (s : State) : State :=
  fanUpd n (fun f => { f with
    edges := f.edges + 1
    ivals := if interval = 0 then f.ivals else (interval :: f.ivals).take 16
    lastIval := if interval = 0 then f.lastIval else some interval }) s

/-- The intervals that the speed is computed from at an update. -/
def speedIvals (f : Fan) : List Nat := if f.ivals.isEmpty then f.lastIval.toList else f.ivals

/-- The speed of an update: rounded to rpm, and as the REAL that lands (R265). -/
def speedOf (s : State) (n : Nat) (f : Fan) : Nat × Real32 :=
  let l := speedIvals f
  let q := (fnFld s n 6 2 + 1) * l.foldl (· + ·) 0
  let p := 60000000 * l.length
  if q = 0 then (0, 0) else ((2 * p + q) / (2 * q), realOfRat false p q)

/-- The target of an update (R71, R267). -/
def targetOf (s : State) (n : Nat) (f : Fan) : Nat :=
  if !fnEnabled s n then 0
  else
    let t := match sinkVal s (0xA000 + n) with
      | .unbound => 0
      | .hold => f.target
      | .val x => fclampNat (clampReal 0 0x46EA6000 x) 30000
    if 1 ≤ t then max t (fnFld s n 32 16) else 0

/-- The current channel at an update: its CODE and whether it is in band; none where there is none (R266). -/
def currentOf (s : State) (n : Nat) : Option (Nat × Bool) :=
  if fnFld s n 4 1 = 0 then none
  else
    let r := (s.conv (fnFld s n 160 2)).reg.get (fnFld s n 163 5 + 32 * fnFld s n 162 1)
    if !r.valid then none
    else some (r.code, decide (fnFld s n 176 16 ≤ r.code ∧ r.code ≤ fnFld s n 192 16) && !r.ovr)

/-! ## The state machine (R267 to R269) -/

/-- A fan's code changes: FAN_FAULT or FAN_OK (R269). -/
def setFanCode (n code : Nat) (s : State) : State :=
  if (s.fan n).code = code then s
  else
    let s := fanUpd n (fun f => { f with code := code }) s
    let urgent := (sinkPoint s (0xA000 + n)).any (urgentPoint s)
    if code = 0 then raise 2 0xB1 [ef 1 n] s else raise (if urgent then 1 else 2) 0xB0 [ef 1 n, ef 1 code] s

/-- The PWM period of a frequency in clocks of 10 ns: the nearest whole number (R262). -/
def pwmPeriod (freq : Nat) : Nat := if freq = 0 then 0 else (200000000 + freq) / (2 * freq)

/-- A fan's duty, with the PWM it drives (R262) or the AOUT it owns, beside which the PWM stays inactive (R263); a change is mirrored in
class M1. -/
def setDuty (n d : Nat) (s : State) : State :=
  let s := if (s.fan n).duty = d then s else markDirty 1 (m1Fan n) (fanUpd n (fun f => { f with duty := d }) s)
  let t := pwmPeriod (fnFld s n 16 16)
  let s := fanUpd n (fun f => { f with period := t, onTime := if fnFld s n 1 1 = 1 then 0 else (2 * d * t + 1023) / 2046 }) s
  if fnFld s n 0 1 = 1 ∧ fnFld s n 1 1 = 1 then setAout (fnFld s n 8 3) ((2 * d * 4095 + 1023) / (2 * 1023)) s else s

/-- One PI step from the integrator i, in units of 1/65,536 duty count (R267). -/
def piStep (n : Nat) (i : Int) (s : State) : State :=
  let f := s.fan n
  let e : Int := (f.target : Int) - (f.speed : Int)
  let p : Int := (fnFld s n 96 16 : Int) * e * 16
  let lo : Int := (fnFld s n 64 10 : Int) * 65536
  let hi : Int := (fnFld s n 74 10 : Int) * 65536
  let i := max (min (i + (fnFld s n 112 16 : Int) * e) (hi - p)) (lo - p)
  let d := max (min (roundDiv (p + i) 65536) (fnFld s n 74 10)) (fnFld s n 64 10)
  setDuty n d.toNat (fanUpd n (fun f => { f with i := i }) s)

/-- INIT_DUTY as an integrator. -/
def initI (s : State) (n : Nat) : Int := (fnFld s n 84 10 : Int) * 65536

/-- The kick starts (R268). -/
def kick (n : Nat) (s : State) : State :=
  setDuty n (if fnFld s n 3 1 = 1 then 1023 else fnFld s n 84 10)
    (fanUpd n (fun f => { f with state := .kick, edges := 0, starts := sat32 f.starts }) s)

/-- The channel stalls in attempt a: drive 0 and the back-off timer (R268). -/
def stall (n code a : Nat) (s : State) : State :=
  setDuty n 0 (setFanCode n code (fanUpd n (fun f => { f with state := .backoff, attempts := a, oob := 0 }) s))

/-- OFF, with its drive 0 and code 0 (R268). -/
def fanOff (n : Nat) (s : State) : State :=
  setDuty n 0 (setFanCode n 0 (fanUpd n (fun f => { f with state := .off, attempts := 0, oob := 0, clear := false }) s))

/-- One update of the state machine, with target and speed taken (R268). A mirrored duty that a takeover drives in OFF ends with a target of 0
(R341). -/
def fanMachine (n : Nat) (s : State) : State :=
  let f := s.fan n
  if f.target = 0 then
    match f.state with
    | .off => if f.mirrored.isSome then setDuty n 0 (fanUpd n (fun f => { f with mirrored := none }) s) else s
    | .safe => s
    | _ => fanOff n s
  else match f.state with
    | .off =>
      if fnFld s n 32 16 ≤ f.speed then
        let i := match f.mirrored with | some d => (d : Int) * 65536 | none => initI s n
        piStep n i (setFanCode n 0 (fanUpd n (fun f => { f with state := .run, mirrored := none, starts := sat32 f.starts }) s))
      else kick n (fanUpd n (fun f => { f with attempts := 1, mirrored := none }) s)
    | .kick =>
      if 2 ≤ f.edges then
        piStep n (initI s n) (setFanCode n 0 (fanUpd n (fun f => { f with state := .run, attempts := 0 }) s))
      else s
    | .run => piStep n f.i s
    | .openLoop =>
      if 2 ≤ f.edges then
        piStep n ((f.duty : Int) * 65536) (setFanCode n 0 (fanUpd n (fun f => { f with state := .run, oob := 0 }) s))
      else match currentOf s n with
        | some (_, false) => if 1 ≤ f.oob then stall n 4 1 s else fanUpd n (fun f => { f with oob := 1 }) s
        | _ => fanUpd n (fun f => { f with oob := 0 }) s
    | .fault => if f.clear then fanOff n s else s
    | .backoff | .safe => s

/-- The items of a fan land (R70, R72, R265, R268). -/
def landFan (n : Nat) (s : State) : State :=
  let f := s.fan n
  let cond : LandCond := { fault := if f.code = 0 then none else some (2 + 256 * f.code) }
  landSource (0x3000 + 4 * n + 2) (.real (realOfRat false (f.duty * 100) 1023)) cond
    (landSource (0x3000 + 4 * n + 1) (.enum f.code) cond (landSource (0x3000 + 4 * n) (.real f.speedR) cond s))

/-- A new record of a fan channel takes effect at an update (R272). -/
def fanTakesEffect (n : Nat) (s : State) : State :=
  let key (s : State) : List Nat := [fnFld s n 1 1, fnFld s n 8 3, fnFld s n 6 2, fnFld s n 16 16]
  let old := key s
  let f := s.fan n
  let restarts := old != key (takeEffect Kind.fan n s) && f.state != .off && f.state != .safe
  takeEffect Kind.fan n (when restarts (fanOff n) s)

/-- The update of one channel (R25 step 3, R265 to R268); in OPEN_LOOP the last measured speed stands. -/
def fanUpdate (n : Nat) (s : State) : State :=
  let s := if s.nv.due.contains (Kind.fan, n) then
      fanTakesEffect n { s with nv := { s.nv with due := s.nv.due.filter (fun e => e != (Kind.fan, n)) } }
    else s
  let f := s.fan n
  let (v, r) := speedOf s n f
  let t := targetOf s n f
  let cur := currentOf s n
  let s := fanUpd n (fun f => { f with
    ivals := [], target := t, speed := v, speedR := r, current := (cur.map (·.1)).getD f.current }) s
  let s := when s.sys.outputs (fanMachine n) s
  landFan n (fanUpd n (fun g => { g with
    clear := false, speed := if g.state = .openLoop then f.speed else v, speedR := if g.state = .openLoop then f.speedR else r }) s)

/-- Step 3 of R25. -/
def fanBoundary (s : State) : State := forRange 8 fanUpdate s

/-- KICK_TIMEOUT: KICK_MS passed without two edges (R268). -/
def kickTimeoutRow (n : Nat) (s : State) : State :=
  let f := s.fan n
  if f.state != .kick || 2 ≤ f.edges then s
  else if f.attempts ≤ fnFld s n 216 3 then
    stall n (if f.code = 4 then 4 else 1) f.attempts s
  else setDuty n 0 (setFanCode n 2 (fanUpd n (fun f => { f with state := .fault }) s))

/-- BACKOFF_EXPIRY (R268). -/
def backoffRow (n : Nat) (s : State) : State :=
  if (s.fan n).state != .backoff then s else kick n (fanUpd n (fun f => { f with attempts := f.attempts + 1 }) s)

/-- TACH_TIMEOUT: no edge within TACH_TO (R265, R268). -/
def tachTimeoutRow (n : Nat) (s : State) : State :=
  let s := fanUpd n (fun f => { f with lastIval := none, edges := if f.state = .kick then f.edges else 0 }) s
  if (s.fan n).state != .run then s
  else match currentOf s n with
    | some (_, true) => setFanCode n 3 (fanUpd n (fun f => { f with state := .openLoop, oob := 0, edges := 0 }) s)
    | some (_, false) => stall n 4 1 s
    | none => setFanCode n 5 (fanUpd n (fun f => { f with state := .openLoop, oob := 0, edges := 0 }) s)

/-- CUR_TRIG: the fan triggers its current conversion (R247, R266). -/
def curTrigRow (n : Nat) (s : State) : State :=
  if fnEnabled s n && fnFld s n 5 1 == 1 && s.sys.outputs then (trigger .fan {} (fnFld s n 160 2) s).2 else s

/-- Outputs are disabled: every channel is OFF (R268). A channel in SAFE stays there until outputs are next enabled (R270). -/
def fansDisabled (s : State) : State :=
  forRange 8 (fun n s => if (s.fan n).state == .safe then s else fanOff n (fanUpd n (fun f => { f with i := 0, edges := 0 }) s)) s

/-- Outputs are enabled: SAFE is left through OFF (R270). -/
def fansEnabled (s : State) : State :=
  forRange 8 (fun n s => if (s.fan n).state == .safe then fanOff n s else s) { s with out := { s.out with safeHold := false } }

/-- The critical trip (R270). -/
def fanTrip (s : State) : State :=
  let hi := s.sys.straps.fansafe
  let s := forRange 8 (fun n s => setAout n 0 s) s
  let s := forRange 8 (fun n s =>
    if fnEnabled s n then
      setDuty n (if hi then 1023 else 0) (setFanCode n 6 (fanUpd n (fun f => { f with state := .safe, attempts := 0 }) s))
    else s) s
  { s with out := { s.out with safeHold := true } }

/-! ## Command cards (R273) -/

/-- A committed binding is in use (R69). -/
def cfgBindingInUse (s : State) (b : Nat) (x : Img) : Bool :=
  let pt := cfgImg s Kind.point (fld x 16 17)
  flag pt 42 && fld pt 96 4 == (if flag x 33 then 2 else 1) && fld pt 128 32 == b

/-- FN_SET_CHAN. -/
def cardSetFan (org : Origin) (_lvl : Nat) (p : List Byte) (s : State) : State × Res :=
  let n := le p 0 1
  let x := le p 4 32
  let conv := cfgImg s Kind.conv (fld x 160 2)
  let inj := flag x 162
  let e := fld x 163 5
  let len := if inj then convInjLen conv else convRegLen conv
  ranged ([(decide (n ≤ 7), 0)] ++ zero p 1 3 ++ mapped fanFields 4 x ++
      [(!flag x 5 || inj, 4), (decide (fld x 64 10 ≤ fld x 74 10), 13), ((!inj || decide (e ≤ 7)) && (!flag x 4 || decide (e < len)), 24),
       (decide (fld x 176 16 ≤ fld x 192 16), 28)]) s fun _ =>
    let a := fld x 8 3
    let other := (List.range 8).find? (fun m => m != n && fanOwns (cfgImg s Kind.fan m) a)
    let bound := (committed s Kind.binding).find? (fun b => fld b.2 0 16 == 0x8000 + a && flag b.2 33 && cfgBindingInUse s b.1 b.2)
    match flag x 0 && flag x 1, other, bound with
    | true, some m, _ => (s, conflict 0x06 m 0x06 n)
    | true, none, some b => (s, conflict 0x04 b.1 0x06 n)
    | _, _, _ => if !allNormal s then (s, .no St.busy 0) else journal org true [wr Kind.fan n x] [] s

/-- The code of a fan's state (R273). -/
def FanState.code : FanState → Nat
  | .off => 0 | .kick => 1 | .run => 2 | .openLoop => 3 | .backoff => 4 | .fault => 5 | .safe => 6

/-- FN_GET_STATUS. -/
def cardFanStatus (_org : Origin) (_lvl : Nat) (_p : List Byte) (s : State) : State × Res :=
  (s, .ok ((List.range 8).flatMap (fun n =>
      let f := s.fan n
      leBytes 1 f.state.code ++ leBytes 1 f.code ++ leBytes 2 f.duty ++ leBytes 2 (min f.speed 65535) ++ leBytes 2 f.target ++
      leBytes 2 f.current ++ leBytes 1 f.attempts ++ [0] ++ leBytes 4 f.starts) ++
    (List.range 8).flatMap (fun n => leBytes 2 (s.out.aout.get n))))

/-- FN_CLEAR: it acts at the next update (R268). -/
def cardFanClear (_org : Origin) (_lvl : Nat) (p : List Byte) (s : State) : State × Res :=
  let n := le p 0 1
  ranged ([(decide (n ≤ 7), 0)] ++ zero p 1 3) s fun _ =>
    if !s.duty then (s, .no St.role 0) else (fanUpd n (fun f => { f with clear := true }) s, .ok [])

end Sys2Proof.Machine
end

