-- ==== Sys2Proof/Machine/Panel.lean ====
section
/-!
DEFINITION. The bistable panel driver (13_panel.md): the waveform table and the bands (R293 to R296), planes, pending store and
schedules (R292, R299 to R303), the frames of half-cycle boundaries (R289, R291), tile checks (R304), interruption and recovery
(R305, R306), and the cards. Rows of the planes go to MRAM in the step that ends a region (R365; notes/assumptions/25.md).
-/

namespace Sys2Proof.Machine

open Sys2Proof

def pnUpd (f : Panel → Panel) (s : State) : State := { s with pn := f s.pn }
def regionUpd (r : Nat) (f : Region → Region) (s : State) : State := pnUpd (fun p => { p with region := p.region.upd r f }) s
def State.region (s : State) (r : Nat) : Region := s.pn.region.get r

/-- PN_CFG in force (R307). -/
def pnFld (s : State) (lo w : Nat) : Nat := liveFld s Kind.pn 0 lo w
def pnEnable (s : State) : Bool := pnFld s 0 1 == 1
def pnStates (s : State) : Nat := pnFld s 8 4 + 1
def pnW (s : State) : Nat := 32 * pnFld s 16 6
def pnH (s : State) : Nat := pnFld s 24 10
/-- Half-cycles between hold frames (R291): 0 stands for one second at the nominal frequency. -/
def pnHold (s : State) : Nat := let h := pnFld s 48 7; if h = 0 then s.nomFreq / 500 else h

/-- PNL_OWN, and with it the bus (R290). -/
def pnlOwn (s : State) : Bool := s.duty && s.sys.outputs && pnEnable s

/-! ## The waveform table (R293, R294) -/

def wave (s : State) : Img := liveImg s Kind.wave 0
def tableCommitted (s : State) : Bool := (s.nv.cfg.get (recKey Kind.wave 0)).isSome
/-- A field of band record b. -/
def bandField (x : Img) (b lo w : Nat) : Nat := fld x (8 * 65536 + 256 * b + lo) w
def bandValid (x : Img) (b : Nat) : Bool := bandField x b 135 1 == 1
def bandLo (x : Img) (b : Nat) : Int := signed 16 (bandField x b 176 16)
/-- Frames i to i + n − 1 of the entry of band b, old state o and new state t. -/
def waveFrames (x : Img) (b o t i n : Nat) : List Nat :=
  (List.range n).map (fun f => fld x (8 * (((b * 16 + o) * 16 + t) * 16) + 2 * (i + f)) 2)
/-- Byte v of gamma curve p. -/
def gammaEntry (x : Img) (p v : Nat) : Nat := fld x (8 * (65536 + 512 + 256 * p + v)) 8

/-- The DC of a list of drive codes: +V frames less −V frames (R293). -/
def dcOf (l : List Nat) : Int := l.foldl (fun a c => if c = 1 then a + 1 else if c = 2 then a - 1 else a) 0

/-- The band in force (R296). -/
def bandNow (s : State) : Nat := s.pn.band.getD (pnFld s 12 4)

/-- The accumulator with a DC added, and whether it saturates (R303). -/
def accAdd (a d : Int) : Int × Bool := (max (-128) (min 127 (a + d)), decide (a + d < -128 ∨ 127 < a + d))

/-- The prelude that pays an accumulator from a start state (R300). -/
def prelude (s : State) (b st : Nat) (a : Int) : List Nat :=
  let x := wave s
  let n := min (a.natAbs / bandField x b 160 5) (pnFld s 41 3)
  let unit := waveFrames x b st st (if 0 < a then 0 else 32) (bandField x b 152 5)
  if a = 0 then [] else (List.range n).flatMap (fun _ => unit)

/-! ## Planes and the pending store (R292, R299) -/

/-- An element's pending state is kept exactly while it is in transit and its target differs from its destination (R292). -/
def fixPend (e : Nat) (s : State) : State :=
  pnUpd (fun p => { p with pend := p.pend.set e (match p.sched.get e with
    | some c => if p.target.get e = c.dst then none else some c.dst
    | none => none) }) s

/-- Pending entries in use: groups of 8 elements with a pending state (R292). -/
def pendEntries (s : State) : Nat :=
  (s.pn.pend.foldl (fun (n : Nat × Option Nat) e =>
    if n.2 = some (e.1 / 8) then n else (n.1 + 1, some (e.1 / 8))) (0, none)).1

/-- The elements of a rectangle, in row-major order. -/
def rectElems (s : State) (x y w h : Nat) : List Nat :=
  (List.range h).flatMap (fun j => (List.range w).map (fun i => (y + j) * pnW s + x + i))

/-- The elements of a region. -/
def regElems (s : State) (r : Nat) : List Nat := let g := s.region r; rectElems s g.x g.y g.w g.h

/-- An element's target takes a state (R299). -/
def setTarget (e st : Nat) (s : State) : State :=
  fixPend e (pnUpd (fun p => { p with target := p.target.set e st }) s)

/-- A region's targets are reverted (R299): an element in transit goes back to its destination, which is its pending state where it has one
(notes/assumptions/25.md), any other to its current state. -/
def revertTargets (r : Nat) (s : State) : State :=
  forAll (regElems s r) (fun e s => setTarget e
    (match s.pn.sched.get e with | some c => c.dst | none => s.pn.current.get e) s) s

/-- Two rectangles overlap. -/
def overlaps (g : Region) (x y w h : Nat) : Bool := g.x < x + w && x < g.x + g.w && g.y < y + h && y < g.y + g.h

/-- PN_DISCARDED: a LOADING or ARMED region is given up (R298). -/
def discardRegion (cause r : Nat) (s : State) : State :=
  raise 2 0xD1 [ef 1 r, ef 1 cause] (regionUpd r (fun g => { g with state := .free }) (revertTargets r s))

/-- LOAD_MAX_EXPIRY (R298). -/
def loadMaxRow (r : Nat) (s : State) : State := if (s.region r).state == .loading then discardRegion 1 r s else s

/-! ## Schedules (R300, R301) -/

/-- One element of a region that starts: the schedule's end in frames, and whether it starts or is deferred. -/
def startElem (b r : Nat) (balance : Bool) (e : Nat) (s : State) : State × Nat × Bool × Bool :=
  let x := wave s
  let t := s.pn.target.get e
  let cur := s.pn.current.get e
  let a := s.pn.acc.get e
  let wl := bandField x b 144 7
  let put (c : Sched) (s : State) : State := fixPend e (pnUpd (fun p => { p with sched := p.sched.set e (some c) }) s)
  match s.pn.sched.get e with
  | none =>
    let codes := if t ≠ cur then prelude s b cur a ++ waveFrames x b cur t 0 wl
      else if balance && decide (bandField x b 160 5 ≤ a.natAbs) then prelude s b cur a else []
    if codes.isEmpty then (s, 0, false, false)
    else (put { region := r, dst := t, codes := codes } s, codes.length, true, false)
  | some c =>
    if t = c.dst then (put { c with next := none } s, 0, false, false)
    else
      let codes := prelude s b c.dst (accAdd a (dcOf c.codes)).1 ++ waveFrames x b c.dst t 0 wl
      (put { c with region := r, next := some (r, t, codes) } s, c.codes.length - c.pos + codes.length, false, true)

/-- The recovery schedule of an element (R301). -/
def recoverElem (b r e : Nat) (s : State) : State :=
  let x := wave s
  let t := s.pn.target.get e
  let rl := bandField x b 128 7
  let codes := (List.range rl).map (fun f => fld x (8 * 65536 + 256 * b + 2 * f) 2) ++
    waveFrames x b (bandField x b 136 4) t 0 (bandField x b 144 7)
  fixPend e (pnUpd (fun p => { p with sched := p.sched.set e (some { region := r, dst := t, codes := codes }) }) s)

/-- The frames of a recovery schedule (R301). -/
def recoverLen (s : State) (b : Nat) : Nat := bandField (wave s) b 128 7 + bandField (wave s) b 144 7

/-- The record of a region as retention, the journal and class M5 keep it (R305, R365). -/
def Region.record (g : Region) : PanelRec := { x := g.x, y := g.y, w := g.w, h := g.h, band := g.band, start := g.start }

/-- An ARMED region computes its schedules and runs (R298, R300); its PN_START completes. -/
def runRegion (r : Nat) (s : State) : State :=
  let b := bandNow s
  let bal := (s.region r).balance
  let (s, len, starts, defs) := (regElems s r).foldl (fun (a : State × Nat × Nat × Nat) e =>
    let (s, l, st, df) := startElem b r bal e a.1
    (s, max a.2.1 l, a.2.2.1 + bit st, a.2.2.2 + bit df)) (s, 0, 0, 0)
  let s := regionUpd r (fun g => { g with state := .running, band := b, frame := 0, length := len, deferred := defs, start := s.now }) s
  let s := pnUpd (fun p => { p with started := p.started.set r (some (p.region.get r).record) }) s
  completeWait (.region r) St.ok 0
    (leBytes 4 s.now.c.toNat ++ leBytes 2 s.now.a.toNat ++ leBytes 2 len ++ leBytes 4 starts ++ leBytes 4 defs) s

/-- The lowest free region. -/
def freeRegion (s : State) : Option Nat := (List.range 16).find? (fun r => (s.region r).state == .free)

/-- A recovery (1) or repair (2) region over a rectangle, running from this boundary on, for some of its elements. -/
def recoverRegion (kind r x y w h : Nat) (elems : List Nat) (s : State) : State :=
  let b := bandNow s
  let g : Region := { state := .running, kind := kind, x := x, y := y, w := w, h := h, band := b, length := recoverLen s b, start := s.now }
  let s := regionUpd r (fun _ => g) s
  let s := pnUpd (fun p => { p with started := p.started.set r (some g.record) }) s
  forAll elems (recoverElem b r) s

/-- An element lies in a rectangle. -/
def inRect (s : State) (e x y w h : Nat) : Bool :=
  let i := e % pnW s
  let j := e / pnW s
  x ≤ i && i < x + w && y ≤ j && j < y + h

/-- The accumulator of an unknown element as the records allow (R306): exact from retention or within one count from class M5,
the midpoint from the journal alone. -/
def Unknown.acc (u : Unknown) (rebuild : Nat) : Int := if rebuild = 1 then u.mid else u.exact

/-- One interrupted region is recovered (R306). -/
def recoverOne (q : PanelRec) (s : State) : State :=
  match freeRegion s with
  | none => s
  | some r =>
    let us := s.pn.unknown.filter (fun u => inRect s u.elem q.x q.y q.w q.h)
    let s := pnUpd (fun p => { p with
      unknown := p.unknown.filter (fun u => !us.contains u)
      recover_ := p.recover_.filter (fun x => x != q)
      acc := us.foldl (fun t u => t.set u.elem (u.acc p.rebuild)) p.acc }) s
    recoverRegion 1 r q.x q.y q.w q.h (us.map (·.elem)) s

/-- The recovery regions of the first boundary with outputs (R306). -/
def recoverRegions (s : State) : State :=
  if s.pn.recover_.isEmpty then s
  else
    let n := s.pn.recover_.length
    let us := s.pn.unknown
    let how := s.pn.rebuild
    let bound := us.foldl (fun m u => max m (if how = 0 then 0 else if how = 1 then u.bound else 1)) 0
    let s := forAll s.pn.recover_ recoverOne { s with sn := { s.sn with panel := [] } }
    raise 2 0xD4 [ef 1 n, ef 4 us.length, ef 1 how, ef 1 bound] s

/-! ## Tiles (R304) -/

/-- The rectangle of a tile. -/
def tileRect (s : State) (t : Nat) : Nat × Nat × Nat × Nat :=
  let w := pnW s / 4
  let h := pnH s / 4
  (t % 4 * w, t / 4 * h, w, h)

def tileElems (s : State) (t : Nat) : List Nat := let (x, y, w, h) := tileRect s t; rectElems s x y w h

/-- The CRC of a tile's planes. -/
def tileCrcOf (s : State) (t : Nat) : Nat :=
  crc32 ((tileElems s t).flatMap (fun e =>
    [u8 (s.pn.target.get e * 16 + s.pn.current.get e), BitVec.ofInt 8 (s.pn.acc.get e)]))

/-- A region other than FREE touches a tile. -/
def tileTouched (s : State) (t : Nat) : Bool :=
  let (x, y, w, h) := tileRect s t
  (List.range 16).any (fun r => let g := s.region r; g.state != .free && overlaps g x y w h)

/-- The check of one tile during a hold frame; a tile without a recorded CRC has nothing to compare. -/
def checkTile (t : Nat) (s : State) : State :=
  let els := tileElems s t
  let mem := (s.pn.badTarget ++ s.pn.badAcc ++ s.pn.badOther).any (fun e => els.contains e)
  let bad := mem || (pnFld s 2 1 == 1 && s.pn.doubt.contains t) || ((s.pn.tileCrc.get t).any (fun c => c != tileCrcOf s t))
  if tileTouched s t || s.pn.repairs.contains t || !bad then s
  else
    let s := pnUpd (fun p => { p with mismatches := sat32 p.mismatches }) s
    let cause := bit mem
    if pnFld s 2 1 = 1 then
      let lost := s.pn.badAcc.filter (fun e => els.contains e)
      let s := pnUpd (fun p => { p with
        target := (p.badTarget.filter (fun e => els.contains e)).foldl (fun m e => m.set e (p.nvTarget.get e)) p.target
        badTarget := p.badTarget.filter (fun e => !els.contains e)
        badOther := p.badOther.filter (fun e => !els.contains e)
        acc := lost.foldl (fun m e => m.set e 0) p.acc
        badAcc := p.badAcc.filter (fun e => !els.contains e)
        accReset := min (p.accReset + lost.length) 0xFFFFFFFF
        repairs := p.repairs ++ [t], doubt := p.doubt.filter (· != t) }) s
      raise 2 0xD2 [ef 1 t, ef 1 cause, ef 1 1] s
    else if s.every (s.pn.tileAt.get t) 60 then
      raise 2 0xD2 [ef 1 t, ef 1 cause, ef 1 0] (pnUpd (fun p => { p with tileAt := p.tileAt.set t (some s.rtc.up) }) s)
    else s

/-- Repair regions for the tiles that wait for one, where a region slot is free (R304). -/
def startRepairs (s : State) : State :=
  forAll s.pn.repairs (fun t s =>
    match freeRegion s with
    | none => s
    | some r =>
      let (x, y, w, h) := tileRect s t
      recoverRegion 2 r x y w h ((rectElems s x y w h).filter (fun e => (s.pn.sched.get e).isNone))
        (pnUpd (fun p => { p with repairs := p.repairs.filter (· != t) }) s)) s

/-! ## Frames and power (R289, R291, R302) -/

def regionsRunning (s : State) : Bool := (List.range 16).any (fun r => (s.region r).state == .running)

/-- The panel powers up, or stays powered (R289): a power-down that has not dropped PNL_PWR_EN is taken back. -/
def panelUp (s : State) : State :=
  pnUpd (fun p => { p with
    pwrEn := true, downAt := none, vcom := p.pwrEn && p.pwrGood, vcomAt := if p.vcom then p.vcomAt else time10ns s }) s

/-- The panel powers down (R289): PNL_VCOM_EN falls, and PNL_PWR_EN 100 µs later. -/
def panelDown (s : State) : State :=
  if s.pn.pwrEn then pnUpd (fun p => { p with vcom := false, downAt := some (p.downAt.getD (time10ns s)) }) s else s

/-- PNL_PWR_EN falls 100 µs after PNL_VCOM_EN (R289). -/
def panelTick (s : State) : State :=
  match s.pn.downAt with
  | some t => if t + 10000 ≤ time10ns s then pnUpd (fun p => { p with pwrEn := false, pwrGood := false, downAt := none }) s else s
  | none => s

/-- Power-up is complete (R289): PNL_VCOM_EN has been held for 100 µs. -/
def panelReady (s : State) : Bool := s.pn.vcom && decide (s.pn.vcomAt + 10000 ≤ time10ns s)

/-- The drive code of an element in the frame in progress (R286, R291): that of its schedule in an update frame, otherwise none. -/
def driveCode (s : State) (e : Nat) : Nat :=
  if s.pn.inFrame && s.pn.update then
    match s.pn.sched.get e with
    | some c => c.codes.getD c.pos 0
    | none => 0
  else 0

/-- PNL_D at clock m of line j (R286, R287): the codes of elements 8m to 8m + 7, two bits each, and nothing behind the line's last. -/
def pnlData (s : State) (j m : Nat) : Nat :=
  if 8 * m < pnW s then (List.range 8).foldl (fun x i => x + driveCode s (j * pnW s + 8 * m + i) * 4 ^ i) 0 else 0

/-- A frame is due at this boundary. -/
def frameDue (s : State) : Bool := regionsRunning s || decide (pnHold s ≤ s.pn.since)

/-- Step 1 of R25: regions become RUNNING, and the frame of this boundary is driven or skipped (R289, R291). While PFAIL_N is low the panel
stays powered down, and no region starts or is recovered (R305; notes/assumptions/25.md). -/
def panelBoundary (s : State) : State :=
  let s := panelTick (takeDue [Kind.pn] s)
  if !pnlOwn s then pnUpd (fun p => { p with since := 0, skips := 0, pwrEn := false, pwrGood := false, vcom := false, downAt := none }) s
  else if s.sys.pfailLow then panelDown (pnUpd (fun p => { p with since := p.since + 1 }) s)
  else
    let s := startRepairs (recoverRegions s)
    let s := forRange 16 (fun r s => if (s.region r).state == .armed then runRegion r s else s) s
    let s := pnUpd (fun p => { p with since := p.since + 1 }) s
    if frameDue s then
      if panelReady s then
        let upd := regionsRunning s
        let s := pnUpd (fun p => { p with inFrame := true, update := upd, since := 0, skips := 0 }) s
        if upd then s else forRange 16 checkTile s
      else
        let s := pnUpd (fun p => { p with skips := p.skips + 1, skipped := sat32 p.skipped }) (panelUp s)
        if s.pn.skips = 3 then raise 2 0xD5 [ef 1 (pnFld s 56 6), ef 4 s.pn.skipped] s else s
    else
      -- power comes up at the boundary before a hold frame, or stays up (R289)
      when (pnFld s 3 1 == 1 || decide (pnHold s ≤ s.pn.since + 1)) panelUp s

/-- PNL_PWR_GOOD_RISE (R289). -/
def pwrGoodRow (s : State) : State :=
  if s.pn.pwrEn && !s.pn.pwrGood then
    pnUpd (fun p => { p with pwrGood := true, vcom := p.downAt.isNone, vcomAt := time10ns s }) s
  else s

/-- PWR_TO_EXPIRY (R289). -/
def pwrToRow (s : State) : State :=
  if s.pn.pwrEn && !s.pn.pwrGood then pnUpd (fun p => { p with pwrEn := false, downAt := none }) s else s

/-- The end of a frame for one element in transit (R292): whether its accumulator saturated. -/
def frameElem (e : Nat) (s : State) : State × Bool :=
  match s.pn.sched.get e with
  | none => (s, false)
  | some c =>
    if c.pos + 1 < c.codes.length then
      (pnUpd (fun p => { p with sched := p.sched.set e (some { c with pos := c.pos + 1 }) }) s, false)
    else
      let (a, sat) := accAdd (s.pn.acc.get e) (dcOf c.codes)
      let next : Option Sched := c.next.map (fun n => { region := n.1, dst := n.2.1, codes := n.2.2 })
      (fixPend e (pnUpd (fun p => { p with
        current := p.current.set e c.dst, acc := p.acc.set e a, sched := p.sched.set e next }) s), sat)

/-- Bytes of the panel planes are written (R373): 4 bits of an element in the target and the current plane, 8 in the accumulators. -/
def mramBytes (n : Nat) (s : State) : State := { s with nv := { s.nv with bytesWritten := s.nv.bytesWritten + n } }

/-- A region completes (R302, R365). -/
def completeRegion (r : Nat) (s : State) : State :=
  let g := s.region r
  let els := regElems s r
  let s := regionUpd r (fun g => { g with state := .free }) s
  let s := pnUpd (fun p => { p with
    nvCurrent := els.foldl (fun m e => m.set e (p.current.get e)) p.nvCurrent
    nvAcc := els.foldl (fun m e => m.set e (p.acc.get e)) p.nvAcc
    completing := p.completing.filter (· != r) ++ [r] }) (mramBytes (3 * els.length / 2) s)
  let s : State := { s with sn := { s.sn with panelDone := s.sn.panelDone.filter (fun x => x.1 != r) ++ [(r, g.y + g.h - 1)] } }
  let s := markDirty 5 (16 + r) (submit { typ := .panelDone, arg := r } s)
  let s := forRange 16 (fun t s =>
    let (x, y, w, h) := tileRect s t
    if overlaps g x y w h && !tileTouched s t then
      pnUpd (fun p => { p with tileCrc := p.tileCrc.set t (some (tileCrcOf s t)) }) s
    else s) s
  raise 3 0xD0 [ef 1 r, ef 1 g.kind, ef 2 g.length, ef 4 g.deferred, efMT s.now] s

/-- The frame of an update ends: its elements, their saturations, and the regions' frames (R292, R302). -/
def frameUpdate (s : State) : State :=
  let (s, n) := (List.map (·.1) s.pn.sched).foldl (fun (a : State × Nat) e =>
    let (s, sat) := frameElem e a.1
    (s, a.2 + bit sat)) (s, 0)
  let s := pnUpd (fun p => { p with saturations := min (p.saturations + n) 0xFFFFFFFF }) s
  let s := if 0 < n && s.every s.pn.balanceAt 60 then
      raise 2 0xD7 [ef 4 n] (pnUpd (fun p => { p with balanceAt := some s.rtc.up }) s)
    else s
  forRange 16 (fun r s =>
    if (s.region r).state == .running then
      let s := regionUpd r (fun g => { g with frame := g.frame + 1 }) s
      if (s.region r).length ≤ (s.region r).frame then completeRegion r s else s
    else s) s

/-- The panel stays powered: a region runs or waits, or the hold has not passed (R290). -/
def panelNeeded (s : State) : Bool :=
  (List.range 16).any (fun r => (s.region r).state == .running || (s.region r).state == .armed) || decide (pnHold s ≤ s.pn.since + 1)

/-- PANEL_FRAME_END (R289, R302, R303). -/
def frameEndRow (s : State) : State :=
  if !s.pn.inFrame then s
  else
    let upd := s.pn.update
    let s := pnUpd (fun p => { p with inFrame := false, update := false }) s
    let s := if upd then frameUpdate s else s
    when (pnFld s 3 1 == 0 && !panelNeeded s) panelDown s

/-! ## Interruption (R305) -/

/-- The frame time of one line in units of 10 ns (R287). -/
def lineTime (s : State) : Nat := (pnW s / 8 + 40) * pnFld s 36 5 / 2

/-- The line in progress: the time since the frame's boundary, over a line's time. -/
def lineNow (s : State) : Nat :=
  let au := s.now.a.toNat % 32768
  min (au * 100000000000 / (65536 * max 1 s.mt.freq) / max 1 (lineTime s)) (pnH s - 1)

/-- The lowest and the highest partial sum of a list of drive codes over 0 to all of its frames. -/
def partialSums (l : List Nat) : Int × Int :=
  let r := l.foldl (fun (a : Int × Int × Int) c =>
    let x := a.1 + dcOf [c]
    (x, min a.2.1 x, max a.2.2 x)) (0, 0, 0)
  (r.2.1, r.2.2)

/-- What becomes of an element in transit: unknown, with its accumulator as each record gives it (R306). -/
def unknownOf (s : State) (line e : Nat) (c : Sched) : Unknown :=
  let driven := c.pos + bit (s.pn.inFrame && s.pn.update && decide (e / pnW s ≤ line))
  let a := s.pn.acc.get e
  let (lo, hi) := partialSums (c.codes ++ ((c.next.map (fun n => n.2.2)).getD []))
  { elem := e, exact := (accAdd a (dcOf (c.codes.take driven))).1, mid := (accAdd a (Int.tdiv (lo + hi) 2)).1
    bound := ((hi - lo + 1) / 2).toNat }

/-- The running regions are interrupted (R305): cause 0 PFAIL_N, 1 outputs or role, 2 trip. -/
def interruptPanel (cause : Nat) (s : State) : State :=
  let rs := (List.range 16).filter (fun r => (s.region r).state == .running)
  let off (s : State) : State := panelDown (pnUpd (fun p => { p with inFrame := false, update := false }) s)
  match rs with
  | [] => off s
  | r0 :: _ =>
    let driving := s.pn.inFrame && s.pn.update
    -- between two frames the last line of the frame before is the last one driven
    let line := if driving then lineNow s else if (s.region r0).frame = 0 then 0 else pnH s - 1
    let frameOf (g : Region) : Nat := if driving then g.frame else g.frame - 1
    let recs := rs.map (fun r => { (s.region r).record with frame := frameOf (s.region r), line := line })
    let us := s.pn.sched.filterMap (fun e => e.2.map (unknownOf s line e.1))
    let f0 := frameOf (s.region r0)
    let s : State := { s with sn := { s.sn with panel := s.sn.panel ++ recs } }
    let s := pnUpd (fun p => { p with
      recover_ := p.recover_ ++ recs, rebuild := 0, unknown := p.unknown ++ us
      sched := [], pend := [] }) s
    let s := forAll rs (fun r s => regionUpd r (fun g => { g with state := .free }) s) s
    off (raise 2 0xD3 [ef 1 cause, efMask rs, ef 2 f0, ef 2 line] s)

/-- The device leaves ACTIVE or its outputs are disabled (R298, R305). A PN_START that waits ends with REGION_STATE where it has not ended
with ROLE (notes/assumptions/25.md). -/
def panelDisabled (cause : Nat) (s : State) : State :=
  let s := interruptPanel cause s
  forRange 16 (fun r s =>
    match (s.region r).state with
    | .loading => discardRegion 2 r s
    | .armed => completeWait (.region r) St.regionState 0 [] (discardRegion 2 r s)
    | _ => s) s

/-! ## Band selection (R296) -/

/-- A REAL in °C in units of 0.5 °C, rounded, and its comparison with a limit in those units. -/
def halfDegrees (x : Real32) : Int :=
  let n := (min (roundScaled (fabs x) 2) 32767 : Nat)
  if x.toNat ≥ 2 ^ 31 then -(n : Int) else n
def atLeast (x : Real32) (lim : Int) : Bool := fle (fmul (realOfInt lim) 0x3F000000) x
def atMost (x : Real32) (lim : Int) : Bool := fle x (fmul (realOfInt lim) 0x3F000000)

/-- PN_TEMP, once an episode (R296, R309). -/
def pnTemp (what : EvF) (s : State) : State :=
  if s.pn.tempBad then s
  else raise 2 0xD6 [what, ef 1 (bandNow s)] (pnUpd (fun p => { p with tempBad := true }) s)

/-- The band is selected from TEMP_PN after step 3 of R24 (R296). -/
def bandBoundary (s : State) : State :=
  if !pnEnable s || !tableCommitted s then s
  else
    let p := s.ptView (pnFld s 64 17)
    if p.stale || p.fault || p.oos then pnTemp (ef 2 p.flagBits) s
    else
      let x := wave s
      let t := p.value
      let bands := (List.range 16).filter (bandValid x)
      let fit := (bands.filter (fun b => atLeast t (bandLo x b))).getLast?
      let low := bands.head?.getD 0
      let want := fit.getD low
      let s := pnUpd (fun q => { q with temp := halfDegrees t }) s
      let sel := match s.pn.band with
        | none => want
        | some b =>
          if b < want || fit.isNone || !bandValid x b then want
          else if want < b && atMost t (bandLo x b - 2) then want else b
      let s := pnUpd (fun q => { q with band := some sel }) s
      if fit.isNone then pnTemp (efInt 2 s.pn.temp) s else pnUpd (fun q => { q with tempBad := false }) s

/-! ## Cards (R308) -/

/-- PN_SET_CFG. -/
def cardPnSetCfg (org : Origin) (_lvl : Nat) (p : List Byte) (s : State) : State × Res :=
  let x := le p 0 16
  let w := 32 * fld x 16 6
  let fits := decide (fld x 24 10 * (w / 8 + 40) * fld x 36 5 ≤ 1300000)
  let pt := cfgImg s Kind.point (fld x 64 17)
  let defOk := !tableCommitted s || bandValid (cfgImg s Kind.wave 0) (fld x 12 4)
  ranged (mapped pnFields 0 x ++ [(defOk, 1), (fits, 2), (flag pt 42 && fld pt 40 2 == 0, 8)]) s fun _ =>
    if (List.range 16).any (fun r => (s.region r).state != .free) then (s, .no St.busy 0)
    else journal org true [wr Kind.pn 0 x] [] s

/-- The first entry, as band × 256 + old state × 16 + new state, that a table's COMMIT refuses (R13, R294, R295, R297;
notes/assumptions/25.md). -/
def tableFault (n primaries : Nat) (x : Img) : Option Nat :=
  let bands := (List.range 16).filter (bandValid x)
  let entryBad (b o t : Nat) : Bool :=
    let fr := waveFrames x b o t 0 64
    let ul := bandField x b 152 5
    let q : Int := bandField x b 160 5
    fr.any (· == 3) ||
    (if o ≠ t then (fr.drop (bandField x b 144 7)).any (· != 0)
     else dcOf (fr.take ul) != -q || dcOf ((fr.drop 32).take ul) != q || ((fr.take 32).drop ul).any (· != 0)
       || (fr.drop (32 + ul)).any (· != 0))
  let bandBad (b : Nat) : Bool :=
    let rec_ := (List.range 64).map (fun f => fld x (8 * 65536 + 256 * b + 2 * f) 2)
    let rl := bandField x b 128 7
    let ul := bandField x b 152 5
    rec_.any (· == 3) || (rec_.drop rl).any (· != 0) || rl == 0 || decide (64 < rl)
      || bandField x b 144 7 == 0 || decide (64 < bandField x b 144 7)
      || ul == 0 || bandField x b 160 5 == 0 || decide (ul < bandField x b 160 5)
  let reserved (b : Nat) : Bool :=
    bandField x b 140 4 != 0 || bandField x b 151 1 != 0 || bandField x b 157 3 != 0 || bandField x b 165 11 != 0
      || bandField x b 192 64 != 0
  let states := List.range n
  match (List.range 16).find? reserved with
  | some b => some (b * 256)
  | none =>
  if bands.isEmpty then some 0
  else
    match bands.findSome? (fun b =>
        if bandBad b then some (b * 256)
        else states.findSome? (fun o => (states.find? (fun t => entryBad b o t)).map (fun t => b * 256 + o * 16 + t))) with
    | some d => some d
    | none =>
      match (bands.zip (bands.drop 1)).find? (fun c => decide (bandLo x c.2 ≤ bandLo x c.1)) with
      | some c => some (c.2 * 256)
      | none => (List.range primaries).findSome? (fun p =>
          ((List.range 256).find? (fun v => decide (n ≤ gammaEntry x p v / 16))).map (fun v => p * 256 + v))

/-- One part of a table is staged from the bulk window: the waveform table, the band table, or the gamma table (R308). -/
def stagePart (part : Nat) (s : State) (q : Panel) : Panel :=
  let window (n : Nat) : Img := leNat (s.port.bulk.getMany 0 n)
  if part = 0 then { q with stBody := some (window 65536) }
  else if part = 1 then { q with stBand := some (window 512) }
  else { q with stGamma := some (window 1024) }

/-- The table as it would be committed: the staged parts, and the committed table where none is staged (R308). -/
def stagedTable (s : State) : Img :=
  let old := cfgImg s Kind.wave 0
  s.pn.stBody.getD (fld old 0 524288) + s.pn.stBand.getD (fld old 524288 4096) * 2 ^ 524288
    + s.pn.stGamma.getD (fld old 528384 8192) * 2 ^ 528384

/-- A table is checked and submitted (R295, R308). -/
def commitTable (org : Origin) (x : Img) (s : State) : State × Res :=
  match tableFault (fld (cfgImg s Kind.pn 0) 8 4 + 1) 4 x with
  | some d => (s, .no St.range d)
  | none =>
    if (List.range 16).any (fun r => (s.region r).state != .free) then (s, .no St.busy 0)
    else journal org true [wr Kind.wave 0 x] [] s

/-- PN_LOAD_TABLE: parts are staged; COMMIT checks and journals the table (R295). A part that has not been staged stays as it is
committed (notes/assumptions/25.md). -/
def cardPnTable (org : Origin) (_lvl : Nat) (p : List Byte) (s : State) : State × Res :=
  let part := le p 0 1
  ranged ([(decide (part ≤ 3), 0)] ++ zero p 1 3) s fun _ =>
    if part = 3 then commitTable org (stagedTable s) s
    else (pnUpd (stagePart part s) s, .ok [])

/-- PN_OPEN. -/
def cardPnOpen (_org : Origin) (_lvl : Nat) (p : List Byte) (s : State) : State × Res :=
  let x := le p 0 2
  let y := le p 2 2
  let w := le p 4 2
  let h := le p 6 2
  ranged ([(x % 8 == 0 && decide (x < pnW s), 0), (decide (y < pnH s), 2), (w % 8 == 0 && decide (0 < w ∧ x + w ≤ pnW s), 4),
      (decide (0 < h ∧ y + h ≤ pnH s), 6), (decide (le p 8 1 ≤ 1), 8), (decide (le p 9 1 ≤ 1), 9)] ++ zero p 10 2) s fun _ =>
    if !s.duty then (s, .no St.role 0)
    else if !tableCommitted s then (s, .no St.noTable 0)
    else if (List.range 16).any (fun r => let g := s.region r; (g.state == .loading || g.state == .armed) && overlaps g x y w h) then
      (s, .no St.regionState 0)
    else match freeRegion s with
      | none => (s, .no St.busy 0)
      | some r =>
        (regionUpd r (fun _ => { state := .loading, x := x, y := y, w := w, h := h, state4 := le p 8 1 == 1
                                 balance := le p 9 1 == 1 }) s, .ok (leBytes 1 r))

/-- The thresholds M of ordered dither (R297). -/
def ditherM : List Nat := [0, 8, 2, 10, 12, 4, 14, 6, 3, 11, 1, 9, 15, 7, 13, 5]

/-- The state of an element from its byte of a GRAY8 image (R297). -/
def grayState (s : State) (x y v : Nat) : Nat :=
  let c := gammaEntry (wave s) (x % (pnFld s 4 2 + 1)) v
  let st := c / 16
  if pnFld s 1 1 = 1 ∧ ditherM.getD (4 * (y % 4) + x % 4) 0 < c % 16 then min (st + 1) (pnStates s - 1) else st

/-- The states that a PN_LINES gives a region's elements: element and state. -/
def lineStates (s : State) (g : Region) (first count off : Nat) : List (Nat × Nat) :=
  let bytes := if g.state4 then g.w / 2 else g.w
  (List.range count).flatMap (fun j =>
    let y := g.y + first + j
    (List.range g.w).map (fun i =>
      let e := y * pnW s + g.x + i
      let a := off + j * bytes + (if g.state4 then i / 2 else i)
      let v := (s.port.bulk.get a).toNat
      (e, if g.state4 then (if i % 2 = 0 then v % 16 else v / 16) else grayState s (g.x + i) y v)))

/-- PN_LINES. -/
def cardPnLines (_org : Origin) (_lvl : Nat) (p : List Byte) (s : State) : State × Res :=
  let r := le p 0 1
  let first := le p 2 2
  let count := le p 4 2
  let off := le p 8 4
  let g := s.region r
  let bytes := if g.state4 then g.w / 2 else g.w
  ranged ([(decide (r ≤ 15), 0)] ++ zero p 1 1 ++ zero p 6 2) s fun _ =>
    if !s.duty then (s, .no St.role 0)
    else if g.state != .loading then (s, .no St.regionState 0)
    else ranged [(decide (first < g.h ∨ first + count ≤ g.h), 2), (decide (first + count ≤ g.h), 4),
        (decide (off + count * bytes ≤ 65536), 8)] s fun _ =>
      let l := lineStates s g first count off
      if l.any (fun c => decide (pnStates s ≤ c.2)) then (s, .no St.range 8)
      else
        let t := forAll l (fun c s => setTarget c.1 c.2 s) s
        if 20480 < pendEntries t then (s, .no St.noResource 0) else (t, .ok (leBytes 4 (pendEntries t)))

/-- The next half-cycle boundary. -/
def nextHalf (s : State) : MT :=
  if s.now.a.toNat < 32768 then { c := s.now.c, a := 32768 } else { c := s.now.c + 1, a := 0 }

/-- PN_START: the target rectangle goes to MRAM, the start to the journal and to class M5 (R298, R365). -/
def cardPnStart (_org : Origin) (_lvl : Nat) (p : List Byte) (s : State) : State × Res :=
  let r := le p 0 1
  ranged ([(decide (r ≤ 15), 0)] ++ zero p 1 3) s fun _ =>
    if !s.duty then (s, .no St.role 0)
    else if (s.region r).state != .loading then (s, .no St.regionState 0)
    else if s.fenced then (s, .no St.fenced 0)
    else
      let els := regElems s r
      let s := regionUpd r (fun g => { g with state := .armed, band := bandNow s, start := nextHalf s }) s
      let s := pnUpd (fun q => { q with
        nvTarget := els.foldl (fun m e => m.set e (q.target.get e)) q.nvTarget
        started := q.started.set r (some (q.region.get r).record) }) (mramBytes (els.length / 2) s)
      (markDirty 5 r (submit { typ := .panelStart, arg := r } s), .wait (.region r))

/-- PN_DISCARD. -/
def cardPnDiscard (_org : Origin) (_lvl : Nat) (p : List Byte) (s : State) : State × Res :=
  let r := le p 0 1
  ranged ([(decide (r ≤ 15), 0)] ++ zero p 1 3) s fun _ =>
    if !s.duty then (s, .no St.role 0)
    else if (s.region r).state != .loading then (s, .no St.regionState 0)
    else (discardRegion 0 r s, .ok [])

def RegState.code : RegState → Nat
  | .free => 0 | .loading => 1 | .armed => 2 | .running => 3

/-- PN_GET_STATUS. -/
def cardPnStatus (_org : Origin) (_lvl : Nat) (_p : List Byte) (s : State) : State × Res :=
  let n := s.pn
  (s, .ok (leBytes 1 (bandNow s) ++ leBytes 1 (bit n.vcom + 2 * bit (pnlOwn s) + 4 * bit (tableCommitted s)) ++
    leBytes 2 (n.temp % 65536).toNat ++ leBytes 12 0 ++
    (List.range 16).flatMap (fun r =>
      let g := s.region r
      leBytes 1 g.state.code ++ leBytes 1 g.kind ++ leBytes 2 g.x ++ leBytes 2 g.y ++ leBytes 2 g.w ++ leBytes 2 g.h ++
        leBytes 2 g.frame ++ leBytes 2 g.length ++ leBytes 2 0) ++
    leBytes 4 (pendEntries s) ++ leBytes 4 n.skipped ++ leBytes 4 n.mismatches ++ leBytes 4 n.accReset ++ leBytes 4 n.saturations))

end Sys2Proof.Machine
end

