-- ==== Sys2Proof/Machine/Points.lean ====
section
/-!
DEFINITION. The cards of the point store (03_point_store.md R87): reads of points, arrays and shadows, and the host's writes.
-/

namespace Sys2Proof.Machine

open Sys2Proof

/-- The 16 bytes of a point in PT_READ. -/
def ptReadBytes (s : State) (pn : Nat) : List Byte :=
  let p := s.ptView pn
  leBytes 4 pn ++ leBytes 4 p.value.toNat ++ leBytes 2 (ptWord s pn p) ++ leBytes 4 p.updC.toNat ++ leBytes 2 p.updA.toNat

/-- PT_READ. -/
def cardPtRead (_org : Origin) (_lvl : Nat) (p : List Byte) (s : State) : State × Res :=
  let first := le p 0 4
  let count := le p 4 2
  ranged ([(decide (first ≤ 131071), 0), (decide (1 ≤ count ∧ count ≤ 62), 4), (decide (first + count ≤ 131072), 4)] ++ zero p 6 2) s
    fun _ => (s, .ok (leBytes 2 count ++ (List.range count).flatMap (fun i => ptReadBytes s (first + i))))

/-- OUT_OF_SERVICE is set or cleared (R66, R71): when it clears, a local commandable point is resolved at once. -/
def setOos (pn : Nat) (on : Bool) (s : State) : State :=
  let s := markDirty 6 (2 ^ 24 + pn) (updatePoint pn false {} (fun p => { p with oos := on }) s)
  if !on && ptLocalCmd s pn then resolve pn s else s

/-- PT_WRITE. -/
def cardPtWrite (_org : Origin) (_lvl : Nat) (p : List Byte) (s : State) : State × Res :=
  let pn := le p 0 4
  let v := u32 (le p 4 4)
  let act := le p 8 1
  ranged ([(decide (pn ≤ 131071), 0), (decide (act ≤ 3), 8)] ++ zero p 9 3) s fun _ =>
    let q := s.point pn
    if !s.duty then (s, .no St.role 0)
    else if !ptConfigured s pn || (act == 0 && !(ptKind s pn == 0 && !ptCommandable s pn)) || (act == 3 && !q.oos) then
      (s, .no St.notWritable 0)
    else if q.quarantined then (s, .no St.quarantined 0)
    else if (act == 0 || act == 3) && !fitsFormat (ptFormat s pn) v then (s, .no St.format 0)
    else match act with
      | 0 => (updatePoint pn false {} (fun p => { p with value := v, fault := false, stale := false }) s, .ok [])
      | 1 => (setOos pn true s, .ok [])
      | 2 => (setOos pn false s, .ok [])
      | _ => (markDirty 6 (2 ^ 24 + pn) (updatePoint pn false {} (fun p => { p with value := v }) s), .ok [])

/-- PA_WRITE. -/
def cardPaWrite (_org : Origin) (_lvl : Nat) (p : List Byte) (s : State) : State × Res :=
  let pn := le p 0 4
  let v := u32 (le p 4 4)
  let pri := le p 8 1
  let flags := le p 9 1
  let null := flags % 2 == 1
  let cls : WClass := if flags / 2 % 2 = 1 then .network else .host
  ranged ([(decide (pn ≤ 131071), 0), (decide (1 ≤ pri ∧ pri ≤ 16), 8), (decide (flags ≤ 3), 9)] ++ zero p 10 2) s fun _ =>
    if !s.duty then (s, .no St.role 0)
    else if !(ptConfigured s pn && ptCommandable s pn) then (s, .no St.notCommandable 0)
    else if !ptRemote s pn && (s.pts.arr.get (ptArray s pn)).quarantined then (s, .no St.quarantined 0)
    else if !mayWrite cls false pri then (s, .no St.priorityReserved 0)
    else if !null && !fitsFormat (ptFormat s pn) v then (s, .no St.format 0)
    else
      let t := arbApply pn pri cls 0 null v s
      (t, .done (if ptRemote s pn then St.accepted else St.ok) 0 [])

/-- PA_READ. -/
def cardPaRead (_org : Origin) (_lvl : Nat) (p : List Byte) (s : State) : State × Res :=
  let pn := le p 0 4
  ranged [(decide (pn ≤ 131071), 0)] s fun _ =>
    if !ptLocalCmd s pn then (s, .no St.notCommandable 0)
    else
      let pa := ptArray s pn
      if (s.pts.arr.get pa).quarantined then (s, .no St.quarantined 0)
      else (s, .ok (leBytes 128 (arrayImage s pa) ++ leBytes 4 (s.ptView pn).value.toNat))

/-- PA_SHADOWS. -/
def cardPaShadows (_org : Origin) (_lvl : Nat) (p : List Byte) (s : State) : State × Res :=
  let first := le p 0 2
  let count := le p 2 2
  ranged [(decide (first ≤ 8191), 0), (decide (1 ≤ count ∧ count ≤ 62), 2), (decide (first + count ≤ 8192), 2)] s fun _ =>
    (s, .ok (leBytes 2 count ++ leBytes 2 (s.pts.shadow.filter (fun e => e.2.valid)).length ++
      (List.range count).flatMap (fun i => leBytes 16 (shadowImage (s.pts.shadow.get (first + i))))))

end Sys2Proof.Machine
end

