-- ==== Sys2Proof/Machine/Role.lean ====
section
/-!
DEFINITION. Duty, the enabling of outputs and the roles (14_pair.md R324 to R329, 15_takeover.md R338 to R351): the frames that
the device sends on the pair link (R315, R316), the gain and loss of duty, and the steps of the dovetail.
-/

namespace Sys2Proof.Machine

open Sys2Proof

def prUpd (f : Pair → Pair) (s : State) : State := { s with pr := f s.pr }

/-- PAIR_EN as sampled (R311). -/
def pairEn (s : State) : Bool := s.sys.straps.pairEn
/-- A role with duty (R327). -/
def roleDuty (r : Role) : Bool := r == .active || r == .simplex
def pairId (s : State) : Bool := s.sys.straps.pairId

/-! ## Frames sent (R315, R316) -/

/-- A frame takes the next SEQ. At 0x8000_0000 its sender starts a new HELLO exchange, with a fresh nonce (R317). -/
def seqSend (f : PFrame) (s : State) : State :=
  prUpd (fun p => { p with
    window := p.window ++ [f], txSeq := p.txSeq + 1
    nonce := if p.txSeq + 1 = 0x80000000 then p.nonce + 1 else p.nonce }) s

/-- A frame is sent on an UP link: into the window of 64, or behind it. The trip logic holds the transmitter idle (R339). -/
def pairSend (f : PFrame) (s : State) : State :=
  if s.pr.link != .up || s.pr.txIdle then s
  else if s.pr.window.length < 64 then seqSend f s
  else prUpd (fun p => { p with sendQ := p.sendQ ++ [f] }) s

/-- Frames that waited enter the window. -/
def refillWindow : Nat → State → State
  | 0, s => s
  | n + 1, s =>
    match s.pr.sendQ with
    | f :: r => if s.pr.window.length < 64 then
        refillWindow n (seqSend f (prUpd (fun p => { p with sendQ := r }) s)) else s
    | [] => s

/-- An ACK: the frames below it leave the window (R316). -/
def pairAck (ack : Nat) (s : State) : State :=
  let base := s.pr.txSeq - s.pr.window.length
  if ack ≤ base then s
  else refillWindow 64 (prUpd (fun p => { p with window := p.window.drop (ack - base) }) s)

/-- RELINQUISH stands unacknowledged. -/
def relinquishOut (s : State) : Bool := (s.pr.window ++ s.pr.sendQ).any (fun f => match f with | .relinquish .. => true | _ => false)

/-- The BEAT of this moment: role, eligibility, generation and MT angle (R315). -/
def beatFrame (s : State) : PFrame := .beat s.pr.role s.pr.eligible s.nv.gen s.now.a

/-- Every configured area with its bytes, as a RELINQUISH carries them (R351). -/
def areaBytes (s : State) : List (Nat × Img) :=
  ((List.range 64).filter (areaConfigured s)).map (fun an => (an, areaImage (s.area an)))

/-- RELINQUISH carries the cycle and the area bytes (R349, R351). -/
def sendRelinquish (swap : Bool) (s : State) : State := pairSend (.relinquish s.now.c (areaBytes s) swap) s

/-! ## Eligibility (R328) -/

/-- A fault of the device's own: BRIDGE_LOST, LOOPS_HALTED, thermal hold, or an error of configuration restore. -/
def ownFault (s : State) : Bool := s.sys.bridgeLost || s.lp.halted || s.th.hold || !s.sys.badRecords.isEmpty

/-- The conditions of R328. -/
def eligibleNow (s : State) : Bool :=
  pairEn s && s.pr.bond.isSome && s.pr.pHello && s.sys.restored && !ownFault s && s.nv.gen == s.pr.pGen && !s.pr.isolated
    && !s.pr.napIso

/-- A change of eligibility sends a BEAT at once (R328); generations that come to differ raise GEN_MISMATCH (R337). -/
def updateEligible (s : State) : State :=
  let e := eligibleNow s
  let t := prUpd (fun p => { p with eligible := e }) s
  let s := if e == s.pr.eligible then s else pairSend (beatFrame t) t
  let differ := s.pr.pHello && s.sys.restored && s.nv.gen != s.pr.pGen
  let s := when (differ && !s.pr.genMismatch && s.sys.negotiated) (raise 2 0xED [ef 4 s.nv.gen.toNat, ef 4 s.pr.pGen.toNat]) s
  prUpd (fun p => { p with genMismatch := differ }) s

/-! ## Outputs (R326) -/

/-- Local outputs are enabled (R326, R473 step 8). -/
def enableOutputs (s : State) : State :=
  let s : State := { s with sys := { s.sys with outputs := true } }
  let s := forRange 24 (fun ch s => coilUpd ch (fun k => { k with taken := false }) s) s
  let s := setBias true (fansEnabled s)
  linksGainDuty (kyUpd (fun k => { k with
    discard := true, changed := [], pendEv := [], key := Tab.map k.key (fun _ x => { x with count := 0 }) }) s)

/-- Local outputs are disabled: each block goes to its own state (R208, R268, R298, R305). -/
def disableOutputs (s : State) : State :=
  if s.sys.outputs then
    let s := fansDisabled (coilSafe false { s with sys := { s.sys with outputs := false } })
    setBias false (panelDisabled 1 s)
  else s

/-! ## Duty -/

/-- Commands allowed only in a role complete with ROLE when the device leaves it (R449). -/
def dutyWaits : Wait → Bool
  | .lsMode | .region _ | .diag _ | .readNow _ | .swap | .lane _ => true
  | _ => false

/-- Field points are STALE on a device without duty (R343). -/
def staleField (s : State) : State :=
  forAll (s.live.filter (fun e => e.1 / 0x40000 == Kind.point)) (fun e s =>
    let pn := e.1 % 0x40000
    if ptConfigured s pn && (ptKind s pn == 3 || ptKind s pn == 4) then stalePoint pn s else s) s

/-- Duty is lost (R326, R339, R449). -/
def loseDuty (s : State) : State :=
  let s := forRange 6 (fun b s => bankUpd b (fun k => { k with diagAsk := none }) s) (completeWhere dutyWaits St.role 0 [] s)
  let s := linksLoseDuty (parkLanes (disableOutputs s))
  let s := prUpd (fun p => { p with
    relWait := false, swapDue := false, dove := 0, dual := none, dualTold := false, dirty := [], synced := false, snapDue := 0
    actO := false, hbHold := p.hbHold || (pairEn s && p.link != .up) }) s
  staleField s

/-- Duty is gained: loops start with INIT but for those with mirrored registers (R154, R163, R342), the cascade asserts again (R182), and mirrored
arrays are resolved at the next cycle boundary (R76). A count still to be adopted is not (R40). -/
def gainDuty (s : State) : State :=
  let s := forAll (enabledLoops s) (fun ln s =>
    loopUpd ln (fun l => { l with init := !(lpMirror (liveImg s Kind.loop ln) && l.mirrored) }) s) s
  { prUpd (fun p => { p with adopt := false }) s with
      lp := { s.lp with rehome := true }, ls := { s.ls with reassert := true }, pts := { s.pts with resolveDue := true } }

/-- The local commandable points. -/
def localPoints (s : State) : List Nat :=
  ((s.live.filter (fun e => e.1 / 0x40000 == Kind.point)).map (fun e => e.1 % 0x40000)).filter (ptLocalCmd s)

/-- The first cycle boundary with duty resolves every mirrored array (R76). -/
def resolveMirrored (s : State) : State :=
  if s.duty && s.pts.resolveDue then
    forAll (localPoints s) (fun pn s => when (s.point pn).mirrored (resolve pn) s) { s with pts := { s.pts with resolveDue := false } }
  else s

/-- The mirror classes in force as a list (R319). -/
def classList (m : Nat) : List Nat := (List.range 9).filter (fun n => n ≠ 0 && m.testBit (n - 1))

/-- The mirror turns stale (R334): classes that were current are reported by a STANDBY. -/
def staleMirror (s : State) : State :=
  let was := s.pr.stale
  let all := 0xFF
  let s := prUpd (fun p => { p with stale := all, resync := false, synced := false, snapDue := 0,
                                    mirror := { p.mirror with batch := [], snap := [], ended := [] } }) s
  when (s.pr.role == .standby && was != all) (raise 2 0xE5 [ef 1 all]) s

/-- A STANDBY asks for a resync (R320, R334). -/
def askResync (s : State) : State :=
  if s.pr.link == .up then
    pairSend (.resyncReq 0) (prUpd (fun p => { p with resync := true, mirror := { p.mirror with batch := [], snap := [], ended := [] } }) s)
  else s

/-- The role changes, with PAIR_ROLE (R329, R337): causes 0 start-up and negotiation, 1 the partner, 2 own fault, 3 command, 4 trip,
5 two devices with duty, 6 silent takeover, 7 RELINQUISH (notes/assumptions/27.md). On leaving STANDBY a batch without its BATCH_END
is discarded (R332). -/
def setRole (r : Role) (cause : Nat) (s : State) : State :=
  let old := s.pr.role
  if r == old then s
  else
    let s := prUpd (fun p => { p with role := r }) s
    let s := if old == .standby then prUpd (fun p => { p with mirror := { p.mirror with batch := [], snap := [], ended := [] } }) s else s
    let s := if roleDuty old && !roleDuty r then loseDuty s else s
    let s := if !roleDuty old && roleDuty r then gainDuty s else s
    let s := if roleDuty old != roleDuty r then entriesFollow s else s
    let s : State := { s with sys := { s.sys with
      negotiated := s.sys.negotiated || r != .negotiate
      power := match s.sys.power with
        | .run | .park => if roleDuty r || r == .negotiate then .run else s.sys.power
        | p => p } }
    let s := raise 2 0xEE [ef 1 old.code, ef 1 r.code, ef 1 cause] s
    if r == .standby then askResync (staleField (staleMirror s)) else s

/-- At a cycle boundary the engines of a device without duty park (R388). -/
def parkBoundary (s : State) : State :=
  if s.sys.power == .run && (s.pr.role == .standby || s.pr.role == .isolated) then { s with sys := { s.sys with power := .park } } else s

/-- Where a device goes that yields duty (R329). -/
def yieldRole (s : State) : Role := if eligibleNow s then .standby else .isolated

/-- Duty is released with RELINQUISH where the link is UP (R338, R339). -/
def releaseDuty (r : Role) (cause : Nat) (s : State) : State :=
  if s.duty then setRole r cause (sendRelinquish false s) else setRole r cause s

/-! ## Mirror records (R330, R331) -/

/-- The image of a coil channel in class M1. -/
def m1Of (c : Coil) : M1Coil :=
  { bound := c.taken, running := c.ctx.map (fun x => (x.ev.entry, x.word)), scribe := c.scribe }

/-- The image of a loop's registers, with the count of its last commit (R330). -/
def regsImage (l : Loop) : Img :=
  (List.range 16).foldl (fun x r => x + (l.regs.get r).toNat * 2 ^ (64 * r)) 0 + l.lastCommit.toNat * 2 ^ 1024
    + ((l.lastDue.getD 0).toNat + 2 ^ 32 * bit l.lastDue.isSome) * 2 ^ 1056

/-- The key slots of a point as class M6 carries them. -/
def keySlot (s : State) (pn pri : Nat) : Option U32 :=
  let a := s.pts.arr.get (ptArray s pn)
  if a.notNull.get pri && a.writer.get pri % 8 == WClass.key.code then some (a.val.get pri) else none

/-- A number in a Fin, of a bound known to be positive. -/
def fin (n : Nat) (h : 0 < n) (k : Nat) : Fin n := ⟨k % n, Nat.mod_lt k h⟩

/-- Bits of all keys as a number. -/
def keyBits (f : Nat → Bool) : Nat := (List.range 512).foldl (fun x k => x + bit (f k) * 2 ^ k) 0

/-- The record of a class and index (R330). -/
def mirrorRec (s : State) (cls idx : Nat) : Option MirrorRec :=
  match cls with
  | 1 =>
    if idx < 24 then
      let m := m1Of (s.coil idx)
      some (.m1Coil (fin 24 (by decide) idx) m.bound (m.running.map (fun r => (fin 32 (by decide) r.1, r.2))) m.scribe)
    else if idx < 200 then some (.m1Fan (fin 8 (by decide) (idx - 100)) (s.fan (idx - 100)).duty)
    else if idx < 300 then some (.m1Aout (fin 8 (by decide) (idx - 200)) (s.out.aout.get (idx - 200)))
    else some (.m1Gpio (fin 16 (by decide) (idx - 300)) (s.out.gpio.get (idx - 300)))
  | 2 =>
    if idx < 64 then some (.m2Area (fin 64 (by decide) idx) (areaImage (s.area idx)))
    else if idx = 64 then some (.m2Sup ((List.range 8).map (fun n => let i := s.ls.sup.get n; (i.cls, i.trouble))))
    else let k := s.ls.trig.get (idx - 65); some (.m2Trig (fin 256 (by decide) (idx - 65)) k.state k.count)
  | 3 => some (.m3Array (fin 16384 (by decide) idx) (arrayImage s idx))
  | 4 => some (.m4Regs (fin 8192 (by decide) idx) (regsImage (s.loop idx)))
  | 5 =>
    let r := idx % 16
    let g := s.region r
    let els := regElems s r
    if idx < 16 then
      some (.m5Start (fin 16 (by decide) r) g.x g.y g.w g.h g.band g.start.c g.start.a (els.map s.pn.target.get))
    else some (.m5Done (fin 16 (by decide) r) g.x g.y g.w g.h (els.map s.pn.target.get) (els.map s.pn.current.get)
      (els.map s.pn.acc.get))
  | 6 =>
    if idx = 2 ^ 23 then some (.m6Keys (keyBits (fun k => (s.ky.key.get k).pressed)) (keyBits (fun k => (s.ky.key.get k).toggle))
      (keyBits (keyFlag s)))
    else if 2 ^ 24 ≤ idx then
      let p := s.point (idx - 2 ^ 24)
      some (.m6Oos (fin 131072 (by decide) (idx - 2 ^ 24)) (if p.oos then some p.value else none))
    else some (.m6Slot (fin 131072 (by decide) (idx / 32)) (fin 17 (by decide) (idx % 32)) (keySlot s (idx / 32) (idx % 32)))
  | 7 => some (.m7Seq ((List.range 4).map (fun b => (s.port.bench.get b).next.toNat)) s.port.released.toNat)
  | 8 => some (.m8Dev (fin 4096 (by decide) idx) (devImage s idx))
  | _ => none

/-- The class and index that a record of the batch stands for. -/
def mirrorKey : MirrorRec → Option (Nat × Nat)
  | .m3Array pa _ => some (3, pa.val)
  | .m4Regs ln _ => some (4, ln.val)
  | .m6Keys .. => some (6, 2 ^ 23)
  | .m6Slot pn pri _ => some (6, pn.val * 32 + pri.val)
  | .m6Oos pn _ => some (6, 2 ^ 24 + pn.val)
  | .m8Dev dv _ => some (8, dv)
  | _ => none

/-- A class is mirrored on this link (R319). -/
def classOn (s : State) (cls : Nat) : Bool := s.pr.mirrored.testBit (cls - 1)

/-- One mirror frame. -/
def sendRec (snap : Bool) (ci : Nat × Nat) (s : State) : State :=
  if classOn s ci.1 then
    match mirrorRec s ci.1 ci.2 with
    | some r => pairSend (.mirror ci.1 s.now.c snap r) s
    | none => s
  else s

/-- Class M1 and M2 in full (R334, R349). -/
def sendUrgentFull (s : State) : State :=
  let idx := (List.range 24).map (fun c => (1, c)) ++ (List.range 8).map (fun n => (1, 100 + n)) ++
    (List.range 8).map (fun n => (1, 200 + n)) ++ (List.range 16).map (fun n => (1, 300 + n)) ++
    (List.range 64).map (fun a => (2, a)) ++ [(2, 64)] ++ (trigList s).map (fun t => (2, 65 + t))
  forAll idx (sendRec false) s

/-- Changed M1 and M2 records go out at once (R331). -/
def sendUrgent (s : State) : State :=
  if s.pr.link != .up || !s.duty then s
  else
    let s := forRange 24 (fun ch s =>
      let m := m1Of (s.coil ch)
      if m == s.pr.sentCoil.get ch then s
      else sendRec false (1, ch) (prUpd (fun p => { p with sentCoil := p.sentCoil.set ch m }) s)) s
    let now := s.pr.dirty.filter (fun d => d.1 ≤ 2)
    forAll now (sendRec false) (prUpd (fun p => { p with dirty := p.dirty.filter (fun d => 2 < d.1) }) s)

/-- The records of a class as a snapshot holds them (R334). -/
def classIndexes (s : State) (cls : Nat) : List Nat :=
  let points := (s.live.filter (fun e => e.1 / 0x40000 == Kind.point)).map (fun e => e.1 % 0x40000)
  match cls with
  | 3 => (points.filter (fun pn => ptLocalCmd s pn && ptBit s pn 45)).map (ptArray s)
  | 4 => (enabledLoops s).filter (fun ln => lpMirror (liveImg s Kind.loop ln))
  | 6 => 2 ^ 23 :: ((points.filter (ptLocalCmd s)).flatMap (fun pn =>
      ((List.range 17).filter (fun pri => pri ≠ 0 && (keySlot s pn pri).isSome)).map (fun pri => pn * 32 + pri)) ++
      (points.filter (fun pn => (s.point pn).oos)).map (fun pn => 2 ^ 24 + pn)).take 2048
  | 7 => [0]
  | 8 => (s.pnt.dev.filter (fun e => e.2.state != .free)).map (·.1)
  | _ => []

/-- The whole panel as one record of class M5, and the starts that stand. -/
def panelSnapshot (s : State) : State :=
  if !classOn s 5 || !pnEnable s then s
  else
    let els := rectElems s 0 0 (pnW s) (pnH s)
    let s := pairSend (.mirror 5 s.now.c true (.m5Done (fin 16 (by decide) 0) 0 0 (pnW s) (pnH s) (els.map s.pn.target.get)
      (els.map s.pn.current.get) (els.map s.pn.acc.get))) s
    forRange 16 (fun r s => if (s.region r).state == .running then sendRec true (5, r) s else s) s

/-- A frame of a cycle's batch. -/
def batchFrame (cycle : U32) : PFrame → Bool
  | .mirror cls c snap _ => c == cycle && !snap && [3, 4, 6, 7, 8].contains cls
  | .batchEnd c _ => c == cycle
  | _ => false

/-- A batch of which no frame has been sent merges with the next one (R332): its frames leave the queue, and their records are due
again. M7 leads every batch, so one whose M7 still waits is unsent as a whole. -/
def mergeUnsent (s : State) : State :=
  let unsent := s.pr.sendQ.filterMap (fun f => match f with | .mirror 7 c false _ => some c | _ => none)
  let old (f : PFrame) : Bool := unsent.any (fun c => batchFrame c f)
  let keys := (s.pr.sendQ.filter old).filterMap (fun f => match f with | .mirror _ _ _ r => mirrorKey r | _ => none)
  prUpd (fun p => { p with
    sendQ := p.sendQ.filter (fun f => !old f)
    dirty := p.dirty.filter (fun k => !keys.contains k) ++ keys }) s

/-- The batch of a cycle boundary: M7, M3, M4, M6, M8 of the cycle just ended, then BATCH_END; M5 behind it; and the snapshot that a
resync asked for, then RESYNC_DONE (R331, R334). A batch holds 2,048 slot and flag records of M6, beside the key states (R330). -/
def mirrorBoundary (s : State) : State :=
  if s.pr.link != .up || !s.duty then s
  else
    let s := mergeUnsent s
    let d := s.pr.dirty
    let cyc := s.now.c - 1
    let send (snap : Bool) (c : U32) (ci : Nat × Nat) (s : State) : State :=
      if classOn s ci.1 then
        match mirrorRec s ci.1 ci.2 with
        | some r => pairSend (.mirror ci.1 c snap r) s
        | none => s
      else s
    let keys := d.filter (fun x => x == (6, 2 ^ 23))
    let m6 := d.filter (fun x => x.1 == 6 && x.2 != 2 ^ 23 && classOn s 6)
    let extra := m6.length - 2048
    let batch := ((7, 0) :: d.filter (fun x => x.1 == 3) ++ d.filter (fun x => x.1 == 4) ++ keys ++ m6.take 2048 ++
      d.filter (fun x => x.1 == 8)).filter (fun x => classOn s x.1)
    let s := prUpd (fun p => { p with dirty := [], notMirrored := p.notMirrored + extra }) s
    let s := when (decide (0 < extra) && s.every s.pr.lagAt 60) (fun s =>
      raise 2 0xE8 [ef 1 6, ef 4 0, ef 4 extra] (prUpd (fun p => { p with lagAt := some s.rtc.up }) s)) s
    let s := forAll batch (send false cyc) s
    let s := pairSend (.batchEnd cyc batch.length) s
    let s := forAll (d.filter (fun x => x.1 == 5)) (send false cyc) s
    if s.pr.snapDue = 0 then s
    else
      let want (c : Nat) : Bool := s.pr.snapDue.testBit (c - 1)
      let s := forAll ([3, 4, 6, 7, 8].filter want) (fun c s => forAll (classIndexes s c) (fun i s => send true s.now.c (c, i) s) s) s
      let s := when (want 5) panelSnapshot s
      pairSend (.resyncDone s.now.c) (prUpd (fun p => { p with snapDue := 0, synced := true }) s)

/-! ## The dovetail (R340 to R346) -/

/-- A coil channel of the image resumes (R341): in a qualifying hold at the SRC of its phase, otherwise from its first word. -/
def resumeCoil (ch : Nat) (m : M1Coil) (s : State) : State :=
  match m.running with
  | none => s
  | some (entry, word) =>
    if !chEnabled s ch || (s.coil ch).latched || !flag (liveImg s Kind.entry entry) 11 then s
    else
      let e : CoilEvent := { ch := ch, entry := entry, start := s.now, target := s.now, allow := entFld s entry 48 16
                             bound := true, waited := true }
      let c := newCtx s e true none
      let w := microWord s word
      let hold := fld w 25 2 == 1 && fld w 8 8 != 0 && decide (fld w 8 8 ≤ chFld s ch 80 8)
      let c := if hold then { c with pc := word, pre := true } else c
      let s := coilUpd ch (fun k => { k with ctx := some c, taken := m.bound, started := sat32 k.started, lates := sat32 k.lates }) s
      settleBank (ch / 4) (prUpd (fun p => { p with resumed := p.resumed ++ [ch] }) s)

/-- Step 3: the held outputs of class M1 (R341). A fan is driven at its mirrored duty until its first update (R268). -/
def reassertHeld (s : State) : State :=
  let m := s.pr.mirror
  let s := forRange 8 (fun n s => match m.aout.get n with | some c => setAout n c s | none => s) s
  let s := forRange 16 (fun n s => match m.gpio.get n with | some v => setGpio n v s | none => s) s
  let s := forRange 8 (fun n s => match m.fan.get n with | some d => setDuty n d (fanUpd n (fun f => { f with mirrored := some d }) s) | none => s) s
  forRange 24 (fun ch s =>
    let i := m.coil.get ch
    let s := when (i.scribe != 0) (coilUpd ch (fun k => { k with scribe := i.scribe })) s
    resumeCoil ch i s) s

/-- A region whose start class M5 has shown and whose end it has not: its elements in transit are unknown, with the accumulator that
the half-cycle boundaries since the start give (R306). -/
def takeoverRegion (q : PanelRec) (s : State) : State :=
  let f := ((s.now.diff q.start) / 32768).toNat
  let us := ((rectElems s q.x q.y q.w q.h).filter (fun e => s.pn.target.get e != s.pn.current.get e)).map (fun e =>
    let cur := s.pn.current.get e
    let a := s.pn.acc.get e
    let codes := prelude s q.band cur a ++ waveFrames (wave s) q.band cur (s.pn.target.get e) 0 (bandField (wave s) q.band 144 7)
    let x := (accAdd a (dcOf (codes.take f))).1
    { elem := e, exact := x, mid := x, bound := 1 : Unknown })
  pnUpd (fun p => { p with unknown := p.unknown ++ us, recover_ := p.recover_ ++ [q] }) s

/-- The panel at a takeover (R306, R343): interrupted regions of class M5, or every tile in doubt where M5 was not mirrored. -/
def takeoverPanel (s : State) : State :=
  if !pnEnable s || !tableCommitted s then s
  else if !classOn s 5 then pnUpd (fun p => { p with doubt := List.range 16 }) s
  else
    let rs := (List.range 16).filterMap (fun r => s.pn.started.get r)
    let s := pnUpd (fun p => { p with started := [], unknown := [], recover_ := [], rebuild := 2 }) s
    forAll rs takeoverRegion s

/-- DUAL_ACTIVE on the device that keeps duty, once a resolution, with the areas whose latch was raised (R351). -/
def tellDual (areas : List Nat) (s : State) : State :=
  match s.pr.dual with
  | some how => if s.pr.dualTold then s else raise 1 0xF1 [ef 1 0, ef 1 how, efMask areas] (prUpd (fun p => { p with dualTold := true }) s)
  | none => s

/-- The resolution is over. -/
def endDual (s : State) : State := prUpd (fun p => { p with dual := none, dualTold := false }) s

/-- Steps 2 and 3, once PR_ACT_I has shown no edge for 200 µs: outputs are enabled and the held ones re-asserted (R340). In a
dual-active resolution the device that keeps duty enables them again (R351). -/
def dovetailEnable (s : State) : State :=
  if !s.duty || s.sys.outputs || s.th.hold || !s.pr.actQuiet then s
  else if s.pr.dove = 1 then reassertHeld (prUpd (fun p => { p with dove := 2 }) (enableOutputs s))
  else if s.pr.dual.isSome then endDual (enableOutputs (tellDual [] s)) else s

/-- DOVETAIL_OUTPUT_ENABLE. -/
def dovetailEnableRow (s : State) : State :=
  if pairEn s then dovetailEnable (prUpd (fun p => { p with actQuiet := true }) s) else s

/-- A bench goes on at a number of class M7 (R346); its SEQ_RESERVE is committed before the first packet (R367). -/
def adoptSeq (b : Nat) (n : U32) (s : State) : State :=
  let short := decide (cycDiff (s.port.bench.get b).limit n < 65536)
  let s := benchUpd b (fun q => if s.fenced then { q with next := n } else
    { q with next := n, reserved := true, limit := if short then n + 65536 else q.limit }) s
  if short && !s.fenced then reserveNow b (n + 65536) s else s

/-- Step 1: the role, the bench numbers of M7, and incomplete batches discarded; the next steps where activity is silent already. -/
def dovetail (cause : Nat) (s : State) : State :=
  let m := s.pr.mirror
  let s := if m.seqs.isEmpty then s else forRange 4 (fun b s => adoptSeq b (u32 (m.seqs.get b)) s) s
  let s := setRole (if cause = 0 then .simplex else .active) (if cause = 0 then 6 else 7) s
  let s := prUpd (fun p => { p with
    dove := 1, doveCause := cause, doveMT := s.now, resumed := [] }) s
  let s := takeoverPanel s
  dovetailEnable s

/-- The silent trigger (R338). -/
def silentTrigger (s : State) : State :=
  if s.pr.role == .standby && eligibleNow s && s.pr.link != .up && s.pr.hbLost && s.pr.actLost then dovetail 0 s else s

/-- The key slots and OUT_OF_SERVICE points of class M6 enter their arrays and points (R330, R343). -/
def applyM6 (s : State) : State :=
  let m := s.pr.mirror
  let s := forAll m.slots (fun e s =>
    match e.2 with
    | some v =>
      let pn := e.1 / 32
      let pri := e.1 % 32
      if ptLocalCmd s pn && !ptBit s pn 45 then
        { s with pts := { s.pts with arr := s.pts.arr.upd (ptArray s pn) (fun a => { a with
          val := a.val.set pri v, notNull := a.notNull.set pri true, writer := a.writer.set pri (writerTag .key 0) }) } }
      else s
    | none => s) s
  forAll m.oos (fun e s =>
    match e.2 with
    | some v => updatePoint e.1 false {} (fun p => { p with oos := true, value := v }) s
    | none => s) s

/-- The writes of pressed and toggled keys to remote points are issued again (R345). -/
def rebuildKeys (s : State) : State :=
  forRange 512 (fun k s =>
    let x := s.ky.key.get k
    let pn := liveFld s Kind.key k 64 17
    let rel := liveFld s Kind.key k 2 2
    if liveFld s Kind.key k 0 2 == 1 && ptRemote s pn && ((x.pressed && rel == 0) || (x.toggle && rel == 2)) then
      arbWrite pn (liveFld s Kind.key k 8 5) .key k false false (u32 (liveFld s Kind.key k 96 32)) s
    else s) s

/-- Step 5: the first cycle boundary after step 2 (R340, R342 to R348). -/
def takeoverBoundary (s : State) : State :=
  let cause := s.pr.doveCause
  let stale := s.pr.stale
  let s := prUpd (fun p => { p with dove := 3, takeovers := sat32 p.takeovers, takeoverC := s.now.c }) s
  let s := raise 1 0xF0 ([ef 1 cause, efMT s.pr.doveMT, ef 1 (if s.pr.resync then 0xFF else stale), ef 1 (0xFF - s.pr.mirrored % 256)] ++
    (List.range 4).map (fun b => ef 4 (s.port.bench.get b).next.toNat) ++ [ef 4 s.pr.mirror.released, efMask s.pr.resumed]) s
  let s := applyM6 s
  let s := forAll (localPoints s) resolve { s with pts := { s.pts with resolveDue := false } }
  let s := forAll (modeAreas s) (fun an s =>
    let a := s.area an
    raise 0 0x76 [ef 1 an, ef 1 a.mode, ef 1 a.mode, ef 1 a.auto, ef 1 a.auto, ef 1 a.actSrc, ef 1 a.actTrig] (cascadeArea false an s)) s
  let s := rebuildKeys s
  let s := forAll ((s.pnt.dev.filter (fun e => e.2.state == .bound)).map (·.1)) (fun dv s => restartActions dv none s) s
  forRange 6 (fun b s => if bankEnabled s b && bankFld s b 16 16 != 0 then bankUpd b (fun k => { k with diagDue := true }) s else s) s

/-! ## Two devices with duty (R351) -/

/-- The partner has been seen with duty: 0 by activity, 1 by a BEAT. The device that keeps duty reports when the other has yielded
(notes/assumptions/27.md); its outputs are disabled by the edges of PR_ACT_I alone (R326). -/
def dualActive (how : Nat) (s : State) : State :=
  if !s.duty || s.pr.dual.isSome then s
  else
    let s := prUpd (fun p => { p with duals := sat32 p.duals }) s
    if pairId s then releaseDuty (yieldRole s) 5 (raise 1 0xF1 [ef 1 0, ef 1 how, efMask []] s)
    else prUpd (fun p => { p with dual := some how }) s

/-- PAIR_ACT_LOST (R335): a standby sees activity silent while another path shows the partner alive; once a silence. -/
def actLostCheck (s : State) : State :=
  let alive := if s.pr.link == .up then roleDuty s.pr.pRole else !s.pr.hbLost
  if s.pr.role == .standby && s.pr.actLost && alive && !s.pr.actEv then
    raise 2 0xE4 [] (prUpd (fun p => { p with actEv := true }) s)
  else s

/-! ## The rules of the roles that no single event decides (R329) -/

/-- The role settles after a step. Activity is present while its edges come less than 200 µs apart, and silent after 2 ms (R325). -/
def roleSettle (s : State) : State :=
  let s := actLostCheck (updateEligible s)
  match s.pr.role with
  | .negotiate =>
    if !s.sys.restored || s.sys.recovery then s
    else if !pairEn s then setRole (if ownFault s then .isolated else .simplex) 0 s
    else if !s.pr.actQuiet then
      setRole (if s.pr.eligible then .standby else .isolated) 0 (prUpd (fun p => { p with adopt := true }) s)
    else if s.pr.link == .up && s.pr.pRole == .negotiate then
      if s.nv.gen == s.pr.pGen then
        if s.pr.eligible && s.pr.pEligible then
          if pairId s then setRole .standby 0 (prUpd (fun p => { p with adopt := true }) s) else setRole .active 0 s
        else s
      else if cycLater s.nv.gen s.pr.pGen then setRole .simplex 0 s
      else setRole .isolated 0 (raise 2 0xED [ef 4 s.nv.gen.toNat, ef 4 s.pr.pGen.toNat] (prUpd (fun p => { p with genMismatch := true }) s))
    else s
  | .simplex =>
    if ownFault s then releaseDuty .isolated 2 s
    else if s.pr.link == .up && s.pr.pEligible && s.pr.pRole == .standby && s.pr.synced then setRole .active 1 s else s
  | .active =>
    if ownFault s then releaseDuty (yieldRole s) 2 s
    else if !s.pr.pEligible || (s.pr.link != .up && s.pr.hbLost) then setRole .simplex 1 s else s
  | .standby =>
    if s.pr.isolated || s.pr.napIso then setRole .isolated 3 s else if ownFault s then setRole .isolated 2 s else s
  | .isolated =>
    if s.pr.eligible && s.sys.power != .nap then
      if !s.pr.actQuiet then setRole .standby 1 s else if s.pr.actI then s else setRole .negotiate 1 s
    else s

/-- NEGOTIATE_TIMEOUT: 1.2 s with activity silent (R329). -/
def negotiateTimeoutRow (s : State) : State :=
  if s.pr.role == .negotiate && s.sys.restored && !s.pr.actI && !s.sys.recovery then
    setRole (if ownFault s then .isolated else .simplex) 0 s
  else s

end Sys2Proof.Machine
end

