-- ==== Sys2Proof/Machine/Sha.lean ====
section
/-!
DEFINITION. SHA-256, which identity fingerprints (R321) and the configuration digest (R460) use.
-/

namespace Sys2Proof.Machine

open Sys2Proof

/-- The bits of an integer k-th root of n, from bit b − 1 down, added to r. -/
def rootFrom (k n : Nat) : Nat → Nat → Nat
  | 0, r => r
  | b + 1, r => rootFrom k n b (if (r + 2 ^ b) ^ k ≤ n then r + 2 ^ b else r)

/-- The first 32 bits of the fraction of the k-th root of p, which is below 32. -/
def rootFraction (k p : Nat) : U32 := u32 (rootFrom k (p * 2 ^ (32 * k)) 37 0)

/-- The 64 primes up to 311, in order: no divisor from 2 to 17 but itself. -/
def smallPrimes : List Nat :=
  (List.range 312).filter (fun n => decide (2 ≤ n) && (List.range 18).all (fun d => decide (d < 2 ∨ d = n) || n % d != 0))

/-- The round constants: cube roots of the first 64 primes. -/
def shaRoundKeys : List U32 := smallPrimes.map (rootFraction 3)

/-- The first hash value: square roots of the first 8 primes. -/
def shaStart : List U32 := (smallPrimes.take 8).map (rootFraction 2)

/-- The exclusive or of a word rotated right by each number of a list. -/
def rotXor (l : List Nat) (x : U32) : U32 := l.foldl (fun r n => r ^^^ x.rotateRight n) 0

/-- Bit by bit: of y where x is 1, of z where x is 0. -/
def bitPick (x y z : U32) : U32 := z ^^^ (x &&& (y ^^^ z))

/-- Bit by bit, what at least two of three words have. -/
def bitMajority (x y z : U32) : U32 := (x &&& y) ||| (z &&& (x ||| y))

/-- The message with its padding: a 1 bit, zeros, and the length in bits in 8 bytes. -/
def shaPad (m : List Byte) : List Byte :=
  let n := m.length
  m ++ 0x80 :: List.replicate ((119 - n % 64) % 64) 0 ++ (leBytes 8 (8 * n)).reverse

/-- The big-endian words of a list of bytes. -/
def shaWords : Nat → List Byte → List U32
  | 0, _ => []
  | n + 1, b => u32 (leNat (b.take 4).reverse) :: shaWords n (b.drop 4)

/-- The message schedule, newest word first: n more words, each from the words 16, 15, 7 and 2 before it. -/
def shaExpand : Nat → List U32 → List U32
  | 0, w => w
  | n + 1, w =>
    let back (i : Nat) : U32 := w.getD (i - 1) 0
    let x := back 16 + (rotXor [7, 18] (back 15) ^^^ back 15 >>> 3) + back 7 + (rotXor [17, 19] (back 2) ^^^ back 2 >>> 10)
    shaExpand n (x :: w)

/-- One round on the eight working words; k is its constant plus its word of the schedule. -/
def shaRound (v : List U32) (k : U32) : List U32 :=
  let at_ (i : Nat) : U32 := v.getD i 0
  let t := at_ 7 + k + bitPick (at_ 4) (at_ 5) (at_ 6) + rotXor [6, 11, 25] (at_ 4)
  (t + bitMajority (at_ 0) (at_ 1) (at_ 2) + rotXor [2, 13, 22] (at_ 0)) :: (v.take 7).modify 3 (· + t)

/-- One block of 64 bytes. -/
def shaBlock (h : List U32) (b : List Byte) : List U32 :=
  let w := (shaExpand 48 (shaWords 16 b).reverse).reverse
  List.zipWith (· + ·) h ((List.zipWith (· + ·) shaRoundKeys w).foldl shaRound h)

/-- The blocks of a padded message. -/
def shaBlocks : Nat → List U32 → List Byte → List U32
  | 0, h, _ => h
  | n + 1, h, m => if m.isEmpty then h else shaBlocks n (shaBlock h (m.take 64)) (m.drop 64)

/-- SHA-256. -/
def sha256 (m : List Byte) : List U32 := let p := shaPad m; shaBlocks (p.length / 64) shaStart p

/-- The first 64 bits of SHA-256. -/
def sha64 (m : List Byte) : U64 :=
  let h := sha256 m
  BitVec.ofNat 64 ((h.getD 0 0).toNat * 2 ^ 32 + (h.getD 1 0).toNat)

end Sys2Proof.Machine
end

