-- ==== Sys2Proof/Machine/Pair.lean ====
section
/-!
DEFINITION. The pair link and the mirror on the receiving side (14_pair.md), the rows of takeover (15_takeover.md) and the PR_ cards.
Frames come as the link's checks leave them: in their fields, or as one rejected frame.
-/

namespace Sys2Proof.Machine

open Sys2Proof

/-! ## The link (R312 to R320) -/

/-- The highest link level that the device offers: the running image's PL_MAX, capped by PR_CFG (R319, R368). -/
def ownPlMax (s : State) : Nat := min (liveFld s Kind.pr 0 8 2) (headFld (imgSlot s s.nv.running) 74 2)

/-- The HELLO that the device presents (R317). -/
def ownHello (s : State) : PairHello :=
  { pairId := pairId s, fp := Config.ownFingerprint, plMin := 1, plMax := ownPlMax s, gen := s.nv.gen, role := s.pr.role
    eligible := s.pr.eligible, m5 := liveBit s Kind.pr 0 0, m6 := liveBit s Kind.pr 0 1, nonce := Config.pairNonce s.pr.nonce, cycle := s.now.c }

/-- A HELLO is sent with a fresh nonce, and BOND with it while a bond is pending (R317, R322). -/
def sendHello (s : State) : State :=
  let s := prUpd (fun p => { p with nonce := p.nonce + 1 }) s
  prUpd (fun p => { p with loose := .hello (ownHello s) :: (if s.pr.bondPend.isSome then [.bond] else []) }) s

/-- BOND and BOND_CONFIRM are sent in HELLO outside a session, in UP within it (R322). -/
def sendBond (f : PFrame) (s : State) : State :=
  if s.pr.link == .hello then prUpd (fun p => { p with loose := [f] }) s else pairSend f s

/-- The link leaves UP, or restarts: causes 0 silence, 1 alignment, 2 authentication, 3 configuration (R320, R337). -/
def linkLost (cause : Nat) (dest : PLink) (s : State) : State :=
  let s := when (s.pr.link == .up) (raise 2 0xE1 [ef 1 cause]) s
  staleMirror (prUpd (fun p => { p with link := dest, window := [], sendQ := [], level := 0, authAt := [] }) s)

/-- LANE_ALIGNMENT: both lanes aligned (R320). -/
def laneAlignmentRow (s : State) : State :=
  if s.pr.link == .train && pairEn s then sendHello (prUpd (fun p => { p with link := .hello }) s) else s

/-- TRAIN_TIMEOUT: 2 ms without alignment (R320). -/
def trainTimeoutRow (s : State) : State :=
  if s.pr.link == .train then prUpd (fun p => { p with trainFails := sat32 p.trainFails }) s else s

/-- ALIGNMENT_LOST (R320). -/
def alignmentLostRow (s : State) : State := if s.pr.link == .up then linkLost 1 .train s else s

/-- LINK_SILENCE: 2 ms without a verified frame (R320). -/
def linkSilenceRow (s : State) : State := if s.pr.link == .up then silentTrigger (linkLost 0 .train s) else s

/-- The classes that the common level and both devices' enables carry, as a mask (R319). -/
def commonClasses (s : State) (level : Nat) (h : PairHello) : Nat :=
  0xCF + (if level = 2 && liveBit s Kind.pr 0 0 && h.m5 then 0x10 else 0) + (if level = 2 && liveBit s Kind.pr 0 1 && h.m6 then 0x20 else 0)

/-- The link rises (R319, R320): level, classes, session. -/
def linkUp (level : Nat) (h : PairHello) (s : State) : State :=
  let m := commonClasses s level h
  let s := prUpd (fun p => { p with
    link := .up, level := level, mirrored := m, txSeq := 0, rxSeq := 0, window := [], sendQ := [], hbHold := false
    sentCoil := [], dirty := [], synced := false, snapDue := 0, authAt := [] }) s
  let s := raise 2 0xE0 [ef 1 level, ef 8 h.fp.toNat] s
  let s := forAll ((List.range 9).filter (fun n => n ≠ 0 && !m.testBit (n - 1))) (fun n => raise 2 0xE7 [ef 1 n, ef 1 (bit (level == 2))]) s
  if s.pr.role == .standby then askResync s else s

/-- HELLO_FRAME (R317, R319, R320, R323). On an UP link it renews the session: frames not yet acknowledged become its first. A device
that has not begun the exchange answers with its own HELLO. -/
def helloFrameRow (h : PairHello) (s : State) : State :=
  if !pairEn s || !(s.pr.link == .hello || s.pr.link == .up) then s
  else
    let s := prUpd (fun p => { p with presented := h.fp }) s
    let clash := h.pairId == pairId s
    let s := when (clash && !s.pr.clash) (fun s => raise 2 0xEC [] (prUpd (fun p => { p with clash := true }) s)) s
    if s.pr.bond != some h.fp then
      let s := when (s.pr.unbonded != some h.fp) (fun s =>
        raise 2 0xEB [ef 8 h.fp.toNat] (prUpd (fun p => { p with unbonded := some h.fp }) s)) s
      prUpd (fun p => { p with pHello := false }) s
    else
      let level := min (ownPlMax s) h.plMax
      if clash || level < h.plMin || level = 0 then s
      else
        let s := prUpd (fun p => { p with
          pHello := true, clash := false, pRole := h.role, pEligible := h.eligible, pGen := h.gen, pCycle := h.cycle }) s
        if s.pr.link == .up then
          let s := when (decide (s.pr.txSeq < 0x80000000)) sendHello s
          prUpd (fun p => { p with txSeq := p.window.length, rxSeq := 0 }) s
        else linkUp level h s

/-- HELLO_REPEAT: every 100 ms in HELLO; a pending bond sends its BOND frame as well (R318, R320, R322). -/
def helloRepeatRow (s : State) : State := if s.pr.link == .hello then sendHello s else s

/-- The RELINQUISH of a swap has been acknowledged, or sent for the last time (R349). -/
def finishSwap (s : State) : State :=
  let s := prUpd (fun p => { p with relWait := false, swaps := sat32 p.swaps }) s
  let r := yieldRole s
  setRole r 3 (completeWait .swap St.ok 0 [u8 r.code] s)

/-- A frame in order is taken, its ACK first; any other is discarded and counted (R316). The acknowledgement of its RELINQUISH ends
a swap (R349). -/
def inOrder (seq ack : U32) (k : State → State) (s : State) : State :=
  if s.pr.link != .up || !pairEn s then s
  else if seq.toNat ≠ s.pr.rxSeq then prUpd (fun p => { p with discarded := sat32 p.discarded }) s
  else
    let s := pairAck ack.toNat (prUpd (fun p => { p with rxSeq := p.rxSeq + 1 }) s)
    k (when (s.pr.relWait && !relinquishOut s) finishSwap s)

/-- PAIR_FRAME_REJECTED (R313, R315, R316, R318). -/
def frameRejectedRow (why : PairReject) (s : State) : State :=
  if !pairEn s then s
  else match why with
  | .type | .order => prUpd (fun p => { p with discarded := sat32 p.discarded }) s
  | .crc => prUpd (fun p => { p with badFrames := sat32 p.badFrames }) s
  | .tag =>
    let now := s.rtc.up
    let at_ := s.pr.authAt.filter (fun t => now < t + 32768) ++ [now]
    let s := prUpd (fun p => { p with badFrames := sat32 p.badFrames, authAt := at_, authSince := p.authSince + 1 }) s
    let s := when (s.every s.pr.authEv 10) (fun s =>
      raise 2 0xE9 [ef 4 s.pr.authSince] (prUpd (fun p => { p with authEv := some now, authSince := 0 }) s)) s
    if at_.length > 8 && s.pr.link == .up then linkLost 2 .hello s else s

/-- RETRANSMIT_TIMEOUT: the frames of the window go out again from the oldest (R316). -/
def retransmitRow (s : State) : State :=
  if s.pr.link == .up then prUpd (fun p => { p with retrans := min (p.retrans + p.window.length) 0xFFFFFFFF }) s else s

/-- BEAT_DUE: nothing sent for 250 µs (R316). -/
def beatDueRow (s : State) : State := pairSend (beatFrame s) s

/-! ## Mirror records received (R330 to R334) -/

/-- A device-table entry of class M8, with nothing sent. -/
def applyDev (dv : Nat) (x : Img) (s : State) : State :=
  let st : DevState := match fld x 8 3 with | 0 => .free | 1 => .seeking | 2 => .bound | 3 => .silent | _ => .discovered
  { s with pnt := { s.pnt with dev := s.pnt.dev.upd dv (fun d => { d with
      state := st, wasBound := d.wasBound || st == .bound || st == .silent, rpmOff := flag x 11, rpmLimit := fld x 216 8, seg := fld x 208 2, station := fld x 48 8, ip := fld x 64 32
      udpPort := fld x 96 16, dnet := fld x 112 16, dadr := fld x 128 48, dlen := fld x 176 3, maxApdu := fld x 192 16
      inst := fld x 24 22, link := fld x 4 4
      heard := { c := u32 (fld x 288 32), a := u16 (fld x 320 16) }
      restartStamp := BitVec.ofNat 64 (fld x 368 64), stampKnown := fld x 368 64 != 0 }) } }

/-- A loop's registers of class M4. -/
def applyRegs (ln : Nat) (x : Img) (s : State) : State :=
  loopUpd ln (fun l => { l with
    regs := Tab.setMany [] 0 ((List.range 16).map (fun r => BitVec.ofNat 64 (fld x (64 * r) 64)))
    lastCommit := u32 (fld x 1024 32)
    lastDue := if flag x 1088 then some (u32 (fld x 1056 32)) else none
    mirrored := true }) s

/-- A completed rectangle of class M5: planes, their MRAM copies and the tiles' CRCs. -/
def applyPlanes (r x y w h : Nat) (target current : List Nat) (acc : List Int) (s : State) : State :=
  let els := rectElems s x y w h
  let put {α : Type} [Inhabited α] [DecidableEq α] (t : Tab α) (l : List α) : Tab α := (els.zip l).foldl (fun t e => t.set e.1 e.2) t
  let s := pnUpd (fun p => { p with
    target := put p.target target, current := put p.current current, acc := put p.acc acc
    nvTarget := put p.nvTarget target, nvCurrent := put p.nvCurrent current, nvAcc := put p.nvAcc acc
    started := p.started.set r none
    unknown := p.unknown.filter (fun u => !els.contains u.elem) }) s
  forRange 16 (fun t s =>
    let (tx, ty, tw, th) := tileRect s t
    if overlaps { x := tx, y := ty, w := tw, h := th } x y w h then
      pnUpd (fun p => { p with tileCrc := p.tileCrc.set t (some (tileCrcOf s t)) }) s
    else s) s

/-- One record takes its effect on the standby (the last column of R330). -/
def applyRec (r : MirrorRec) (s : State) : State :=
  let mir (f : Mirror → Mirror) : State := prUpd (fun p => { p with mirror := f p.mirror }) s
  match r with
  | .m1Coil ch bound running scribe => mir (fun m => { m with
      coil := m.coil.set ch.val { bound := bound, running := running.map (fun r => (r.1.val, r.2)), scribe := scribe } })
  | .m1Fan fan duty => mir (fun m => { m with fan := m.fan.set fan.val (some duty) })
  | .m1Aout n code => mir (fun m => { m with aout := m.aout.set n.val (some code) })
  | .m1Gpio n level => mir (fun m => { m with gpio := m.gpio.set n.val (some level) })
  | .m2Area an image =>
    journalArea an.val (areaUpd an.val (fun a => { areaOfImage image with quarantined := a.quarantined }) s)
  | .m2Sup states => forRange 8 (fun n => supUpd n (fun i =>
      let x := states.getD n (i.cls, i.trouble)
      { i with cls := x.1, trouble := x.2 })) s
  | .m2Trig n state count =>
    { s with ls := { s.ls with trig := s.ls.trig.upd n.val (fun k => { k with state := state, count := count }) } }
  | .m3Array pa image =>
    let s : State := { s with pts := { s.pts with arr := s.pts.arr.set pa.val (arrayOfImage image) } }
    forAll (((s.live.filter (fun e => e.1 / 0x40000 == Kind.point)).map (fun e => e.1 % 0x40000)).filter (fun pn =>
      ptLocalCmd s pn && ptArray s pn == pa.val)) (fun pn s => flagPoint pn (fun p => { p with mirrored := true }) s) s
  | .m4Regs ln image => applyRegs ln.val image s
  | .m5Start region x y w h band c a target =>
    let els := rectElems s x y w h
    pnUpd (fun p => { p with
      started := p.started.set region.val (some { x := x, y := y, w := w, h := h, band := band, start := { c := c, a := a } })
      target := (els.zip target).foldl (fun t e => t.set e.1 e.2) p.target }) s
  | .m5Done region x y w h target current acc => applyPlanes region.val x y w h target current acc s
  | .m6Keys states toggles faults => forRange 512 (fun k => keyUpd k (fun x => { x with
      pressed := states.testBit k, toggle := toggles.testBit k, stuck := states.testBit k && faults.testBit k })) s
  | .m6Slot pn pri value => mir (fun m => { m with slots := m.slots.set (pn.val * 32 + pri.val) value })
  | .m6Oos pn value => mir (fun m => { m with oos := m.oos.set pn.val value })
  | .m7Seq next released => mir (fun m => { m with seqs := Tab.setMany [] 0 next, released := released })
  | .m8Dev dv image => applyDev dv.val image s

/-- The class of a record. -/
def recClass : MirrorRec → Nat
  | .m1Coil .. | .m1Fan .. | .m1Aout .. | .m1Gpio .. => 1
  | .m2Area .. | .m2Sup .. | .m2Trig .. => 2
  | .m3Array .. => 3
  | .m4Regs .. => 4
  | .m5Start .. | .m5Done .. => 5
  | .m6Keys .. | .m6Slot .. | .m6Oos .. => 6
  | .m7Seq .. => 7
  | .m8Dev .. => 8

/-- A class is stale: its live batches wait for the snapshot (R334). -/
def staleClass (s : State) (cls : Nat) : Bool := s.pr.stale.testBit (cls - 1)

/-- MIRROR: a verified record (R331 to R333). A damaged one is discarded and its class asked for again. -/
def mirrorRow (seq ack cycle : U32) (snap : Bool) (r : MirrorRec) (damaged : Bool) (s : State) : State :=
  inOrder seq ack (fun s =>
    let cls := recClass r
    if s.pr.role != .standby then s
    else if damaged then pairSend (.resyncReq cls) (prUpd (fun p => { p with resync := true, stale := p.stale ||| 2 ^ (cls - 1) }) s)
    else if cls ≤ 2 then applyRec r s
    else if snap || (cls = 5 && s.pr.resync && staleClass s 5) then prUpd (fun p => { p with mirror := { p.mirror with snap := p.mirror.snap ++ [r] } }) s
    else if cls = 5 then applyRec r s
    else prUpd (fun p => { p with mirror := { p.mirror with batch := p.mirror.batch ++ [(cycle.toNat, r)] } }) s) s

/-- The batch of a cycle is applied all at once (R332), but for records of classes that wait for a snapshot (R333, R334). -/
def applyBatch (cycle : Nat) (s : State) : State :=
  let now (b : Nat × MirrorRec) : Bool := b.1 == cycle && !(s.pr.resync && staleClass s (recClass b.2))
  let due := s.pr.mirror.batch.filter now
  let s := prUpd (fun p => { p with mirror := { p.mirror with batch := p.mirror.batch.filter (fun b => !now b) } }) s
  let s := forAll due (fun b => applyRec b.2) s
  let late := cycDiff s.now.c (u32 cycle)
  when (decide (late > 4) && s.every s.pr.lagAt 60) (fun s =>
    raise 2 0xE8 [ef 1 0, ef 4 late.toNat, ef 4 0] (prUpd (fun p => { p with lagAt := some s.rtc.up }) s)) s

/-- BATCH_END (R332, R334). -/
def batchEndRow (seq ack cycle : U32) (s : State) : State :=
  inOrder seq ack (fun s =>
    if s.pr.role != .standby then s
    else
      let s := when s.pr.resync (prUpd (fun p => { p with mirror := { p.mirror with ended := p.mirror.ended ++ [cycle.toNat] } })) s
      applyBatch cycle.toNat s) s

/-- RESYNC_REQ (R334): M1 and M2 at once, every other class at the next boundary. Class 0 asks for all. -/
def resyncReqRow (seq ack : U32) (cls : Nat) (s : State) : State :=
  inOrder seq ack (fun s =>
    if !s.duty then s
    else
      let s := when (decide (cls ≤ 2)) sendUrgentFull s
      prUpd (fun p => { p with snapDue := p.snapDue ||| (if cls = 0 then 0xFF else 2 ^ (cls - 1)) }) s) s

/-- A snapshot holds every record of its class: what it does not name of the M6 slots and flags and of the device table is gone on the
device with duty, and goes here (R330, R334). -/
def beforeSnapshot (classes : Nat) (snap : List MirrorRec) (s : State) : State :=
  let here (cls : Nat) : Bool := classOn s cls && classes.testBit (cls - 1)
  let s := when (here 6) (prUpd (fun p => { p with mirror := { p.mirror with slots := [], oos := [] } })) s
  let named : List Nat := snap.filterMap (fun r => match r with | .m8Dev dv _ => some dv | _ => none)
  when (here 8) (fun s => forAll ((s.pnt.dev.filter (fun e => !named.contains e.1)).map (·.1)) (fun dv s =>
    { s with pnt := { s.pnt with dev := s.pnt.dev.upd dv (fun d => { d with state := .free }) } }) s) s

/-- RESYNC_DONE (R334): the snapshot, then the live batches from its cycle on; the mirror is current. -/
def resyncDoneRow (seq ack cycle : U32) (s : State) : State :=
  inOrder seq ack (fun s =>
    if s.pr.role != .standby || !s.pr.resync then s
    else
      let m := s.pr.mirror
      let st := s.pr.stale
      let s := prUpd (fun p => { p with resync := false, stale := 0, mirror := { p.mirror with snap := [], ended := [] } }) s
      let s := forAll m.snap applyRec (beforeSnapshot st m.snap s)
      let keep := m.ended.filter (fun c => decide (cycDiff (u32 c) cycle ≥ 0))
      let s := forAll keep applyBatch s
      let s := prUpd (fun p => { p with mirror := { p.mirror with
        batch := p.mirror.batch.filter (fun b => decide (cycDiff (u32 b.1) cycle ≥ 0)) } }) s
      raise 2 0xE6 [ef 1 s.pr.mirrored] s) s

/-! ## BEAT, and the end of a swap (R315, R328, R349) -/

/-- BEAT. A resolution whose device kept its outputs is over when the partner shows no duty (R351). -/
def beatRow (b : PairBeat) (s : State) : State :=
  inOrder b.seq b.ack (fun s =>
    let s := prUpd (fun p => { p with
      pRole := b.role, pEligible := b.eligible, pGen := b.gen, pCycle := b.cycle, pAngle := b.angle }) s
    if roleDuty b.role then dualActive 1 s
    else when (s.pr.dual.isSome && s.sys.outputs) (fun s => endDual (tellDual [] s)) s) s

/-- The swap starts at a cycle boundary, behind step 1 of R24 (R349). -/
def swapBoundary (s : State) : State :=
  if !s.pr.swapDue then s
  else
    let s := prUpd (fun p => { p with swapDue := false }) s
    if s.pr.link != .up then completeWait .swap St.linkNotUp 0 [] s
    else
      let s := sendUrgentFull (mirrorBoundary s)
      sendRelinquish true (prUpd (fun p => { p with relWait := true, relSends := 0 }) s)

/-- RELINQUISH_RESEND: 1 ms without its acknowledgement; after the third resend the duty is released anyway and the heartbeat held
(R339, R349). -/
def relinquishResendRow (s : State) : State :=
  if !(relinquishOut s || s.pr.relWait) then s
  else if s.pr.relSends < 3 && s.pr.link == .up then
    prUpd (fun p => { p with relSends := p.relSends + 1, retrans := sat32 p.retrans }) s
  else
    let no (f : PFrame) : Bool := match f with | .relinquish .. => false | _ => true
    let s := prUpd (fun p => { p with
      relSends := 0, hbHold := true, window := p.window.filter no, sendQ := p.sendQ.filter no }) s
    if s.pr.relWait then finishSwap s else s

/-- RELINQUISH (R338, R340, R351): the standby dovetails; the device that keeps duty raises its latches to those of the one that
yields. -/
def relinquishRow (seq ack : U32) (areas : List (Nat × Img)) (swap : Bool) (s : State) : State :=
  inOrder seq ack (fun s =>
    if s.duty then
      if pairId s || s.pr.dove = 1 || s.pr.dove = 2 then s
      else
        let up := areas.filter (fun e => e.1 < 64 && areaConfigured s e.1 &&
          modeRank (s.area e.1).latch < modeRank (areaOfImage e.2).latch)
        let s := forAll up (fun e s =>
          let a : Area := { s.area e.1 with latch := (areaOfImage e.2).latch, actSrc := 2 }
          markDirty 2 e.1 (journalArea e.1 (areaUpd e.1 (fun _ => a) s))) s
        let s := tellDual (up.map (·.1)) s
        when s.sys.outputs endDual s
    else if s.pr.role == .standby && eligibleNow s then dovetail (if swap then 2 else 1) s
    else s) s

/-! ## Heartbeat and activity (R324 to R326) -/

/-- HEARTBEAT_TOGGLE: every 250 µs in RUN and PARK. -/
def heartbeatToggleRow (s : State) : State :=
  if pairEn s && (s.sys.power == .run || s.sys.power == .park) && !s.pr.hbHold then prUpd (fun p => { p with hbO := !p.hbO }) s else s

/-- PR_HB_I_EDGE: the partner's heartbeat; the first edge after a loss is reported. -/
def hbEdgeRow (s : State) : State :=
  if !pairEn s then s
  else
    let s := prUpd (fun p => { p with hbI := !p.hbI }) s
    if s.pr.hbLost then raise 2 0xE3 [] (prUpd (fun p => { p with hbLost := false }) s) else s

/-- HEARTBEAT_LOSS: 2 ms without an edge. -/
def heartbeatLossRow (s : State) : State :=
  if pairEn s && !s.pr.hbLost then silentTrigger (raise 2 0xE2 [] (prUpd (fun p => { p with hbLost := true }) s)) else s

/-- ACTIVITY_TOGGLE: every 50 µs with duty. -/
def activityToggleRow (s : State) : State :=
  if pairEn s && s.duty then prUpd (fun p => { p with actO := !p.actO }) s else s

/-- PR_ACT_I_EDGE: outputs are disabled within 1 µs (R326). Outside a dovetail that waits for the outgoing device's last edge, the
partner has been seen with duty (R351). -/
def actEdgeRow (s : State) : State :=
  if !pairEn s then s
  else
    let s : State := { s with out := { s.out with safeHold := false } }
    let s := disableOutputs (prUpd (fun p => { p with actI := true, actQuiet := false, actLost := false, actEv := false }) s)
    if s.pr.dove = 1 then s else dualActive 0 s

/-- ACTIVITY_SILENCE: 2 ms without an edge (R325, R335, R338). -/
def activitySilenceRow (s : State) : State :=
  if pairEn s && !s.pr.actLost then
    silentTrigger (prUpd (fun p => { p with actI := false, actQuiet := true, actLost := true }) s)
  else s

/-! ## Bonding (R322) -/

/-- BOND: the partner's public key is accepted where its fingerprint is the one named. -/
def bondRow (key : List Byte) (s : State) : State :=
  if !(s.pr.link == .hello || s.pr.link == .up) || key.length ≠ 65 then s
  else match s.pr.bondPend with
    | some fp => if sha64 key == fp then sendBond .bondConfirm (prUpd (fun p => { p with bondKey := key }) s) else s
    | none => s

/-- BOND_CONFIRM: the bond is written into the keys region. -/
def bondConfirmRow (s : State) : State :=
  if (s.pr.link == .hello || s.pr.link == .up) && s.pr.bondPend.isSome && !s.pr.bondKey.isEmpty then submit { typ := .keys, arg := 1 } s
  else s

/-- A record of the keys region has committed: 0 erases the bond, 1 stores the one pending (R322). -/
def keysCommitted (arg : Nat) (s : State) : State :=
  if arg = 0 then prUpd (fun p => { p with bond := none, pHello := false }) s
  else match s.pr.bondPend with
    | none => s
    | some fp =>
      let s := prUpd (fun p => { p with bond := some fp, bondPend := none, bondKey := [], pHello := false, unbonded := none }) s
      let s := raise 2 0xEA [ef 8 fp.toNat] s
      let s := completeWait .bond St.ok 0 [] s
      if s.pr.link == .up || s.pr.link == .hello then
        sendHello (staleMirror (prUpd (fun p => { p with link := .hello, window := [], sendQ := [], level := 0 }) s))
      else s

/-- BOND_TIMEOUT: 10 s (R322). -/
def bondTimeoutRow (s : State) : State :=
  if s.pr.bondPend.isSome then
    completeWait .bond St.bondTimeout 0 [] (prUpd (fun p => { p with bondPend := none, bondKey := [] }) s)
  else s

/-- A new PR_CFG takes effect: the link restarts (R320, R336). -/
def prTakesEffect (s : State) : State :=
  let s := takeEffect Kind.pr 0 s
  if pairEn s && s.pr.link != .down then linkLost 3 .train s else s

/-! ## Cards (R354) -/

/-- PR_SET_CFG. -/
def cardPrSetCfg (org : Origin) (_lvl : Nat) (p : List Byte) (s : State) : State × Res :=
  let x := le p 0 8
  ranged (mapped prFields 0 x) s fun _ =>
    if !allNormal s then (s, .no St.busy 0) else journal org false [wr Kind.pr 0 x] [] s

/-- PR_BOND. A bond that is still pending gives way to the new one. -/
def cardPrBond (org : Origin) (_lvl : Nat) (p : List Byte) (s : State) : State × Res :=
  let fp : U64 := BitVec.ofNat 64 (le p 0 8)
  ranged [(fp != Config.ownFingerprint, 0)] s fun _ =>
    if !allNormal s then (s, .no St.busy 0)
    else if s.fenced then (s, .no St.fenced 0)
    else if fp == 0 then
      (submit { typ := .keys, arg := 0, org := some org } (prUpd (fun p => { p with bondPend := none, bondKey := [] })
        (completeWait .bond St.bondTimeout 0 [] s)), .wait .journal)
    else
      (sendBond .bond (prUpd (fun p => { p with bondPend := some fp, bondKey := [] }) (completeWait .bond St.bondTimeout 0 [] s)), .wait .bond)

/-- PR_ROLE (R349). -/
def cardPrRole (_org : Origin) (_lvl : Nat) (p : List Byte) (s : State) : State × Res :=
  let act := le p 0 1
  let force := le p 1 1 % 2 == 1
  let done (s : State) : State × Res := (s, .ok [u8 s.pr.role.code])
  ranged ([(decide (act ≤ 2), 0), (decide (le p 1 1 ≤ 1), 1)] ++ zero p 2 2) s fun _ =>
    match act with
    | 0 =>
      if s.pr.role != .active then (s, .no St.role 0)
      else if !allNormal s then (s, .no St.busy 0)
      else if s.pr.link != .up then (s, .no St.linkNotUp 0)
      else if !(s.pr.pEligible && s.pr.pRole == .standby) then (s, .no St.notEligible 0)
      else if !s.pr.synced || s.pr.snapDue != 0 then (s, .no St.mirrorNotCurrent 0)
      else (prUpd (fun p => { p with swapDue := true }) s, .wait .swap)
    | 1 =>
      if s.pr.role == .simplex && !force then (s, .no St.notEligible 0)
      else if force && !allNormal s then (s, .no St.busy 0)
      else
        let s := prUpd (fun p => { p with isolated := true, eligible := false }) s
        done (roleSettle (releaseDuty .isolated 3 s))
    | _ =>
      let s := prUpd (fun p => { p with isolated := false }) s
      if s.pr.role == .isolated && !pairEn s && !ownFault s && !s.pr.napIso then done (setRole .simplex 3 s)
      else done (roleSettle s)

/-- PR_GET_STATUS. -/
def cardPrStatus (_org : Origin) (_lvl : Nat) (_p : List Byte) (s : State) : State × Res :=
  let r := s.pr
  let link := match r.link with | .down => 0 | .train => 1 | .hello => 2 | .up => 3
  let flags := bit r.eligible + 2 * bit (pairEn s && !r.hbLost) + 4 * bit (pairEn s && !r.actQuiet) + 8 * bit r.bond.isSome + 16 * bit r.resync + 32 * bit r.isolated
  (s, .ok (leBytes 1 r.role.code ++ leBytes 1 link ++ leBytes 1 r.level ++ leBytes 1 flags ++ leBytes 2 r.mirrored ++ leBytes 2 r.stale ++
    leBytes 8 Config.ownFingerprint.toNat ++ leBytes 8 ((r.bond.getD 0).toNat) ++ leBytes 8 r.presented.toNat ++ leBytes 4 s.nv.gen.toNat ++
    leBytes 4 r.pGen.toNat ++ leBytes 4 r.takeovers ++ leBytes 4 r.swaps ++ leBytes 4 r.duals ++ leBytes 4 r.retrans ++
    leBytes 4 r.badFrames ++ leBytes 4 r.takeoverC.toNat))

end Sys2Proof.Machine
end

