-- ==== Sys2Proof/Machine/Journal.lean ====
section
/-!
DEFINITION. The non-volatile store (16_nonvolatile.md): the journal and what a commit makes take effect, the fence, snapshots,
firmware images, and the NV_ cards.
-/

namespace Sys2Proof.Machine

open Sys2Proof

def nvUpd (f : Nvm → Nvm) (s : State) : State := { s with nv := f s.nv }

/-! ## Commits (R361 to R367) -/

/-- A committed configuration record takes effect, or waits for its instant in `nv.due` (the rule of each card). -/
def recordCommitted (arg : Nat) (w : CfgWrite) (s : State) : State :=
  let k := w.kind
  let i := w.idx
  let due (s : State) : State := nvUpd (fun n => { n with due := n.due.filter (· != (k, i)) ++ [(k, i)] }) s
  if k = Kind.loop then loopCommitted arg i s
  else if k = Kind.eth then restartLink (8 + i) (takeEffect k i s)
  else if k = Kind.trunk then restartLink i (takeEffect k i s)
  else if k = Kind.pa || k = Kind.lsArea || k = Kind.val || k = Kind.evq || k = Kind.wave then takeEffect k i s
  else if k = Kind.entry then
    let s := takeEffect k i s
    { s with cb := { s.cb with badEntry := s.cb.badEntry.set i false } }
  else if k = Kind.micro then
    let s := takeEffect k i s
    { s with cb := { s.cb with badEntry := [] } }
  else if k = Kind.resp then
    let s := takeEffect k i s
    { s with ls := { s.ls with reassert := true } }
  else if k = Kind.lsIn then lsInTakesEffect s
  else if k = Kind.bank then bankUpd i (fun b => { b with pendAt := some s.rtc.up }) s
  else if k = Kind.chan then chanTakesEffect i (arg == 1) s
  else if k = Kind.dev then devTakesEffect i s
  else if k = Kind.pr then prTakesEffect s
  else if k = Kind.jig then startJig i (takeEffect k i s)
  else if k = Kind.mt then if s.mt.started then due s else mtTakesEffect s
  else due s

/-- The number that marks the chain of CFG_COMMIT (R465). -/
def sessionArg : Nat := 100

/-- What the command of a committed record waits for next, if it does not complete (R211, R465). -/
def nextWait (j : JRec) : Option Wait :=
  if j.arg = sessionArg then some .cfgApply
  else match j.writes with
    | [w] => if w.kind = Kind.bank then some (.bank w.idx) else none
    | _ => none

/-- The generation after a record that changes it (R459): one more, or the value carried. -/
def newGen (old : U32) (g : Option U32) : U32 := g.getD (old + 1)

/-- The generation after a chain. -/
def genAfter (j : JRec) (old : U32) : U32 := match j.gen with | some g => newGen old g | none => old

/-- The number that marks the record of a CFG_COMMIT that changes the generation alone (R469). -/
def sessionEmpty : Nat := 101

/-- A session ends with its commit (R463); CFG_INFO shows no refusal then. -/
def endSession (s : State) : State := { s with ses := { commits := sat32 s.ses.commits } }

/-- The new images reach their home region (R361). -/
def homeWrites (ws : List CfgWrite) (s : State) : State :=
  nvUpd (fun n => { n with cfg := applyWrites n.cfg ws, bytesWritten := n.bytesWritten + (ws.map CfgWrite.size).sum }) s

/-- The journalled configuration records of a chain enter the committed configuration. -/
def configCommitted (j : JRec) (s : State) : State :=
  let s := nvUpd (fun n => { n with
    gen := genAfter j n.gen
    digestValid := n.digestValid && j.gen.isNone }) (homeWrites j.writes s)
  let left := s.sys.badRecords.filter (fun k => !j.writes.any (fun w => w.kind == k.kind && w.idx == k.idx))
  let s : State := { s with sys := { s.sys with badRecords := left } }
  let s := if j.arg = sessionArg then { s with ses := { s.ses with applying := some (j.writes, s.nv.gen) } }
    else forAll j.writes (recordCommitted j.arg) s
  match j.org with
  | some org =>
    if j.arg = sessionEmpty then complete org St.ok 0 (leBytes 4 s.nv.gen.toNat ++ leBytes 4 0 ++ leBytes 4 s.now.c.toNat) (endSession s)
    else match nextWait j with
      | some w => setWait org w s
      | none => complete org St.ok 0 j.resp s
  | none => s

/-- A BOOT record: 0, 1 make a slot the trial preference, 2 confirms (R370). -/
def bootCommitted (j : JRec) (arb : Nat) (s : State) : State :=
  let s := if j.arg ≤ 1 then nvUpd (fun n => { n with pref := j.arg, trial := true, tried := false }) s
    else nvUpd (fun n => { n with trial := false, tried := false, otp := max n.otp arb }) s
  match j.org with
  | some org => complete org St.ok 0 j.resp s
  | none => s

/-- Writes an image slot back (R367). -/
def setSlot (n : Nat) (m : ImgSlot) (s : State) : State :=
  if n = 0 then nvUpd (fun v => { v with slotA := m }) s else nvUpd (fun v => { v with slotB := m }) s

/-- MAGIC and LENGTH are correct, and the body matches BODY_HASH (R369). -/
def imageWhole (m : ImgSlot) : Bool :=
  if !m.written then true
  else
    let len := headFld m 96 32
    headFld m 0 32 == 0x42583936 && len % 8 == 0 && decide (len ≤ 2096896) &&
      (sha256 (m.mem.getMany 256 len)).flatMap (fun w => (leBytes 4 w.toNat).reverse) == m.mem.getMany 16 32

/-- SIG verifies under the vendor key (R369). -/
def imageSigned (m : ImgSlot) : Bool :=
  !m.written || Config.vendorSigned (leNat (m.mem.getMany 0 64)) (leNat (m.mem.getMany 64 64))

/-- The checks of R369 but for the anti-rollback one. -/
def imageValid (m : ImgSlot) : Bool := imageWhole m && imageSigned m

/-- ARB of a slot, not below the OTP counter (R369). -/
def arbOk (s : State) (n : Nat) : Bool := decide (s.nv.otp ≤ headFld (imgSlot s n) 64 8)

/-- A committed record has its effect. -/
def applyJournal (j : JRec) (s : State) : State :=
  let answer (s : State) : State := match j.org with | some org => complete org St.ok 0 j.resp s | none => s
  match j.typ with
  | .config => configCommitted j s
  | .area | .scribe => homeWrites j.writes s
  | .panelStart => s
  | .panelDone =>
    let s : State := { s with sn := { s.sn with panelDone := s.sn.panelDone.filter (fun x => x.1 != j.arg) } }
    pnUpd (fun p => { p with started := p.started.set j.arg none, completing := p.completing.filter (· != j.arg) }) s
  | .snapDone =>
    let done (m : Snapshot) : Snapshot := { m with valid := true }
    let s := nvUpd (fun n => if j.arg % 2 = 0 then { n with snapA := done n.snapA, snapLatest := 0 }
      else { n with snapB := done n.snapB, snapLatest := 1 }) s
    -- SN_POWER STANDBY adds 2 to the slot: the cut follows, unless the device has been unparked since
    if j.arg < 2 then answer s
    else if s.sys.power == .park then answer { s with sys := { s.sys with cutDue := true } }
    else match j.org with | some org => complete org St.role 0 [] s | none => s
  | .keys => answer (keysCommitted j.arg s)
  | .boot => bootCommitted j (headFld (imgSlot s s.nv.running) 64 8) s
  | .seqReserve =>
    let s := benchUpd j.arg (fun q => { q with
      limit := raisedLimit q, reserving := false }) s
    { s with sn := { s.sn with past := s.sn.past.set j.arg 0 } }
  | .checkpoint => nvUpd (fun n => { n with ckpt := n.lastSeq - 1 }) s

/-- Every 1,024 records a CHECKPOINT is written, ahead of the records that wait: with a chain of at most 1,024 records the ring is
never full (R362, R363). -/
def checkpointDue (s : State) : State :=
  if (s.nv.lastSeq - s.nv.ckpt).toNat ≥ 1024 && !s.nv.queue.any (fun j => j.typ == .checkpoint) then
    nvUpd (fun n => { n with queue := { typ := .checkpoint } :: n.queue }) s
  else s

/-- The new image of an object, in whole words. -/
def CfgWrite.bytes (w : CfgWrite) : List Byte := leBytes w.size (w.image.getD 0)

/-- An object's image cut into records of at most 29 payload words. -/
def cutParts (target : Nat) (b : List Byte) : List (Nat × List Byte) :=
  (List.range (jslots b.length)).map (fun i => (target, (b.drop (232 * i)).take 232))

/-- TARGET of an object's record. -/
def objTarget (s : State) (w : CfgWrite) : Nat := (Config.journalTarget w.kind w.idx s.nv.seq.toNat).toNat

/-- The payload of a record that is not of type CONFIG (R360, R365 to R367); its layout is the model's (notes/assumptions/29.md). -/
def ownPayload (j : JRec) (s : State) : List Byte :=
  let word (i : Nat) : List Byte := leBytes 8 (Config.journalWord j.typ.code i s.nv.seq.toNat).toNat
  match j.typ with
  | .config | .area | .scribe => j.writes.flatMap CfgWrite.bytes
  | .panelStart =>
    let g := s.region j.arg
    leBytes 2 g.x ++ leBytes 2 g.y ++ leBytes 2 g.w ++ leBytes 2 g.h ++ leBytes 4 g.start.c.toNat ++ leBytes 2 g.start.a.toNat ++ leBytes 2 g.band
  | .panelDone => []
  | .snapDone =>
    leBytes 4 (j.arg % 2) ++ leBytes 4 (if j.arg % 2 = 0 then s.nv.snapA else s.nv.snapB).cycle.toNat ++ word 0
  | .keys => (List.range 16).flatMap word
  | .boot => leBytes 8 j.arg
  | .seqReserve => reservePayload j.arg (raisedLimit (s.port.bench.get j.arg))
  | .checkpoint => leBytes 8 s.nv.lastSeq.toNat

/-- The records of a chain in order, each with its TARGET and payload: a command's objects, or the names of the staged records that a
CFG_COMMIT makes live (R465), behind the generation where it changes (R459). -/
def JRec.parts (j : JRec) (s : State) : List (Nat × List Byte) :=
  let gen := if j.gen.isSome then leBytes 8 (genAfter j s.nv.gen).toNat else []
  if j.typ == .config then
    match j.writes with
    | [] => cutParts (ownTarget s .config) gen
    | w :: r =>
      if j.arg = sessionArg then
        cutParts (ownTarget s .config) (gen ++ j.writes.flatMap (fun w => leBytes 8 w.kind ++ leBytes 8 w.idx))
      else cutParts (objTarget s w) (gen ++ w.bytes) ++ r.flatMap (fun w => cutParts (objTarget s w) w.bytes)
  else if j.typ == .panelStart || j.typ == .panelDone then [(j.arg, ownPayload j s)]
  else match j.writes with
    | w :: _ => [(objTarget s w, ownPayload j s)]
    | [] => [(ownTarget s j.typ, ownPayload j s)]

/-- CHAIN of record k of n (R360). -/
def chainCode (k n : Nat) : Nat := if n ≤ 1 then 0 else if k = 0 then 1 else if k + 1 = n then 3 else 2

/-- Record k of a chain, as one of the two phases writes it. -/
def writeRecord (put : Nat → Nat → Nat → List Byte → State → State) (j : JRec) (k : Nat) (s : State) : State :=
  let p := ((j.parts s)[k]?).getD (0, [])
  put j.typ.code (chainCode k j.slots) p.1 p.2 s

/-- Phase 2 of the record in progress ends (R361); the last one of a chain lets the chain take effect (R362). -/
def commitRecord (s : State) : State :=
  match s.nv.queue with
  | [] => s
  | j :: r =>
    let s := writeRecord ringCommit j s.nv.chainDone s
    if s.nv.chainDone + 1 < j.slots then nvUpd (fun n => { n with chainDone := n.chainDone + 1 }) s
    else checkpointDue (applyJournal j (nvUpd (fun n => { n with queue := r, chainDone := 0, torn := none }) s))

/-- JOURNAL_COMMIT. A fenced store accepts no write (R371). -/
def journalCommitRow (s : State) : State := if s.fenced then s else commitRecord s

/-! ## The fence (R371, R372) -/

/-- The TARGETs of the first records of a chain (R360), as the slots that have been written hold them. -/
def targetsOf (s : State) (first : U32) (n : Nat) : List Nat :=
  ((List.range n).map (fun i => fld ((s.nv.ring.get ((first + u32 i).toNat % 4096)).getD 0) 64 32)).eraseDups

/-- The records of a chain that stays incomplete are torn, to be rolled back at the next start (R362, R364): `begun` counts those
whose phase 1 has begun. -/
def tearChain (begun : Nat) (s : State) : State :=
  if begun = 0 then s
  else
    let first := s.nv.seq - u32 s.nv.chainDone
    nvUpd (fun n => { n with torn := some (first, first + u32 (begun - 1), targetsOf s first begun) }) s

/-- A record that a mailbox command waits on. -/
def JRec.ofCommand (j : JRec) : Bool := j.org.isSome || (j.typ == .keys && j.arg == 1)

/-- The store is fenced: causes 0 trip, 1 PFAIL_N (R371, R372, R374). The record whose phase 1 has begun is completed; commands that
wait on records complete with FENCED; records of the device's own wait (notes/assumptions/14.md). -/
def fenceStore (cause : Nat) (s : State) : State :=
  if s.fenced then s
  else
    let s := commitRecord s
    let s := match s.nv.queue with
      | j :: _ => if j.ofCommand then tearChain s.nv.chainDone s else s
      | [] => s
    let stopped := (if s.pn.completing.isEmpty then [] else [2]) ++ (if s.nv.queue.any (fun j => j.typ == .snapDone) then [3] else [])
    let drop := match s.nv.queue with | j :: _ => j.ofCommand | [] => true
    let s := nvUpd (fun n => { n with
      queue := n.queue.filter (fun j => !j.ofCommand), chainDone := if drop then 0 else n.chainDone
      fence := some cause, stopped := stopped }) s
    let s := completeWait .journal St.fenced 0 [] s
    let s := when s.pr.bondPend.isSome (fun s =>
      if s.pr.bondKey.isEmpty then s
      else completeWait .bond St.fenced 0 [] (prUpd (fun p => { p with bondPend := none, bondKey := [] }) s)) s
    raise 2 0xF6 [ef 1 cause, ef 4 s.nv.lastSeq.toNat, efMask stopped] s

/-- The fence of PFAIL_N lifts (R372). -/
def liftFence (s : State) : State :=
  if s.nv.fence = some 1 then nvUpd (fun n => { n with fence := none, stopped := [] }) s else s

/-! ## Snapshots (R366) -/

/-- What a snapshot holds now. -/
def snapshotNow (s : State) : Snapshot :=
  { valid := false, cycle := s.now.c, seqs := (List.range 4).map (fun b => (s.port.bench.get b).next.toNat)
    devs := (s.pnt.dev.filter (fun e => e.2.state != .free)).map (fun e => (e.1, devImage s e.1)), freq := s.mt.freq }

/-- A snapshot is written to the slot that does not hold the latest valid one. -/
def writeSnapshot (m : Snapshot) (s : State) : State :=
  let s := nvUpd (fun n => { n with bytesWritten := n.bytesWritten + 64 + 128 * m.devs.length }) s
  if s.nv.snapLatest = 0 then nvUpd (fun n => { n with snapB := m }) s else nvUpd (fun n => { n with snapA := m }) s

/-- SNAPSHOT: its SNAP_DONE record is submitted (R366). -/
def snapshotRow (s : State) : State :=
  if s.fenced || !s.sys.restored then s
  else submit { typ := .snapDone, arg := 1 - s.nv.snapLatest } (writeSnapshot (snapshotNow s) s)

/-! ## Cards (R373) -/

/-- NV_GET_STATUS. -/
def cardNvStatus (_org : Origin) (_lvl : Nat) (_p : List Byte) (s : State) : State × Res :=
  let n := s.nv
  let snap := if n.snapLatest = 0 then n.snapA else n.snapB
  let flags := bit (n.trial && n.running == n.pref) + 2 * bit n.fence.isSome + 4 * bit n.fellBack.isSome
  (s, .ok (leBytes 1 n.running ++ leBytes 1 flags ++ leBytes 1 n.otp ++ leBytes 1 0 ++ leBytes 4 (headFld n.slotA 32 32) ++
    leBytes 4 (headFld n.slotB 32 32) ++ leBytes 4 (cfgFree s) ++ leBytes 4 n.lastSeq.toNat ++ leBytes 4 n.rolledBack ++
    leBytes 4 (if snap.valid then snap.cycle.toNat else 0) ++ leBytes 4 (min (n.bytesWritten / 1048576) 0xFFFFFFFF)))

/-- NV_SNAPSHOT. -/
def cardNvSnapshot (org : Origin) (_lvl : Nat) (_p : List Byte) (s : State) : State × Res :=
  if s.fenced then (s, .no St.fenced 0)
  else (submit { typ := .snapDone, arg := 1 - s.nv.snapLatest, org := some org, resp := leBytes 4 s.now.c.toNat }
    (writeSnapshot (snapshotNow s) s), .wait .journal)

/-- NV_FW_WRITE (R370); in RECOVERY mode no image runs, and either slot may be written (R476). -/
def cardFwWrite (_org : Origin) (_lvl : Nat) (p : List Byte) (s : State) : State × Res :=
  let n := le p 0 1
  let o := le p 4 4
  let c := le p 8 4
  ranged ([(decide (n ≤ 1), 0)] ++ zero p 1 3 ++ [(o % 8 == 0 && decide (o < 0x200000), 4),
      (decide (8 ≤ c ∧ c ≤ 65536) && c % 8 == 0 && (decide (0x200000 ≤ o) || decide (o + c ≤ 0x200000)), 8)]) s fun _ =>
    if n = s.nv.running ∧ !s.sys.recovery then (s, .no St.slotActive 0)
    else if s.fenced then (s, .no St.fenced 0)
    else
      let m := imgSlot s n
      let mem := if m.open_ then m.mem else m.mem.setMany 0 [0, 0, 0, 0]
      let m := { mem := Tab.setMany mem o (bulkBytes s 0 c), written := true, open_ := true : ImgSlot }
      (nvUpd (fun v => { v with bytesWritten := v.bytesWritten + c }) (setSlot n m s), .ok [])

/-- NV_FW_ACTIVATE (R370); in RECOVERY mode a SIG that does not verify is AUTH (R476). -/
def cardFwActivate (org : Origin) (_lvl : Nat) (p : List Byte) (s : State) : State × Res :=
  let n := le p 0 1
  ranged ([(decide (n ≤ 1), 0)] ++ zero p 1 3) s fun _ =>
    let m := imgSlot s n
    if !imageWhole m then (s, .no St.imageInvalid 0)
    else if !imageSigned m then (s, .no (if s.sys.recovery then St.auth else St.imageInvalid) 0)
    else if !arbOk s n then (s, .no St.rollback 0)
    else if s.fenced then (s, .no St.fenced 0)
    else
      let s := setSlot n { m with open_ := false } s
      (submit { typ := .boot, arg := n, org := some org, resp := leBytes 4 (headFld m 32 32) ++ leBytes 1 (headFld m 64 8) } s, .wait .journal)

/-- NV_FW_CONFIRM (R370): with no trial pending nothing changes. -/
def cardFwConfirm (org : Origin) (_lvl : Nat) (_p : List Byte) (s : State) : State × Res :=
  if !(s.nv.trial && s.nv.running == s.nv.pref) then (s, .ok (leBytes 1 s.nv.otp))
  else if s.fenced then (s, .no St.fenced 0)
  else
    let arb := headFld (imgSlot s s.nv.running) 64 8
    (submit { typ := .boot, arg := 2, org := some org, resp := leBytes 1 (max s.nv.otp arb) } s, .wait .journal)

end Sys2Proof.Machine
end

