-- ==== Sys2Proof/Machine/Thermal.lean ====
section
/-!
DEFINITION. Die temperature, throttling and the critical trip (17_thermal.md), and the TH_ cards. Readings are in 0.25 °C.
-/

namespace Sys2Proof.Machine

open Sys2Proof

def thUpd (f : Thermal → Thermal) (s : State) : State := { s with th := f s.th }
def sensorUpd (i : Nat) (f : Sensor → Sensor) (s : State) : State := thUpd (fun t => { t with sensor := t.sensor.upd i f }) s

/-- TCRIT in °C by the straps (R380). -/
def tcrit (s : State) : Nat :=
  match s.sys.straps.tcritSel.toNat with | 0 => 115 | 1 => 125 | 2 => 135 | _ => 140

/-- THR_ON in force: lowered at restore where the straps ask for it (R384). -/
def thrOn (s : State) : Nat := min (liveFld s Kind.th 0 0 8) (tcrit s - 5)

/-- Degrees as readings. -/
def deg (n : Nat) : Int := ((4 * n : Nat) : Int)

/-- The sensors in service. -/
def inService (s : State) : List Nat := (List.range 3).filter (fun i => !(s.th.sensor.get i).failed)

/-- The hottest sensor in service and T (R377). -/
def hottest (s : State) : Option (Nat × Int) :=
  (inService s).foldl (fun b i =>
    let x := (s.th.sensor.get i).reading
    match b with | some (_, y) => if y < x then some (i, x) else b | none => some (i, x)) none

/-! ## The critical trip (R19, R380 to R383) -/

/-- The trip acts: cause 0 temperature, 1 sensors failed. -/
def tripAct (cause sensor : Nat) (reading : Int) (s : State) : State :=
  if s.th.hold then s
  else
    let s : State := { s with
      th := { s.th with hold := true, trips := sat32 s.th.trips, tripC := s.now.c }
      sn := { s.sn with tripRep := true, trip := some { cause := cause, sensor := sensor, reading := reading, at_ := s.now } } }
    let s := interruptPanel 2 (fanTrip (coilSafe true (setIrq 9 s)))
    let s := setBias false (panelDisabled 1 s)
    let s : State := { s with sys := { s.sys with outputs := false } }
    let s := prUpd (fun p => { p with
      hbHold := true, txIdle := true, actO := false, link := .down, level := 0, window := [], sendQ := [] }) s
    let s := setRole .isolated 4 s
    let s := if s.fenced then nvUpd (fun n => { n with fence := some 0 }) s else fenceStore 0 s
    raise 1 0xFA [ef 1 cause, ef 1 sensor, efInt 2 reading, efMT s.now, ef 1 0] s

/-- The trip comparison of a window: a sensor in service at or above TCRIT in two windows, or both sensors of the logic die failed. The
field die goes on comparing sensor 2 while it is only STUCK (R376). -/
def tripCheck (s : State) : State :=
  if !s.th.armed then s
  else
    let s := forRange 3 (fun i s => sensorUpd i (fun k => { k with
      hot := if (!k.failed || (i = 2 && k.stuck)) && decide (deg (tcrit s) ≤ k.reading) then k.hot + 1 else 0 }) s) s
    match (List.range 3).find? (fun i => decide (2 ≤ (s.th.sensor.get i).hot)) with
    | some i => tripAct 0 i (s.th.sensor.get i).reading s
    | none =>
      if (s.th.sensor.get 0).failed && (s.th.sensor.get 1).failed then tripAct 1 1 (s.th.sensor.get 1).reading s else s

/-! ## Throttling (R377 to R379) -/

/-- TH_THROTTLE (R378). -/
def reportThrottle (s : State) : State :=
  let h := (hottest s).getD (0, 0)
  let s := raise 2 0xF8 [ef 1 s.th.level, ef 1 (max s.th.highest s.th.level), ef 1 h.1, efInt 2 h.2] s
  thUpd (fun t => { t with sinceRep := 0, unreported := false, highest := t.level }) s

/-- The level changes; the report comes at once or at the end of the interval. -/
def setLevel (k : Nat) (s : State) : State :=
  if k = s.th.level then s
  else
    let s := thUpd (fun t => { t with level := k, changes := sat32 t.changes, highest := max t.highest (max k t.level) }) s
    if 64 ≤ s.th.sinceRep then reportThrottle s else thUpd (fun t => { t with unreported := true }) s

/-- The rules of R377 over the T of the last windows. -/
def throttle (t : Int) (s : State) : State :=
  let hist := (t :: s.th.tHist).take 64
  let s := thUpd (fun h => { h with tHist := hist, sinceFall := min (h.sinceFall + 1) 64 }) s
  let on := deg (thrOn s)
  let hyst := deg (liveFld s Kind.th 0 8 4)
  let rises (k : Nat) : Bool := decide (4 ≤ hist.length) && (hist.take 4).all (fun x => decide (on + deg (k - 1) ≤ x))
  let top := if rises 3 then 3 else if rises 2 then 2 else if rises 1 then 1 else 0
  let k := s.th.level
  if k < top then setLevel top s
  else if 0 < k && decide (64 ≤ hist.length) && decide (64 ≤ s.th.sinceFall) &&
      hist.all (fun x => decide (x < on + deg (k - 1) - hyst)) then
    setLevel (k - 1) (thUpd (fun h => { h with sinceFall := 0 }) s)
  else s

/-! ## The window (R375, R376) -/

/-- The new reading and count of one sensor. -/
def newReading (i : Nat) (reading : Int) (count : Nat) (s : State) : State :=
  sensorUpd i (fun k => { k with
    reading := reading, highest := if k.valid then max k.highest reading else reading, valid := true
    outBand := if reading < -240 ∨ 680 < reading then k.outBand + 1 else 0
    same := if k.valid && count == k.count then min (k.same + 1) 64 else 1
    count := count
    hist := (reading :: k.hist).take 64 }) s

/-- The failures of a sensor are judged (R376). BAND takes sensor 2 out of the field die's comparison also where it is STUCK. -/
def judgeSensor (i : Nat) (s : State) : State :=
  let k := s.th.sensor.get i
  if k.failed then
    if k.stuck && decide (2 ≤ k.outBand) then sensorUpd i (fun x => { x with stuck := false }) s else s
  else
    let fail (cause : Nat) (s : State) : State :=
      raise 2 0xF9 [ef 1 i, ef 1 cause, efInt 2 k.reading] (sensorUpd i (fun x => { x with failed := true, stuck := cause == 1 }) s)
    let moved := (inService s).any (fun j =>
      let h := (s.th.sensor.get j).hist
      j != i && decide (h.length = 64) && decide (8 < (h.headD 0 - h.getLastD 0).natAbs))
    if 2 ≤ k.outBand then fail 0 s
    else if 64 ≤ k.same && moved then fail 1 s
    else s

/-- A new TH_CFG takes effect at a window; it is within the limit of its straps (R384). -/
def newThCfg (s : State) : State :=
  takeDue [Kind.th] (when (s.nv.due.any (fun e => e.1 == Kind.th)) (thUpd (fun t => { t with adjusted := none })) s)

/-- SENSOR_WINDOW: readings and counts of sensors 0 to 2 at the end of a window. In STANDBY and OFF both dies are unpowered. -/
def sensorWindowRow (r : List Int) (counts : List Nat) (s : State) : State :=
  if s.sys.power == .standby || s.sys.power == .off then s
  else
    let s := newThCfg s
    let s := forRange 3 (fun i s => newReading i (r.getD i 0) (counts.getD i 0) s) s
    let s := forRange 3 judgeSensor s
    let s := thUpd (fun t => { t with sinceRep := min (t.sinceRep + 1) 64 }) s
    let s := match hottest s with | some (_, t) => throttle t s | none => s
    let s := when (decide (0 < s.th.level)) (thUpd (fun t => { t with throttled := sat32 t.throttled })) s
    tripCheck s

/-- THROTTLE_REPORT: the interval of 64 readings ends with a change not yet reported (R378). -/
def throttleReportRow (s : State) : State :=
  if s.th.unreported && decide (64 ≤ s.th.sinceRep) then reportThrottle s else s

/-- The conditions of an automatic restart but for the 10 s, which its row brings (R383). -/
def restartAllowed (s : State) : Bool :=
  let below := deg (tcrit s) - deg (liveFld s Kind.th 0 16 8)
  s.th.hold && liveBit s Kind.th 0 12 && (inService s).all (fun i => decide ((s.th.sensor.get i).reading < below)) &&
    decide ((s.sn.autoAt.filter (fun t => s.rtc.utc < t + 3600 * 32768)).length < 3)

/-- The temperatures land at step 3 of R24; a failed sensor misses its landing (R72, R376). -/
def landThermal (s : State) : State :=
  forRange 3 (fun i s =>
    let k := s.th.sensor.get i
    if k.failed || !k.valid then missSource (0x6000 + i) s
    else landSource (0x6000 + i) (.real (fmul (realOfInt k.reading) 0x3E800000)) {} s) s

/-! ## Cards (R385) -/

/-- TH_SET_CFG. -/
def cardThSetCfg (org : Origin) (_lvl : Nat) (p : List Byte) (s : State) : State × Res :=
  let x := le p 0 8
  ranged (mapped thFields 0 x ++ [(decide (fld x 0 8 ≤ tcrit s - 5), 0)]) s fun _ => journal org true [wr Kind.th 0 x] [] s

/-- TH_GET_STATUS. -/
def cardThStatus (_org : Origin) (_lvl : Nat) (_p : List Byte) (s : State) : State × Res :=
  let t := s.th
  let sen (i : Nat) : Sensor := t.sensor.get i
  let failed := (List.range 3).foldl (fun m i => m + bit (sen i).failed * 2 ^ i) 0
  let i16 (x : Int) : List Byte := leBytes 2 (x % 65536).toNat
  (s, .ok (leBytes 1 t.level ++ leBytes 1 s.sys.straps.tcritSel.toNat ++
    leBytes 1 (bit t.hold + 2 * bit s.sn.trip.isSome + 4 * failed + 32 * bit t.adjusted.isSome) ++ leBytes 1 0 ++
    (List.range 3).flatMap (fun i => i16 (sen i).reading) ++ (List.range 3).flatMap (fun i => i16 (sen i).highest) ++
    leBytes 4 t.throttled ++ leBytes 4 t.changes ++ leBytes 4 t.trips ++ leBytes 4 t.restarts ++ leBytes 4 t.tripC.toNat))

end Sys2Proof.Machine
end

