-- ==== Sys2Proof/Machine/Session.lean ====
section
/-!
DEFINITION. The system-level commands (21_commands.md R459 to R469): configuration sessions with the checks of a commit and its
apply, the digest, statistics, reset, time and identity.
-/

namespace Sys2Proof.Machine

open Sys2Proof

/-! ## The tables of CFG_LOAD (R462) -/

/-- Highest index of a table. -/
def tableLast (t : Nat) : Nat :=
  match t with
  | 1 => 131071 | 2 => 4095 | 3 => 16383 | 4 => 63 | 5 => 4095 | 6 => 4095 | _ => 16383

/-- Highest COUNT of a table. -/
def tableMax (t : Nat) : Nat :=
  match t with
  | 1 => 31 | 3 => 248 | 7 => 248 | _ => 62

/-- The kind of a table's records. -/
def tableKind (t : Nat) : Kind := 0x0100 + t

/-- The field map of a table's record. -/
def tableFields (t : Nat) : List Field :=
  match t with
  | 1 => pointFields | 2 => zoneFields | 3 => memberFields | 4 => areaFields | 5 => bindingFields | 6 => alarmFields | _ => []

/-- A SOURCE_ID names a class and an index of R70. -/
def sourceIdOk (sid : Nat) : Bool :=
  let i := sid % 4096
  match sid / 4096 with
  | 0x0 => decide (i / 64 ≤ 3 ∧ i % 64 ≤ 39)
  | 0x1 => decide (i ≤ 7)
  | 0x2 => decide (i ≤ 511)
  | 0x3 => decide (i / 4 ≤ 7 ∧ i % 4 ≤ 2)
  | 0x4 => decide (i / 4 ≤ 23 ∧ i % 4 ≤ 1)
  | 0x5 => decide (i ≤ 6)
  | 0x6 => decide (i ≤ 2)
  | 0x8 => decide (i ≤ 7)
  | 0x9 => decide (i ≤ 15)
  | 0xA => decide (i ≤ 7)
  | 0xB => decide (i ≤ 23)
  | _ => false

/-- The record-by-record checks of CFG_LOAD (R463). -/
def loadChecks (t base : Nat) (x : Img) : List (Bool × Nat) :=
  mapped (tableFields t) base x ++ (if t = 5 then [(sourceIdOk (fld x 0 16), base)] else [])

/-- The header checks that CFG_LOAD and CFG_READ share. -/
def rangeChecks (p : List Byte) : List (Bool × Nat) :=
  let t := le p 0 1
  let first := le p 4 4
  let count := le p 8 2
  if 1 ≤ t ∧ t ≤ 7 then
    [(decide (first ≤ tableLast t), 4), (decide (1 ≤ count ∧ count ≤ tableMax t), 8), (decide (first + count ≤ tableLast t + 1), 8)]
  else [(false, 0)]

/-! ## The configuration as it would stand (R464 step 3) -/

/-- The staged records as writes, in ascending table and index. -/
def stagedWrites (s : State) : List CfgWrite :=
  List.map (fun e => { kind := e.1 / 0x40000, idx := e.1 % 0x40000, image := e.2 : CfgWrite }) s.ses.staged

/-- The committed configuration with the staged records in it. -/
def standing (s : State) : Tab (Option Img) := applyWrites s.nv.cfg (stagedWrites s)

/-- A failing rule: the records of the CFG_LOAD tables that take part in it, by TABLE and index, and the refusal. -/
structure Fail where
  parts : List (Nat × Nat)
  res : Res
  deriving DecidableEq, Repr

/-- RANGE from step 3. -/
def rangeFail (parts : List (Nat × Nat)) : Fail := { parts := parts, res := .no St.range 0xFFFE }
/-- A rule that must hold. -/
def need (ok : Bool) (f : Fail) : List Fail := if ok then [] else [f]

/-- Two records claim one resource: the present owner is the one that the committed configuration gives it, else the one of the
lower index (R455; notes/assumptions/31.md). -/
def clash (kind : Nat) (held : Nat → Bool) (parts : List (Nat × Nat)) (a b : Nat) : Fail :=
  { parts := parts, res := if held b && !held a then conflict kind b kind a else conflict kind a kind b }

/-- SRC_KIND, SRC_REF and SRC_DV agree with the conditions of R63 and R116. -/
def sourceOk (x : Img) : Bool :=
  let k := fld x 96 4
  let ref := fld x 128 32
  let cmd := flag x 43
  let rem := flag x 44
  let table := fld ref 16 2
  let typ := fld ref 18 3
  let field := k == 3 || k == 4
  (!rem || field) && (!flag x 45 || (cmd && !rem)) && (field || fld x 116 12 == 0) &&
  (match k with
   | 0 => ref == 0
   | 1 => decide (ref < 4096) && !cmd
   | 2 => decide (ref < 4096) && cmd
   | 3 => !cmd || rem
   | 4 => decide (ref < 2 ^ 22) && decide (typ ≤ 5) && ((typ == 5) == decide (table < 2)) && (!cmd || (rem && (table == 0 || table == 3)))
   | _ => decide (ref < 8192) && !cmd)

/-- A configured local commandable point, as an image. -/
def localCmd (x : Img) : Bool := flag x 42 && flag x 43 && !flag x 44

/-- R27, R63, R120 and the loop, trigger, key and panel rules aside: what a point alone must keep. -/
def pointFails (s : State) (v : Tab (Option Img)) (e : Nat × Img) : List Fail :=
  let (pn, x) := e
  let zn := fld x 224 12
  let kind := fld (cfgImg s Kind.dev (fld x 116 12)) 0 2
  need (flag (imgIn v Kind.zone zn) 6) (rangeFail [(1, pn), (2, zn)]) ++
  need (sourceOk x) (rangeFail [(1, pn)]) ++
  need (match fld x 96 4 with | 3 => kind == 1 | 4 => decide (2 ≤ kind) | _ => true) (rangeFail [(1, pn)])

/-- R63: a priority array has one owner; R64: its relinquish default fits its format. -/
def arrayFails (s : State) (v : Tab (Option Img)) (pts : List (Nat × Img)) (e : Nat × Img) : List Fail :=
  let (pn, x) := e
  let pa := fld x 100 14
  let held (q : Nat) : Bool := let y := cfgImg s Kind.point q; localCmd y && fld y 100 14 == pa
  (match pts.find? (fun q => decide (q.1 < pn) && localCmd q.2 && fld q.2 100 14 == pa) with
   | some q => [clash 0x01 held [(1, q.1), (1, pn)] q.1 pn]
   | none => []) ++
  need (fitsFormat (fld x 40 2) (u32 (imgIn v Kind.relinq pa))) { parts := [(1, pn), (7, pa)], res := .no St.format 0 }

/-- An entry lies in the member list of a zone record. -/
def inList (z : Img) (e : Nat) : Bool := decide (fld z 8 14 ≤ e ∧ e < fld z 8 14 + fld z 22 15)

/-- The ranges of two zone records overlap. -/
def listsMeet (a b : Img) : Bool :=
  decide (0 < fld a 22 15 ∧ 0 < fld b 22 15 ∧ fld a 8 14 < fld b 8 14 + fld b 22 15 ∧ fld b 8 14 < fld a 8 14 + fld a 22 15)

/-- R27, R68 and R67 for a zone; an entry that two lists hold is reported as the overlap alone (notes/assumptions/31.md). -/
def zoneFails (s : State) (v : Tab (Option Img)) (zones : List (Nat × Img)) (e : Nat × Img) : List Fail :=
  let (zn, x) := e
  let an := fld x 0 6
  let first := fld x 8 14
  let count := fld x 22 15
  let held (o : Nat × Img) (q : Nat) : Bool :=
    let y := cfgImg s Kind.zone q
    let other := if q = zn then o.2 else x
    flag y 6 && listsMeet y other
  need (flag (imgIn v Kind.area an) 0) (rangeFail [(2, zn), (4, an)]) ++
  need (decide (first + count ≤ 16384)) (rangeFail [(2, zn)]) ++
  (zones.filter (fun o => decide (o.1 < zn) && listsMeet o.2 x)).map (fun o => clash 0x02 (held o) [(2, o.1), (2, zn)] o.1 zn) ++
  (((List.range count).map (· + first)).filter (fun i => !zones.any (fun o => o.1 != zn && inList o.2 i))).flatMap (fun i =>
    let pn := fld (imgIn v Kind.member i) 0 17
    let y := imgIn v Kind.point pn
    if !(flag y 42 && flag y 43 && fld y 224 12 == zn) then [rangeFail [(1, pn), (2, zn), (3, i)]]
    else
      need ((respIndexes (cfgImg s Kind.resp i)).all (fun n => fitsFormat (fld y 40 2) (u32 (cfgImg s Kind.val n))))
        { parts := [(1, pn), (3, i)], res := .no St.format 0 })

/-- The binding that a LOCAL_IN or LOCAL_OUT point names. -/
def bindingNamed (x : Img) : Nat := fld x 128 12

/-- R69: the binding names the point back and matches its kind; R70: the class has the direction. -/
def bindingFails (v : Tab (Option Img)) (e : Nat × Img) : List Fail :=
  let (pn, x) := e
  let b := bindingNamed x
  let y := imgIn v Kind.binding b
  let out := fld x 96 4 == 2
  let parts := [(1, pn), (5, b)]
  if fld x 96 4 = 1 ∨ fld x 96 4 = 2 then
    need (fld y 16 17 == pn && flag y 33 == out) (rangeFail parts) ++
    need (decide (8 ≤ fld y 0 16 / 4096) == out) (rangeFail parts)
  else []

/-- The output bindings in use: point, binding and sink. -/
def outputsIn (v : Tab (Option Img)) (pts : List (Nat × Img)) : List (Nat × Nat × Nat) :=
  (pts.filter (fun e => fld e.2 96 4 == 2 && fld (imgIn v Kind.binding (bindingNamed e.2)) 16 17 == e.1)).map
    (fun e => (e.1, bindingNamed e.2, fld (imgIn v Kind.binding (bindingNamed e.2)) 0 16))

/-- R70: a sink has one output binding in use; R263: an AOUT that a fan owns has none. -/
def sinkFails (s : State) (outs : List (Nat × Nat × Nat)) (o : Nat × Nat × Nat) : List Fail :=
  let (pn, b, sid) := o
  let held (q : Nat) : Bool :=
    let y := cfgImg s Kind.binding q
    let z := cfgImg s Kind.point (fld y 16 17)
    fld y 0 16 == sid && flag y 33 && flag z 42 && fld z 96 4 == 2 && bindingNamed z == q
  (outs.filter (fun q => decide (q.2.1 < b) && q.2.2 == sid)).map
    (fun q => clash 0x04 held [(1, q.1), (1, pn), (5, q.2.1), (5, b)] q.2.1 b) ++
  (if sid / 4096 = 8 then
    match (committed s Kind.fan).find? (fun f => fanOwns f.2 (sid % 4096)) with
    | some f => [{ parts := [(1, pn), (5, b)], res := conflict 0x06 f.1 0x04 b }]
    | none => []
  else [])

/-- R155 and R180 for a loop. -/
def loopFails (v : Tab (Option Img)) (zones : List (Nat × Img)) (l : Nat × Img) : List Fail :=
  let (ln, x) := l
  (loopWords x).flatMap (fun iw =>
    let pn := opPn iw.2
    match targetFault (imgIn v Kind.point) ln x iw with
    | some (.range _) => [rangeFail [(1, pn)]]
    | some (.conflict o) => [{ parts := [(1, pn)], res := conflict 0x03 o 0x03 ln }]
    | some (.priority _) => [{ parts := [(1, pn)], res := .no St.priorityReserved 0 }]
    | none => []) ++
  (lifeTargets x).flatMap (fun pn => zones.flatMap (fun z =>
    (((List.range (fld z.2 22 15)).map (· + fld z.2 8 14)).filter (fun i => fld (imgIn v Kind.member i) 0 17 == pn)).map (fun i =>
      { parts := [(1, pn), (2, z.1), (3, i)], res := conflict 0x01 pn 0x03 ln : Fail })))

/-- R173 for a POINT trigger. -/
def trigFails (v : Tab (Option Img)) (t : Nat × Img) : List Fail :=
  let pn := fld t.2 20 17
  let y := imgIn v Kind.point pn
  let fmt := fld y 40 2
  if fld t.2 0 2 = 2 then need (flag y 42 && (fmt == 2 || (fmt == 1 && fld t.2 48 16 == 0))) (rangeFail [(1, pn)]) else []

/-- R280 for a key. -/
def keyFails (v : Tab (Option Img)) (zones : List (Nat × Img)) (k : Nat × Img) : List Fail :=
  let pn := fld k.2 64 17
  let an := fld k.2 16 6
  if fld k.2 0 2 = 2 then need (flag (imgIn v Kind.area an) 0) (rangeFail [(4, an)])
  else match keyTarget (imgIn v Kind.point) zones (imgIn v Kind.member) k.1 k.2 with
    | some r =>
      let lists := zones.flatMap (fun z =>
        (((List.range (fld z.2 22 15)).map (· + fld z.2 8 14)).filter (fun i => fld (imgIn v Kind.member i) 0 17 == pn)).flatMap
          (fun i => [(2, z.1), (3, i)]))
      [{ parts := (1, pn) :: lists, res := r }]
    | none => []

/-- R307 for TEMP_PN. -/
def panelFails (s : State) (v : Tab (Option Img)) : List Fail :=
  match s.nv.cfg.get (recKey Kind.pn 0) with
  | some x =>
    let pn := fld x 64 17
    let y := imgIn v Kind.point pn
    need (flag y 42 && fld y 40 2 == 0) (rangeFail [(1, pn)])
  | none => []

/-- Every failure of the rules of step 3, rule by rule. -/
def stepThree (s : State) : List Fail :=
  let v := standing s
  let pts := (recsIn v Kind.point).filter (fun e => flag e.2 42)
  let zones := (recsIn v Kind.zone).filter (fun e => flag e.2 6)
  let outs := outputsIn v pts
  pts.flatMap (pointFails s v) ++ (pts.filter (fun e => localCmd e.2)).flatMap (arrayFails s v pts) ++
    zones.flatMap (zoneFails s v zones) ++ pts.flatMap (bindingFails v) ++ outs.flatMap (sinkFails s outs) ++
    (committed s Kind.loop).flatMap (loopFails v zones) ++ (committed s Kind.trig).flatMap (trigFails v) ++
    (committed s Kind.key).flatMap (keyFails v zones) ++ panelFails s v

/-- A record of a CFG_LOAD table is staged. -/
def isStaged (s : State) (p : Nat × Nat) : Bool := (s.ses.staged.get (recKey (tableKind p.1) p.2)).isSome

/-- The order of the records: ascending TABLE, then ascending index. -/
def partRank (p : Nat × Nat) : Nat := p.1 * 0x40000 + p.2

/-- The first record that takes part in a failing rule. -/
def Fail.first (f : Fail) : Nat := ((f.parts.map partRank).min?).getD 0

/-- The failure that is reported: among the rules in which a staged record takes part, the one with the first record. -/
def reported (s : State) (l : List Fail) : Option Fail :=
  let l := l.filter (fun f => f.parts.any (isStaged s))
  l.find? (fun f => l.all (fun g => decide (f.first ≤ g.first)))

/-- A refusal at step 3: its status, and what CFG_INFO shows of it (R464). -/
def refuseCommit (f : Fail) (s : State) : State × Res :=
  let t := f.first / 0x40000
  let i := f.first % 0x40000
  let (status, claim) := match f.res with | .done st _ resp => (st, resp) | .wait _ => (0, [])
  let staged := isStaged s (t, i)
  ({ s with ses := { s.ses with refTable := t + (if staged then 0 else 128), refStatus := status, refIndex := i, claim := claim } }, f.res)

/-! ## The apply (R465) -/

/-- POINT_COUNT, ZONE_COUNT and POINTS are counted again. -/
def recount (s : State) : State :=
  let pts := (recsIn s.live Kind.point).filter (fun e => flag e.2 42)
  let zones := (recsIn s.live Kind.zone).filter (fun e => flag e.2 6)
  let zoneCnt := pts.foldl (fun (t : Tab Nat) e => t.upd (fld e.2 224 12) (· + 1)) []
  let areaCnt := zones.foldl (fun (t : Tab Nat) e => t.upd (fld e.2 0 6) (· + 1)) []
  let field := pts.filter (fun e => fld e.2 96 4 == 3 || fld e.2 96 4 == 4)
  let points := field.foldl (fun (t : Tab Nat) e => t.upd (fld e.2 116 12) (· + 1)) []
  { s with pts := { s.pts with zoneCnt := zoneCnt, areaCnt := areaCnt }, pnt := { s.pnt with points := points } }

/-- Every slot of a local commandable point's array becomes null. -/
def clearArray (x : Img) (s : State) : State :=
  if localCmd x then { s with pts := { s.pts with arr := s.pts.arr.set (fld x 100 14) default } } else s

/-- A request without the point: none where nothing of it is left. What is in flight stays. -/
def PntReq.without (pn : Nat) (r : PntReq) : Option PntReq :=
  if r.id.isSome then some r
  else match r.kind with
    | .read pns cls =>
      let left := pns.filter (· != pn)
      if left.isEmpty then none else some { r with kind := .read left cls }
    | .write q _ _ _ | .subscribe q => if q = pn then none else some r
    | _ => some r

/-- What waits to be read, written or subscribed for a point is dropped: an unconfigured point takes no write, poll or event, and a
point with another source begins anew (R62, R465). -/
def forgetPoint (pn : Nat) (s : State) : State :=
  let s := forRange 10 (fun l => linkUpd l (fun k => { k with held := k.held.filter (fun h => h.pn != pn) })) s
  { s with pnt := { s.pnt with
      reqs := s.pnt.reqs.filterMap (PntReq.without pn), resend := s.pnt.resend.keep (fun k _ => k / 32 != pn), sub := s.pnt.sub.set pn false } }

/-- The slots of a point's array become null and its shadows are freed. -/
def clearPoint (pn : Nat) (o : Img) (s : State) : State :=
  let s := clearArray o s
  { s with pts := { s.pts with shadow := s.pts.shadow.keep (fun _ h => h.pn != pn) } }

/-- A local commandable point whose array begins with every slot null: it is newly one, or its FORMAT or PA_INDEX changes. R465 says so
of a newly configured point; for the others DESIGN CHOICE (notes/assumptions/16.md). -/
def newArray (o x : Img) : Bool := localCmd x && (!localCmd o || fld o 40 2 != fld x 40 2 || fld o 100 14 != fld x 100 14)

/-- A point record of the set, given its image before. A point that is new to a BOUND device is subscribed (R130). -/
def applyPoint (pn : Nat) (o : Img) (s : State) : State :=
  let x := liveImg s Kind.point pn
  let was := flag o 42
  let now := flag x 42
  let fresh := now && (!was || fld o 40 2 != fld x 40 2 || fld o 96 4 != fld x 96 4 || fld o 128 32 != fld x 128 32 ||
    fld o 116 12 != fld x 116 12)
  let s : State := { s with pts := { s.pts with pt := s.pts.pt.upd pn (fun p => { p with quarantined := false }) } }
  let s := when (was && !now) (clearPoint pn o) s
  let s := when (now && !was) (clearPoint pn x) s
  let s := when (newArray o x) (clearArray x) s
  let s := when (fresh || (was && !now)) (forgetPoint pn) s
  let s := if fresh then startPoint true pn s else when (newArray o x) (resolve pn) s
  when (fresh && isFieldPoint s (ptDv s pn) pn && (s.dev (ptDv s pn)).state == .bound) (queueSubs (ptDv s pn) [pn]) s

/-- The points of a changed relinquish default are resolved (R75). -/
def relinqChanged (pa : Nat) (s : State) : State :=
  forAll ((recsIn s.live Kind.point).filter (fun e => localCmd e.2 && fld e.2 100 14 == pa)) (fun e => resolve e.1) s

/-- The apply of a committed session, after step 5 of R24. -/
def applySession (s : State) : State :=
  match s.ses.applying with
  | none => s
  | some (ws, gen) =>
    let old := s.live
    let s := forAll ws (fun w => takeEffect w.kind w.idx) s
    let s := forAll (ws.filter (fun w => w.kind == Kind.area)) (fun w s =>
      { s with ls := { s.ls with area := s.ls.area.upd w.idx (fun a => { a with quarantined := false }) } }) s
    let s := recount (forAll (ws.filter (fun w => w.kind == Kind.point)) (fun w => applyPoint w.idx (imgIn old Kind.point w.idx)) s)
    let s := pump s
    let changed (w : CfgWrite) : Bool := imgIn old w.kind w.idx != liveImg s w.kind w.idx
    let s := forAll (ws.filter (fun w => w.kind == Kind.relinq && changed w)) (fun w => relinqChanged w.idx) s
    let lists := ws.any (fun w => (w.kind == Kind.zone || w.kind == Kind.member || w.kind == Kind.area) && changed w)
    let s : State := { s with ls := { s.ls with reassert := s.ls.reassert || lists } }
    completeWait .cfgApply St.ok 0 (leBytes 4 gen.toNat ++ leBytes 4 ws.length ++ leBytes 4 s.now.c.toNat) (endSession s)

/-! ## The digest (R460) -/

/-- The kinds of the shared configuration in ascending block and code, with how many indexes each has. -/
def sharedKinds : List (Kind × Nat) :=
  [(Kind.point, 131072), (Kind.zone, 4096), (Kind.member, 16384), (Kind.area, 64), (Kind.binding, 4096), (Kind.alarm, 4096),
   (Kind.relinq, 16384), (Kind.mt, 1), (Kind.eth, 2), (Kind.trunk, 8), (Kind.pa, 1), (Kind.cls, 16), (Kind.dev, 4096),
   (Kind.loop, 8192), (Kind.lsArea, 64), (Kind.trig, 256), (Kind.resp, 16384), (Kind.val, 4095), (Kind.lsIn, 1), (Kind.bank, 6),
   (Kind.micro, 1), (Kind.entry, 32), (Kind.chan, 24), (Kind.conv, 4), (Kind.group, 1), (Kind.fan, 8), (Kind.ky, 1), (Kind.key, 512),
   (Kind.pn, 1), (Kind.wave, 1), (Kind.th, 1), (Kind.sn, 1), (Kind.evq, 1)]

/-- The image of a record as it enters the digest: learned fields are 0. -/
def digestImg (s : State) (k : Kind) (i : Nat) : Img :=
  let x := cfgImg s k i
  if k = Kind.dev then
    let x := setFld x 192 16 0
    if flag x 2 then x
    else setFld (setFld (setFld (setFld (setFld (setFld x 48 8 0) 64 32 0) 96 16 0) 112 16 0) 128 48 0) 176 3 0
  else x

/-- One element of the digest. -/
def digestElem (s : State) (k : Kind) (i : Nat) : List Byte :=
  leBytes 1 (k / 256) ++ leBytes 1 (k % 256) ++ leBytes 4 i ++ leBytes 4 (imgBytes k) ++ leBytes (imgBytes k) (digestImg s k i)

/-- DIGEST of the committed configuration. -/
def digestOf (s : State) : U64 := sha64 (sharedKinds.flatMap (fun e => (List.range e.2).flatMap (digestElem s e.1)))

/-- DIGEST_RECOMPUTE. -/
def digestRecomputeRow (s : State) : State :=
  if s.nv.digestValid then s else nvUpd (fun n => { n with digest := digestOf s, digestValid := true }) s

/-! ## Cards of the sessions (R469) -/

/-- Distinct staged records. -/
def stagedCount (s : State) : Nat := s.ses.staged.length

/-- CFG_OPEN. -/
def cardCfgOpen (_org : Origin) (_lvl : Nat) (p : List Byte) (s : State) : State × Res :=
  ranged ([(decide (le p 0 1 ≤ 1), 0)] ++ zero p 1 3) s fun _ =>
    if s.ses.isOpen && le p 0 1 == 0 then (s, .no St.busy 0)
    else
      let s : State := { s with ses := { isOpen := true, commits := s.ses.commits } }
      (s, .ok (leBytes 4 s.nv.gen.toNat ++ leBytes 4 (cfgFree s)))

/-- CFG_LOAD. -/
def cardCfgLoad (_org : Origin) (_lvl : Nat) (p : List Byte) (s : State) : State × Res :=
  let t := le p 0 1
  let first := le p 4 4
  let count := le p 8 2
  let k := tableKind t
  let n := imgBytes k
  let recs := (List.range count).map (fun i => (i, le p (16 + n * i) n))
  ranged (rangeChecks p ++ (if 1 ≤ t ∧ t ≤ 7 then zero p 1 3 ++ zero p 10 6 ++ recs.flatMap (fun r => loadChecks t (16 + n * r.1) r.2) else []))
    s fun _ =>
    if !s.ses.isOpen then (s, .no St.noSession 0)
    else
      let staged := recs.foldl (fun m r => Tab.set m (recKey k (first + r.1)) (some (cleanImg (tableFields t) r.2))) s.ses.staged
      if staged.length > 8192 || decide (0x400000 < cfgUsed s.nv.cfg staged) then (s, .no St.noResource 0)
      else
        let s : State := { s with ses := { s.ses with staged := staged } }
        (s, .ok (leBytes 4 (stagedCount s)))

/-- CFG_COMMIT (R464, R465). -/
def cardCfgCommit (org : Origin) (_lvl : Nat) (p : List Byte) (s : State) : State × Res :=
  let flags := le p 0 1
  let gen : Option U32 := if flags % 2 = 1 then some (u32 (le p 4 4)) else none
  ranged ([(decide (flags ≤ 3), 0)] ++ zero p 1 3) s fun _ =>
    if !s.ses.isOpen then (s, .no St.noSession 0)
    else if flags / 2 % 2 == 1 && s.nv.gen.toNat != le p 8 4 then (s, .no St.genChanged 0)
    else if !allNormal s then (s, .no St.busy 0)
    else match reported s (stepThree s) with
      | some f => refuseCommit f s
      | none =>
        let ws := stagedWrites s
        if cfgUsed (standing s) [] > 0x400000 then (s, .no St.noResource 0)
        else if s.fenced then (s, .no St.fenced 0)
        else
          (submit { typ := .config, slots := jslots (8 + 16 * ws.length), writes := ws, gen := some gen, org := some org,
                    arg := if ws.isEmpty then sessionEmpty else sessionArg } s, .wait .journal)

/-- CFG_ABORT. -/
def cardCfgAbort (_org : Origin) (_lvl : Nat) (_p : List Byte) (s : State) : State × Res :=
  if !s.ses.isOpen then (s, .no St.noSession 0)
  else ({ s with ses := { commits := s.ses.commits } }, .ok (leBytes 4 (stagedCount s)))

/-- CFG_READ. -/
def cardCfgRead (_org : Origin) (_lvl : Nat) (p : List Byte) (s : State) : State × Res :=
  let t := le p 0 1
  let staged := le p 1 1 == 1
  let first := le p 4 4
  let count := le p 8 2
  let k := tableKind t
  let img (i : Nat) : Img :=
    match (if staged then s.ses.staged.get (recKey k i) else none) with
    | some x => x
    | none => cleanImg (tableFields t) (cfgImg s k i)
  ranged (rangeChecks p ++ [(decide (le p 1 1 ≤ 1), 1)] ++ zero p 2 2) s fun _ =>
    if staged && !s.ses.isOpen then (s, .no St.noSession 0)
    else (s, .ok (leBytes 2 count ++ leBytes 14 0 ++ (List.range count).flatMap (fun i => leBytes (imgBytes k) (img (first + i)))))

/-- CFG_INFO. -/
def cardCfgInfo (_org : Origin) (lvl : Nat) (_p : List Byte) (s : State) : State × Res :=
  let e := s.ses
  (s, .ok (leBytes 4 s.nv.gen.toNat ++ leBytes 4 (cfgFree s) ++ leBytes 1 (bit e.isOpen) ++ leBytes 1 e.refTable ++
    leBytes 2 e.refStatus ++ leBytes 4 e.refIndex ++ leBytes 16 (leNat e.claim) ++ leBytes 4 (stagedCount s) ++
    (if lvl ≥ 2 then leBytes 8 s.nv.digest.toNat ++ leBytes 4 (bit s.nv.digestValid) else [])))

/-! ## Statistics (R466) -/

/-- Group 0. -/
def clearSystem (s : State) : State :=
  { s with sys := { s.sys with ecc := [], memUe := 0 }
           pts := { s.pts with writeRefused := 0, unshadowed := 0 }
           mb := { s.mb with slotBusy := 0, taken := 0, refused := 0, lateDone := 0 }
           ses := { s.ses with commits := 0 } }

/-- One group of STATS_CLEAR. -/
def clearGroup (g : Nat) (s : State) : State :=
  match g with
  | 0 => clearSystem s
  | 1 => { s with mt := { s.mt with seamCount := 0, lateCount := 0, timedStandby := 0 } }
  | 2 => forRange 10 (fun l => linkUpd l (fun k => { k with
      rx := 0, tx := 0, dropped := 0, errs := 0, fwd := 0, fwdDropped := 0, heldDropped := 0, faults := 0, secsFault := 0
      secsFrom := s.rtc.up })) s
  | 3 => { s with pnt := { s.pnt with dev := Tab.map s.pnt.dev (fun _ d => { d with restarts := 0, timeouts := 0, late := 0 }) } }
  | 4 =>
    let s := forRange 4 (fun l => laneUpd l (fun k => { k with commits := 0 })) s
    { s with lp := { s.lp with stretches := 0, overruns := 0, numerics := 0, suppressed := 0, repeated := 0 } }
  | 5 =>
    let s := forRange 6 (fun b => bankUpd b (fun k => { k with hsTrips := 0, steals := 0, delayed := 0, promoted := 0 })) s
    { s with cb := { s.cb with ch := Tab.map s.cb.ch (fun _ c => { c with kerfViol := 0, seqDone := 0 }) } }
  | 6 => { s with cb := { s.cb with ch := Tab.map s.cb.ch (fun _ c =>
      { c with started := 0, lates := 0, dropped := 0, preempts := 0, rolled := 0 }) } }
  | 7 => { s with ad := { s.ad with conv := Tab.map s.ad.conv (fun _ c => { c with
      conversions := 0, aborts := 0, sequences := 0, pendings := 0, overruns := 0, merged := 0, excluded := 0, ignored := 0
      ovrs := 0, suspects := 0, jigOvrs := 0 }) } }
  | 8 => { s with out := { s.out with fan := Tab.map s.out.fan (fun _ f => { f with starts := 0 }) } }
  | 9 => { s with ky := { s.ky with scans := 0, offGrid := 0 } }
  | 10 => pnUpd (fun p => { p with skipped := 0, mismatches := 0, accReset := 0, saturations := 0 }) s
  | 11 => prUpd (fun p => { p with takeovers := 0, swaps := 0, duals := 0, retrans := 0, badFrames := 0 }) s
  | 12 => nvUpd (fun n => { n with rolledBack := 0, bytesWritten := 0 }) s
  | 13 =>
    let t := s.th
    let sensors := Tab.map t.sensor (fun _ x => { x with highest := x.reading })
    { s with th := { t with throttled := 0, changes := 0, trips := 0, restarts := 0, sensor := sensors } }
  | 14 => { s with sn := { s.sn with logged := 0 } }
  | _ =>
    let s := forRange 4 (fun b => benchUpd b (fun q => { q with spoil := 0, written := 0 })) s
    { s with port := { s.port with crcErrs := 0, lenErrs := 0, bulkRefused := 0 } }

/-- SYS_GET_STATS. -/
def cardGetStats (_org : Origin) (lvl : Nat) (p : List Byte) (s : State) : State × Res :=
  let flags := le p 0 1
  ranged ([(decide (flags ≤ (if lvl ≥ 3 then 1 else 0)), 0)] ++ zero p 1 3) s fun _ =>
    let resp := (List.range 13).flatMap (fun r => leBytes 4 (s.sys.ecc.get r)) ++
      [s.sys.memUe, s.pts.writeRefused, s.pts.unshadowed, s.mb.slotBusy, s.mb.taken, s.mb.refused, s.mb.lateDone,
        s.ses.commits].flatMap (leBytes 4)
    (if flags = 1 then clearSystem s else s, .ok resp)

/-- STATS_CLEAR. -/
def cardStatsClear (_org : Origin) (_lvl : Nat) (p : List Byte) (s : State) : State × Res :=
  let mask := le p 0 2
  ranged (zero p 2 2) s fun _ => (forAll ((List.range 16).filter mask.testBit) clearGroup s, .ok [])

/-! ## Identity, reset and time (R467 to R469) -/

/-- The straps as SYS_IDENTIFY returns them. -/
def strapByte (t : Straps) : Nat :=
  t.tcritSel.toNat + 4 * bit t.fansafe + 8 * bit t.mainsNom + 16 * bit t.pairId + 32 * bit t.pairEn + 64 * bit t.hostioSel

/-- SYS_IDENTIFY. -/
def cardIdentify (_org : Origin) (_lvl : Nat) (_p : List Byte) (s : State) : State × Res :=
  let m := imgSlot s s.nv.running
  let flags := bit (s.nv.trial && s.nv.running == s.nv.pref) + 2 * bit s.nv.fellBack.isSome
  (s, .ok (leBytes 2 0x9640 ++ leBytes 1 Config.siliconRev.toNat ++ leBytes 1 flags ++ leBytes 8 Config.ownFingerprint.toNat ++
    leBytes 4 (headFld m 32 32) ++ leBytes 1 s.nv.running ++ leBytes 1 s.nv.otp ++ leBytes 1 (ilMax s) ++
    leBytes 1 (headFld m 74 2) ++ leBytes 1 (strapByte s.sys.straps) ++ leBytes 1 s.sys.resetCause ++ leBytes 2 0 ++
    leBytes 4 s.nv.gen.toNat))

/-- SYS_RESET: a device with duty hands it on at once; the reset follows with SYS_RESET_EXECUTE. -/
def cardSysReset (_org : Origin) (_lvl : Nat) (p : List Byte) (s : State) : State × Res :=
  let act := le p 0 1
  let force := le p 1 1 == 1
  ranged ([(decide (act ≤ 1), 0), (decide (le p 1 1 ≤ 1), 1)] ++ zero p 2 2) s fun _ =>
    if s.pr.role == .simplex && !force && !allNormal s then (s, .no St.busy 0)
    else
      let s : State := { s with sys := { s.sys with resetDue := some act } }
      let s := if s.duty then releaseDuty .isolated 3 (prUpd (fun r => { r with isolated := true, eligible := false }) s) else s
      (s, .ok [])

/-- 2020-01-01 00:00:00 UTC in 1/32,768 s (R468). -/
def utc2020 : Nat := 1577836800 * 32768

/-- SYS_TIME. -/
def cardSysTime (_org : Origin) (_lvl : Nat) (p : List Byte) (s : State) : State × Res :=
  let act := le p 0 1
  let utc := le p 8 8
  ranged ([(decide (act ≤ 1), 0)] ++ zero p 1 7 ++ [(if act = 0 then utc == 0 else decide (utc2020 ≤ utc), 8)]) s fun _ =>
    let s : State := if act = 1 then { s with rtc := { s.rtc with utc := utc, frac := 0, valid := true } } else s
    (s, .ok (leBytes 8 s.rtc.utc ++ leBytes 8 s.rtc.corrUtc ++ leBytes 4 s.rtc.corrC.toNat ++
      leBytes 4 (bit s.rtc.valid + 2 * bit s.rtc.xtalFail)))

end Sys2Proof.Machine
end

