-- ==== Sys2Proof/Machine/Power.lean ====
section
/-!
DEFINITION. Resets and the start-up sequence (22_startup.md), power states, retention and the sentinel (18_sentinel_power.md), and
the SN_ cards.
-/

namespace Sys2Proof.Machine

open Sys2Proof

def snUpd (f : Sentinel → Sentinel) (s : State) : State := { s with sn := f s.sn }
def sysUpd (f : Sys → Sys) (s : State) : State := { s with sys := f s.sys }

/-! ## What a reset leaves (R14, R364, R367, R392, R471) -/

/-- Running regions that no interruption has recorded: after the reset the journal alone names them (R306). -/
def lostRegions (s : State) : State :=
  let rs := (List.range 16).filter (fun r => (s.region r).state == .running)
  if rs.isEmpty then s
  else
    let recs := rs.map (fun r => (s.region r).record)
    let us := s.pn.sched.filterMap (fun e => e.2.map (unknownOf s 0 e.1))
    pnUpd (fun p => { p with recover_ := p.recover_ ++ recs, unknown := p.unknown ++ us, rebuild := 1 }) s

/-- The record or chain in progress at a reset is torn: its slot holds it without its COMMIT (R361, R364). A fence has torn its own. -/
def tearAtReset (s : State) : State :=
  match s.nv.queue with
  | j :: _ => if s.fenced then s else tearChain (s.nv.chainDone + 1) (writeRecord (fun y c t p => ringWrite y c t p false) j s.nv.chainDone s)
  | [] => s

/-- The starting number of a bench, whose limit is the one that the journal holds (R367). -/
def benchStart (s : State) (b : Nat) : Bench :=
  let q := s.port.bench.get b
  let past := u32 (if s.nv.passed.contains b then 2 ^ 24 else s.sn.past.get b)
  if !q.reserved then { next := past, limit := past + 65536 }
  else
    { next := q.limit + past, limit := q.limit, reserved := true }

/-- The benches after a reset. -/
def benchesStart (s : State) : Tab Bench := (List.range 4).foldl (fun t b => t.set b (benchStart s b)) []

/-- The non-volatile store after a reset: volatile parts are gone, and the fence is that of PFAIL_N alone (R371, R474). -/
def nvStart (s : State) : Nvm :=
  let n := s.nv
  { n with
    due := n.due.filter (fun e => e.1 == Kind.sn), queue := [], chainDone := 0
    fence := if s.sys.pfailLow || s.sys.pfailWait then some 1 else none
    stopped := [], fellBack := none, digestValid := false }

/-- The tracker's seed: the frequency of the latest valid snapshot (R366); without one, the nominal frequency (notes/assumptions/26.md). -/
def seedOf (s : State) : Nat :=
  let m := if s.nv.snapLatest = 0 then s.nv.snapA else s.nv.snapB
  if m.valid then m.freq else s.nomFreq

/-- The state of a device whose dies have been reset: the always-on domain, MRAM, OTP and the balls' levels stay. -/
def coldState (s : State) : State :=
  let s := tearAtReset (lostRegions s)
  { sys := { straps := s.sys.straps, pgood := s.sys.pgood, pfailLow := s.sys.pfailLow, pfailWait := s.sys.pfailWait, free := s.sys.free
             scrub := s.sys.scrub }
    rtc := { s.rtc with corrC := 0, corrUtc := 0 }
    nv := nvStart s
    sn := s.sn
    th := { restarts := s.th.restarts, tripC := s.th.tripC }
    pn := { nvTarget := s.pn.nvTarget, nvCurrent := s.pn.nvCurrent, nvAcc := s.pn.nvAcc, started := s.pn.started
            completing := s.pn.completing, unknown := s.pn.unknown, recover_ := s.pn.recover_, rebuild := s.pn.rebuild }
    pr := { bond := s.pr.bond, nonce := s.pr.nonce }
    port := { bench := benchesStart s }
    live := s.live.keep (fun k _ => k / 0x40000 == Kind.sn)
    pending := s.pending }

/-! ## The sequence (R472 to R476) -/

/-- RECOVERY mode: outputs are never enabled and the role shows as ISOLATED (R476). -/
def enterRecovery (s : State) : State :=
  prUpd (fun p => { p with role := .isolated, txIdle := true, hbHold := true }) (sysUpd (fun y => { y with recovery := true, power := .park }) s)

/-- A reset of R471 begins its sequence: straps are sampled and the field-die trims are loaded. -/
def startSequence (cause : Nat) (straps : Straps) (trimOk : Bool) (s : State) : State :=
  let old := s.th.sensor
  let s := coldState s
  -- a failed sensor stays failed until PORST_N, RESET_N, or a reset equivalent to it (R376, R383, R467)
  let s := when (cause == 3) (fun s => { s with th := { s.th with sensor := Tab.map old (fun _ k => { failed := k.failed, stuck := k.stuck }) } }) s
  let s := sysUpd (fun y => { y with straps := straps, resetCause := cause, trimFail := !trimOk }) s
  let s := snUpd (fun n => { n with pairEn := straps.pairEn, pwrOn := true }) s
  let s := mtUpd (fun m => { m with freq := seedOf s }) s
  if trimOk then { s with th := { s.th with armed := true } }
  else
    -- R473 step 1: the trip line is asserted as if both logic-die sensors had failed
    enterRecovery { s with
      th := { s.th with hold := true, trips := 1 }
      sn := { s.sn with tripRep := true, trip := some { cause := 1, sensor := 1 } } }

/-- The hand-off to ADC0 and the wake of a device that leaves STANDBY (R388, R401). -/
def leaveStandby (cause : Nat) (s : State) : State :=
  let ins := (List.range 4).filter (fun n => liveBit s Kind.sn 0 1 && !s.sn.pairEn && liveBit s Kind.sn 0 (64 + 32 * n))
  let s := forAll ins (fun n s => snUpd (fun k =>
    let c := k.chan.get n
    { k with handed := k.handed.set n (some (c.state, (c.y / 256).toNat)) }) s) s
  snUpd (fun k => if k.wakeCause = 0 then
      { k with wakeCause := cause, wakeUtc := s.rtc.utc, wakeRep := k.entryCause != 0 }
    else { k with wakeRep := k.entryCause != 0 }) s

/-- PORST_N_RELEASE. With VAON absent the device is held as under PORST_N (R388). -/
def porstRow (straps : Straps) (trimOk : Bool) (s : State) : State :=
  let s := sysUpd (fun y => { y with pgood := true }) s
  if s.sys.power == .off then s
  else startSequence 0 straps trimOk (if s.sys.power == .standby then leaveStandby 4 s else s)

/-- RESET_N_RELEASE: no effect in STANDBY and OFF (R389, R471). -/
def resetNRow (straps : Straps) (trimOk : Bool) (s : State) : State :=
  if s.sys.power == .standby || s.sys.power == .off then s else startSequence 1 straps trimOk s

/-- A slot holds an image that may run (R369). -/
def slotRuns (s : State) (n : Nat) : Bool := imageValid (imgSlot s n) && arbOk s n

/-- Image selection (R475). -/
def selectImage (s : State) : State :=
  let n := s.nv
  let pref0 := n.pref
  let revert := n.trial && n.tried
  let s := nvUpd (fun n =>
    if revert then { n with pref := 1 - n.pref, trial := false, tried := false } else { n with tried := n.tried || n.trial }) s
  let p := s.nv.pref
  match (if slotRuns s p then some p else if slotRuns s (1 - p) then some (1 - p) else none) with
  | some r => nvUpd (fun n => { n with running := r, fellBack := if r = pref0 then none else some (bit revert) }) s
  | none => enterRecovery s

/-- SUPERVISOR_UP: image selection, then READY and calibration, or RECOVERY mode. -/
def supervisorUpRow (s : State) : State :=
  if s.sys.ready || s.sys.power == .standby || s.sys.power == .off then s
  else
    let s := if s.sys.recovery then s else selectImage s
    let s := setIrq 0 (sysUpd (fun y => { y with ready := true }) s)
    if s.sys.recovery || s.th.hold then s else analogStartUp s

/-! ## Configuration restore (R364 to R367, R401, R477) -/

/-- Step 1: what was rolled back is counted, and the replay ends with a CHECKPOINT (R363, R364). -/
def replayJournal (s : State) : State :=
  let torn := match s.nv.torn with | some (a, b, _) => (b - a).toNat + 1 | none => 0
  let s := nvUpd (fun n => { n with rolledBack := min (n.rolledBack + torn) 0xFFFFFFFF, ckpt := n.lastSeq }) s
  writeRecord ringCommit { typ := .checkpoint } 0 s

/-- A record that restore cannot read: MEM_UE for MRAM, and the record is loaded at its reset values. -/
def badRecord (k : CfgKey) (s : State) : State :=
  let (n, s) := takeFree s
  let s := sysUpd (fun y => { y with memUe := sat32 y.memUe }) s
  raise 2 0x11 [ef 1 9, ef 4 ((Config.journalTarget k.kind k.idx n).toNat % 2 ^ 24 / 8)] s

/-- The committed records that restore reads and loads. -/
def readable (bad : List CfgKey) (s : State) : Tab (Option Img) :=
  s.nv.cfg.keep (fun key _ => key / 0x40000 < 0xFF00 && key / 0x40000 != Kind.mt &&
    !bad.any (fun k => recKey k.kind k.idx == key))

/-- Step 2: the configuration is loaded and MT_CFG takes effect (R59); ETH_PHYRST_N is released (R89), links and points start. -/
def loadConfig (bad : List CfgKey) (s : State) : State :=
  let s := forAll bad badRecord s
  let s := sysUpd (fun y => { y with badRecords := bad }) s
  let s : State := { s with live := readable bad s, nv := { s.nv with due := [] }, links := { s.links with phyReset := false } }
  let s := if bad.any (fun k => k.kind == Kind.mt) then s else mtTakesEffect s
  let s := recount s
  let s := forAll ((recsIn s.live Kind.point).filter (fun e => flag e.2 42)) (fun e => startPoint false e.1) s
  let s := forRange 10 startLink s
  let s := forAll (recsIn s.live Kind.loop) (fun e => loopUpd e.1 (fun l => { l with init := true })) s
  let s : State := { s with lp := { s.lp with rehome := true } }
  let s := forAll (recsIn s.nv.cfg Kind.scribe) (fun e s =>
    coilUpd e.1 (fun c => { c with scribe := fld e.2 0 32, scrCount := fld e.2 32 16, misses := fld e.2 48 16 }) s) s
  analogRestore (pnUpd (fun p => { p with target := p.nvTarget, current := p.nvCurrent, acc := p.nvAcc }) s)

/-- Step 3, the device table: every entry starts SEEKING with the learned fields of the snapshot (R366). -/
def restoreDevs (s : State) : State :=
  let m := if s.nv.snapLatest = 0 then s.nv.snapA else s.nv.snapB
  forAll ((recsIn s.live Kind.dev).filter (fun e => fld e.2 0 2 != 0)) (fun e s =>
    let dv := e.1
    let s := devUpd dv (learnedFromRecord s dv) s
    let s := match (if m.valid then m.devs.find? (fun x => x.1 == dv) else none) with
      | some x => applyDev dv x.2 s
      | none => s
    devUpd dv (fun d => { d with state := .seeking, wasBound := false }) s) s

/-- Step 3, the panel records: a completion in progress that retention shows is exact; without it the whole rectangle is unknown
(R365). -/
def restoreRegion (r : Nat) (s : State) : State :=
  if s.sn.panelDone.any (fun x => x.1 == r) then pnUpd (fun p => { p with started := p.started.set r none }) s
  else match s.pn.started.get r with
    | none => s
    | some q =>
      let els := rectElems s q.x q.y q.w q.h
      pnUpd (fun p => { p with
        started := p.started.set r none, recover_ := p.recover_ ++ [q], rebuild := 1
        unknown := p.unknown ++ els.map (fun e => { elem := e, exact := 0, mid := 0, bound := 128 : Unknown })
        acc := els.foldl (fun t e => t.set e 0) p.acc }) s

/-- Step 3. -/
def restoreRecords (s : State) : State :=
  let s := restoreDevs s
  let s := forAll s.pn.completing restoreRegion s
  { pnUpd (fun p => { p with completing := [], started := [] }) s with sn := { s.sn with panelDone := [] } }

/-- Step 4: the handed SUP_IN states land (R401). -/
def landHanded (s : State) : State :=
  let s := forAll (supInputs s) (fun n s => match s.sn.handed.get n with
    | some (c, r) =>
      landSource (0x1000 + n) (.enum c) {} (supUpd n (fun i => { i with cls := c, reading := r, landed := true, handed := some c }) s)
    | none => s) s
  snUpd (fun k => { k with handed := [] }) s

/-- Step 5: TH_CFG_ADJUSTED (R384). -/
def adjustThr (s : State) : State :=
  let stored := liveFld s Kind.th 0 0 8
  if (stored : Int) ≤ tcrit s - 5 then s
  else raise 2 0xFB [ef 1 stored, ef 1 (tcrit s - 5)] (thUpd (fun t => { t with adjusted := some stored }) s)

/-- An area as the journal restores it: latched modes and MANUAL (R184). -/
def restoredArea (a : Area) : Area :=
  { latch := a.latch, auto := a.latch, mode := if a.mode = 5 then 5 else a.latch
    ffpSel := if a.mode = 5 then a.ffpSel else 0, ffpSrc := if a.mode = 5 then a.ffpSrc else 0
    modeC := a.modeC, modeA := a.modeA, actTrig := a.actTrig, actSrc := a.actSrc }

/-- Step 6. Remote points are written only where no partner can hold duty (notes/assumptions/33.md). -/
def restoreAreas (s : State) : State :=
  forAll (recsIn s.nv.cfg Kind.latch) (fun e s =>
    let a := restoredArea (areaOfImage e.2)
    let s := areaUpd e.1 (fun _ => a) s
    if a.mode = 0 then s else cascadeArea (pairEn s) e.1 s) s

/-- Step 7: the events held over from the sequence. -/
def heldEvents (s : State) : State :=
  let n := s.nv
  let s := match n.fellBack with
    | some why => raise 2 0xF5 [ef 1 (1 - n.running), ef 1 why, ef 1 n.running] s
    | none => s
  let s := match n.torn with
    | some (a, b, l) => raise 2 0xF4 ([ef 4 a.toNat, ef 4 b.toNat] ++ efList 4 l) s
    | none => s
  let s := match s.sn.tripRep, s.sn.trip with
    | true, some t => raise 1 0xFA [ef 1 t.cause, ef 1 t.sensor, efInt 2 t.reading, efMT t.at_, ef 1 1] s
    | _, _ => s
  let s := when s.sn.wakeRep
    (raise 2 0xFC [ef 1 s.sn.entryCause, ef 1 s.sn.wakeCause, ef 1 s.sn.wakeChan, ef 1 s.sn.wakeState, ef 8 s.sn.wakeUtc]) s
  let s := when (!s.sn.lost.isEmpty) (raise 2 0xFF [efMask s.sn.lost]) s
  let s := nvUpd (fun n => { n with torn := none })
    (snUpd (fun k => { k with tripRep := false, wakeRep := false, lostFlag := !k.lost.isEmpty, lost := [] }) s)
  if mtSynthOnly s then s
  else match s.mt.state with
    | .ride => mainsEvent 0x20 [efMT s.mt.lastValid, ef 4 s.mt.freq] s
    | .synth => mainsEvent 0x21 [ef 4 s.nomFreq] s
    | _ => s

/-- CONFIGURATION_RESTORE: step 6 of R473, which waits for a fence to lift (R474). -/
def restoreRow (bad : List CfgKey) (s : State) : State :=
  if !s.sys.ready || s.sys.recovery || s.fenced || s.sys.restored || s.th.hold then s
  else
    let s := restoreRecords (loadConfig bad (replayJournal s))
    let s := restoreAreas (adjustThr (landHanded s))
    let s := heldEvents (sysUpd (fun y => { y with restored := true }) s)
    if pairEn s then prUpd (fun p => { p with link := .train }) s else s

/-! ## PFAIL_N, PGOOD_CORE and VAON (R372, R388, R389) -/

/-- PFAIL_N_FALL. In STANDBY and OFF nothing is left to fence. -/
def pfailFallRow (s : State) : State :=
  let s := sysUpd (fun y => { y with pfailLow := true, pfailWait := false }) s
  if s.sys.power == .standby || s.sys.power == .off then s else fenceStore 1 (interruptPanel 0 s)

/-- PFAIL_N_RISE. -/
def pfailRiseRow (s : State) : State :=
  if s.sys.pfailLow then sysUpd (fun y => { y with pfailLow := false, pfailWait := true }) s else s

/-- FENCE_LIFT: PFAIL_N has been high for 10 ms. -/
def fenceLiftRow (s : State) : State :=
  if s.sys.pfailLow then s else liftFence (sysUpd (fun y => { y with pfailWait := false }) s)

def senEnable (s : State) : Bool := liveBit s Kind.sn 0 0
def pwrReq (s : State) : Bool := liveBit s Kind.sn 0 2
/-- A field of SN_CHAN of channel n. -/
def chanFld (s : State) (n lo w : Nat) : Nat := liveFld s Kind.sn 0 (64 + 32 * n + lo) w

/-- A mask of SN_CHAN holds a state. -/
def inMask (s : State) (n lo state : Nat) : Bool := (chanFld s n lo 4).testBit state

/-- The outputs asserted (R399); with PWR_REQ, SEN_OUT1 is the regulator enable (R391). -/
def senAsserted (s : State) : Nat :=
  let by_ (o : Nat) : Bool := (List.range 8).any (fun n =>
    chanFld s n 0 1 == 1 && chanFld s n 12 2 == o + 1 && (inMask s n 8 (s.sn.chan.get n).state || (s.sn.chan.get n).latch))
  let o (i : Nat) : Bool := by_ i || s.sn.force.testBit i
  bit (o 0) + 2 * bit (if pwrReq s then s.sn.pwrOn else o 1)

/-- A log entry of a source other than a channel (R400). -/
def logSource (src : Nat) (woke : Bool) (s : State) : State :=
  let (n, s) := takeFree s
  let i := (s.sn.newest + 1) % 256
  let f (k : Nat) : Nat := Config.senLog src k n
  snUpd (fun k => { k with
    log := k.log.set i { utc := s.rtc.utc, src := src, old := f 0 % 256, new := f 1 % 256, flags := bit woke + 2 * bit (senAsserted s != 0), y := f 2 % 65536 }
    newest := i, logged := sat32 k.logged }) s

/-- The hand-off to the sentinel (R401). -/
def handToSentinel (s : State) : State :=
  let s := setBias false s
  forRange 8 (fun n s =>
    let i := s.ls.sup.get n
    if !i.landed then s
    else snUpd (fun k => { k with
      handed := k.handed.set n (some (i.cls, i.reading))
      chan := if n < 4 then k.chan.upd n (fun c => { c with
        state := i.cls, med := List.replicate 5 i.reading, y := (i.reading * 256 : Nat) }) else k.chan }) s) s

/-- Entry to STANDBY: cause 1 command, 2 PGOOD_CORE (R388, R399, R401). The sentinel keeps its own records and the thresholds of LS_IN (R397). -/
def enterStandby (cause : Nat) (s : State) : State :=
  let s := handToSentinel s
  let s := logSource 9 false s
  let s := snUpd (fun k => { k with
    force := 0, entryCause := cause, entryUtc := s.rtc.utc, entryVaon := k.vaonMv, wakeCause := 0, wakeChan := 0, wakeState := 0, wakeRep := false
    pwrOn := if pwrReq s then false else k.pwrOn }) s
  sysUpd (fun y => { y with power := .standby }) { coldState s with live := s.live.keep (fun k _ => k / 0x40000 == Kind.sn || k / 0x40000 == Kind.lsIn) }

/-- PGOOD_CORE_FALL: the store is fenced and the domains are cut. -/
def pgoodFallRow (s : State) : State :=
  let s := sysUpd (fun y => { y with pgood := false }) s
  match s.sys.power with
  | .standby | .off => s
  | _ => enterStandby 2 (fenceStore 1 (interruptPanel 1 s))

/-- The snapshot of SN_POWER STANDBY has committed: the cut (R388). -/
def cutIfDue (s : State) : State :=
  if s.sys.cutDue then enterStandby 1 s else s

/-- The records of retention SRAM that VAON takes with it (R393). -/
def retentionLost (s : State) : State :=
  let passed := (List.range 4).filter (fun b => s.sn.past.get b != 0)
  let s := pnUpd (fun p => { p with rebuild := if p.recover_.isEmpty then p.rebuild else 1 }) s
  { s with
    nv := { s.nv with passed := s.nv.passed ++ passed.filter (fun b => !s.nv.passed.contains b), due := [] }
    sn := { lost := List.range 7, pairEn := s.sn.pairEn }
    th := { s.th with restarts := 0, tripC := 0 }
    rtc := { up := s.rtc.up } }

/-- VAON_LOSS: the device is held as under PORST_N until VAON returns (R388). -/
def vaonLossRow (s : State) : State :=
  if s.sys.power == .off then s
  else
    let s := coldState (retentionLost s)
    sysUpd (fun y => { y with power := .off, scrub := 0 }) { s with live := [] }

/-- VAON_POWER_ON. -/
def vaonOnRow (s : State) : State :=
  if s.sys.power == .off then sysUpd (fun y => { y with power := .standby }) s else s

/-! ## NAP (R388, R390) -/

/-- The exit from NAP: its isolation clears and the role follows R329 from ISOLATED. -/
def exitNap (s : State) : State :=
  if s.sys.power != .nap then s
  else
    let s := entriesFollow (setBias false (sysUpd (fun y => { y with power := .park }) s))
    let s := prUpd (fun p => { p with napIso := false, link := if pairEn s then .train else .down, actI := false, actQuiet := true }) s
    if !pairEn s && !s.pr.isolated && !ownFault s then setRole .simplex 3 s else s

/-- A NAP accepted is entered at the cycle boundary, unless the device has been unparked since. -/
def napBoundary (s : State) : State :=
  if !s.sys.napDue then s
  else
    let s := sysUpd (fun y => { y with napDue := false }) s
    if s.sys.power != .park then completeWait .nap St.role 0 [] s
    else
      let s := completeWait .nap St.ok 0 [] s
      let s := setRole .isolated 3 (prUpd (fun p => { p with napIso := true, eligible := false }) s)
      let s := prUpd (fun p => { p with link := .down, level := 0, window := [], sendQ := [] }) s
      let s := sysUpd (fun y => { y with power := .nap }) s
      if pairEn s then s else entriesFollow (setBias true s)

/-! ## The sentinel (R396 to R400) -/

/-- The median of five samples. -/
def median5 (l : List Nat) : Nat := (l.foldl (fun a x => insertSorted x a) []).getD 2 0
where
  /-- Insertion into an ascending list. -/
  insertSorted (x : Nat) : List Nat → List Nat
    | [] => [x]
    | y :: r => if x ≤ y then x :: y :: r else y :: insertSorted x r

/-- One sample enters the median and the filter (R397); y is rounded towards minus infinity at its last bit
(notes/assumptions/32.md). -/
def SnChan.sample (c : SnChan) (k v : Nat) : SnChan :=
  let med := (v :: (c.med ++ List.replicate 5 0)).take 5
  let m : Int := (median5 med * 256 : Nat)
  { c with med := med, y := c.y + (m - c.y) / (2 ^ k : Nat) }

/-- The class of a SUP channel's filtered value, left only by HYS beyond the threshold (R397). -/
def supClass (s : State) (n : Nat) (c : SnChan) : Nat :=
  let th (lo : Nat) : Int := (liveFld s Kind.lsIn 0 (32 * n + lo) 8 * 256 : Nat)
  let hys : Int := (liveFld s Kind.sn 0 32 8 * 256 : Nat)
  let y := c.y
  let t := if y < th 8 then 3 else if y < th 16 then 2 else if th 24 ≤ y then 0 else 1
  -- ascending windows are SHORT 3, ACTIVE 2, NORMAL 1, OPEN 0
  let edge : Int := match t with
    | 3 => th 8 - y
    | 2 => if c.state = 3 then y - th 8 else th 16 - y
    | 1 => if c.state = 0 then th 24 - y else y - th 16
    | _ => y - th 24
  if t = c.state then t else if hys ≤ edge then t else c.state

/-- The sentinel wakes the device: causes 1 channel, 2 edge, 3 alarm (R388, R390, R391). -/
def wakeBy (cause chan state : Nat) (s : State) : State :=
  match s.sys.power with
  | .nap => exitNap s
  | .standby =>
    if s.sn.wakeCause ≠ 0 then s
    else
      let s := logSource 10 true s
      let s := snUpd (fun k => { k with wakeCause := cause, wakeChan := chan, wakeState := state, wakeUtc := s.rtc.utc }) s
      if s.sn.entryCause = 1 ∧ !pwrReq s then startSequence 5 s.sys.straps true (leaveStandby cause s)
      else snUpd (fun k => { k with pwrOn := k.pwrOn || pwrReq s }) s
  | _ => s

/-- The device sleeps and nothing has woken it yet (R388, R390). -/
def asleep (s : State) : Bool := s.sys.power == .nap || (s.sys.power == .standby && s.sn.wakeCause == 0)

/-- A channel's state changes: it is latched and logged (R397, R399, R400). -/
def chanChange (n new : Nat) (s : State) : State :=
  let c := s.sn.chan.get n
  let woke := inMask s n 4 new && asleep s
  let latch := c.latch || (chanFld s n 14 1 == 1 && inMask s n 8 new)
  let s := snUpd (fun k => { k with chan := k.chan.set n { c with state := new, latch := latch } }) s
  if chanFld s n 15 1 = 0 then s
  else
    let i := (s.sn.newest + 1) % 256
    let flags := bit woke + 2 * bit (senAsserted s != 0)
    snUpd (fun k => { k with
      log := k.log.set i { utc := s.rtc.utc, src := n, old := c.state, new := new, flags := flags, y := (c.y / 256).toNat }
      newest := i, logged := sat32 k.logged }) s

/-- A channel in a state that asserts its output latches it under OUT_LATCH (R399). -/
def latchOuts (s : State) : State :=
  snUpd (fun k => { k with chan := Tab.map k.chan (fun n c => { c with
    latch := c.latch || (chanFld s n 0 1 == 1 && chanFld s n 14 1 == 1 && inMask s n 8 c.state) }) }) s

/-- One sampled channel of a tick: the sample and the class that follows. -/
def tickChan (n v : Nat) (s : State) : State :=
  let k := liveFld s Kind.sn 0 24 3
  let s := snUpd (fun x => { x with chan := x.chan.upd n (fun c => c.sample k v) }) s
  let c := s.sn.chan.get n
  let new := if n < 4 then supClass s n c else if (128 * 256 : Int) ≤ c.y then 2 else 1
  if new = c.state then s else chanChange n new s

/-- The first channel whose state has changed into one of its WAKE_MASK. -/
def wakeChannel (old s : State) : Option Nat :=
  (List.range 8).find? (fun n =>
    let new := (s.sn.chan.get n).state
    (old.sn.chan.get n).state != new && inMask s n 4 new)

/-- VAON at a tick (R398). -/
def tickVaon (mv : Nat) (s : State) : State :=
  let low := decide (mv < 20 * liveFld s Kind.sn 0 40 8)
  let was := s.sn.vaonLow
  let s := snUpd (fun k => { k with vaonMv := mv, vaonLow := low }) s
  if low && !was then raise 2 0xFD [ef 2 mv] (logSource 8 false s) else s

/-- The edges noted since the last tick are logged (R398). -/
def logEdges (s : State) : State :=
  let l := s.sn.edges
  forAll l (fun e s => let n := e.1; if chanFld s n 15 1 = 0 then s else
      let i := (s.sn.newest + 1) % 256
      snUpd (fun k => { k with
        log := k.log.set i { utc := s.rtc.utc, src := n, old := 1, new := 2, flags := bit e.2 + 2 * bit (senAsserted s != 0), y := ((k.chan.get n).y / 256).toNat }
        newest := i, logged := sat32 k.logged }) s) (snUpd (fun k => { k with edges := [] }) s)

/-- SENTINEL_TICK: the 10-bit codes of SUP_IN0 to 3, the levels of SEN_WAKE0 to 3 and VAON in mV. A new SN_CFG takes effect first. -/
def sentinelTickRow (sup : List Nat) (wake : List Bool) (vaon : Nat) (s : State) : State :=
  if s.sys.power == .off then s
  else
    let s := takeDue [Kind.sn] s
    if !senEnable s then s
    else
      let s := latchOuts s
      let old := s
      let sampled := s.sys.power == .standby && liveBit s Kind.sn 0 1 && !s.sn.pairEn
      let s := forRange 4 (fun n s => if sampled && chanFld s n 0 1 == 1 then tickChan n (sup.getD n 0 / 4) s else s) s
      let s := forRange 4 (fun i s =>
        let n := 4 + i
        if chanFld s n 0 1 == 1 && chanFld s n 2 1 == 0 then
          tickChan n (if wake.getD i false != (chanFld s n 1 1 == 1) then 255 else 0) s
        else s) s
      let s := tickVaon vaon (logEdges s)
      match wakeChannel old s with
      | some n => wakeBy 1 n (s.sn.chan.get n).state s
      | none => s

/-- SEN_WAKE_EDGE: an edge of SEN_WAKEn that POL makes active wakes at once (R398). -/
def senEdgeRow (i : Nat) (rising : Bool) (s : State) : State :=
  let n := 4 + i
  let active := rising != (chanFld s n 1 1 == 1)
  if s.sys.power == .off || !(chanFld s n 0 1 == 1 && chanFld s n 2 1 == 1 && active) then s
  else wakeBy 2 n 2 (snUpd (fun k => { k with edges := k.edges ++ [(n, asleep s)] }) s)

/-- RTC_ALARM: the wake UTC that SN_POWER asked for is reached. -/
def rtcAlarmRow (s : State) : State :=
  match s.rtc.alarm with
  | some t => if t ≤ s.rtc.utc then wakeBy 3 0 0 { s with rtc := { s.rtc with alarm := none } } else s
  | none => s

/-- CRYSTAL_FAIL: 4 ms without an edge of X32_IN (R392). -/
def crystalFailRow (s : State) : State :=
  if s.rtc.xtalFail || s.sys.power == .off then s
  else raise 2 0xFE [ef 8 s.rtc.utc] { s with rtc := { s.rtc with xtalFail := true } }

/-- X32_CRYSTAL_RETRY. -/
def crystalRetryRow (ok : Bool) (s : State) : State := if ok then { s with rtc := { s.rtc with xtalFail := false } } else s

/-! ## Other resets (R32, R383, R467) -/

/-- AUTOMATIC_RESTART. -/
def autoRestartRow (s : State) : State :=
  if !restartAllowed s then s
  else
    let s := snUpd (fun k => { k with autoAt := s.rtc.utc :: k.autoAt.filter (fun t => s.rtc.utc < t + 3600 * 32768) }) s
    startSequence 4 s.sys.straps (!s.sys.trimFail) (thUpd (fun t => { t with restarts := sat32 t.restarts }) s)

/-- SYS_RESET_EXECUTE: once a RELINQUISH that stands has been acknowledged or given up (R467). -/
def sysResetRow (s : State) : State :=
  match s.sys.resetDue with
  | none => s
  | some act =>
    if relinquishOut s then s
    else
      let s := startSequence (if act = 2 then 3 else 2) s.sys.straps (!s.sys.trimFail) s
      if act = 1 then enterRecovery s else s

/-- A supervisor reset after an uncorrectable error in SUP's memory (R32). A RELINQUISH that stands is sent first: the reset then waits
for SYS_RESET_EXECUTE (notes/assumptions/35.md). -/
def supervisorReset (s : State) : State :=
  let s := if s.pr.role == .active then releaseDuty .isolated 2 (prUpd (fun r => { r with isolated := true, eligible := false }) s)
    else s
  sysResetRow { s with sys := { s.sys with resetDue := some 2 } }

/-! ## Cards (R405) -/

/-- SN_SET_CFG. -/
def cardSnSetCfg (org : Origin) (_lvl : Nat) (p : List Byte) (s : State) : State × Res :=
  let x := le p 0 40
  let lsIn := cfgImg s Kind.lsIn 0
  ranged (mapped snFields 0 x ++ (List.range 8).flatMap (fun n =>
      let b := 64 + 32 * n
      (if n < 4 then [(!flag x b || flag lsIn (32 * n), 8 + 4 * n)] else []) ++
        [(!(flag x 2 && fld x (b + 12) 2 == 2), 9 + 4 * n)])) s fun _ => journal org true [wr Kind.sn 0 x] [] s

/-- SN_POWER. -/
def cardSnPower (org : Origin) (_lvl : Nat) (p : List Byte) (s : State) : State × Res :=
  let act := le p 0 1
  let alarm := le p 1 1 % 2 == 1
  let utc := le p 8 8
  ranged ([(decide (act ≤ 1), 0), (decide (le p 1 1 ≤ 1), 1)] ++ zero p 2 6 ++ [(!alarm || decide (s.rtc.utc < utc), 8)]) s fun _ =>
    if s.sys.power != .park then (s, .no St.role 0)
    else if !allNormal s then (s, .no St.busy 0)
    else if act == 1 && s.fenced then (s, .no St.fenced 0)
    else
      let s : State := { s with rtc := { s.rtc with alarm := if alarm then some utc else none } }
      if act = 0 then (sysUpd (fun y => { y with napDue := true }) s, .wait .nap)
      else (submit { typ := .snapDone, arg := 3 - s.nv.snapLatest, org := some org } (writeSnapshot (snapshotNow s) s), .wait .journal)

/-- SN_STATUS. -/
def cardSnStatus (_org : Origin) (_lvl : Nat) (_p : List Byte) (s : State) : State × Res :=
  let k := s.sn
  let latched (o : Nat) : Bool := (List.range 8).any (fun n => (k.chan.get n).latch && chanFld s n 12 2 == o + 1)
  let flags := bit s.rtc.valid + 2 * bit s.rtc.xtalFail + 4 * bit k.lostFlag + 8 * bit k.vaonLow
  let states := (List.range 8).foldl (fun x n => x + (k.chan.get n).state % 4 * 4 ^ n) 0
  (s, .ok (leBytes 1 k.entryCause ++ leBytes 1 k.wakeCause ++ leBytes 1 k.wakeChan ++ leBytes 1 flags ++ leBytes 2 states ++
    leBytes 1 (senAsserted s + 4 * (bit (latched 0) + 2 * bit (latched 1)) + 16 * (k.force % 4)) ++ leBytes 1 k.newest ++
    (List.range 8).flatMap (fun n => leBytes 2 ((k.chan.get n).y / 256).toNat) ++ leBytes 2 k.vaonMv ++ leBytes 2 0 ++
    leBytes 8 k.entryUtc ++ leBytes 8 k.wakeUtc ++ leBytes 4 k.logged))

/-- A log entry as SN_GET_LOG returns it. -/
def SnLog.bytes (e : SnLog) : List Byte :=
  leBytes 8 e.utc ++ leBytes 1 e.src ++ leBytes 1 e.old ++ leBytes 1 e.new ++ leBytes 1 e.flags ++ leBytes 2 e.y ++ leBytes 2 0

/-- SN_GET_LOG. -/
def cardSnLog (_org : Origin) (_lvl : Nat) (p : List Byte) (s : State) : State × Res :=
  let first := le p 0 1
  let count := le p 1 1
  ranged ([(decide (1 ≤ count ∧ count ≤ 62), 1)] ++ zero p 2 2) s fun _ =>
    (s, .ok (leBytes 4 count ++ (List.range count).flatMap (fun i => (s.sn.log.get ((first + i) % 256)).bytes)))

/-- SN_OUT. -/
def cardSnOut (_org : Origin) (_lvl : Nat) (p : List Byte) (s : State) : State × Res :=
  let force := le p 0 1
  let clear := le p 1 1
  ranged ([(decide (force ≤ 3) && !(force.testBit 1 && pwrReq s), 0), (decide (clear ≤ 3), 1)] ++ zero p 2 2) s fun _ =>
    (snUpd (fun k => { k with
      force := force
      chan := Tab.map k.chan (fun n c => { c with
        latch := c.latch && !(let o := chanFld s n 12 2; o != 0 && clear.testBit (o - 1)) }) }) s, .ok [])

end Sys2Proof.Machine
end

