-- ==== Sys2Proof/Machine/Host.lean ====
section
/-!
DEFINITION. The host port (19_host_port.md R407 to R437): registers, the read stream of the event queue, releases, the mark, slot
and bulk writes, and the EVQ_ cards.
-/

namespace Sys2Proof.Machine

open Sys2Proof

def portUpd (f : Port → Port) (s : State) : State := { s with port := f s.port }
def mbUpd (f : Mbox → Mbox) (s : State) : State := { s with mb := f s.mb }

/-- A port error is recorded (R414, R415). -/
def portErr (cause : Nat) (s : State) : State := setIrq 8 (portUpd (fun p => { p with hifErr := cause }) s)

/-! ## The read stream (R424 to R430) -/

/-- The items of a stored entry. -/
def entryItems (b : Nat) : QEntry → List U64
  | .packet p => (if p.headless then [] else [headerItem p.typ p.count b p.detail p.seq.toNat]) ++ p.body
  | .overflow n q => [headerItem 2 1 b n q.toNat]

/-- The bench that is read next: the one of a packet that is being read, else the lowest with an unread entry (R424). -/
def readBench (p : Port) : Option Nat :=
  match (List.range 4).find? (fun b => (p.bench.get b).part ≠ 0) with
  | some b => some b
  | none => (List.range 4).find? (fun b => decide ((p.bench.get b).rpos < (p.bench.get b).store.length))

/-- The idle item (R426). -/
def idleItem (p : Port) : U64 := headerItem 0 0 3 0 (p.bench.get 3).next.toNat

/-- The item that the next read of EVQ_PORT returns (R424, R426, R430). -/
def nextItem (p : Port) : U64 :=
  match p.rewindLost with
  | some (b, q) => headerItem 3 1 b 0 q.toNat
  | none =>
    match readBench p with
    | none => idleItem p
    | some b =>
      let q := p.bench.get b
      match q.store[q.rpos]? with
      | some e => (entryItems b e).getD q.part 0
      | none => idleItem p

/-- A bench after one more item of the entry at its read position. -/
def Bench.advance (q : Bench) : Bench :=
  match q.store[q.rpos]? with
  | some e => if e.items ≤ q.part + 1 then { q with rpos := q.rpos + 1, part := 0 } else { q with part := q.part + 1 }
  | none => q

/-- One item is consumed (R410). -/
def consumeItem (s : State) : State :=
  if s.port.rewindLost.isSome then portUpd (fun p => { p with rewindLost := none }) s
  else match readBench s.port with
    | none => s
    | some b => evalWmark (benchUpd b Bench.advance s)

/-- A read of n bytes at EVQ_PORT: whole items are consumed, a last partial one is not (R410). -/
def streamItems : Nat → Nat → State → State × List Byte
  | 0, _, s => (s, [])
  | fuel + 1, n, s =>
    let item := leBytes 8 (nextItem s.port).toNat
    if n = 0 then (s, [])
    else if n < 8 then (s, item.take n)
    else
      let (t, l) := streamItems fuel (n - 8) (consumeItem s)
      (t, item ++ l)

/-- EVQ_CTRL drops the remainder of the current packet, which then counts as read (R427). -/
def dropCurrent (s : State) : State :=
  evalWmark (forRange 4 (fun b => benchUpd b (fun q => if q.part = 0 then q else { q with rpos := q.rpos + 1, part := 0 })) s)

/-- REWIND (R430). -/
def rewind (s : State) : State :=
  if s.port.markValid then evalWmark (forRange 4 (fun b => benchUpd b (fun q => { q with rpos := q.mark, part := 0 })) s)
  else
    let (n, s) := takeFree s
    let lost := s.port.markLost.getD (Config.noMark 0 n % 4, u32 (Config.noMark 1 n))
    let s := forRange 4 (fun b => benchUpd b (fun q => { q with rpos := 0, part := 0 })) s
    evalWmark (portUpd (fun p => { p with rewindLost := some lost }) s)

def QEntry.seq : QEntry → U32
  | .packet p => p.seq
  | .overflow _ q => q

/-- The n oldest entries of a bench, all read, are released; the backlog moves up (R428, R429, R431). -/
def releaseEntries (b n : Nat) (s : State) : State :=
  if n = 0 then s
  else
    let last := ((s.port.bench.get b).store.take n).getLast?
    let s := portUpd (fun p => { p with relErr := false, released := (last.map QEntry.seq).getD p.released }) s
    let s := benchUpd b (fun q => { q with store := q.store.drop n, rpos := q.rpos - n, mark := q.mark - n }) s
    if b ≤ 1 then drainBacklog b 257 s else s

/-- RELEASE_ALL (R427). -/
def releaseAll (s : State) : State := forRange 4 (fun b s => releaseEntries b (s.port.bench.get b).rpos s) s

/-- EVQ_RELEASE (R428): read entries up to the one that SEQ_LO names. -/
def releaseSeq (v : Nat) (s : State) : State :=
  let b := fld v 24 2
  let q := s.port.bench.get b
  let n := if flag v 26 then q.rpos
    else match q.store.findIdx? (fun e => e.seq.toNat % 2 ^ 24 == fld v 0 24) with
      | some j => min q.rpos (j + 1)
      | none => 0
  if n = 0 then portUpd (fun p => { p with relErr := true }) s else releaseEntries b n s

/-- EVQ_CTRL (R427). -/
def evqCtrl (v : Nat) (s : State) : State := when (flag v 1) releaseAll (when (flag v 0) rewind (dropCurrent s))

/-- EVQ_MARK SET (R429). -/
def setMark (s : State) : State :=
  portUpd (fun p => { p with markValid := true, markLost := none })
    (forRange 4 (fun b => benchUpd b (fun q => { q with mark := q.rpos })) s)

/-! ## Slots and doorbell (R438 to R440) -/

def countSlotBusy (s : State) : State := mbUpd (fun m => { m with slotBusy := sat32 m.slotBusy }) s

/-- One slot is rung (R439). -/
def ringSlot (n : Nat) (s : State) : State :=
  if (s.mb.slot.get n).device || s.port.done.toNat.testBit n then countSlotBusy s
  else mbUpd (fun m => { m with slot := m.slot.upd n (fun k => { k with device := true }), rings := m.rings ++ [n] }) s

/-- HIF_DOORBELL: slots are rung in ascending order (R440), and a device in NAP wakes (R390). -/
def ringSlots (v : Nat) (s : State) : State := exitNap (forAll ((List.range 16).filter v.testBit) ringSlot s)

/-- HIF_DONE: the slot goes back to the host (R438). -/
def clearDone (v : Nat) (s : State) : State :=
  let back := (List.range 16).filter (fun n => v.testBit n && s.port.done.toNat.testBit n)
  let s := portUpd (fun p => { p with done := p.done &&& ~~~(u16 v) }) s
  mbUpd (fun m => { m with slot := back.foldl (fun t n => t.upd n (fun k => { k with device := false })) m.slot }) s

/-- The 1 KiB of a slot as bytes: its header (R442), then its payload. -/
def MSlot.header (m : MSlot) : List Byte :=
  leBytes 2 m.opcode.toNat ++ leBytes 2 m.tag.toNat ++ [m.level, m.byte5] ++ leBytes 2 m.len.toNat ++
    leBytes 2 m.status.toNat ++ leBytes 2 m.detail.toNat ++ leBytes 4 m.crc.toNat

/-- n bytes of a slot from an offset on. -/
def MSlot.bytes (m : MSlot) (off n : Nat) : List Byte :=
  let all := m.header ++ m.body
  (List.range n).map (fun i => all.getD (off + i) 0)

/-- Bytes put over a list at an offset, the list grown with zeros where it is too short. -/
def overlay (l : List Byte) (off : Nat) (data : List Byte) : List Byte :=
  l.take off ++ List.replicate (off - l.length) 0 ++ data ++ l.drop (off + data.length)

/-- A host write into slot memory: STATUS and DETAIL are read-only (R442). -/
def MSlot.write (m : MSlot) (off : Nat) (data : List Byte) : MSlot :=
  let h := overlay m.header off (data.take (16 - off))
  let m : MSlot := if 16 ≤ off then m else
    { m with
      opcode := u16 (le h 0 2), tag := u16 (le h 2 2), level := u8 (le h 4 1), byte5 := u8 (le h 5 1), len := u16 (le h 6 2)
      crc := u32 (le h 12 4) }
  let rest := data.drop (16 - off)
  if rest.isEmpty then m else { m with body := (overlay m.body (off - 16) rest).take 1008 }

/-- MAILBOX_SLOT_WRITE (R439). -/
def slotWriteMem (n off : Nat) (data : List Byte) (s : State) : State :=
  if (s.mb.slot.get n).device then countSlotBusy s
  else mbUpd (fun m => { m with slot := m.slot.upd n (fun k => k.write off data) }) s

/-- The commands that take data from the bulk window (R417): PN_LINES, PN_LOAD_TABLE, NV_FW_WRITE, FL_ETH_TX with BULK. -/
def usesBulk (op : Nat) (p : List Byte) : Bool :=
  op == 0x0D03 || op == 0x0D01 || op == 0x0F02 || (op == 0x0403 && le p 1 1 == 1)

/-- The window is locked while such a command of a slot is outstanding. -/
def bulkLocked (s : State) : Bool :=
  s.mb.outst.any (fun o => usesBulk o.opcode o.req && (match o.org with | .slot _ => true | _ => false))

/-- BULK_WINDOW_WRITE (R417). -/
def bulkWrite (off : Nat) (data : List Byte) (s : State) : State :=
  if bulkLocked s then portErr 3 (portUpd (fun p => { p with bulkRefused := sat32 p.bulkRefused }) s)
  else portUpd (fun p => { p with bulk := p.bulk.setMany off data }) s

/-! ## Registers (R412 to R416, R435) -/

def Power.code : Power → Nat
  | .run => 0 | .park => 1 | .nap => 2 | _ => 0

/-- HIF_STATUS (R414). -/
def hifStatus (s : State) : Nat :=
  let back := (List.range 2).any (fun b => !(s.port.bench.get b).backlog.isEmpty)
  bit s.sys.ready + 2 * bit s.sys.restored + 4 * s.pr.role.code + 32 * s.sys.power.code + 128 * bit s.th.hold + 256 * bit s.fenced
    + 512 * bit (s.port.wmark != 0 && decide (s.port.wmark ≤ s.port.unread)) + 1024 * bit back
    + 2048 * bit (bulkLocked s) + 4096 * bit s.port.markValid + 8192 * bit s.port.relErr + 16384 * s.port.hifErr

/-- EVQ_LEVEL (R435). -/
def evqLevel (p : Port) : Nat :=
  min p.unread 0x1FFFF + (List.range 4).foldl (fun x b =>
    x + bit (decide ((p.bench.get b).rpos < (p.bench.get b).store.length)) * 2 ^ (17 + b)) 0

/-- The value of a register (R412); what the map does not hold reads as 0 (R410), and WO fields too (R11). -/
def regRead (a : Nat) (s : State) : Nat :=
  match a with
  | 0x000 => 0x9640 + Config.siliconRev.toNat * 2 ^ 16 + ilMax s * 2 ^ 20 + bit s.sys.recovery * 2 ^ 22 + bit (pairId s) * 2 ^ 23
  | 0x004 => hifStatus s
  | 0x008 => s.port.irqStat.toNat
  | 0x00C => s.port.irqMask.toNat
  | 0x014 => s.port.done.toNat
  | 0x814 => evqLevel s.port
  | 0x818 => s.port.wmark
  | 0x81C => 2 * bit s.port.markValid
  | _ => 0

/-- HIF_IRQ_STAT, W1C (R415). -/
def clearIrq (v : Nat) (s : State) : State := portUpd (fun p => { p with irqStat := p.irqStat &&& ~~~(u32 v) }) s

/-- EVQ_WMARK (R435). -/
def setWmark (v : Nat) (s : State) : State := evalWmark (portUpd (fun p => { p with wmark := v % 2 ^ 17 }) s)

/-- A whole aligned word is written to a register (R410). -/
def regWrite (a v : Nat) (s : State) : State :=
  match a with
  | 0x008 => clearIrq v s
  | 0x00C => portUpd (fun p => { p with irqMask := u32 (v % 2 ^ 10) }) s
  | 0x010 => ringSlots v s
  | 0x014 => clearDone v s
  | 0x810 => evqCtrl v s
  | 0x818 => setWmark v s
  | 0x81C => when (flag v 0) setMark s
  | 0x820 => releaseSeq v s
  | _ => s

/-! ## Transactions (R408 to R411) -/

/-- The port is powered (R387): in STANDBY and OFF the dies are off. -/
def portOn (s : State) : Bool := s.sys.power != .standby && s.sys.power != .off

/-- The port answers: the supervisor is up (R411). Before that reads return all ones, and rings are latched (R440, R474). -/
def portUp (s : State) : Bool := portOn s && s.sys.ready

/-- Whether a write of `n` bytes at `a` holds a partial or misaligned register word (R410): its first or its last piece below
0x1000 is not a whole aligned word. EVQ_PORT and its three ignored words record nothing. -/
def partialWord (a n : Nat) : Bool :=
  let e := a + n
  let bad := fun (x : Nat) => decide (x < 0x1000 ∧ x % 4 ≠ 0 ∧ ¬ (0x800 ≤ x ∧ x < 0x810))
  n != 0 && (bad a || bad e)

/-- EVQ_GET_STATS counts a write with a misaligned or partial word once (R437). -/
def countMisaligned (a n : Nat) (s : State) : State :=
  if partialWord a n then portUpd (fun p => { p with lenErrs := sat32 p.lenErrs }) s else s

/-- A write of bytes at an address (R410): register words, then slots, the gap, the bulk window. -/
def writeAt : Nat → Nat → List Byte → State → State
  | 0, _, _, s => s
  | fuel + 1, a, d, s =>
    if d.isEmpty then s
    else if a < 0x1000 then
      let n := 4 - a % 4
      let w := d.take n
      let s := if 0x800 ≤ a ∧ a < 0x810 then s
        else if n = 4 ∧ w.length = 4 then regWrite a (leNat w) s else portErr 4 s
      writeAt fuel (a + n) (d.drop n) s
    else if a < 0x5000 then
      let off := (a - 0x1000) % 0x400
      let n := 0x400 - off
      writeAt fuel (a + n) (d.drop n) (slotWriteMem ((a - 0x1000) / 0x400) off (d.take n) s)
    else if a < 0x10000 then writeAt fuel 0x10000 (d.drop (0x10000 - a)) s
    else if a < 0x20000 then bulkWrite (a - 0x10000) (d.take (0x20000 - a)) s
    else s

/-- A write transaction's data take effect; in NAP only a doorbell reaches the device's other parts (R390). -/
def hostWrite (a : Nat) (d : List Byte) (s : State) : State :=
  if portOn s then writeAt (d.length + 1) a d (countMisaligned a d.length s) else s

/-- One byte that a read returns; a read that came from below EVQ_PORT returns 0 from there on (R410). -/
def byteAt (start a : Nat) (s : State) : Byte :=
  if start < 0x800 ∧ 0x800 ≤ a then 0
  else if a < 0x1000 then u8 (regRead (a / 4 * 4) s / 256 ^ (a % 4))
  else if a < 0x5000 then ((s.mb.slot.get ((a - 0x1000) / 0x400)).bytes ((a - 0x1000) % 0x400) 1).headD 0
  else if 0x10000 ≤ a ∧ a < 0x20000 then s.port.bulk.get (a - 0x10000)
  else 0

/-- The bytes of a read transaction (R410); all ones before the port answers (R411). -/
def hostRead (a n : Nat) (s : State) : State × List Byte :=
  if !portUp s then (s, List.replicate n 0xFF)
  else if a = 0x800 then streamItems (n / 8 + 1) n s
  else (s, (List.range n).map (fun i => byteAt a (a + i) s))

/-- What a transaction drives. -/
def drive (r : State × List Byte) : State := portUpd (fun p => { p with out := r.2 }) r.1

/-- READ and QREAD. -/
def readRow (a n : Nat) (s : State) : State := drive (hostRead a n s)

/-- WRITE and QWRITE. -/
def writeRow (a : Nat) (d : List Byte) (s : State) : State := hostWrite a d (drive (s, []))

/-- The bytes that the CRC covers before the data (R409): instruction, address and LEN, most significant byte first. -/
def crcHead (code a len : Nat) : List Byte := u8 code :: (leBytes 3 a).reverse ++ (leBytes 2 len).reverse

def crcOf (code a len : Nat) (d : List Byte) : Nat := crc16 (crcHead code a len ++ d)

/-- LEN of a CRC transaction (R408). -/
def lenOk (len : Nat) : Bool := decide (4 ≤ len ∧ len ≤ 1024) && len % 4 == 0

/-- A CRC transaction is discarded: cause 1 or 2; the CRC error counter counts both (R409), the other one lengths (R437). -/
def crcRefused (cause : Nat) (s : State) : State :=
  portErr cause (portUpd (fun p => { p with
    crcErrs := sat32 p.crcErrs, lenErrs := if cause = 2 then sat32 p.lenErrs else p.lenErrs }) s)

/-- READ_CRC and QREAD_CRC (R409): LEN bytes, then the CRC. A LEN that R408 does not allow drives nothing. -/
def readCrcRow (code a len : Nat) (s : State) : State :=
  if !portUp s then drive (s, List.replicate (len + 2) 0xFF)
  else if !lenOk len then crcRefused 2 (drive (s, []))
  else
    let (t, d) := hostRead a len s
    drive (t, d ++ (leBytes 2 (crcOf code a len d)).reverse)

/-- WRITE_CRC and QWRITE_CRC (R409): acted on whole when HOST_CS_N rises, or discarded. -/
def writeCrcRow (code a len : Nat) (d : List Byte) (crc : U16) (s : State) : State :=
  let s := drive (s, [])
  if !portOn s then s
  else if !lenOk len || d.length != len then crcRefused 2 s
  else if crcOf code a len d != crc.toNat then crcRefused 1 s
  else hostWrite a d s

/-- BAD_INSTRUCTION (R408); the codes of the table are no bad ones. -/
def badInstructionRow (code : Nat) (s : State) : State :=
  if !portOn s || [0x0B, 0x02, 0x1B, 0x12, 0xEB, 0x38, 0xEC, 0x3E].contains code then s else portErr 5 (drive (s, []))

/-- HOST_IRQ_N and HQ_RDY (R407): both are functions of the port. -/
def hostIrqN (s : State) : Bool := s.port.irqStat &&& s.port.irqMask == 0
def hqRdy (s : State) : Bool := s.port.rewindLost.isSome || (readBench s.port).isSome

/-! ## Cards (R436, R437) -/

/-- EVQ_SET_CFG. -/
def cardEvqSetCfg (org : Origin) (_lvl : Nat) (p : List Byte) (s : State) : State × Res :=
  let x := le p 0 8
  ranged (mapped evqFields 0 x) s fun _ => journal org true [wr Kind.evq 0 x] [] s

/-- EVQ_GET_STATS. -/
def cardEvqStats (_org : Origin) (_lvl : Nat) (_p : List Byte) (s : State) : State × Res :=
  let q (b : Nat) : Bench := s.port.bench.get b
  (s, .ok ((List.range 4).flatMap (fun b =>
      leBytes 4 (q b).next.toNat ++ leBytes 4 (itemsOf (q b).store) ++ leBytes 4 (q b).spoil ++ leBytes 4 (q b).written) ++
    [s.port.crcErrs, s.port.lenErrs, s.port.bulkRefused].flatMap (leBytes 4) ++
    leBytes 2 (q 0).backlog.length ++ leBytes 2 (q 1).backlog.length))

end Sys2Proof.Machine
end

