-- ==== Sys2Proof/Machine/Memory.lean ====
section
/-!
DEFINITION. Memory errors and the die bridge (01_architecture.md R18, R30 to R32, 03_point_store.md R86): the patrol scrubber,
quarantine, and the rewriting of damaged records at the next cycle boundary. The places of records in the Tables region and in
the panel planes are those of notes/assumptions/35.md.
-/

namespace Sys2Proof.Machine

open Sys2Proof

/-! ## The die bridge (R18) -/

/-- BRIDGE_WATCHDOG and BRIDGE_BAD_FRAMES: BRIDGE_LOST; every gate goes off, and the role settles without duty. That a reset alone
restores the bridge is the model's choice (notes/assumptions/35.md). -/
def bridgeLoss (s : State) : State :=
  if s.sys.bridgeLost || !portOn s then s
  else raise 2 0x10 [] (coilSafe true (sysUpd (fun y => { y with bridgeLost := true }) s))

/-! ## Quarantine (R32, R86) -/

def arrUpd (pa : Nat) (f : PArray → PArray) (s : State) : State := { s with pts := { s.pts with arr := s.pts.arr.upd pa f } }

/-- The local commandable points that own a priority array. -/
def arrayOwners (s : State) (pa : Nat) : List Nat :=
  ((recsIn s.live Kind.point).filter (fun e => localCmd e.2 && fld e.2 100 14 == pa)).map (·.1)

/-- A point record: FAULT, and VALUE is lost where its word is the damaged one; the lost VALUE fits the format (R64). -/
def damagePoint (w : Nat) (s : State) : State :=
  let pn := w / 4
  if !ptConfigured s pn then s
  else
    let s := updatePoint pn false { cause := 2 } (fun p => { p with fault := true, quarantined := true }) s
    if w % 4 = 0 then
      let (n, s) := takeFree s
      let v := Config.damagedValue pn n
      { s with pts := { s.pts with pt := s.pts.pt.upd pn (fun p => { p with value := if fitsFormat (ptFormat s pn) v then v else 0 }) } }
    else s

/-- A priority array: its points show FAULT. -/
def damageArray (pa : Nat) (s : State) : State :=
  forAll (arrayOwners s pa) (fun pn => updatePoint pn false { cause := 2 } (fun p => { p with fault := true }))
    (arrUpd pa (fun a => { a with quarantined := true }) s)

/-- A loop's program, state or descriptor: its scans are discarded, and none begins until it is reloaded (R162). -/
def damageLoop (ln : Nat) (s : State) : State :=
  if !loopConfigured s ln then s
  else
    dropScans ln (loopUpd ln (fun k => { k with quarantined := true }) s)

/-- A word of the panel planes: the tile that holds it shows a mismatch (R304). The planes lie in the order of R292. -/
def damagePlane (w : Nat) (s : State) : State :=
  if w < 71680 then pnUpd (fun p => { p with badTarget := p.badTarget ++ (List.range 16).map (· + 16 * w) }) s
  else if w < 143360 then pnUpd (fun p => { p with badOther := p.badOther ++ (List.range 16).map (· + 16 * (w - 71680)) }) s
  else if w < 286720 then pnUpd (fun p => { p with badAcc := p.badAcc ++ (List.range 8).map (· + 8 * (w - 143360)) }) s
  else
    let groups := ((s.pn.pend.filter (fun e => e.2.isSome)).map (fun e => e.1 / 8)).eraseDups
    match groups[w - 286720]? with
    | some g => pnUpd (fun p => { p with badOther := p.badOther ++ (List.range 8).map (· + 8 * g) }) s
    | none => s

/-- Drop item i of an entry; an OVERFLOW item goes whole. -/
def QEntry.dropItem (i : Nat) : QEntry → Option QEntry
  | .overflow _ _ => none
  | .packet p =>
    if p.headless then some (.packet { p with body := p.body.eraseIdx i })
    else if i = 0 then some (.packet { p with headless := true })
    else some (.packet { p with body := p.body.eraseIdx (i - 1) })

/-- The entry and the item within it that lie o items from the oldest stored one. -/
def itemPlace : List QEntry → Nat → Nat → Option (Nat × Nat)
  | [], _, _ => none
  | e :: r, j, o => if o < e.items then some (j, o) else itemPlace r (j + 1) (o - e.items)

/-- An item of the event queue: it is discarded and counted, its packet is delivered without it. Which item a word holds is the model's
choice: a bench's words count its items from the oldest stored one (notes/assumptions/35.md). -/
def damageItem (b o : Nat) (s : State) : State :=
  let q := s.port.bench.get b
  match itemPlace q.store 0 o with
  | none => s
  | some (j, i) =>
    match q.store[j]? with
    | none => s
    | some e =>
      let gone (q : Bench) : Bench :=
        { q with store := q.store.eraseIdx j, part := if j = q.rpos then 0 else q.part
                 rpos := if j < q.rpos then q.rpos - 1 else q.rpos, mark := if j < q.mark then q.mark - 1 else q.mark }
      let f (q : Bench) : Bench :=
        match e.dropItem i with
        | none => gone q
        | some k =>
          if k.items = 0 then gone q
          else
            let part := if j = q.rpos ∧ i < q.part then q.part - 1 else q.part
            if j = q.rpos ∧ k.items ≤ part then { q with store := q.store.set j k, rpos := q.rpos + 1, part := 0 }
            else { q with store := q.store.set j k, part := part }
      evalWmark (benchUpd b (fun q => f { q with spoil := sat32 q.spoil }) s)

/-- A device-table entry is unbound, and its points turn STALE. -/
def damageDev (dv : Nat) (s : State) : State :=
  match (s.dev dv).state with
  | .free => s
  | .discovered => devUpd dv (fun _ => {}) s
  | _ =>
    let s := abandonReqs dv false s
    devUpd dv (fun d =>
      let d := if devStatic s dv then d else clearAddress d
      { d with state := .seeking, staleDue := true }) s

/-- A record of the Tables region: zones, areas, the calendar, bindings, shadows, in this order. -/
def damageTable (w : Nat) (s : State) : State :=
  if w < 8192 then takeEffect Kind.zone (w / 2) s
  else if w < 8320 then areaUpd ((w - 8192) / 2) (fun a => { a with quarantined := true }) s
  else if w < 16512 then
    let slot := (w - 8320) / 2
    match s.cal.entries.find? (fun e => e.slot == slot) with
    | some e => raise 2 0x12 [ef 2 slot] (calRemove e s)
    | none => s
  else if w < 24704 then takeEffect Kind.binding ((w - 16512) / 2) s
  else if w < 41088 then
    { s with pts := { s.pts with shadow := s.pts.shadow.set ((w - 24704) / 2) {} } }
  else s

/-- Retention SRAM: the record that holds the word is lost (R393, R394). -/
def damageRetention (w : Nat) (s : State) : State :=
  let lose (n : Nat) (f : State → State) : State :=
    snUpd (fun k => { k with lost := if k.lost.contains n then k.lost else k.lost ++ [n] }) (f s)
  if w < 8 then lose 0 (fun s =>
    let passed := (List.range 4).filter (fun b => s.sn.past.get b != 0 && !s.nv.passed.contains b)
    let s := nvUpd (fun n => { n with passed := n.passed ++ passed }) s
    snUpd (fun k => { k with entryCause := 0, wakeCause := 0, wakeChan := 0, wakeState := 0, entryUtc := 0, wakeUtc := 0, entryVaon := 0, past := [] }) s)
  else if w < 16 then lose 1 (snUpd (fun k => { k with trip := none, autoAt := [] }))
  else if w < 24 then lose 2 (snUpd (fun k => { k with handed := [] }))
  else if w < 56 then lose 3 (snUpd (fun k => { k with chan := k.chan.set ((w - 24) / 4) {} }))
  else if w < 128 then lose 4 (fun s =>
    pnUpd (fun p => { p with rebuild := if p.recover_.isEmpty then p.rebuild else 1 })
      (snUpd (fun k => { k with panel := [], panelDone := [] }) s))
  else if w < 512 then lose 5 id
  else lose 6 (snUpd (fun k => { k with log := k.log.set ((w - 512) / 2) {} }))

/-- The action for a region (R32), by its code. -/
def damage (region w : Nat) (s : State) : State :=
  match region with
  | 0 => damagePoint w s
  | 1 => damageArray (w / 16) s
  | 2 => damageLoop (w / 64) s
  | 3 => damageLoop (w / 16) s
  | 4 => damagePlane w s
  | 5 =>
    if w < 8192 then damageItem 0 w s else if w < 16384 then damageItem 1 (w - 8192) s
    else if w < 32768 then damageItem 2 (w - 16384) s else damageItem 3 (w - 32768) s
  | 6 => damageDev (w / 16) s
  | 7 => damageTable w s
  | 8 => supervisorReset s
  | 10 => damageLoop (w / 2) s
  | 12 => damageMicro w s
  | 13 => keyUpd (w / 2) (fun x => { x with quarantined := true }) s
  | 15 => damageRetention w s
  -- 9 MRAM, 11 and 14 reloaded from MRAM, 16 the sentinel's program: nothing that the model holds changes
  | _ => s

/-- A double-bit error in storage: MEM_UE, then the region's action (R32). -/
def memUe (region w : Nat) (s : State) : State :=
  damage region w (raise 2 0x11 [ef 1 region, ef 4 w] (sysUpd (fun y => { y with memUe := sat32 y.memUe }) s))

/-- The counter of a single-bit error (R31). -/
def eccIndex (region : Nat) : Nat := if region ≤ 9 then region else 12

/-! ## The patrol (R30) -/

/-- The words of the regions of main SRAM, in the order of R21. -/
def regionWords : List Nat := [524288, 262144, 524288, 131072, 327680, 65536, 65536, 65536, 131072]

/-- The region of a word of main SRAM, and its index there. -/
def scrubPlace (w : Nat) : Nat × Nat :=
  let rec go : Nat → Nat → List Nat → Nat × Nat
    | r, w, n :: l => if w < n then (r, w) else go (r + 1) (w - n) l
    | r, w, [] => (r, w)
  go 0 w regionWords

/-- The scrubber runs: not in NAP, STANDBY or OFF (R30). -/
def scrubs (s : State) : Bool := portOn s && s.sys.power != .nap

/-- One word has been read: clean, corrected and counted, or damaged (R31, R32). -/
def wordRead (region w : Nat) (res : EccResult) (s : State) : State :=
  match res with
  | .clean => s
  | .single => sysUpd (fun y => { y with ecc := Tab.upd y.ecc (eccIndex region) sat32 }) s
  | .double => memUe region w s

/-- A word in transit (R23): a correction, or an error whose second fetch is clean. -/
def pathRead (res : EccResult) (s : State) : State :=
  match res with
  | .clean => s
  | .single => sysUpd (fun y => { y with ecc := Tab.upd y.ecc 10 sat32 }) s
  | .double => sysUpd (fun y => { y with ecc := Tab.upd y.ecc 11 sat32 }) s

/-- PATROL_SCRUB: the next word of main SRAM, or a word that a consumer or another memory's check has read (`found`, by region code
and word); code 17 stands for a word in transit (notes/assumptions/35.md). -/
def patrolRow (found : Option (Nat × Nat)) (res : EccResult) (s : State) : State :=
  match found with
  | none =>
    if !scrubs s then s
    else
      let (r, w) := scrubPlace s.sys.scrub
      wordRead r w res (sysUpd (fun y => { y with scrub := (y.scrub + 1) % 2097152 }) s)
  | some (r, w) =>
    if !portOn s && r != 15 then s
    else if r = 17 then pathRead res s else wordRead r w res s

/-! ## The rewriting of damaged records (R32, R86) -/

/-- A point record is rewritten: its configuration from MRAM, a local commandable point is resolved, a field point is read again. -/
def rewritePoint (pn : Nat) (s : State) : State :=
  let s := takeEffect Kind.point pn { s with pts := { s.pts with pt := s.pts.pt.upd pn (fun p => { p with quarantined := false }) } }
  let k := ptKind s pn
  if ptLocalCmd s pn then resolve pn s
  else if (k == 3 || k == 4) && (s.dev (ptDv s pn)).state == .bound then
    pump (queueReq { dv := ptDv s pn, kind := .read [pn] none } s)
  else s

/-- A priority array is rewritten: every slot null, the cascade asserts again at this boundary. -/
def rewriteArray (pa : Nat) (s : State) : State :=
  let s := arrUpd pa (fun _ => {}) s
  let s : State := { s with ls := { s.ls with reassert := true } }
  forAll (arrayOwners s pa) (fun pn s => when (ptBit s pn 45) (markDirty 3 pa) (resolve pn s)) s

/-- At the next cycle boundary: loops are reloaded by `loopReloadBoundary`. -/
def memoryBoundary (s : State) : State :=
  let s := forAll (List.map (·.1) (s.pts.pt.filter (fun e => e.2.quarantined))) rewritePoint s
  let s := forAll (List.map (·.1) (s.pts.arr.filter (fun e => e.2.quarantined))) rewriteArray s
  let s := forAll (List.map (·.1) (s.ls.area.filter (fun e => e.2.quarantined))) (fun an s =>
    areaUpd an (fun a => { a with quarantined := false }) (takeEffect Kind.area an s)) s
  let s := forAll (List.map (·.1) (s.ky.key.filter (fun e => e.2.quarantined))) (fun k s =>
    keyUpd k (fun x => { x with quarantined := false }) s) s
  { s with cb := { s.cb with badEntry := [] } }

end Sys2Proof.Machine
end

