-- ==== Sys2Proof/Machine/Mailbox.lean ====
section
/-!
DEFINITION. The mailboxes (20_mailbox.md R438 to R455) and the table of assigned opcodes (21_commands.md R456, R457, R461): what is
checked at the take, the order of execution, HELLO, and the rules that follow every step.
-/

namespace Sys2Proof.Machine

open Sys2Proof

/-! ## HELLO (R446, R452, R453) -/

/-- The epoch of a tag (R442). -/
def epochOf (tag : Nat) : Nat := tag / 4096 % 16

/-- An outstanding command of a slot, other than the one of `org`. -/
def Outst.isSlot (o : Outst) : Bool := match o.org with | .slot _ => true | .timed _ => false

/-- HELLO. -/
def cardHello (org : Origin) (_lvl : Nat) (p : List Byte) (s : State) : State × Res :=
  let lo := le p 0 1
  let hi := le p 1 1
  ranged ([(lo != 0, 0), (decide (hi ≤ 3), 1), (decide (lo ≤ hi), 1)] ++ zero p 2 2) s fun _ =>
    let il := ilMax s
    let lvl := min hi il
    if !s.sys.recovery && decide (lvl < lo) then (s, .no St.badLevel (il + 16 * s.mb.level))
    else
      let ep := epochOf (((s.mb.outst.find? (fun o => o.org == org)).map (·.tag)).getD 0)
      let others := s.mb.outst.filter (fun o => o.org != org && o.isSlot)
      let gone := if s.mb.epoch = some ep then [] else others.filter (fun o => epochOf o.tag != ep && !o.late)
      let mask := others.foldl (fun m o => m ||| 2 ^ epochOf o.tag) 0
      let m := imgSlot s s.nv.running
      let resp := leBytes 1 lvl ++ leBytes 1 il ++ leBytes 1 (headFld m 74 2) ++
        leBytes 1 (bit s.mb.epoch.isNone + 2 * bit (!gone.isEmpty)) ++ leBytes 2 gone.length ++ leBytes 2 mask ++
        leBytes 8 Config.ownFingerprint.toNat ++ leBytes 4 (headFld m 32 32) ++ leBytes 4 s.nv.gen.toNat ++
        leBytes 1 s.pr.role.code ++ leBytes 3 0
      (mbUpd (fun b => { b with
        epoch := some ep, level := lvl
        outst := b.outst.map (fun o => if gone.contains o then { o with late := true } else o) }) s, .ok resp)

/-! ## The assigned opcodes (R457) -/

/-- An assigned opcode: the payload length it needs, computed from its count fields (R444 check 9; the first argument is LEN), its
Since level, whether it writes a journal record, and whether it may run as a timed command (R461). -/
structure Card where
  op : Nat
  need : Nat → List Byte → Nat
  body : Origin → Nat → List Byte → State → State × Res
  since : Nat := 1
  journals : Bool := false
  timed : List Byte → Bool := fun _ => true

/-- A request of a fixed length. -/
def fixed (n : Nat) : Nat → List Byte → Nat := fun _ _ => n

/-- A command that reads or acts. -/
def act (op n : Nat) (body : Origin → Nat → List Byte → State → State × Res) : Card := { op := op, need := fixed n, body := body }

/-- A command marked "Advances" or "Local": it journals and never runs timed (R461). -/
def jcard (op : Nat) (need : Nat → List Byte → Nat) (body : Origin → Nat → List Byte → State → State × Res) : Card :=
  { op := op, need := need, body := body, journals := true, timed := fun _ => false }

def never : List Byte → Bool := fun _ => false

/-- A base length and COUNT records of a size, COUNT in n bytes at an offset. -/
def counted (base off n size : Nat) : Nat → List Byte → Nat := fun _ p => base + size * le p off n

/-- CFG_LOAD: COUNT records of TABLE's size; a TABLE outside 1 to 7 fits any LEN of at least 16. -/
def needLoad : Nat → List Byte → Nat := fun len p =>
  let t := le p 0 1
  if 1 ≤ t ∧ t ≤ 7 then 16 + le p 8 2 * imgBytes (tableKind t) else max 16 len

/-- CFG_READ. -/
def needRead : Nat → List Byte → Nat := fun len p => let t := le p 0 1; if 1 ≤ t ∧ t ≤ 7 then 10 else max 10 len

/-- FL_ETH_TX: the frame, or its place in the bulk window. -/
def needEthTx : Nat → List Byte → Nat := fun _ p => if le p 1 1 = 1 then 8 else 4 + le p 2 2

/-- AD_JIG: a table with action 1. -/
def needJig : Nat → List Byte → Nat := fun _ p => if le p 1 1 = 1 then 8 + 4 * le p 2 1 else 8

/-- Assigned opcodes that MT_TIMED may embed (its card): all but HELLO, MT_TIMED and MT_CANCEL. -/
def mtCard (known : Nat → Bool) : Card :=
  { op := 0x0202, need := fun _ p => 28 + le p 18 2, body := cardMtTimed known }

/-- Blocks 0x00 and 0x01. -/
def sysCards : List Card :=
  [act 0x0001 4 cardHello, act 0x0100 0 cardIdentify, act 0x0101 4 cardSysReset, act 0x0102 16 cardSysTime,
   { act 0x0103 4 cardCfgOpen with timed := never },
   { op := 0x0104, need := needLoad, body := cardCfgLoad, timed := never },
   jcard 0x0105 (fixed 12) cardCfgCommit,
   { act 0x0106 0 cardCfgAbort with timed := never },
   { op := 0x0107, need := needRead, body := cardCfgRead, since := 2 },
   act 0x0108 0 cardCfgInfo, act 0x0109 4 cardGetStats, act 0x010A 4 cardStatsClear]

/-- Blocks 0x02 and 0x03 but for MT_TIMED. -/
def pointCards : List Card :=
  [jcard 0x0200 (fixed 16) cardMtSetCfg, act 0x0201 0 cardMtStatus, act 0x0203 2 cardMtCancel,
   act 0x0300 8 cardPtRead, act 0x0301 12 cardPtWrite, act 0x0302 12 cardPaWrite, act 0x0303 4 cardPaRead, act 0x0304 4 cardPaShadows]

/-- Blocks 0x04 and 0x05. -/
def fieldCards : List Card :=
  [jcard 0x0400 (fixed 36) cardSetEth, jcard 0x0401 (fixed 20) cardSetTrunk, act 0x0402 1 cardLinkStatus,
   { op := 0x0403, need := needEthTx, body := cardEthTx }, act 0x0404 6 cardMdio,
   { op := 0x0405, need := counted 6 4 2 1, body := cardTrunkTx },
   jcard 0x0500 (fixed 16) cardPaSetCfg, jcard 0x0501 (fixed 16) cardPaSetClass, jcard 0x0502 (fixed 132) cardPaSetDev,
   act 0x0503 2 cardPaGetDev, act 0x0504 2 cardPaRebind, act 0x0505 4 cardPaReadNow]

/-- Blocks 0x06 and 0x07. -/
def loopCards : List Card :=
  [jcard 0x0600 (fun _ p => 148 + 8 * fld (le p 4 16) 48 7) cardSetLoop, act 0x0601 2 cardGetLoop, jcard 0x0602 (fixed 8) cardLpEnable,
   { op := 0x0603, need := counted 8 3 1 8, body := cardSetReg, journals := true, timed := fun p => !(u8 (le p 4 1)).getLsbD 0 },
   act 0x0604 4 cardLane, act 0x0605 0 cardLpStats,
   jcard 0x0700 (fixed 52) cardSetArea, jcard 0x0701 (counted 8 1 1 8) cardSetTrig, jcard 0x0702 (counted 8 2 2 8) cardSetResp,
   jcard 0x0703 (counted 8 2 2 4) cardSetVal, jcard 0x0704 (fixed 32) cardSetIn, act 0x0705 4 cardLsMode]

/-- Blocks 0x08 and 0x09. -/
def coilCards : List Card :=
  [jcard 0x0800 (fixed 148) cardSetBank, act 0x0801 1 cardGetDiag, act 0x0802 4 cardRunDiag, act 0x0803 4 cardCbClear,
   jcard 0x0900 (counted 8 2 2 4) cardCsLoad, jcard 0x0901 (fixed 16) cardSetEntry, jcard 0x0902 (fixed 40) cardSetChan,
   act 0x0903 12 cardCsEvent, act 0x0904 4 cardCsStop, act 0x0905 1 cardGetChan]

/-- Blocks 0x0A to 0x0C. -/
def outCards : List Card :=
  [jcard 0x0A00 (fixed 176) cardSetConv, jcard 0x0A01 (fixed 4) cardSetGroup, act 0x0A02 4 cardAdRead, act 0x0A03 10 cardAdInject,
   { op := 0x0A04, need := needJig, body := cardAdJig, journals := true, timed := fun p => le p 1 1 != 1 },
   act 0x0A05 1 cardAdStats,
   jcard 0x0B00 (fixed 36) cardSetFan, act 0x0B01 0 cardFanStatus, act 0x0B02 4 cardFanClear,
   jcard 0x0C00 (fixed 8) cardKySetCfg, jcard 0x0C01 (counted 8 2 2 16) cardKySetKeys, act 0x0C02 0 cardKyState]

/-- Blocks 0x0D and 0x0E. -/
def panelCards : List Card :=
  [jcard 0x0D00 (fixed 16) cardPnSetCfg, jcard 0x0D01 (fixed 4) cardPnTable, act 0x0D02 12 cardPnOpen, act 0x0D03 12 cardPnLines,
   act 0x0D04 4 cardPnStart, act 0x0D05 4 cardPnDiscard, act 0x0D06 0 cardPnStatus,
   jcard 0x0E00 (fixed 8) cardPrSetCfg, jcard 0x0E01 (fixed 8) cardPrBond, act 0x0E02 4 cardPrRole, act 0x0E03 0 cardPrStatus]

/-- Blocks 0x0F to 0x12. -/
def storeCards : List Card :=
  [act 0x0F00 0 cardNvStatus, { act 0x0F01 0 cardNvSnapshot with journals := true }, act 0x0F02 12 cardFwWrite,
   { act 0x0F03 4 cardFwActivate with journals := true }, { act 0x0F04 0 cardFwConfirm with journals := true },
   jcard 0x1000 (fixed 8) cardThSetCfg, act 0x1001 0 cardThStatus,
   jcard 0x1100 (fixed 40) cardSnSetCfg, { act 0x1101 16 cardSnPower with journals := true }, act 0x1102 0 cardSnStatus,
   act 0x1103 4 cardSnLog, act 0x1104 4 cardSnOut,
   jcard 0x1200 (fixed 8) cardEvqSetCfg, act 0x1201 0 cardEvqStats]

def otherCards : List Card :=
  sysCards ++ pointCards ++ fieldCards ++ loopCards ++ coilCards ++ outCards ++ panelCards ++ storeCards

/-- The opcodes that MT_TIMED may embed. -/
def embeddable (op : Nat) : Bool := op != 0x0001 && op != 0x0203 && otherCards.any (fun c => c.op == op)

/-- The card of an opcode, none where it is unassigned (R456). -/
def cardOf (op : Nat) : Option Card :=
  if op = 0x0202 then some (mtCard embeddable) else otherCards.find? (fun c => c.op == op)

/-- The commands of RECOVERY mode (R476). -/
def recoveryCards : List Nat := [0x0001, 0x0100, 0x0101, 0x0F00, 0x0F02, 0x0F03]

/-- The card of an opcode as the device serves it now. -/
def servedCard (s : State) (op : Nat) : Option Card := if s.sys.recovery && !recoveryCards.contains op then none else cardOf op

/-! ## The dispatch of MT-keyed entries (R48 to R50) -/

/-- An MT-keyed entry goes to its owner. -/
def dispatchEntry (e : CalEntry) (late : Bool) (s : State) : State :=
  let s := calRemove e s
  let s := when late (mtUpd (fun m => { m with lateCount := sat32 m.lateCount })) s
  match e.job with
  | .coil ev => dispatchCoil ev s
  | .inject mask =>
    (triggerMask .calendar { late := late, report := if mask.testBit 4 then some e.handle else none } (mask % 16) s).2
  | .timed _ _ _ _ => s

/-- Every MT-keyed entry whose MT is reached, in MT order; the bound is the number of entries. -/
def dispatchDue : Nat → State → State
  | 0, s => s
  | fuel + 1, s =>
    match dueEntry s with
    | some (e, t) => dispatchDue fuel (dispatchEntry e (isLate s t) s)
    | none => s

def dispatchAll (s : State) : State := dispatchDue s.cal.entries.length s

/-! ## Execution (R441, R448, R474) -/

/-- Commands that complete at their take and wait for no other (R453, R469). -/
def atTake : List Nat := [0x0001, 0x0100, 0x0102, 0x0107, 0x0108, 0x0109]
/-- Commands served before CFG_RESTORED sets (R474). -/
def early : List Nat := [0x0001, 0x0100, 0x0102, 0x0F00]

/-- A command that creates an MT-keyed calendar entry (R474): CS_EVENT, AD_INJECT with AT. -/
def mtKeyed (o : Outst) : Bool := o.opcode == 0x0903 || (o.opcode == 0x0A03 && (le o.req 1 1).testBit 0)

/-- An earlier command stands in the way of a later one (R441): one of the same block that waits on its record, its apply or its own
turn; or one that has still to submit its journal record before the later one may submit its own (R361). -/
def blocks (e : Outst) (o : Outst) (journals : Bool) : Bool :=
  (e.opcode / 256 == o.opcode / 256 && (e.wait == .journal || e.wait == .cfgApply || e.wait == .held)) ||
  (journals && e.wait == .held && (cardOf e.opcode).any (·.journals))

/-- A command that has been taken may execute; one that would create an MT-keyed entry waits for role negotiation, and for the cycle
count that is to be adopted (R40). -/
def mayRun (s : State) (earlier : List Outst) (o : Outst) : Bool :=
  (s.sys.restored || s.sys.recovery || early.contains o.opcode) && ((s.sys.negotiated && !s.pr.adopt) || !mtKeyed o) &&
  (atTake.contains o.opcode || !earlier.any (fun e => blocks e o ((cardOf o.opcode).any (·.journals))))

/-- A command executes: it completes, or it waits. An MT-keyed entry that it has set in the past dispatches at once (R50). -/
def runCommand (o : Outst) (s : State) : State :=
  match cardOf o.opcode with
  | none => complete o.org St.badOpcode 0 [] s
  | some c =>
    match c.body o.org o.level o.req s with
    | (s, .done st d resp) =>
      let s := when (1 < st && o.isSlot) (mbUpd (fun m => { m with refused := sat32 m.refused })) s
      complete o.org st d resp (when (mtKeyed o && decide (st ≤ 1)) dispatchAll s)
    | (s, .wait w) => setWait o.org w s

/-- A command that has been taken and not executed runs if it may. -/
def dispatchOne (o : Outst) (s : State) : State :=
  match s.mb.outst.find? (fun e => e.org == o.org) with
  | some e => if e.wait == .held && mayRun s (s.mb.outst.takeWhile (fun e => e.org != o.org)) e then runCommand e s else s
  | none => s

/-- The commands that have been taken and not executed, in the order they were taken. -/
def dispatchHeld (s : State) : State := forAll s.mb.outst dispatchOne s

/-! ## The take (R440, R444) -/

/-- The payload of a slot, LEN bytes. -/
def MSlot.payload (m : MSlot) : List Byte := (List.range m.len.toNat).map (fun i => m.body.getD i 0)

/-- Checks 8 and 9 of R444. -/
def levelCheck (s : State) (c : Card) (level : Nat) (p : List Byte) : Option (Nat × Nat) :=
  if !s.sys.recovery && c.op != 0x0001 && !(decide (1 ≤ level ∧ level ≤ s.mb.level ∧ c.since ≤ level)) then
    some (St.badLevel, c.since + 16 * s.mb.level)
  else
    let n := c.need p.length p
    if n = p.length then none else some (St.badLen, min n 0xFFFF)

/-- Checks 1 to 9 of R444: the status and the DETAIL of the first failure. -/
def takeCheck (s : State) (m : MSlot) : Option (Nat × Nat) :=
  let op := m.opcode.toNat
  let p := m.payload
  let hello := op == 0x0001
  if 1008 < m.len.toNat then some (St.badLen, 1008)
  else if crc32 p ≠ m.crc.toNat then some (St.badCrc, 0)
  else if m.byte5 ≠ 0 then some (St.range, 0xFFFF)
  else match s.mb.outst.find? (fun o => !hello && o.isSlot && o.tag == m.tag.toNat) with
    | some o => some (St.tagBusy, match o.org with | .slot n => n | .timed _ => 0)
    | none =>
      if !hello && s.mb.epoch.isNone then some (St.badLevel, ((cardOf op).map (·.since)).getD 0)
      else if !hello && s.mb.epoch != some (epochOf m.tag.toNat) then some (St.staleEpoch, 0)
      else match servedCard s op with
        | none => some (St.badOpcode, 0)
        | some c => levelCheck s c m.level.toNat p

/-- A rung slot is taken: refused, or outstanding. -/
def takeSlot (n : Nat) (s : State) : State :=
  let m := s.mb.slot.get n
  let s := mbUpd (fun b => { b with taken := sat32 b.taken }) s
  match takeCheck s m with
  | some (st, d) => completeSlot n st d [] false (mbUpd (fun b => { b with refused := sat32 b.refused }) s)
  | none =>
    let o : Outst := { org := .slot n, tag := m.tag.toNat, opcode := m.opcode.toNat, req := m.payload
                       level := if s.sys.recovery then 1 else m.level.toNat }
    dispatchHeld (mbUpd (fun b => { b with outst := b.outst ++ [o] }) s)

/-- SUP serves the mailboxes: READY, and not in NAP (R390, R440). -/
def serves (s : State) : Bool := s.sys.ready && s.sys.power != .nap && portOn s

/-- Latched rings are taken in order. -/
def takeRings : Nat → State → State
  | 0, s => s
  | fuel + 1, s =>
    match s.mb.rings with
    | n :: r => if serves s then takeRings fuel (takeSlot n (mbUpd (fun b => { b with rings := r }) s)) else s
    | [] => s

/-- The mailboxes after a step: held commands, then new rings. -/
def serveMailboxes (s : State) : State :=
  if serves s then takeRings 16 (dispatchHeld s) else s

/-- What follows every step of a powered device: roles, mailboxes, mirror records of changes that may not wait, and the eligible
flag (R328, R329, R331, R440). -/
def settle (s : State) : State :=
  if portOn s then updateEligible (sendUrgent (roleSettle (serveMailboxes (roleSettle s)))) else s

/-! ## Timed commands (R54 to R56, R461) -/

/-- The embedded command of a timed command executes as if it had arrived now, at the level in force, behind check 3 of R444. -/
def runTimed (handle op byte5 : Nat) (p : List Byte) (s : State) : State :=
  if byte5 ≠ 0 then timedDone handle St.range 0xFFFF s
  else match servedCard s op with
  | none => timedDone handle St.badOpcode 0 s
  | some c =>
    match levelCheck s c s.mb.level p with
    | some (st, d) => timedDone handle st d s
    | none =>
      if !c.timed p then timedDone handle St.notTimed 0 s
      else
        dispatchHeld (mbUpd (fun b => { b with
          outst := b.outst ++ [{ org := .timed handle, opcode := op, level := b.level, req := p }] }) s)

/-! ## The command rows: the host writes the request and rings the slot -/

/-- The bytes of a request as the host writes them into a slot (R442). -/
def requestBytes (op : Nat) (r : Req) : List Byte :=
  leBytes 2 op ++ leBytes 2 r.tag.toNat ++ [r.level, r.byte5] ++ leBytes 2 r.len.toNat ++ leBytes 4 0 ++ leBytes 4 r.crc.toNat ++
    r.payload.take 1008

/-- The only ring that is latched is taken. -/
def takeOnly (s : State) : State :=
  match s.mb.rings with
  | [n] => if serves s then takeSlot n (mbUpd (fun b => { b with rings := [] }) s) else s
  | _ => s

/-- A mailbox command: the request is written into its slot, and the slot is rung and taken. -/
def cardRow (op : Nat) (r : Req) (s : State) : State :=
  if portOn s then takeOnly (ringSlots (2 ^ r.slot.val) (slotWriteMem r.slot.val 0 (requestBytes op r) s)) else s

end Sys2Proof.Machine
end

