-- ==== Sys2Proof/Machine/Boundary.lean ====
section
/-!
DEFINITION. The boundaries of Mains Time: the steps of R24 and R25 in their order, seams (R45, R46), the dispatch of the event calendar
(R47 to R56), and the adoption of a partner's count (R40).
-/

namespace Sys2Proof.Machine

open Sys2Proof

/-! ## Dispatch (R48, R49, R52, R54) -/

/-- The entries of a seam's jumped interval, before the new boundary, each flagged LATE (R46); how many. Those due before the cut
have left the calendar at the cut. -/
def dispatchJumped (cut new_ : MT) : Nat → State × Nat → State × Nat
  | 0, r => r
  | fuel + 1, (s, n) =>
    match earliest s.cal.entries with
    | some (e, t) => if t.diff new_ < 0 then dispatchJumped cut new_ fuel (dispatchEntry (e.rollOver cut s) true s, n + 1) else (s, n)
    | none => (s, n)

/-- The entries due before a seam's cut. -/
def dispatchBefore (cut : MT) : Nat → State → State
  | 0, s => s
  | fuel + 1, s =>
    match earliest s.cal.entries with
    | some (e, t) => if t.diff cut < 0 then dispatchBefore cut fuel (dispatchEntry e (isLate s t) (exitNap s)) else s
    | none => s

/-- The timed command that is due by the latched UTC: the lowest UTC, and of equal ones the first inserted (R54). One accepted since
the latch waits for the next boundary. -/
def dueTimed (s : State) : Option (CalEntry × Nat) :=
  s.cal.entries.foldl (fun best e =>
    match e.key with
    | .mt _ => best
    | .utc u =>
      if s.rtc.corrUtc < u ∨ s.cal.latched ≤ e.ord then best
      else match best with
        | none => some (e, u)
        | some (b, v) => if u < v ∨ (u = v ∧ e.ord < b.ord) then some (e, u) else best) none

/-- A timed command leaves the calendar: discarded without duty, discarded as later than MAX_LATE, or executed (R52, R54, R56).
R52 speaks of STANDBY; that a device ISOLATED or in NEGOTIATE discards and counts alike is the model's choice (notes/assumptions/26.md). -/
def dispatchTimed (e : CalEntry) (u : Nat) (s : State) : State :=
  let s := calRemove e s
  match e.job with
  | .timed maxLate op byte5 p =>
    let late := s.rtc.corrUtc - u
    if !s.duty then mtUpd (fun m => { m with timedStandby := sat32 m.timedStandby }) s
    else if maxLate ≠ 0 ∧ maxLate * 32768 < late then raise 2 0x26 [ef 2 e.handle, ef 8 u, ef 4 (late / 32768)] s
    else
      runTimed e.handle op byte5 p
        (when (decide (65536000 < late * s.nomFreq)) (mtUpd (fun m => { m with lateCount := sat32 m.lateCount })) s)
  | _ => s

/-- Every timed command that is due. -/
def timedDue : Nat → State → State
  | 0, s => s
  | fuel + 1, s =>
    match dueTimed s with
    | some (e, u) => timedDue fuel (dispatchTimed e u s)
    | none => s

def timedAll (s : State) : State := timedDue s.cal.entries.length s

/-! ## The steps of a boundary (R24, R25) -/

/-- MT and the calendar run: the dies are powered and no RECOVERY mode (R41, R476). -/
def mtRuns (s : State) : Bool := portOn s && !s.sys.recovery && s.mt.started

/-- The cycle count of an ACTIVE partner is adopted (R40), once a frame has told it; its angle too, unless the device is in LOCK. The partner's count in the last
BEAT is that of the cycle before where its angle lay in the second half (notes/assumptions/37.md). -/
def adoptCount (s : State) : State :=
  if !s.pr.adopt || s.pr.link != .up then s
  else
    let p := s.pr
    let t : MT := if s.mt.state == .lock then { c := if p.pAngle.toNat < 32768 then p.pCycle else p.pCycle + 1, a := 0 }
      else { c := p.pCycle, a := p.pAngle }
    mtUpd (fun m => { m with now := t }) (prUpd (fun p => { p with adopt := false }) s)

/-- Step 8 of R473, and each later regain of duty: local outputs are enabled at a cycle boundary (R326, R474). -/
def enableBoundary (s : State) : State :=
  if s.duty && !s.sys.outputs && s.sys.restored && !s.th.hold && s.pr.dove == 0 && s.pr.dual.isNone && (!pairEn s || s.pr.actQuiet)
      && !s.sys.pfailLow && !s.sys.pfailWait then
    enableOutputs s
  else s

/-- Step 1: outputs take their points; in the first boundary of a takeover they keep the M1 image (R342). -/
def outputsBoundary (s : State) : State := if s.pr.dove = 2 then s else takeCoils false (outputUpdate s)

/-- Step 3: bound sources land. -/
def landBoundary (m : MainsMeas) (s : State) : State := landThermal (landMains m (landCoils (landConverters s)))

/-- Alarm conditions are evaluated at each cycle boundary (R83). -/
def alarmsBoundary (s : State) : State :=
  forAll ((s.live.filter (fun e => e.1 / 0x40000 == Kind.point)).map (fun e => e.1 % 0x40000)) (fun pn s =>
    if ptConfigured s pn && !(s.point pn).quarantined then boundaryAlarm pn s else s) s

/-- The half-cycle steps of R25, with the areas' step of R176 behind the landings. -/
def halfSteps (s : State) : State :=
  fanBoundary (areasBoundary (keysLand (landSups (panelBoundary s))))

/-- Loop records, reloads and homes take effect before the scans of the boundary start (R150, R156, R162). -/
def loopBoundary (s : State) : State :=
  laneBusyBoundary (rehomeBoundary (loopReloadBoundary (loopRecordsBoundary s)))

/-- Behind a seam, the loops whose offsets lie in the jumped interval start, in order of offset, for the cut cycle (R46). -/
def jumpedLoops (cut : MT) (s : State) : State :=
  let off (ln : Nat) : Nat := lpOffset (liveImg s Kind.loop ln)
  let due := (enabledLoops s).filter (fun ln => decide (cut.a.toNat ≤ off ln) &&
    cut.c.toNat % max 1 (lpPeriod (liveImg s Kind.loop ln)) == 0)
  let sorted := due.foldl (fun l ln => ins off ln l) []
  forAll sorted (fun ln => queueScan ln { c := cut.c, a := u16 (off ln) }) s
where
  /-- Insert by offset, behind equal ones. -/
  ins (off : Nat → Nat) (ln : Nat) : List Nat → List Nat
    | [] => [ln]
    | x :: r => if off ln < off x then ln :: x :: r else x :: ins off ln r

/-- Step 4: at a seam the jumped entries first; then entries due at angle 0, then timed commands. The number of the former. -/
def calendarStep (cut : Option MT) (s : State) : State × Nat :=
  let (s, n) := match cut with
    | some t => dispatchJumped t s.now s.cal.entries.length (s, 0)
    | none => (s, 0)
  (timedAll (dispatchAll s), n)

/-- What a boundary does in NAP: the calendar wakes the device, and so does a landed change of a supervised input (R390). -/
def napSteps (cut : Option MT) (s : State) : State × Nat :=
  let before := (List.range 8).map (fun n => (s.ls.sup.get n).cls)
  let s := if pairEn s then s else landSups s
  let s := if (List.range 8).map (fun n => (s.ls.sup.get n).cls) == before then s else exitNap s
  if (dueEntry s).isSome || (dueTimed s).isSome then calendarStep cut (exitNap s) else (s, 0)

/-- Before step 1: parked engines (R388), an adopted count, the tracker's changes, and the latch of UTC (R38, R40, R53, R59). -/
def cycleStart (s : State) : State := latchUtc (mtBoundary (adoptCount (parkBoundary s)))

/-- Up to step 1: the mirror batch, outputs enabled, and outputs taken (R24, R326, R331). -/
def cycleOutputs (s : State) : State :=
  outputsBoundary (memoryBoundary (enableBoundary (if s.pr.swapDue then s else mirrorBoundary s)))

/-- Steps 2 and 3: integrators and landings, and a takeover's step 5 (R340). -/
def cycleLand (m : MainsMeas) (jump : Bool) (s : State) : State :=
  let s := landBoundary m (analogBoundary (integLatch jump s))
  if s.pr.dove = 2 then takeoverBoundary s else resolveMirrored s

/-- The checks of a boundary and the half-cycle steps between steps 3 and 4. -/
def cycleHalf (s : State) : State :=
  reassertBoundary (halfSteps (diagBoundary (railBoundary (extBoundary (bandBoundary s)))))

/-- Stale points, alarm conditions, poll classes, and the loops' part of the boundary. -/
def cycleLoops (s : State) : State := loopBoundary (takeDue [Kind.cls] (alarmsBoundary (loopStaleBoundary (staleBoundary s))))

/-- Steps 4 and 5: the calendar, loops due at angle 0 and in a jumped interval, the session's apply, and NAP. -/
def cycleTail (cut : Option MT) (s : State) : State × Nat :=
  let r := calendarStep cut s
  let s := dueAtZero r.1
  let s := match cut with
    | some t => jumpedPolls t (jumpedLoops t s)
    | none => s
  (napBoundary (applySession s), r.2)

/-- The steps of R24 at the cycle boundary that MT has reached; `cut` is the instant at which a seam cut the cycle before. -/
def cycleSteps (m : MainsMeas) (cut : Option MT) (s : State) : State × Nat :=
  let s := cycleStart s
  let s := forRange 3 (phaseWatch m) s
  if s.sys.power == .nap then napSteps cut s
  else if !s.sys.restored then (s, 0)
  else
    let s := cycleOutputs s
    if s.pr.swapDue then (swapBoundary s, 0)
    else cycleTail cut (cycleLoops (cycleHalf (cycleLand m cut.isSome s)))

/-- CYCLE_BOUNDARY. -/
def cycleRow (m : MainsMeas) (s : State) : State :=
  if mtRuns s then (cycleSteps m none (reachCycle s)).1 else s

/-- HALF_CYCLE_BOUNDARY. -/
def halfRow (s : State) : State :=
  if !mtRuns s then s
  else
    let s := reachHalf s
    if s.sys.power == .nap then (napSteps none s).1
    else if !s.sys.restored then s
    else dispatchAll (halfSteps s)

/-- EIGHTH_CYCLE_INSTANT (R181). -/
def eighthRow (k : Nat) (s : State) : State :=
  if mtRuns s && s.sys.power == .run then takeCoils true (reachAngle (u16 (8192 * k)) s) else s

/-- CALENDAR_DISPATCH: MT reaches an angle, and the entries due by then dispatch. -/
def calendarRow (angle : U16) (s : State) : State :=
  if !mtRuns s then s
  else
    let s := reachAngle angle s
    if (dueEntry s).isSome then dispatchAll (exitNap s) else s

/-- TIMED_COMMAND_DISPATCH: the timed command that is due by the latched UTC. -/
def timedRow (s : State) : State :=
  if !mtRuns s then s
  else match dueTimed s with
    | some (e, u) => dispatchTimed e u (exitNap s)
    | none => s

/-- A seam: the cycle in progress ends at MT's angle, and the boundary runs (R45, R46). Entries due before the cut dispatch before it. -/
def seamBoundary (m : MainsMeas) (s : State) : State :=
  let cut := s.now
  let s := dispatchBefore cut s.cal.entries.length s
  let new_ : MT := { c := cut.c + 1, a := 0 }
  let s := mtUpd (fun t => { t with
    now := new_, lastValid := new_, phaseErr := 0, slew := 0, seam := none, seamCount := sat32 t.seamCount, seamC := cut.c, seamA := cut.a }) s
  let s := rollAtSeam cut s
  let (s, n) := cycleSteps m (some cut) s
  raise 2 0x23 [ef 4 cut.c.toNat, ef 2 cut.a.toNat, ef 2 (65536 - cut.a.toNat), ef 2 n] s

/-- CROSSING (R38). -/
def crossingRow (phase interval amp : Nat) (angle : U16) (m : MainsMeas) (s : State) : State :=
  if !portOn s || s.sys.recovery then s
  else
    let (s, seam) := crossingStep phase interval amp angle s
    if seam then seamBoundary m s else s

/-! ## The clock -/

/-- What a tick brings: the Who-Is requests that a link may send leave (R120), each Ethernet port sends its next frame (R97), boost
phases whose wait ends start (R197), and the panel's power falls (R289). -/
def tickWork (s : State) : State := panelTick (boostWaits (portSend 9 (portSend 8 (forRange 10 drainWhoIs s))))

end Sys2Proof.Machine
end

