-- ==== Sys2Proof/Machine/Rows.lean ====
section
/-!
DEFINITION. What the meanings of the commands share: in which states a command acts at all, and what follows its effect.
-/

namespace Sys2Proof.Machine

open Sys2Proof

/-- In STANDBY and OFF everything outside the always-on domain is without power (R387, R388). -/
def whenOn (f : State → State) (s : State) : State := if portOn s then f s else s

/-- RECOVERY mode runs only the boot code: steps 4 to 8 of the start-up do not run (R476). -/
def mainRuns (s : State) : Bool := portOn s && !s.sys.recovery

def whenMain (f : State → State) (s : State) : State := if mainRuns s then f s else s

/-- PNT, the lanes, CSQ, PNL and PAIR are halted in NAP (R387) and in thermal hold (R383). -/
def enginesRun (s : State) : Bool := mainRuns s && s.sys.power != .nap && !s.th.hold

def whenEngine (f : State → State) (s : State) : State := if enginesRun s then f s else s

/-- A command that ran to `t` from `s`: what follows every step is done, and the queue of commands is as it was. -/
def done (s t : State) : Host.Outcome State Fault Refusal := .next { settle t with pending := s.pending }

end Sys2Proof.Machine
end

