-- ==== Sys2Proof/Machine/RowsCard.lean ====
section
/-!
DEFINITION. The meanings of the commands, one definition per constructor: mailbox commands.
-/

namespace Sys2Proof.Machine

open Sys2Proof

/-- UNASSIGNED_OPCODE (R456). -/
def execUnassignedOpcode (opcode : U16) (r : Req) (s : State) : Host.Outcome State Fault Refusal :=
  done s (cardRow opcode.toNat r s)
/-- HELLO (R452). -/
def execHello (r : Req) (s : State) : Host.Outcome State Fault Refusal := done s (cardRow 0x0001 r s)
/-- SYS_IDENTIFY (R469). -/
def execSysIdentify (r : Req) (s : State) : Host.Outcome State Fault Refusal := done s (cardRow 0x0100 r s)
/-- SYS_RESET (R467). -/
def execSysReset (r : Req) (s : State) : Host.Outcome State Fault Refusal := done s (cardRow 0x0101 r s)
/-- SYS_TIME (R468). -/
def execSysTime (r : Req) (s : State) : Host.Outcome State Fault Refusal := done s (cardRow 0x0102 r s)
/-- CFG_OPEN (R463). -/
def execCfgOpen (r : Req) (s : State) : Host.Outcome State Fault Refusal := done s (cardRow 0x0103 r s)
/-- CFG_LOAD (R463). -/
def execCfgLoad (r : Req) (s : State) : Host.Outcome State Fault Refusal := done s (cardRow 0x0104 r s)
/-- CFG_COMMIT (R464). -/
def execCfgCommit (r : Req) (s : State) : Host.Outcome State Fault Refusal := done s (cardRow 0x0105 r s)
/-- CFG_ABORT (R463). -/
def execCfgAbort (r : Req) (s : State) : Host.Outcome State Fault Refusal := done s (cardRow 0x0106 r s)
/-- CFG_READ (R469). -/
def execCfgRead (r : Req) (s : State) : Host.Outcome State Fault Refusal := done s (cardRow 0x0107 r s)
/-- CFG_INFO (R469). -/
def execCfgInfo (r : Req) (s : State) : Host.Outcome State Fault Refusal := done s (cardRow 0x0108 r s)
/-- SYS_GET_STATS (R469). -/
def execSysGetStats (r : Req) (s : State) : Host.Outcome State Fault Refusal := done s (cardRow 0x0109 r s)
/-- STATS_CLEAR (R466). -/
def execStatsClear (r : Req) (s : State) : Host.Outcome State Fault Refusal := done s (cardRow 0x010A r s)
/-- MT_SET_CFG (R59). -/
def execMtSetCfg (r : Req) (s : State) : Host.Outcome State Fault Refusal := done s (cardRow 0x0200 r s)
/-- MT_GET_STATUS (R60). -/
def execMtGetStatus (r : Req) (s : State) : Host.Outcome State Fault Refusal := done s (cardRow 0x0201 r s)
/-- MT_TIMED (R52). -/
def execMtTimed (r : Req) (s : State) : Host.Outcome State Fault Refusal := done s (cardRow 0x0202 r s)
/-- MT_CANCEL (R51). -/
def execMtCancel (r : Req) (s : State) : Host.Outcome State Fault Refusal := done s (cardRow 0x0203 r s)
/-- PT_READ (R87). -/
def execPtRead (r : Req) (s : State) : Host.Outcome State Fault Refusal := done s (cardRow 0x0300 r s)
/-- PT_WRITE (R87). -/
def execPtWrite (r : Req) (s : State) : Host.Outcome State Fault Refusal := done s (cardRow 0x0301 r s)
/-- PA_WRITE (R87). -/
def execPaWrite (r : Req) (s : State) : Host.Outcome State Fault Refusal := done s (cardRow 0x0302 r s)
/-- PA_READ (R87). -/
def execPaRead (r : Req) (s : State) : Host.Outcome State Fault Refusal := done s (cardRow 0x0303 r s)
/-- PA_SHADOWS (R87). -/
def execPaShadows (r : Req) (s : State) : Host.Outcome State Fault Refusal := done s (cardRow 0x0304 r s)
/-- FL_SET_ETH (R110). -/
def execFlSetEth (r : Req) (s : State) : Host.Outcome State Fault Refusal := done s (cardRow 0x0400 r s)
/-- FL_SET_TRUNK (R110). -/
def execFlSetTrunk (r : Req) (s : State) : Host.Outcome State Fault Refusal := done s (cardRow 0x0401 r s)
/-- FL_GET_STATUS (R113). -/
def execFlGetStatus (r : Req) (s : State) : Host.Outcome State Fault Refusal := done s (cardRow 0x0402 r s)
/-- FL_ETH_TX (R97). -/
def execFlEthTx (r : Req) (s : State) : Host.Outcome State Fault Refusal := done s (cardRow 0x0403 r s)
/-- FL_MDIO (R90). -/
def execFlMdio (r : Req) (s : State) : Host.Outcome State Fault Refusal := done s (cardRow 0x0404 r s)
/-- FL_TRUNK_TX (R101). -/
def execFlTrunkTx (r : Req) (s : State) : Host.Outcome State Fault Refusal := done s (cardRow 0x0405 r s)
/-- PA_SET_CFG (R140). -/
def execPaSetCfg (r : Req) (s : State) : Host.Outcome State Fault Refusal := done s (cardRow 0x0500 r s)
/-- PA_SET_CLASS (R126). -/
def execPaSetClass (r : Req) (s : State) : Host.Outcome State Fault Refusal := done s (cardRow 0x0501 r s)
/-- PA_SET_DEV (R120). -/
def execPaSetDev (r : Req) (s : State) : Host.Outcome State Fault Refusal := done s (cardRow 0x0502 r s)
/-- PA_GET_DEV (R140). -/
def execPaGetDev (r : Req) (s : State) : Host.Outcome State Fault Refusal := done s (cardRow 0x0503 r s)
/-- PA_REBIND (R124). -/
def execPaRebind (r : Req) (s : State) : Host.Outcome State Fault Refusal := done s (cardRow 0x0504 r s)
/-- PA_READ_NOW (R140). -/
def execPaReadNow (r : Req) (s : State) : Host.Outcome State Fault Refusal := done s (cardRow 0x0505 r s)
/-- LP_SET_LOOP (R161). -/
def execLpSetLoop (r : Req) (s : State) : Host.Outcome State Fault Refusal := done s (cardRow 0x0600 r s)
/-- LP_GET_LOOP (R164). -/
def execLpGetLoop (r : Req) (s : State) : Host.Outcome State Fault Refusal := done s (cardRow 0x0601 r s)
/-- LP_ENABLE (R161). -/
def execLpEnable (r : Req) (s : State) : Host.Outcome State Fault Refusal := done s (cardRow 0x0602 r s)
/-- LP_SET_REG (R164). -/
def execLpSetReg (r : Req) (s : State) : Host.Outcome State Fault Refusal := done s (cardRow 0x0603 r s)
/-- LP_LANE (R160). -/
def execLpLane (r : Req) (s : State) : Host.Outcome State Fault Refusal := done s (cardRow 0x0604 r s)
/-- LP_GET_STATS (R164). -/
def execLpGetStats (r : Req) (s : State) : Host.Outcome State Fault Refusal := done s (cardRow 0x0605 r s)
/-- LS_SET_AREA (R185). -/
def execLsSetArea (r : Req) (s : State) : Host.Outcome State Fault Refusal := done s (cardRow 0x0700 r s)
/-- LS_SET_TRIG (R185). -/
def execLsSetTrig (r : Req) (s : State) : Host.Outcome State Fault Refusal := done s (cardRow 0x0701 r s)
/-- LS_SET_RESP (R185). -/
def execLsSetResp (r : Req) (s : State) : Host.Outcome State Fault Refusal := done s (cardRow 0x0702 r s)
/-- LS_SET_VAL (R186). -/
def execLsSetVal (r : Req) (s : State) : Host.Outcome State Fault Refusal := done s (cardRow 0x0703 r s)
/-- LS_SET_IN (R167). -/
def execLsSetIn (r : Req) (s : State) : Host.Outcome State Fault Refusal := done s (cardRow 0x0704 r s)
/-- LS_MODE (R176). -/
def execLsMode (r : Req) (s : State) : Host.Outcome State Fault Refusal := done s (cardRow 0x0705 r s)
/-- CB_SET_BANK (R211). -/
def execCbSetBank (r : Req) (s : State) : Host.Outcome State Fault Refusal := done s (cardRow 0x0800 r s)
/-- CB_GET_DIAG (R212). -/
def execCbGetDiag (r : Req) (s : State) : Host.Outcome State Fault Refusal := done s (cardRow 0x0801 r s)
/-- CB_RUN_DIAG (R212). -/
def execCbRunDiag (r : Req) (s : State) : Host.Outcome State Fault Refusal := done s (cardRow 0x0802 r s)
/-- CB_CLEAR (R207). -/
def execCbClear (r : Req) (s : State) : Host.Outcome State Fault Refusal := done s (cardRow 0x0803 r s)
/-- CS_LOAD (R234). -/
def execCsLoad (r : Req) (s : State) : Host.Outcome State Fault Refusal := done s (cardRow 0x0900 r s)
/-- CS_SET_ENTRY (R221). -/
def execCsSetEntry (r : Req) (s : State) : Host.Outcome State Fault Refusal := done s (cardRow 0x0901 r s)
/-- CS_SET_CHAN (R233). -/
def execCsSetChan (r : Req) (s : State) : Host.Outcome State Fault Refusal := done s (cardRow 0x0902 r s)
/-- CS_EVENT (R222). -/
def execCsEvent (r : Req) (s : State) : Host.Outcome State Fault Refusal := done s (cardRow 0x0903 r s)
/-- CS_STOP (R234). -/
def execCsStop (r : Req) (s : State) : Host.Outcome State Fault Refusal := done s (cardRow 0x0904 r s)
/-- CS_GET_CHAN (R234). -/
def execCsGetChan (r : Req) (s : State) : Host.Outcome State Fault Refusal := done s (cardRow 0x0905 r s)
/-- AD_SET_CONV (R258). -/
def execAdSetConv (r : Req) (s : State) : Host.Outcome State Fault Refusal := done s (cardRow 0x0A00 r s)
/-- AD_SET_GROUP (R249). -/
def execAdSetGroup (r : Req) (s : State) : Host.Outcome State Fault Refusal := done s (cardRow 0x0A01 r s)
/-- AD_READ (R259). -/
def execAdRead (r : Req) (s : State) : Host.Outcome State Fault Refusal := done s (cardRow 0x0A02 r s)
/-- AD_INJECT (R247). -/
def execAdInject (r : Req) (s : State) : Host.Outcome State Fault Refusal := done s (cardRow 0x0A03 r s)
/-- AD_JIG (R257). -/
def execAdJig (r : Req) (s : State) : Host.Outcome State Fault Refusal := done s (cardRow 0x0A04 r s)
/-- AD_GET_STATS (R259). -/
def execAdGetStats (r : Req) (s : State) : Host.Outcome State Fault Refusal := done s (cardRow 0x0A05 r s)
/-- FN_SET_CHAN (R272). -/
def execFnSetChan (r : Req) (s : State) : Host.Outcome State Fault Refusal := done s (cardRow 0x0B00 r s)
/-- FN_GET_STATUS (R273). -/
def execFnGetStatus (r : Req) (s : State) : Host.Outcome State Fault Refusal := done s (cardRow 0x0B01 r s)
/-- FN_CLEAR (R268). -/
def execFnClear (r : Req) (s : State) : Host.Outcome State Fault Refusal := done s (cardRow 0x0B02 r s)
/-- KY_SET_CFG (R283). -/
def execKySetCfg (r : Req) (s : State) : Host.Outcome State Fault Refusal := done s (cardRow 0x0C00 r s)
/-- KY_SET_KEYS (R283). -/
def execKySetKeys (r : Req) (s : State) : Host.Outcome State Fault Refusal := done s (cardRow 0x0C01 r s)
/-- KY_GET_STATE (R284). -/
def execKyGetState (r : Req) (s : State) : Host.Outcome State Fault Refusal := done s (cardRow 0x0C02 r s)
/-- PN_SET_CFG (R307). -/
def execPnSetCfg (r : Req) (s : State) : Host.Outcome State Fault Refusal := done s (cardRow 0x0D00 r s)
/-- PN_LOAD_TABLE (R295). -/
def execPnLoadTable (r : Req) (s : State) : Host.Outcome State Fault Refusal := done s (cardRow 0x0D01 r s)
/-- PN_OPEN (R298). -/
def execPnOpen (r : Req) (s : State) : Host.Outcome State Fault Refusal := done s (cardRow 0x0D02 r s)
/-- PN_LINES (R299). -/
def execPnLines (r : Req) (s : State) : Host.Outcome State Fault Refusal := done s (cardRow 0x0D03 r s)
/-- PN_START (R298). -/
def execPnStart (r : Req) (s : State) : Host.Outcome State Fault Refusal := done s (cardRow 0x0D04 r s)
/-- PN_DISCARD (R298). -/
def execPnDiscard (r : Req) (s : State) : Host.Outcome State Fault Refusal := done s (cardRow 0x0D05 r s)
/-- PN_GET_STATUS (R308). -/
def execPnGetStatus (r : Req) (s : State) : Host.Outcome State Fault Refusal := done s (cardRow 0x0D06 r s)
/-- PR_SET_CFG (R336). -/
def execPrSetCfg (r : Req) (s : State) : Host.Outcome State Fault Refusal := done s (cardRow 0x0E00 r s)
/-- PR_BOND (R322). -/
def execPrBond (r : Req) (s : State) : Host.Outcome State Fault Refusal := done s (cardRow 0x0E01 r s)
/-- PR_ROLE (R349). -/
def execPrRole (r : Req) (s : State) : Host.Outcome State Fault Refusal := done s (cardRow 0x0E02 r s)
/-- PR_GET_STATUS (R354). -/
def execPrGetStatus (r : Req) (s : State) : Host.Outcome State Fault Refusal := done s (cardRow 0x0E03 r s)
/-- NV_GET_STATUS (R373). -/
def execNvGetStatus (r : Req) (s : State) : Host.Outcome State Fault Refusal := done s (cardRow 0x0F00 r s)
/-- NV_SNAPSHOT (R366). -/
def execNvSnapshot (r : Req) (s : State) : Host.Outcome State Fault Refusal := done s (cardRow 0x0F01 r s)
/-- NV_FW_WRITE (R370). -/
def execNvFwWrite (r : Req) (s : State) : Host.Outcome State Fault Refusal := done s (cardRow 0x0F02 r s)
/-- NV_FW_ACTIVATE (R370). -/
def execNvFwActivate (r : Req) (s : State) : Host.Outcome State Fault Refusal := done s (cardRow 0x0F03 r s)
/-- NV_FW_CONFIRM (R370). -/
def execNvFwConfirm (r : Req) (s : State) : Host.Outcome State Fault Refusal := done s (cardRow 0x0F04 r s)
/-- TH_SET_CFG (R384). -/
def execThSetCfg (r : Req) (s : State) : Host.Outcome State Fault Refusal := done s (cardRow 0x1000 r s)
/-- TH_GET_STATUS (R385). -/
def execThGetStatus (r : Req) (s : State) : Host.Outcome State Fault Refusal := done s (cardRow 0x1001 r s)
/-- SN_SET_CFG (R405). -/
def execSnSetCfg (r : Req) (s : State) : Host.Outcome State Fault Refusal := done s (cardRow 0x1100 r s)
/-- SN_POWER (R388). -/
def execSnPower (r : Req) (s : State) : Host.Outcome State Fault Refusal := done s (cardRow 0x1101 r s)
/-- SN_STATUS (R405). -/
def execSnStatus (r : Req) (s : State) : Host.Outcome State Fault Refusal := done s (cardRow 0x1102 r s)
/-- SN_GET_LOG (R400). -/
def execSnGetLog (r : Req) (s : State) : Host.Outcome State Fault Refusal := done s (cardRow 0x1103 r s)
/-- SN_OUT (R399). -/
def execSnOut (r : Req) (s : State) : Host.Outcome State Fault Refusal := done s (cardRow 0x1104 r s)
/-- EVQ_SET_CFG (R436). -/
def execEvqSetCfg (r : Req) (s : State) : Host.Outcome State Fault Refusal := done s (cardRow 0x1200 r s)
/-- EVQ_GET_STATS (R437). -/
def execEvqGetStats (r : Req) (s : State) : Host.Outcome State Fault Refusal := done s (cardRow 0x1201 r s)

end Sys2Proof.Machine
end

