-- ==== Sys2Proof/Machine/RowsClock.lean ====
section
/-!
DEFINITION. The meanings of the commands, one definition per constructor: mains time, its boundaries, the calendar and area timers.
-/

namespace Sys2Proof.Machine

open Sys2Proof

/-- CROSSING (R38). -/
def execCrossing (phase : Fin 3) (interval : Nat) (amp : Nat) (angle : U16) (m : MainsMeas) (s : State) : Host.Outcome State Fault Refusal :=
  done s (whenOn (crossingRow phase.val interval amp angle m) s)
/-- CROSSING_TIMEOUT (R38). -/
def execCrossingTimeout (s : State) : Host.Outcome State Fault Refusal := done s (whenMain crossingTimeoutRow s)
/-- ACQUIRE_TIMEOUT (R38). -/
def execAcquireTimeout (s : State) : Host.Outcome State Fault Refusal := done s (whenMain acquireTimeoutRow s)
/-- RIDE_TIMEOUT (R38). -/
def execRideTimeout (s : State) : Host.Outcome State Fault Refusal := done s (whenMain rideTimeoutRow s)
/-- CYCLE_BOUNDARY (R24). -/
def execCycleBoundary (m : MainsMeas) (s : State) : Host.Outcome State Fault Refusal :=
  done s (whenOn (cycleRow m) s)
/-- HALF_CYCLE_BOUNDARY (R25). -/
def execHalfCycleBoundary (s : State) : Host.Outcome State Fault Refusal := done s (whenOn halfRow s)
/-- EIGHTH_CYCLE_INSTANT (R181). -/
def execEighthCycleInstant (k : Fin 8) (s : State) : Host.Outcome State Fault Refusal := done s (whenOn (eighthRow k.val) s)
/-- CALENDAR_DISPATCH (R49). -/
def execCalendarDispatch (angle : U16) (s : State) : Host.Outcome State Fault Refusal := done s (whenOn (calendarRow angle) s)
/-- TIMED_COMMAND_DISPATCH (R54). -/
def execTimedCommandDispatch (s : State) : Host.Outcome State Fault Refusal := done s (whenOn timedRow s)
/-- ALERT_HOLD_EXPIRY (R171). -/
def execAlertHoldExpiry (an : Fin 64) (s : State) : Host.Outcome State Fault Refusal := done s (whenOn (alertHoldRow an.val) s)
/-- TEST_MAX_EXPIRY (R177). -/
def execTestMaxExpiry (an : Fin 64) (s : State) : Host.Outcome State Fault Refusal := done s (whenOn (testMaxRow an.val) s)

end Sys2Proof.Machine
end

