-- ==== Sys2Proof/Machine/RowsCoil.lean ====
section
/-!
DEFINITION. The meanings of the commands, one definition per constructor: coil banks and the coil sequencer.
-/

namespace Sys2Proof.Machine

open Sys2Proof

/-- COIL_EVENT_START (R223). -/
def execCoilEventStart (ch : Fin 24) (s : State) : Host.Outcome State Fault Refusal :=
  done s (whenEngine (eventStartRow ch.val) s)
/-- CSQ_END (R216). -/
def execCsqEnd (ch : Fin 24) (s : State) : Host.Outcome State Fault Refusal := done s (whenEngine (csqEndRow ch.val) s)
/-- SRC (R216). -/
def execSrc (ch : Fin 24) (s : State) : Host.Outcome State Fault Refusal := done s (whenEngine (srcRow ch.val) s)
/-- LSW (R216). -/
def execLsw (ch : Fin 24) (s : State) : Host.Outcome State Fault Refusal := done s (whenEngine (lswRow ch.val) s)
/-- DCY (R216). -/
def execDcy (ch : Fin 24) (s : State) : Host.Outcome State Fault Refusal := done s (whenEngine (dcyRow ch.val) s)
/-- WT (R216). -/
def execWt (ch : Fin 24) (s : State) : Host.Outcome State Fault Refusal := done s (whenEngine (wtRow ch.val) s)
/-- WI (R216). -/
def execWi (ch : Fin 24) (s : State) : Host.Outcome State Fault Refusal := done s (whenEngine (wiRow ch.val) s)
/-- CHOP (R217). -/
def execChop (ch : Fin 24) (s : State) : Host.Outcome State Fault Refusal := done s (whenEngine (chopRow ch.val) s)
/-- MARK (R228). -/
def execMark (ch : Fin 24) (s : State) : Host.Outcome State Fault Refusal := done s (whenEngine (markRow ch.val) s)
/-- DWIN (R216). -/
def execDwin (ch : Fin 24) (s : State) : Host.Outcome State Fault Refusal := done s (whenEngine (dwinRow ch.val) s)
/-- LOOP (R216). -/
def execLoop (ch : Fin 24) (s : State) : Host.Outcome State Fault Refusal := done s (whenEngine (loopRow ch.val) s)
/-- CSQ_JMP (R216). -/
def execCsqJmp (ch : Fin 24) (s : State) : Host.Outcome State Fault Refusal := done s (whenEngine (csqJmpRow ch.val) s)
/-- BR (R216). -/
def execBr (ch : Fin 24) (s : State) : Host.Outcome State Fault Refusal := done s (whenEngine (brRow ch.val) s)
/-- SCRB (R231). -/
def execScrb (ch : Fin 24) (s : State) : Host.Outcome State Fault Refusal := done s (whenEngine (scrbRow ch.val) s)
/-- WT_EXPIRY (R215). -/
def execWtExpiry (ch : Fin 24) (s : State) : Host.Outcome State Fault Refusal := done s (whenEngine (wtExpiryRow ch.val) s)
/-- COMPARATOR_CROSSING (R192). -/
def execComparatorCrossing (ch : Fin 24) (x : Comparator) (elapsed : Nat) (s : State) : Host.Outcome State Fault Refusal :=
  done s (whenEngine (comparatorRow ch.val x elapsed) s)
/-- WI_TIMEOUT (R216). -/
def execWiTimeout (ch : Fin 24) (s : State) : Host.Outcome State Fault Refusal := done s (whenEngine (wiTimeoutRow ch.val) s)
/-- CHOP_END (R217). -/
def execChopEnd (ch : Fin 24) (s : State) : Host.Outcome State Fault Refusal := done s (whenEngine (chopEndRow ch.val) s)
/-- PEAK_LIMIT (R219). -/
def execPeakLimit (ch : Fin 24) (s : State) : Host.Outcome State Fault Refusal := done s (whenEngine (peakLimitRow ch.val) s)
/-- BOOST_MAX_LIMIT (R199). -/
def execBoostMaxLimit (ch : Fin 24) (s : State) : Host.Outcome State Fault Refusal := done s (whenEngine (boostMaxRow ch.val) s)
/-- ON_TIME_LIMIT (R199). -/
def execOnTimeLimit (ch : Fin 24) (s : State) : Host.Outcome State Fault Refusal := done s (whenEngine (onTimeRow ch.val) s)
/-- SLOW_DECAY_LIMIT (R193). -/
def execSlowDecayLimit (ch : Fin 24) (s : State) : Host.Outcome State Fault Refusal := done s (whenEngine (slowDecayRow ch.val) s)
/-- EVENT_END (R198). -/
def execEventEnd (ch : Fin 24) (s : State) : Host.Outcome State Fault Refusal := done s (whenEngine (eventEndRow ch.val) s)
/-- DIP_CONFIRMED (R231). -/
def execDipConfirmed (ch : Fin 24) (m : Nat) (s : State) : Host.Outcome State Fault Refusal :=
  done s (whenEngine (dipRow ch.val m) s)
/-- LATENESS_ALLOWANCE_EXPIRY (R224). -/
def execLatenessAllowanceExpiry (ch : Fin 24) (s : State) : Host.Outcome State Fault Refusal :=
  done s (whenEngine (allowanceRow ch.val) s)
/-- LOW_SIDE_TRIP (R192). -/
def execLowSideTrip (ch : Fin 24) (s : State) : Host.Outcome State Fault Refusal := done s (whenOn (lowSideTripRow ch.val) s)
/-- HIGH_SIDE_TRIP (R204). -/
def execHighSideTrip (bank : Fin 6) (s : State) : Host.Outcome State Fault Refusal := done s (whenOn (highSideTripRow bank.val) s)
/-- RISE_TIMEOUT (R204). -/
def execRiseTimeout (ch : Fin 24) (s : State) : Host.Outcome State Fault Refusal := done s (whenEngine (riseTimeoutRow ch.val) s)
/-- VGD_UVLO (R190). -/
def execVgdUvlo (s : State) : Host.Outcome State Fault Refusal := done s (whenOn vgdUvloRow s)
/-- VGD_RELEASE (R190). -/
def execVgdRelease (s : State) : Host.Outcome State Fault Refusal := done s (whenOn vgdReleaseRow s)
/-- DIAG_SEQUENCE_START (R200). -/
def execDiagSequenceStart (bank : Fin 6) (s : State) : Host.Outcome State Fault Refusal :=
  done s (whenEngine (diagStartRow bank.val) s)
/-- DIAG_STEP_A (R201). -/
def execDiagStepA (bank : Fin 6) (hs : Window) (ld : List Window) (s : State) : Host.Outcome State Fault Refusal :=
  done s (whenEngine (diagStepARow bank.val hs ld) s)
/-- DIAG_STEP_B (R202). -/
def execDiagStepB (bank : Fin 6) (hs ld : Window) (s : State) : Host.Outcome State Fault Refusal :=
  done s (whenEngine (diagStepBRow bank.val hs ld) s)
/-- DIAG_STARVE_TIMEOUT (R203). -/
def execDiagStarveTimeout (bank : Fin 6) (s : State) : Host.Outcome State Fault Refusal :=
  done s (whenEngine (diagStarveRow bank.val) s)
/-- CB_RECORDS_TAKE_EFFECT (R211). -/
def execCbRecordsTakeEffect (bank : Fin 6) (s : State) : Host.Outcome State Fault Refusal :=
  done s (whenOn (recordsRow bank.val) s)
/-- CORE_SUPPLY_GATE_HOLD (R495). -/
def execCoreSupplyGateHold (s : State) : Host.Outcome State Fault Refusal := done s (whenOn gateHoldRow s)
/-- CORE_SUPPLY_GATE_RELEASE (R495). -/
def execCoreSupplyGateRelease (s : State) : Host.Outcome State Fault Refusal := done s (whenOn gateReleaseRow s)

end Sys2Proof.Machine
end

