-- ==== Sys2Proof/Machine/RowsField.lean ====
section
/-!
DEFINITION. The meanings of the commands, one definition per constructor: field links and point acquisition.
-/

namespace Sys2Proof.Machine

open Sys2Proof

/-- ETH_FRAME_RX (R93). -/
def execEthFrameRx (port : Fin 2) (frame : List Byte) (s : State) : Host.Outcome State Fault Refusal :=
  done s (whenEngine (ethRx port.val frame) s)
/-- PHY_STATUS_POLL (R89). -/
def execPhyStatusPoll (port : Fin 2) (phy : PhyStatus) (s : State) : Host.Outcome State Fault Refusal :=
  done s (whenEngine (phyRead port.val phy) s)
/-- PHYINT (R89). -/
def execPhyint (phy0 phy1 : PhyStatus) (s : State) : Host.Outcome State Fault Refusal :=
  done s (whenEngine (phyintRow phy0 phy1) s)
/-- PORT_SILENCE (R108). -/
def execPortSilence (port : Fin 2) (s : State) : Host.Outcome State Fault Refusal :=
  done s (whenEngine (portSilenceRow port.val) s)
/-- PORT_RECOVER (R108). -/
def execPortRecover (port : Fin 2) (s : State) : Host.Outcome State Fault Refusal :=
  done s (whenEngine (portRecoverRow port.val) s)
/-- ARP_RESOLUTION_TIMEOUT (R92). -/
def execArpResolutionTimeout (port : Fin 2) (ip : U32) (s : State) : Host.Outcome State Fault Refusal :=
  done s (whenEngine (arpTimeoutRow port.val ip.toNat) s)
/-- ARP_AGEOUT (R92). -/
def execArpAgeout (port : Fin 2) (ip : U32) (s : State) : Host.Outcome State Fault Refusal :=
  done s (whenEngine (arpAgeoutRow port.val ip.toNat) s)
/-- GRATUITOUS_ARP (R106). -/
def execGratuitousArp (s : State) : Host.Outcome State Fault Refusal := done s (whenEngine gratuitousRow s)
/-- TCP_RETRANSMIT_TIMEOUT (R96). -/
def execTcpRetransmitTimeout (conn : Fin 128) (s : State) : Host.Outcome State Fault Refusal :=
  done s (whenEngine (tcpRetransmitRow conn.val) s)
/-- TCP_IDLE_CLOSE (R96). -/
def execTcpIdleClose (conn : Fin 128) (s : State) : Host.Outcome State Fault Refusal :=
  done s (whenEngine (tcpIdleRow conn.val) s)
/-- TRUNK_FRAME_RX (R101). -/
def execTrunkFrameRx (trunk : Fin 8) (f : MstpFrame) (s : State) : Host.Outcome State Fault Refusal :=
  done s (whenEngine (trunkRx trunk.val f) s)
/-- TRUNK_FRAME_SENT (R107). -/
def execTrunkFrameSent (trunk : Fin 8) (echoOk : Bool) (s : State) : Host.Outcome State Fault Refusal :=
  done s (whenEngine (trunkSent trunk.val echoOk) s)
/-- MSTP_NO_TOKEN (R100). -/
def execMstpNoToken (trunk : Fin 8) (s : State) : Host.Outcome State Fault Refusal :=
  done s (whenEngine (mstpGenerate trunk.val) s)
/-- MSTP_REPLY_TIMEOUT (R100). -/
def execMstpReplyTimeout (trunk : Fin 8) (s : State) : Host.Outcome State Fault Refusal :=
  done s (whenEngine (mstpNoReply trunk.val) s)
/-- MSTP_USAGE_TIMEOUT (R100). -/
def execMstpUsageTimeout (trunk : Fin 8) (s : State) : Host.Outcome State Fault Refusal :=
  done s (whenEngine (mstpNoUse trunk.val) s)
/-- RTU_FRAME_RX (R104). -/
def execRtuFrameRx (trunk : Fin 8) (adu : List Byte) (gapOk : Bool) (s : State) : Host.Outcome State Fault Refusal :=
  done s (whenEngine (rtuRx trunk.val adu gapOk) s)
/-- RTU_RESP_TIMEOUT (R104). -/
def execRtuRespTimeout (trunk : Fin 8) (s : State) : Host.Outcome State Fault Refusal :=
  done s (whenEngine (rtuTimeoutRow trunk.val) s)
/-- RTU_BCAST_DELAY (R104). -/
def execRtuBcastDelay (trunk : Fin 8) (s : State) : Host.Outcome State Fault Refusal :=
  done s (whenEngine (rtuFreeRow trunk.val) s)
/-- RX_STUCK (R107). -/
def execRxStuck (trunk : Fin 8) (s : State) : Host.Outcome State Fault Refusal := done s (whenEngine (rxStuckRow trunk.val) s)
/-- ERR_RATE_WINDOW (R107). -/
def execErrRateWindow (trunk : Fin 8) (s : State) : Host.Outcome State Fault Refusal :=
  done s (whenEngine (errRateRow trunk.val) s)
/-- NO_PEER (R107). -/
def execNoPeer (trunk : Fin 8) (s : State) : Host.Outcome State Fault Refusal := done s (whenEngine (noPeerRow trunk.val) s)
/-- TRUNK_PROBE (R108). -/
def execTrunkProbe (link : Fin 10) (s : State) : Host.Outcome State Fault Refusal :=
  done s (whenEngine (trunkProbeRow link.val) s)
/-- TRUNK_RECOVER (R108). -/
def execTrunkRecover (trunk : Fin 8) (s : State) : Host.Outcome State Fault Refusal :=
  done s (whenEngine (trunkRecoverRow trunk.val) s)
/-- I_AM (R120). -/
def execIAm (link : Fin 10) (src : DevAddr) (instance_ : Nat) (maxApdu seg : Nat) (s : State) : Host.Outcome State Fault Refusal :=
  done s (whenEngine (iAmRow link.val src instance_ maxApdu seg) s)
/-- READ_REPLY (R129). -/
def execReadReply (dv : Fin 4096) (id : U16) (r : ReadReply) (s : State) : Host.Outcome State Fault Refusal :=
  done s (whenEngine (readReplyRow dv.val id.toNat r) s)
/-- COV_NOTIFICATION (R131). -/
def execCovNotification (link : Fin 10) (src : DevAddr) (pid : Nat) (obj : U32) (item : Option FieldRead) (confirmed : Option Byte) (s : State) : Host.Outcome State Fault Refusal :=
  done s (whenEngine (covRow link.val src pid obj.toNat item (confirmed.map (·.toNat))) s)
/-- WRITE_REPLY (R135). -/
def execWriteReply (dv : Fin 4096) (id : U16) (r : WriteAns) (s : State) : Host.Outcome State Fault Refusal :=
  done s (whenEngine (writeReplyRow dv.val id.toNat r) s)
/-- SUBSCRIBE_COV_REPLY (R130). -/
def execSubscribeCovReply (dv : Fin 4096) (id : U16) (ok : Bool) (cause : Byte) (s : State) : Host.Outcome State Fault Refusal :=
  done s (whenEngine (subscribeReplyRow dv.val id.toNat ok cause.toNat) s)
/-- REQUEST_TIMEOUT (R137). -/
def execRequestTimeout (dv : Fin 4096) (id : U16) (s : State) : Host.Outcome State Fault Refusal :=
  done s (whenEngine (requestTimeoutRow dv.val id.toNat) s)
/-- INVOKE_ID_QUARANTINE_END (R137). -/
def execInvokeIdQuarantineEnd (dv : Fin 4096) (id : U16) (s : State) : Host.Outcome State Fault Refusal :=
  done s (whenEngine (quarantineEndRow dv.val id.toNat) s)
/-- MODBUS_BUSY_RETRY (R135). -/
def execModbusBusyRetry (dv : Fin 4096) (id : U16) (s : State) : Host.Outcome State Fault Refusal :=
  done s (whenEngine (busyRetryRow dv.val id.toNat) s)
/-- WRITE_RESEND (R135). -/
def execWriteResend (pn : Fin 131072) (pri : Fin 17) (s : State) : Host.Outcome State Fault Refusal :=
  done s (whenEngine (writeResendRow pn.val pri.val) s)
/-- POLL_CLASS_DUE (R127). -/
def execPollClassDue (cls : Fin 16) (s : State) : Host.Outcome State Fault Refusal := done s (whenEngine (pollRow cls.val) s)
/-- LIVENESS_PROBE (R122). -/
def execLivenessProbe (dv : Fin 4096) (s : State) : Host.Outcome State Fault Refusal := done s (whenEngine (livenessRow dv.val) s)
/-- DEVICE_SILENCE (R120). -/
def execDeviceSilence (dv : Fin 4096) (s : State) : Host.Outcome State Fault Refusal := done s (whenEngine (silenceRow dv.val) s)
/-- SILENT_PROBE (R120). -/
def execSilentProbe (dv : Fin 4096) (s : State) : Host.Outcome State Fault Refusal :=
  done s (whenEngine (silentProbeRow dv.val) s)
/-- UNBIND_TIMEOUT (R120). -/
def execUnbindTimeout (dv : Fin 4096) (s : State) : Host.Outcome State Fault Refusal := done s (whenEngine (unbindRow dv.val) s)
/-- SEEK (R120). -/
def execSeek (dv : Fin 4096) (s : State) : Host.Outcome State Fault Refusal := done s (whenEngine (seekRow dv.val) s)
/-- DISC_AGE_TIMEOUT (R120). -/
def execDiscAgeTimeout (dv : Fin 4096) (s : State) : Host.Outcome State Fault Refusal := done s (whenEngine (discAgeRow dv.val) s)
/-- COV_RENEWAL (R130). -/
def execCovRenewal (pn : Fin 131072) (s : State) : Host.Outcome State Fault Refusal := done s (whenEngine (covRenewRow pn.val) s)
/-- MSTP_FRAME_ABORT (R100). -/
def execMstpFrameAbort (trunk : Fin 8) (s : State) : Host.Outcome State Fault Refusal :=
  done s (whenEngine (mstpAbortRow trunk.val) s)
/-- MSTP_SLOT_TIMEOUT (R100). -/
def execMstpSlotTimeout (trunk : Fin 8) (s : State) : Host.Outcome State Fault Refusal :=
  done s (whenEngine (mstpNoMaster trunk.val) s)
/-- RTU_TIMEOUT_SILENCE (R138). -/
def execRtuTimeoutSilence (trunk : Fin 8) (s : State) : Host.Outcome State Fault Refusal :=
  done s (whenEngine (rtuFreeRow trunk.val) s)

end Sys2Proof.Machine
end

