-- ==== Sys2Proof/Machine/RowsHost.lean ====
section
/-!
DEFINITION. The meanings of the commands, one definition per constructor: host port transactions.
-/

namespace Sys2Proof.Machine

open Sys2Proof

/-- READ (R408). -/
def execRead (addr : BitVec 24) (n : Nat) (s : State) : Host.Outcome State Fault Refusal := done s (readRow addr.toNat n s)
/-- WRITE (R408). -/
def execWrite (addr : BitVec 24) (data : List Byte) (s : State) : Host.Outcome State Fault Refusal :=
  done s (writeRow addr.toNat data s)
/-- READ_CRC (R409). -/
def execReadCrc (addr : BitVec 24) (len : U16) (s : State) : Host.Outcome State Fault Refusal :=
  done s (readCrcRow 0x1B addr.toNat len.toNat s)
/-- WRITE_CRC (R409). -/
def execWriteCrc (addr : BitVec 24) (len : U16) (data : List Byte) (crc : U16) (s : State) : Host.Outcome State Fault Refusal :=
  done s (writeCrcRow 0x12 addr.toNat len.toNat data crc s)
/-- QREAD (R408). -/
def execQread (addr : BitVec 24) (n : Nat) (s : State) : Host.Outcome State Fault Refusal := done s (readRow addr.toNat n s)
/-- QWRITE (R408). -/
def execQwrite (addr : BitVec 24) (data : List Byte) (s : State) : Host.Outcome State Fault Refusal :=
  done s (writeRow addr.toNat data s)
/-- QREAD_CRC (R409). -/
def execQreadCrc (addr : BitVec 24) (len : U16) (s : State) : Host.Outcome State Fault Refusal :=
  done s (readCrcRow 0xEC addr.toNat len.toNat s)
/-- QWRITE_CRC (R409). -/
def execQwriteCrc (addr : BitVec 24) (len : U16) (data : List Byte) (crc : U16) (s : State) : Host.Outcome State Fault Refusal :=
  done s (writeCrcRow 0x3E addr.toNat len.toNat data crc s)
/-- BAD_INSTRUCTION (R408). -/
def execBadInstruction (code : Byte) (s : State) : Host.Outcome State Fault Refusal := done s (badInstructionRow code.toNat s)
/-- REGISTER_WRITE (R410). -/
def execRegisterWrite (addr : BitVec 24) (v : U32) (s : State) : Host.Outcome State Fault Refusal :=
  done s (whenOn (hostWrite addr.toNat (leBytes 4 v.toNat)) s)
/-- MAILBOX_SLOT_WRITE (R439). -/
def execMailboxSlotWrite (slot : Fin 16) (off : Fin 1024) (data : List Byte) (s : State) : Host.Outcome State Fault Refusal :=
  done s (whenOn (hostWrite (0x1000 + 0x400 * slot.val + off.val) data) s)
/-- BULK_WINDOW_WRITE (R417). -/
def execBulkWindowWrite (off : Fin 65536) (data : List Byte) (s : State) : Host.Outcome State Fault Refusal :=
  done s (whenOn (bulkWrite off.val data) s)
/-- DOORBELL (R440). -/
def execDoorbell (v : U32) (s : State) : Host.Outcome State Fault Refusal := done s (whenOn (ringSlots v.toNat) s)
/-- HIF_DONE_CLEAR (R438). -/
def execHifDoneClear (v : U32) (s : State) : Host.Outcome State Fault Refusal := done s (whenOn (clearDone v.toNat) s)
/-- IRQ_STAT_CLEAR (R415). -/
def execIrqStatClear (v : U32) (s : State) : Host.Outcome State Fault Refusal := done s (whenOn (clearIrq v.toNat) s)
/-- EVQ_PORT_READ (R410). -/
def execEvqPortRead (n : Nat) (s : State) : Host.Outcome State Fault Refusal :=
  done s (whenOn (fun t => drive (hostRead 0x800 n t)) s)
/-- REWIND (R430). -/
def execRewind (s : State) : Host.Outcome State Fault Refusal := done s (whenOn (evqCtrl 1) s)
/-- RELEASE_ALL (R427). -/
def execReleaseAll (s : State) : Host.Outcome State Fault Refusal := done s (whenOn (evqCtrl 2) s)
/-- EVQ_RELEASE (R428). -/
def execEvqRelease (v : U32) (s : State) : Host.Outcome State Fault Refusal := done s (whenOn (releaseSeq v.toNat) s)
/-- EVQ_MARK_SET (R429). -/
def execEvqMarkSet (s : State) : Host.Outcome State Fault Refusal := done s (whenOn setMark s)
/-- EVQ_WMARK_WRITE (R435). -/
def execEvqWmarkWrite (v : U32) (s : State) : Host.Outcome State Fault Refusal := done s (whenOn (setWmark v.toNat) s)

end Sys2Proof.Machine
end

