-- ==== Sys2Proof/Machine/RowsLane.lean ====
section
/-!
DEFINITION. The meanings of the commands, one definition per constructor: the loop engine.
-/

namespace Sys2Proof.Machine

open Sys2Proof

/-- LOOP_DUE (R150). -/
def execLoopDue (ln : Fin 8192) (s : State) : Host.Outcome State Fault Refusal := done s (whenEngine (loopDueRow ln.val) s)
/-- LOOP_SCAN (R152). -/
def execLoopScan (lane : Fin 4) (bufferUe : Bool) (s : State) : Host.Outcome State Fault Refusal :=
  done s (whenEngine (loopScanRow lane.val bufferUe) s)
/-- LOOP_END (R152). -/
def execLoopEnd (lane : Fin 4) (s : State) : Host.Outcome State Fault Refusal := done s (whenEngine (loopEndRow lane.val) s)
/-- LDP (R146). -/
def execLdp (lane : Fin 4) (s : State) : Host.Outcome State Fault Refusal :=
  done s (whenEngine (fun t => opRow lane.val 0x01 (opLdp t) t) s)
/-- LDF (R146). -/
def execLdf (lane : Fin 4) (s : State) : Host.Outcome State Fault Refusal :=
  done s (whenEngine (fun t => opRow lane.val 0x02 (opLdf t) t) s)
/-- LDK (R146). -/
def execLdk (lane : Fin 4) (s : State) : Host.Outcome State Fault Refusal := done s (whenEngine (opRow lane.val 0x03 opLdk) s)
/-- LDW (R146). -/
def execLdw (lane : Fin 4) (s : State) : Host.Outcome State Fault Refusal := done s (whenEngine (opRow lane.val 0x04 opLdw) s)
/-- STP (R155). -/
def execStp (lane : Fin 4) (s : State) : Host.Outcome State Fault Refusal := done s (whenEngine (opRow lane.val 0x05 opStp) s)
/-- RELP (R155). -/
def execRelp (lane : Fin 4) (s : State) : Host.Outcome State Fault Refusal := done s (whenEngine (opRow lane.val 0x06 opRelp) s)
/-- MOV (R146). -/
def execMov (lane : Fin 4) (s : State) : Host.Outcome State Fault Refusal := done s (whenEngine (opRow lane.val 0x07 opMov) s)
/-- ADD (R146). -/
def execAdd (lane : Fin 4) (s : State) : Host.Outcome State Fault Refusal :=
  done s (whenEngine (opRow lane.val 0x08 (opBin fadd)) s)
/-- SUB (R146). -/
def execSub (lane : Fin 4) (s : State) : Host.Outcome State Fault Refusal :=
  done s (whenEngine (opRow lane.val 0x09 (opBin fsub)) s)
/-- MUL (R146). -/
def execMul (lane : Fin 4) (s : State) : Host.Outcome State Fault Refusal :=
  done s (whenEngine (opRow lane.val 0x0A (opBin fmul)) s)
/-- DIV (R146). -/
def execDiv (lane : Fin 4) (s : State) : Host.Outcome State Fault Refusal :=
  done s (whenEngine (opRow lane.val 0x0B (opBin fdiv)) s)
/-- ABS (R146). -/
def execAbs (lane : Fin 4) (s : State) : Host.Outcome State Fault Refusal := done s (whenEngine (opRow lane.val 0x0C opAbs) s)
/-- MIN (R146). -/
def execMin (lane : Fin 4) (s : State) : Host.Outcome State Fault Refusal :=
  done s (whenEngine (opRow lane.val 0x0D (opBin fmin)) s)
/-- MAX (R146). -/
def execMax (lane : Fin 4) (s : State) : Host.Outcome State Fault Refusal :=
  done s (whenEngine (opRow lane.val 0x0E (opBin fmax)) s)
/-- LIM (R146). -/
def execLim (lane : Fin 4) (s : State) : Host.Outcome State Fault Refusal := done s (whenEngine (opRow lane.val 0x0F opLim) s)
/-- SEL (R146). -/
def execSel (lane : Fin 4) (s : State) : Host.Outcome State Fault Refusal := done s (whenEngine (opRow lane.val 0x10 opSel) s)
/-- CMP (R146). -/
def execCmp (lane : Fin 4) (s : State) : Host.Outcome State Fault Refusal := done s (whenEngine (opRow lane.val 0x11 opCmp) s)
/-- QNT (R146). -/
def execQnt (lane : Fin 4) (s : State) : Host.Outcome State Fault Refusal := done s (whenEngine (opRow lane.val 0x12 opQnt) s)
/-- AND (R146). -/
def execAnd (lane : Fin 4) (s : State) : Host.Outcome State Fault Refusal :=
  done s (whenEngine (opRow lane.val 0x13 (opLogic and)) s)
/-- OR (R146). -/
def execOr (lane : Fin 4) (s : State) : Host.Outcome State Fault Refusal :=
  done s (whenEngine (opRow lane.val 0x14 (opLogic or)) s)
/-- XOR (R146). -/
def execXor (lane : Fin 4) (s : State) : Host.Outcome State Fault Refusal :=
  done s (whenEngine (opRow lane.val 0x15 (opLogic xor)) s)
/-- NOT (R146). -/
def execNot (lane : Fin 4) (s : State) : Host.Outcome State Fault Refusal := done s (whenEngine (opRow lane.val 0x16 opNot) s)
/-- LOOP_JMP (R146). -/
def execLoopJmp (lane : Fin 4) (s : State) : Host.Outcome State Fault Refusal := done s (whenEngine (loopJmpRow lane.val) s)
/-- PID (R147). -/
def execPid (lane : Fin 4) (s : State) : Host.Outcome State Fault Refusal :=
  done s (whenEngine (fun t => opRow lane.val 0x20 (opPid t) t) s)
/-- RAMP (R147). -/
def execRamp (lane : Fin 4) (s : State) : Host.Outcome State Fault Refusal :=
  done s (whenEngine (fun t => opRow lane.val 0x21 (opRamp t) t) s)
/-- TPOS (R146). -/
def execTpos (lane : Fin 4) (s : State) : Host.Outcome State Fault Refusal := done s (whenEngine (opRow lane.val 0x22 opTpos) s)
/-- SEQ (R147). -/
def execSeq (lane : Fin 4) (s : State) : Host.Outcome State Fault Refusal := done s (whenEngine (opRow lane.val 0x23 opSeq) s)
/-- TAB (R147). -/
def execTab (lane : Fin 4) (s : State) : Host.Outcome State Fault Refusal := done s (whenEngine (tabRow lane.val) s)
/-- DON (R146). -/
def execDon (lane : Fin 4) (s : State) : Host.Outcome State Fault Refusal := done s (whenEngine (opRow lane.val 0x25 opDon) s)
/-- DOFF (R146). -/
def execDoff (lane : Fin 4) (s : State) : Host.Outcome State Fault Refusal := done s (whenEngine (opRow lane.val 0x26 opDoff) s)
/-- LANE_WATCHDOG (R158). -/
def execLaneWatchdog (lane : Fin 4) (s : State) : Host.Outcome State Fault Refusal :=
  done s (whenEngine (laneWatchdogRow lane.val) s)
/-- LANE_SELF_CHECK (R158). -/
def execLaneSelfCheck (lane : Fin 4) (pass : Bool) (s : State) : Host.Outcome State Fault Refusal :=
  done s (whenEngine (laneSelfCheckRow lane.val pass) s)
/-- LANE_TEST_END (R160). -/
def execLaneTestEnd (lane : Fin 4) (pass : Bool) (s : State) : Host.Outcome State Fault Refusal :=
  done s (whenEngine (laneTestEndRow lane.val pass) s)

end Sys2Proof.Machine
end

