-- ==== Sys2Proof/Machine/RowsLink.lean ====
section
/-!
DEFINITION. The meanings of the commands, one definition per constructor: the pair link.
-/

namespace Sys2Proof.Machine

open Sys2Proof

/-- LANE_ALIGNMENT (R320). -/
def execLaneAlignment (s : State) : Host.Outcome State Fault Refusal := done s (whenEngine laneAlignmentRow s)
/-- TRAIN_TIMEOUT (R320). -/
def execTrainTimeout (s : State) : Host.Outcome State Fault Refusal := done s (whenEngine trainTimeoutRow s)
/-- ALIGNMENT_LOST (R320). -/
def execAlignmentLost (s : State) : Host.Outcome State Fault Refusal := done s (whenEngine alignmentLostRow s)
/-- HELLO_FRAME (R317). -/
def execHelloFrame (h : PairHello) (s : State) : Host.Outcome State Fault Refusal := done s (whenEngine (helloFrameRow h) s)
/-- HELLO_REPEAT (R320). -/
def execHelloRepeat (s : State) : Host.Outcome State Fault Refusal := done s (whenEngine helloRepeatRow s)
/-- BEAT (R315). -/
def execBeat (b : PairBeat) (s : State) : Host.Outcome State Fault Refusal := done s (whenEngine (beatRow b) s)
/-- BEAT_DUE (R316). -/
def execBeatDue (s : State) : Host.Outcome State Fault Refusal := done s (whenEngine beatDueRow s)
/-- MIRROR (R315). -/
def execMirror (seq ack cycle : U32) (snapshot_ : Bool) (r : MirrorRec) (damaged : Bool) (s : State) : Host.Outcome State Fault Refusal :=
  done s (whenEngine (mirrorRow seq ack cycle snapshot_ r damaged) s)
/-- BATCH_END (R332). -/
def execBatchEnd (seq ack cycle : U32) (s : State) : Host.Outcome State Fault Refusal :=
  done s (whenEngine (batchEndRow seq ack cycle) s)
/-- RESYNC_REQ (R334). -/
def execResyncReq (seq ack : U32) (cls : Nat) (s : State) : Host.Outcome State Fault Refusal :=
  done s (whenEngine (resyncReqRow seq ack cls) s)
/-- RESYNC_DONE (R334). -/
def execResyncDone (seq ack cycle : U32) (s : State) : Host.Outcome State Fault Refusal :=
  done s (whenEngine (resyncDoneRow seq ack cycle) s)
/-- RELINQUISH (R338). -/
def execRelinquish (seq ack : U32) (areas : List (Nat × Img)) (swap : Bool) (s : State) : Host.Outcome State Fault Refusal :=
  done s (whenEngine (relinquishRow seq ack areas swap) s)
/-- RELINQUISH_RESEND (R349). -/
def execRelinquishResend (s : State) : Host.Outcome State Fault Refusal := done s (whenEngine relinquishResendRow s)
/-- BOND (R322). -/
def execBond (key : List Byte) (s : State) : Host.Outcome State Fault Refusal := done s (whenEngine (bondRow key) s)
/-- BOND_CONFIRM (R322). -/
def execBondConfirm (s : State) : Host.Outcome State Fault Refusal := done s (whenEngine bondConfirmRow s)
/-- BOND_TIMEOUT (R322). -/
def execBondTimeout (s : State) : Host.Outcome State Fault Refusal := done s (whenEngine bondTimeoutRow s)
/-- PAIR_FRAME_REJECTED (R318). -/
def execPairFrameRejected (why : PairReject) (s : State) : Host.Outcome State Fault Refusal :=
  done s (whenEngine (frameRejectedRow why) s)
/-- RETRANSMIT_TIMEOUT (R316). -/
def execRetransmitTimeout (s : State) : Host.Outcome State Fault Refusal := done s (whenEngine retransmitRow s)
/-- LINK_SILENCE (R320). -/
def execLinkSilence (s : State) : Host.Outcome State Fault Refusal := done s (whenEngine linkSilenceRow s)
/-- HEARTBEAT_TOGGLE (R324). -/
def execHeartbeatToggle (s : State) : Host.Outcome State Fault Refusal := done s (whenEngine heartbeatToggleRow s)
/-- PR_HB_I_EDGE (R324). -/
def execPrHbIEdge (s : State) : Host.Outcome State Fault Refusal := done s (whenEngine hbEdgeRow s)
/-- HEARTBEAT_LOSS (R324). -/
def execHeartbeatLoss (s : State) : Host.Outcome State Fault Refusal := done s (whenEngine heartbeatLossRow s)
/-- ACTIVITY_TOGGLE (R325). -/
def execActivityToggle (s : State) : Host.Outcome State Fault Refusal := done s (whenEngine activityToggleRow s)
/-- PR_ACT_I_EDGE (R326). -/
def execPrActIEdge (s : State) : Host.Outcome State Fault Refusal := done s (whenEngine actEdgeRow s)
/-- ACTIVITY_SILENCE (R325). -/
def execActivitySilence (s : State) : Host.Outcome State Fault Refusal := done s (whenEngine activitySilenceRow s)
/-- DOVETAIL_OUTPUT_ENABLE (R340). -/
def execDovetailOutputEnable (s : State) : Host.Outcome State Fault Refusal := done s (whenEngine dovetailEnableRow s)

end Sys2Proof.Machine
end

