-- ==== Sys2Proof/Machine/RowsOutput.lean ====
section
/-!
DEFINITION. The meanings of the commands, one definition per constructor: keys, converters, fans and the panel.
-/

namespace Sys2Proof.Machine

open Sys2Proof

/-- KEY_SCAN (R275). -/
def execKeyScan (k : KeyScan) (s : State) : Host.Outcome State Fault Refusal := done s (whenOn (keyScanRow k) s)
/-- STUCK_TIMEOUT (R278). -/
def execStuckTimeout (key : Fin 512) (s : State) : Host.Outcome State Fault Refusal := done s (whenOn (stuckTimeoutRow key.val) s)
/-- CONVERSION_END (R246). -/
def execConversionEnd (conv : Fin 4) (raw : Int) (outside : Bool) (angle : U16) (s : State) : Host.Outcome State Fault Refusal :=
  done s (whenOn (conversionEndRow conv.val raw outside angle) s)
/-- INJECTED_SEQUENCE_END (R248). -/
def execInjectedSequenceEnd (conv : Fin 4) (s : State) : Host.Outcome State Fault Refusal :=
  done s (whenOn (injectedEndRow conv.val) s)
/-- REF_SETTLED (R242). -/
def execRefSettled (conv : Fin 4) (s : State) : Host.Outcome State Fault Refusal := done s (whenOn (refSettledRow conv.val) s)
/-- VREF_EXT_WINDOW (R242). -/
def execVrefExtWindow (inside : Bool) (s : State) : Host.Outcome State Fault Refusal := done s (whenOn (vrefExtRow inside) s)
/-- JIG_DELAY_EXPIRY (R254). -/
def execJigDelayExpiry (conv : Fin 4) (s : State) : Host.Outcome State Fault Refusal := done s (whenOn (jigDelayRow conv.val) s)
/-- CALIBRATION_END (R257). -/
def execCalibrationEnd (conv : Fin 4) (offset gain : Int) (s : State) : Host.Outcome State Fault Refusal :=
  done s (whenOn (calibrationEndRow conv.val offset gain) s)
/-- TACH_EDGE (R265). -/
def execTachEdge (fan : Fin 8) (interval : Nat) (s : State) : Host.Outcome State Fault Refusal :=
  done s (whenOn (tachEdgeRow fan.val interval) s)
/-- KICK_TIMEOUT (R268). -/
def execKickTimeout (fan : Fin 8) (s : State) : Host.Outcome State Fault Refusal := done s (whenOn (kickTimeoutRow fan.val) s)
/-- BACKOFF_EXPIRY (R268). -/
def execBackoffExpiry (fan : Fin 8) (s : State) : Host.Outcome State Fault Refusal := done s (whenOn (backoffRow fan.val) s)
/-- TACH_TIMEOUT (R268). -/
def execTachTimeout (fan : Fin 8) (s : State) : Host.Outcome State Fault Refusal := done s (whenOn (tachTimeoutRow fan.val) s)
/-- CUR_TRIG (R266). -/
def execCurTrig (fan : Fin 8) (s : State) : Host.Outcome State Fault Refusal := done s (whenOn (curTrigRow fan.val) s)
/-- PANEL_FRAME_END (R302). -/
def execPanelFrameEnd (s : State) : Host.Outcome State Fault Refusal := done s (whenEngine frameEndRow s)
/-- PNL_PWR_GOOD_RISE (R289). -/
def execPnlPwrGoodRise (s : State) : Host.Outcome State Fault Refusal := done s (whenEngine pwrGoodRow s)
/-- PWR_TO_EXPIRY (R289). -/
def execPwrToExpiry (s : State) : Host.Outcome State Fault Refusal := done s (whenEngine pwrToRow s)
/-- LOAD_MAX_EXPIRY (R298). -/
def execLoadMaxExpiry (region : Fin 16) (s : State) : Host.Outcome State Fault Refusal :=
  done s (whenEngine (loadMaxRow region.val) s)

end Sys2Proof.Machine
end

