-- ==== Sys2Proof/Machine/RowsPower.lean ====
section
/-!
DEFINITION. The meanings of the commands, one definition per constructor: power, start-up, the store, thermal, the sentinel and memory errors.
-/

namespace Sys2Proof.Machine

open Sys2Proof

/-- PORST_N_RELEASE (R471). -/
def execPorstNRelease (straps : Straps) (trimOk : Bool) (s : State) : Host.Outcome State Fault Refusal :=
  done s (porstRow straps trimOk s)
/-- RESET_N_RELEASE (R471). -/
def execResetNRelease (straps : Straps) (trimOk : Bool) (s : State) : Host.Outcome State Fault Refusal :=
  done s (resetNRow straps trimOk s)
/-- SUPERVISOR_UP (R473). -/
def execSupervisorUp (s : State) : Host.Outcome State Fault Refusal := done s (whenOn supervisorUpRow s)
/-- CONFIGURATION_RESTORE (R477). -/
def execConfigurationRestore (bad : List CfgKey) (s : State) : Host.Outcome State Fault Refusal :=
  done s (whenOn (restoreRow bad) s)
/-- NEGOTIATE_TIMEOUT (R329). -/
def execNegotiateTimeout (s : State) : Host.Outcome State Fault Refusal := done s (whenOn negotiateTimeoutRow s)
/-- PFAIL_N_FALL (R372). -/
def execPfailNFall (s : State) : Host.Outcome State Fault Refusal := done s (whenOn pfailFallRow s)
/-- PFAIL_N_RISE (R372). -/
def execPfailNRise (s : State) : Host.Outcome State Fault Refusal := done s (whenOn pfailRiseRow s)
/-- FENCE_LIFT (R372). -/
def execFenceLift (s : State) : Host.Outcome State Fault Refusal := done s (whenOn fenceLiftRow s)
/-- PGOOD_CORE_FALL (R388). -/
def execPgoodCoreFall (s : State) : Host.Outcome State Fault Refusal := done s (pgoodFallRow s)
/-- VAON_POWER_ON (R388). -/
def execVaonPowerOn (s : State) : Host.Outcome State Fault Refusal := done s (vaonOnRow s)
/-- VAON_LOSS (R388). -/
def execVaonLoss (s : State) : Host.Outcome State Fault Refusal := done s (vaonLossRow s)
/-- PATROL_SCRUB (R30). -/
def execPatrolScrub (found : Option (Nat × Nat)) (res : EccResult) (s : State) : Host.Outcome State Fault Refusal :=
  done s (patrolRow found res s)
/-- BRIDGE_WATCHDOG (R18). -/
def execBridgeWatchdog (s : State) : Host.Outcome State Fault Refusal := done s (bridgeLoss s)
/-- JOURNAL_COMMIT (R361). -/
def execJournalCommit (s : State) : Host.Outcome State Fault Refusal := done s (whenOn (fun t => cutIfDue (journalCommitRow t)) s)
/-- SNAPSHOT (R366). -/
def execSnapshot (s : State) : Host.Outcome State Fault Refusal := done s (whenOn snapshotRow s)
/-- SENSOR_WINDOW (R375). -/
def execSensorWindow (r : List Int) (counts : List Nat) (s : State) : Host.Outcome State Fault Refusal :=
  done s (whenOn (sensorWindowRow r counts) s)
/-- THROTTLE_REPORT (R378). -/
def execThrottleReport (s : State) : Host.Outcome State Fault Refusal := done s (whenOn throttleReportRow s)
/-- AUTOMATIC_RESTART (R383). -/
def execAutomaticRestart (s : State) : Host.Outcome State Fault Refusal := done s (whenOn autoRestartRow s)
/-- SENTINEL_TICK (R396). -/
def execSentinelTick (sup : List Nat) (wake : List Bool) (vaon : Nat) (s : State) : Host.Outcome State Fault Refusal :=
  done s (sentinelTickRow sup wake vaon s)
/-- SEN_WAKE_EDGE (R398). -/
def execSenWakeEdge (n : Fin 4) (rising : Bool) (s : State) : Host.Outcome State Fault Refusal :=
  done s (senEdgeRow n.val rising s)
/-- RTC_ALARM (R391). -/
def execRtcAlarm (s : State) : Host.Outcome State Fault Refusal := done s (rtcAlarmRow s)
/-- CRYSTAL_FAIL (R392). -/
def execCrystalFail (s : State) : Host.Outcome State Fault Refusal := done s (crystalFailRow s)
/-- BRIDGE_BAD_FRAMES (R18). -/
def execBridgeBadFrames (s : State) : Host.Outcome State Fault Refusal := done s (bridgeLoss s)
/-- X32_CRYSTAL_RETRY (R392). -/
def execX32CrystalRetry (ok : Bool) (s : State) : Host.Outcome State Fault Refusal := done s (crystalRetryRow ok s)
/-- SYS_RESET_EXECUTE (R467). -/
def execSysResetExecute (s : State) : Host.Outcome State Fault Refusal := done s (whenOn sysResetRow s)
/-- DIGEST_RECOMPUTE (R460). -/
def execDigestRecompute (s : State) : Host.Outcome State Fault Refusal := done s (whenOn digestRecomputeRow s)

end Sys2Proof.Machine
end

