-- ==== Sys2Proof/Machine/Dispatch.lean ====
section
/-!
DEFINITION. `exec`: one arm per command.
-/

namespace Sys2Proof.Machine

open Sys2Proof

def exec (i : Instr) (s : State) : Host.Outcome State Fault Refusal :=
  match i with
  | .porstNRelease straps trimOk => Sys2Proof.Machine.execPorstNRelease straps trimOk s
  | .resetNRelease straps trimOk => Sys2Proof.Machine.execResetNRelease straps trimOk s
  | .supervisorUp => Sys2Proof.Machine.execSupervisorUp s
  | .configurationRestore bad => Sys2Proof.Machine.execConfigurationRestore bad s
  | .negotiateTimeout => Sys2Proof.Machine.execNegotiateTimeout s
  | .pfailNFall => Sys2Proof.Machine.execPfailNFall s
  | .pfailNRise => Sys2Proof.Machine.execPfailNRise s
  | .fenceLift => Sys2Proof.Machine.execFenceLift s
  | .pgoodCoreFall => Sys2Proof.Machine.execPgoodCoreFall s
  | .vaonPowerOn => Sys2Proof.Machine.execVaonPowerOn s
  | .vaonLoss => Sys2Proof.Machine.execVaonLoss s
  | .crossing phase interval amp angle m => Sys2Proof.Machine.execCrossing phase interval amp angle m s
  | .crossingTimeout => Sys2Proof.Machine.execCrossingTimeout s
  | .acquireTimeout => Sys2Proof.Machine.execAcquireTimeout s
  | .rideTimeout => Sys2Proof.Machine.execRideTimeout s
  | .cycleBoundary m => Sys2Proof.Machine.execCycleBoundary m s
  | .halfCycleBoundary => Sys2Proof.Machine.execHalfCycleBoundary s
  | .eighthCycleInstant k => Sys2Proof.Machine.execEighthCycleInstant k s
  | .calendarDispatch angle => Sys2Proof.Machine.execCalendarDispatch angle s
  | .timedCommandDispatch => Sys2Proof.Machine.execTimedCommandDispatch s
  | .patrolScrub found res => Sys2Proof.Machine.execPatrolScrub found res s
  | .bridgeWatchdog => Sys2Proof.Machine.execBridgeWatchdog s
  | .ethFrameRx port frame => Sys2Proof.Machine.execEthFrameRx port frame s
  | .phyStatusPoll port phy => Sys2Proof.Machine.execPhyStatusPoll port phy s
  | .phyint phy0 phy1 => Sys2Proof.Machine.execPhyint phy0 phy1 s
  | .portSilence port => Sys2Proof.Machine.execPortSilence port s
  | .portRecover port => Sys2Proof.Machine.execPortRecover port s
  | .arpResolutionTimeout port ip => Sys2Proof.Machine.execArpResolutionTimeout port ip s
  | .arpAgeout port ip => Sys2Proof.Machine.execArpAgeout port ip s
  | .gratuitousArp => Sys2Proof.Machine.execGratuitousArp s
  | .tcpRetransmitTimeout conn => Sys2Proof.Machine.execTcpRetransmitTimeout conn s
  | .tcpIdleClose conn => Sys2Proof.Machine.execTcpIdleClose conn s
  | .trunkFrameRx trunk f => Sys2Proof.Machine.execTrunkFrameRx trunk f s
  | .trunkFrameSent trunk echoOk => Sys2Proof.Machine.execTrunkFrameSent trunk echoOk s
  | .mstpNoToken trunk => Sys2Proof.Machine.execMstpNoToken trunk s
  | .mstpReplyTimeout trunk => Sys2Proof.Machine.execMstpReplyTimeout trunk s
  | .mstpUsageTimeout trunk => Sys2Proof.Machine.execMstpUsageTimeout trunk s
  | .rtuFrameRx trunk adu gapOk => Sys2Proof.Machine.execRtuFrameRx trunk adu gapOk s
  | .rtuRespTimeout trunk => Sys2Proof.Machine.execRtuRespTimeout trunk s
  | .rtuBcastDelay trunk => Sys2Proof.Machine.execRtuBcastDelay trunk s
  | .rxStuck trunk => Sys2Proof.Machine.execRxStuck trunk s
  | .errRateWindow trunk => Sys2Proof.Machine.execErrRateWindow trunk s
  | .noPeer trunk => Sys2Proof.Machine.execNoPeer trunk s
  | .trunkProbe link => Sys2Proof.Machine.execTrunkProbe link s
  | .trunkRecover trunk => Sys2Proof.Machine.execTrunkRecover trunk s
  | .iAm link src instance_ maxApdu seg => Sys2Proof.Machine.execIAm link src instance_ maxApdu seg s
  | .readReply dv id r => Sys2Proof.Machine.execReadReply dv id r s
  | .covNotification link src pid obj item confirmed => Sys2Proof.Machine.execCovNotification link src pid obj item confirmed s
  | .writeReply dv id r => Sys2Proof.Machine.execWriteReply dv id r s
  | .subscribeCovReply dv id ok cause => Sys2Proof.Machine.execSubscribeCovReply dv id ok cause s
  | .requestTimeout dv id => Sys2Proof.Machine.execRequestTimeout dv id s
  | .invokeIdQuarantineEnd dv id => Sys2Proof.Machine.execInvokeIdQuarantineEnd dv id s
  | .modbusBusyRetry dv id => Sys2Proof.Machine.execModbusBusyRetry dv id s
  | .writeResend pn pri => Sys2Proof.Machine.execWriteResend pn pri s
  | .pollClassDue cls => Sys2Proof.Machine.execPollClassDue cls s
  | .livenessProbe dv => Sys2Proof.Machine.execLivenessProbe dv s
  | .deviceSilence dv => Sys2Proof.Machine.execDeviceSilence dv s
  | .silentProbe dv => Sys2Proof.Machine.execSilentProbe dv s
  | .unbindTimeout dv => Sys2Proof.Machine.execUnbindTimeout dv s
  | .seek dv => Sys2Proof.Machine.execSeek dv s
  | .discAgeTimeout dv => Sys2Proof.Machine.execDiscAgeTimeout dv s
  | .covRenewal pn => Sys2Proof.Machine.execCovRenewal pn s
  | .loopDue ln => Sys2Proof.Machine.execLoopDue ln s
  | .loopScan lane bufferUe => Sys2Proof.Machine.execLoopScan lane bufferUe s
  | .loopEnd lane => Sys2Proof.Machine.execLoopEnd lane s
  | .ldp lane => Sys2Proof.Machine.execLdp lane s
  | .ldf lane => Sys2Proof.Machine.execLdf lane s
  | .ldk lane => Sys2Proof.Machine.execLdk lane s
  | .ldw lane => Sys2Proof.Machine.execLdw lane s
  | .stp lane => Sys2Proof.Machine.execStp lane s
  | .relp lane => Sys2Proof.Machine.execRelp lane s
  | .mov lane => Sys2Proof.Machine.execMov lane s
  | .add lane => Sys2Proof.Machine.execAdd lane s
  | .sub lane => Sys2Proof.Machine.execSub lane s
  | .mul lane => Sys2Proof.Machine.execMul lane s
  | .div lane => Sys2Proof.Machine.execDiv lane s
  | .abs lane => Sys2Proof.Machine.execAbs lane s
  | .min lane => Sys2Proof.Machine.execMin lane s
  | .max lane => Sys2Proof.Machine.execMax lane s
  | .lim lane => Sys2Proof.Machine.execLim lane s
  | .sel lane => Sys2Proof.Machine.execSel lane s
  | .cmp lane => Sys2Proof.Machine.execCmp lane s
  | .qnt lane => Sys2Proof.Machine.execQnt lane s
  | .and lane => Sys2Proof.Machine.execAnd lane s
  | .or lane => Sys2Proof.Machine.execOr lane s
  | .xor lane => Sys2Proof.Machine.execXor lane s
  | .not lane => Sys2Proof.Machine.execNot lane s
  | .loopJmp lane => Sys2Proof.Machine.execLoopJmp lane s
  | .pid lane => Sys2Proof.Machine.execPid lane s
  | .ramp lane => Sys2Proof.Machine.execRamp lane s
  | .tpos lane => Sys2Proof.Machine.execTpos lane s
  | .seq lane => Sys2Proof.Machine.execSeq lane s
  | .tab lane => Sys2Proof.Machine.execTab lane s
  | .don lane => Sys2Proof.Machine.execDon lane s
  | .doff lane => Sys2Proof.Machine.execDoff lane s
  | .laneWatchdog lane => Sys2Proof.Machine.execLaneWatchdog lane s
  | .laneSelfCheck lane pass => Sys2Proof.Machine.execLaneSelfCheck lane pass s
  | .laneTestEnd lane pass => Sys2Proof.Machine.execLaneTestEnd lane pass s
  | .alertHoldExpiry an => Sys2Proof.Machine.execAlertHoldExpiry an s
  | .testMaxExpiry an => Sys2Proof.Machine.execTestMaxExpiry an s
  | .keyScan k => Sys2Proof.Machine.execKeyScan k s
  | .stuckTimeout key => Sys2Proof.Machine.execStuckTimeout key s
  | .coilEventStart ch => Sys2Proof.Machine.execCoilEventStart ch s
  | .csqEnd ch => Sys2Proof.Machine.execCsqEnd ch s
  | .src ch => Sys2Proof.Machine.execSrc ch s
  | .lsw ch => Sys2Proof.Machine.execLsw ch s
  | .dcy ch => Sys2Proof.Machine.execDcy ch s
  | .wt ch => Sys2Proof.Machine.execWt ch s
  | .wi ch => Sys2Proof.Machine.execWi ch s
  | .chop ch => Sys2Proof.Machine.execChop ch s
  | .mark ch => Sys2Proof.Machine.execMark ch s
  | .dwin ch => Sys2Proof.Machine.execDwin ch s
  | .loop ch => Sys2Proof.Machine.execLoop ch s
  | .csqJmp ch => Sys2Proof.Machine.execCsqJmp ch s
  | .br ch => Sys2Proof.Machine.execBr ch s
  | .scrb ch => Sys2Proof.Machine.execScrb ch s
  | .wtExpiry ch => Sys2Proof.Machine.execWtExpiry ch s
  | .comparatorCrossing ch x elapsed => Sys2Proof.Machine.execComparatorCrossing ch x elapsed s
  | .wiTimeout ch => Sys2Proof.Machine.execWiTimeout ch s
  | .chopEnd ch => Sys2Proof.Machine.execChopEnd ch s
  | .peakLimit ch => Sys2Proof.Machine.execPeakLimit ch s
  | .boostMaxLimit ch => Sys2Proof.Machine.execBoostMaxLimit ch s
  | .onTimeLimit ch => Sys2Proof.Machine.execOnTimeLimit ch s
  | .slowDecayLimit ch => Sys2Proof.Machine.execSlowDecayLimit ch s
  | .eventEnd ch => Sys2Proof.Machine.execEventEnd ch s
  | .dipConfirmed ch m => Sys2Proof.Machine.execDipConfirmed ch m s
  | .latenessAllowanceExpiry ch => Sys2Proof.Machine.execLatenessAllowanceExpiry ch s
  | .lowSideTrip ch => Sys2Proof.Machine.execLowSideTrip ch s
  | .highSideTrip bank => Sys2Proof.Machine.execHighSideTrip bank s
  | .riseTimeout ch => Sys2Proof.Machine.execRiseTimeout ch s
  | .vgdUvlo => Sys2Proof.Machine.execVgdUvlo s
  | .vgdRelease => Sys2Proof.Machine.execVgdRelease s
  | .diagSequenceStart bank => Sys2Proof.Machine.execDiagSequenceStart bank s
  | .diagStepA bank hs ld => Sys2Proof.Machine.execDiagStepA bank hs ld s
  | .diagStepB bank hs ld => Sys2Proof.Machine.execDiagStepB bank hs ld s
  | .diagStarveTimeout bank => Sys2Proof.Machine.execDiagStarveTimeout bank s
  | .cbRecordsTakeEffect bank => Sys2Proof.Machine.execCbRecordsTakeEffect bank s
  | .conversionEnd conv raw outside angle => Sys2Proof.Machine.execConversionEnd conv raw outside angle s
  | .injectedSequenceEnd conv => Sys2Proof.Machine.execInjectedSequenceEnd conv s
  | .refSettled conv => Sys2Proof.Machine.execRefSettled conv s
  | .vrefExtWindow inside => Sys2Proof.Machine.execVrefExtWindow inside s
  | .jigDelayExpiry conv => Sys2Proof.Machine.execJigDelayExpiry conv s
  | .calibrationEnd conv offset gain => Sys2Proof.Machine.execCalibrationEnd conv offset gain s
  | .tachEdge fan interval => Sys2Proof.Machine.execTachEdge fan interval s
  | .kickTimeout fan => Sys2Proof.Machine.execKickTimeout fan s
  | .backoffExpiry fan => Sys2Proof.Machine.execBackoffExpiry fan s
  | .tachTimeout fan => Sys2Proof.Machine.execTachTimeout fan s
  | .curTrig fan => Sys2Proof.Machine.execCurTrig fan s
  | .panelFrameEnd => Sys2Proof.Machine.execPanelFrameEnd s
  | .pnlPwrGoodRise => Sys2Proof.Machine.execPnlPwrGoodRise s
  | .pwrToExpiry => Sys2Proof.Machine.execPwrToExpiry s
  | .loadMaxExpiry region => Sys2Proof.Machine.execLoadMaxExpiry region s
  | .laneAlignment => Sys2Proof.Machine.execLaneAlignment s
  | .trainTimeout => Sys2Proof.Machine.execTrainTimeout s
  | .alignmentLost => Sys2Proof.Machine.execAlignmentLost s
  | .helloFrame h => Sys2Proof.Machine.execHelloFrame h s
  | .helloRepeat => Sys2Proof.Machine.execHelloRepeat s
  | .beat b => Sys2Proof.Machine.execBeat b s
  | .beatDue => Sys2Proof.Machine.execBeatDue s
  | .mirror seq ack cycle snapshot_ r damaged => Sys2Proof.Machine.execMirror seq ack cycle snapshot_ r damaged s
  | .batchEnd seq ack cycle => Sys2Proof.Machine.execBatchEnd seq ack cycle s
  | .resyncReq seq ack cls => Sys2Proof.Machine.execResyncReq seq ack cls s
  | .resyncDone seq ack cycle => Sys2Proof.Machine.execResyncDone seq ack cycle s
  | .relinquish seq ack areas swap => Sys2Proof.Machine.execRelinquish seq ack areas swap s
  | .relinquishResend => Sys2Proof.Machine.execRelinquishResend s
  | .bond key => Sys2Proof.Machine.execBond key s
  | .bondConfirm => Sys2Proof.Machine.execBondConfirm s
  | .bondTimeout => Sys2Proof.Machine.execBondTimeout s
  | .pairFrameRejected why => Sys2Proof.Machine.execPairFrameRejected why s
  | .retransmitTimeout => Sys2Proof.Machine.execRetransmitTimeout s
  | .linkSilence => Sys2Proof.Machine.execLinkSilence s
  | .heartbeatToggle => Sys2Proof.Machine.execHeartbeatToggle s
  | .prHbIEdge => Sys2Proof.Machine.execPrHbIEdge s
  | .heartbeatLoss => Sys2Proof.Machine.execHeartbeatLoss s
  | .activityToggle => Sys2Proof.Machine.execActivityToggle s
  | .prActIEdge => Sys2Proof.Machine.execPrActIEdge s
  | .activitySilence => Sys2Proof.Machine.execActivitySilence s
  | .dovetailOutputEnable => Sys2Proof.Machine.execDovetailOutputEnable s
  | .journalCommit => Sys2Proof.Machine.execJournalCommit s
  | .snapshot => Sys2Proof.Machine.execSnapshot s
  | .sensorWindow r counts => Sys2Proof.Machine.execSensorWindow r counts s
  | .throttleReport => Sys2Proof.Machine.execThrottleReport s
  | .automaticRestart => Sys2Proof.Machine.execAutomaticRestart s
  | .sentinelTick sup wake vaon => Sys2Proof.Machine.execSentinelTick sup wake vaon s
  | .senWakeEdge n rising => Sys2Proof.Machine.execSenWakeEdge n rising s
  | .rtcAlarm => Sys2Proof.Machine.execRtcAlarm s
  | .crystalFail => Sys2Proof.Machine.execCrystalFail s
  | .read addr n => Sys2Proof.Machine.execRead addr n s
  | .write addr data => Sys2Proof.Machine.execWrite addr data s
  | .readCrc addr len => Sys2Proof.Machine.execReadCrc addr len s
  | .writeCrc addr len data crc => Sys2Proof.Machine.execWriteCrc addr len data crc s
  | .qread addr n => Sys2Proof.Machine.execQread addr n s
  | .qwrite addr data => Sys2Proof.Machine.execQwrite addr data s
  | .qreadCrc addr len => Sys2Proof.Machine.execQreadCrc addr len s
  | .qwriteCrc addr len data crc => Sys2Proof.Machine.execQwriteCrc addr len data crc s
  | .badInstruction code => Sys2Proof.Machine.execBadInstruction code s
  | .registerWrite addr v => Sys2Proof.Machine.execRegisterWrite addr v s
  | .mailboxSlotWrite slot off data => Sys2Proof.Machine.execMailboxSlotWrite slot off data s
  | .bulkWindowWrite off data => Sys2Proof.Machine.execBulkWindowWrite off data s
  | .doorbell v => Sys2Proof.Machine.execDoorbell v s
  | .hifDoneClear v => Sys2Proof.Machine.execHifDoneClear v s
  | .irqStatClear v => Sys2Proof.Machine.execIrqStatClear v s
  | .evqPortRead n => Sys2Proof.Machine.execEvqPortRead n s
  | .rewind => Sys2Proof.Machine.execRewind s
  | .releaseAll => Sys2Proof.Machine.execReleaseAll s
  | .evqRelease v => Sys2Proof.Machine.execEvqRelease v s
  | .evqMarkSet => Sys2Proof.Machine.execEvqMarkSet s
  | .evqWmarkWrite v => Sys2Proof.Machine.execEvqWmarkWrite v s
  | .unassignedOpcode opcode r => Sys2Proof.Machine.execUnassignedOpcode opcode r s
  | .hello r => Sys2Proof.Machine.execHello r s
  | .sysIdentify r => Sys2Proof.Machine.execSysIdentify r s
  | .sysReset r => Sys2Proof.Machine.execSysReset r s
  | .sysTime r => Sys2Proof.Machine.execSysTime r s
  | .cfgOpen r => Sys2Proof.Machine.execCfgOpen r s
  | .cfgLoad r => Sys2Proof.Machine.execCfgLoad r s
  | .cfgCommit r => Sys2Proof.Machine.execCfgCommit r s
  | .cfgAbort r => Sys2Proof.Machine.execCfgAbort r s
  | .cfgRead r => Sys2Proof.Machine.execCfgRead r s
  | .cfgInfo r => Sys2Proof.Machine.execCfgInfo r s
  | .sysGetStats r => Sys2Proof.Machine.execSysGetStats r s
  | .statsClear r => Sys2Proof.Machine.execStatsClear r s
  | .mtSetCfg r => Sys2Proof.Machine.execMtSetCfg r s
  | .mtGetStatus r => Sys2Proof.Machine.execMtGetStatus r s
  | .mtTimed r => Sys2Proof.Machine.execMtTimed r s
  | .mtCancel r => Sys2Proof.Machine.execMtCancel r s
  | .ptRead r => Sys2Proof.Machine.execPtRead r s
  | .ptWrite r => Sys2Proof.Machine.execPtWrite r s
  | .paWrite r => Sys2Proof.Machine.execPaWrite r s
  | .paRead r => Sys2Proof.Machine.execPaRead r s
  | .paShadows r => Sys2Proof.Machine.execPaShadows r s
  | .flSetEth r => Sys2Proof.Machine.execFlSetEth r s
  | .flSetTrunk r => Sys2Proof.Machine.execFlSetTrunk r s
  | .flGetStatus r => Sys2Proof.Machine.execFlGetStatus r s
  | .flEthTx r => Sys2Proof.Machine.execFlEthTx r s
  | .flMdio r => Sys2Proof.Machine.execFlMdio r s
  | .flTrunkTx r => Sys2Proof.Machine.execFlTrunkTx r s
  | .paSetCfg r => Sys2Proof.Machine.execPaSetCfg r s
  | .paSetClass r => Sys2Proof.Machine.execPaSetClass r s
  | .paSetDev r => Sys2Proof.Machine.execPaSetDev r s
  | .paGetDev r => Sys2Proof.Machine.execPaGetDev r s
  | .paRebind r => Sys2Proof.Machine.execPaRebind r s
  | .paReadNow r => Sys2Proof.Machine.execPaReadNow r s
  | .lpSetLoop r => Sys2Proof.Machine.execLpSetLoop r s
  | .lpGetLoop r => Sys2Proof.Machine.execLpGetLoop r s
  | .lpEnable r => Sys2Proof.Machine.execLpEnable r s
  | .lpSetReg r => Sys2Proof.Machine.execLpSetReg r s
  | .lpLane r => Sys2Proof.Machine.execLpLane r s
  | .lpGetStats r => Sys2Proof.Machine.execLpGetStats r s
  | .lsSetArea r => Sys2Proof.Machine.execLsSetArea r s
  | .lsSetTrig r => Sys2Proof.Machine.execLsSetTrig r s
  | .lsSetResp r => Sys2Proof.Machine.execLsSetResp r s
  | .lsSetVal r => Sys2Proof.Machine.execLsSetVal r s
  | .lsSetIn r => Sys2Proof.Machine.execLsSetIn r s
  | .lsMode r => Sys2Proof.Machine.execLsMode r s
  | .cbSetBank r => Sys2Proof.Machine.execCbSetBank r s
  | .cbGetDiag r => Sys2Proof.Machine.execCbGetDiag r s
  | .cbRunDiag r => Sys2Proof.Machine.execCbRunDiag r s
  | .cbClear r => Sys2Proof.Machine.execCbClear r s
  | .csLoad r => Sys2Proof.Machine.execCsLoad r s
  | .csSetEntry r => Sys2Proof.Machine.execCsSetEntry r s
  | .csSetChan r => Sys2Proof.Machine.execCsSetChan r s
  | .csEvent r => Sys2Proof.Machine.execCsEvent r s
  | .csStop r => Sys2Proof.Machine.execCsStop r s
  | .csGetChan r => Sys2Proof.Machine.execCsGetChan r s
  | .adSetConv r => Sys2Proof.Machine.execAdSetConv r s
  | .adSetGroup r => Sys2Proof.Machine.execAdSetGroup r s
  | .adRead r => Sys2Proof.Machine.execAdRead r s
  | .adInject r => Sys2Proof.Machine.execAdInject r s
  | .adJig r => Sys2Proof.Machine.execAdJig r s
  | .adGetStats r => Sys2Proof.Machine.execAdGetStats r s
  | .fnSetChan r => Sys2Proof.Machine.execFnSetChan r s
  | .fnGetStatus r => Sys2Proof.Machine.execFnGetStatus r s
  | .fnClear r => Sys2Proof.Machine.execFnClear r s
  | .kySetCfg r => Sys2Proof.Machine.execKySetCfg r s
  | .kySetKeys r => Sys2Proof.Machine.execKySetKeys r s
  | .kyGetState r => Sys2Proof.Machine.execKyGetState r s
  | .pnSetCfg r => Sys2Proof.Machine.execPnSetCfg r s
  | .pnLoadTable r => Sys2Proof.Machine.execPnLoadTable r s
  | .pnOpen r => Sys2Proof.Machine.execPnOpen r s
  | .pnLines r => Sys2Proof.Machine.execPnLines r s
  | .pnStart r => Sys2Proof.Machine.execPnStart r s
  | .pnDiscard r => Sys2Proof.Machine.execPnDiscard r s
  | .pnGetStatus r => Sys2Proof.Machine.execPnGetStatus r s
  | .prSetCfg r => Sys2Proof.Machine.execPrSetCfg r s
  | .prBond r => Sys2Proof.Machine.execPrBond r s
  | .prRole r => Sys2Proof.Machine.execPrRole r s
  | .prGetStatus r => Sys2Proof.Machine.execPrGetStatus r s
  | .nvGetStatus r => Sys2Proof.Machine.execNvGetStatus r s
  | .nvSnapshot r => Sys2Proof.Machine.execNvSnapshot r s
  | .nvFwWrite r => Sys2Proof.Machine.execNvFwWrite r s
  | .nvFwActivate r => Sys2Proof.Machine.execNvFwActivate r s
  | .nvFwConfirm r => Sys2Proof.Machine.execNvFwConfirm r s
  | .thSetCfg r => Sys2Proof.Machine.execThSetCfg r s
  | .thGetStatus r => Sys2Proof.Machine.execThGetStatus r s
  | .snSetCfg r => Sys2Proof.Machine.execSnSetCfg r s
  | .snPower r => Sys2Proof.Machine.execSnPower r s
  | .snStatus r => Sys2Proof.Machine.execSnStatus r s
  | .snGetLog r => Sys2Proof.Machine.execSnGetLog r s
  | .snOut r => Sys2Proof.Machine.execSnOut r s
  | .evqSetCfg r => Sys2Proof.Machine.execEvqSetCfg r s
  | .evqGetStats r => Sys2Proof.Machine.execEvqGetStats r s
  | .bridgeBadFrames => Sys2Proof.Machine.execBridgeBadFrames s
  | .x32CrystalRetry ok => Sys2Proof.Machine.execX32CrystalRetry ok s
  | .sysResetExecute => Sys2Proof.Machine.execSysResetExecute s
  | .digestRecompute => Sys2Proof.Machine.execDigestRecompute s
  | .mstpFrameAbort trunk => Sys2Proof.Machine.execMstpFrameAbort trunk s
  | .mstpSlotTimeout trunk => Sys2Proof.Machine.execMstpSlotTimeout trunk s
  | .rtuTimeoutSilence trunk => Sys2Proof.Machine.execRtuTimeoutSilence trunk s
  | .coreSupplyGateHold => Sys2Proof.Machine.execCoreSupplyGateHold s
  | .coreSupplyGateRelease => Sys2Proof.Machine.execCoreSupplyGateRelease s

end Sys2Proof.Machine
end

