-- ==== Sys2Proof/Machine/Step.lean ====
section
/-!
DEFINITION. `step`: the command at the front of the queue, or, with no command waiting, one tick of the clock.
-/

namespace Sys2Proof.Machine

open Sys2Proof

/-- A tick of the clock: time passes (R34, R53), and what it brings is done. DESIGN CHOICE: notes/assumptions/1.md. -/
def tick (s : State) : Host.Outcome State Fault Refusal := done s (whenEngine tickWork (tickTime s))

/-- One step. -/
def step (s : State) : Host.Outcome State Fault Refusal :=
  match s.pending with
  | c :: rest => exec c { s with pending := rest }
  | [] => tick s

/-- The command that a word spells, put at the front of the queue; no word spells one. -/
def State.withFetchWord (s : State) (nbits w : Nat) : State :=
  match decodeTableWord nbits w with
  | some c => { s with pending := c :: s.pending }
  | none => s

end Sys2Proof.Machine
end

