-- ==== Sys2Proof/Safety.lean ====
section
/-!
DEFINITION. What claims about runs are stated in: a device at rest, the honest eligible flag, and outputs that are safe.
-/

namespace Sys2Proof.Machine

open Sys2Proof

/-- The role is one that R329 keeps as things stand. -/
def roleStable (s : State) : Bool :=
  let p := s.pr
  match p.role with
  | .negotiate =>
    !s.sys.restored || s.sys.recovery ||
      (pairEn s && p.actQuiet && (!(p.link == .up && p.pRole == .negotiate) || (s.nv.gen == p.pGen && !(p.eligible && p.pEligible))))
  | .simplex => !ownFault s && !(p.link == .up && p.pEligible && p.pRole == .standby && p.synced)
  | .active => !ownFault s && p.pEligible && (p.link == .up || !p.hbLost)
  | .standby =>
    !p.isolated && !p.napIso && !ownFault s &&
      !(p.actLost && (if p.link == .up then roleDuty p.pRole else !p.hbLost) && !p.actEv)
  | .isolated => !(p.eligible && s.sys.power != .nap) || (p.actQuiet && p.actI)

/-- Every change of class M1 or M2 has gone to the partner (R331). -/
def mirrorSent (s : State) : Bool :=
  s.pr.link != .up || !s.duty ||
    ((List.range 24).all (fun ch => m1Of (s.coil ch) == s.pr.sentCoil.get ch) && s.pr.dirty.all (fun d => decide (2 < d.1)))

/-- A device at rest: unpowered, or with nothing left to do that follows a step (no ring latched, no command waiting for its turn, a
stable role, an eligible flag and a comparison of generations that stand as R328 and R337 say, nothing unsent). -/
def rest (s : State) : Bool :=
  !portOn s ||
    (s.mb.rings.isEmpty && s.mb.outst.all (fun o => o.wait != .held) && s.pr.eligible == eligibleNow s &&
      s.pr.genMismatch == (s.pr.pHello && s.sys.restored && s.nv.gen != s.pr.pGen) && roleStable s && mirrorSent s)

/-- The eligible flag of a powered device says exactly what R328 asks of it. -/
def EligibleHonest (s : State) : Prop := portOn s = true → s.pr.eligible = eligibleNow s

/-- The state after a command whose own effect led from `s` to `u`: what follows every step, and the queue of `s`. -/
@[irreducible] def after (s u : State) : State := { settle u with pending := s.pending }

/-! ## A request that the device takes and executes at once -/

/-- The outstanding entry of a request of opcode `op` (R445). -/
def entryOf (op : Nat) (r : Req) : Outst :=
  { org := .slot r.slot.val, tag := r.tag.toNat, opcode := op, level := r.level.toNat, req := r.payload }

/-- The slot's memory once the request is written and rung: the header fields of R442 and the payload; STATUS, DETAIL and the
bytes behind the payload are as they were, and the slot is the device's (R438). -/
def slotTaken (op : Nat) (r : Req) (m : MSlot) : MSlot :=
  { m with
    opcode := u16 op, tag := r.tag, level := r.level, byte5 := r.byte5, len := r.len, crc := r.crc, device := true
    body := if r.payload.isEmpty then m.body else (r.payload ++ m.body.drop r.payload.length).take 1008 }

/-- `s` with the request taken (R438 to R440, R445): it is written into its slot, the slot belongs to the device, it is counted, and it
is outstanding. -/
def taken (op : Nat) (r : Req) (s : State) : State :=
  { s with mb := { s.mb with
      slot := (s.mb.slot.upd r.slot.val (fun k => k.write 0 (requestBytes op r))).upd r.slot.val (fun k => { k with device := true })
      taken := sat32 s.mb.taken
      outst := s.mb.outst ++ [entryOf op r]
      rings := [] } }

/-- The request passes every check of R444 for the card `c`, in a device that serves its mailboxes in RUN or PARK, and nothing that
stands outstanding makes it wait (R441, R474). -/
structure Accepts (op : Nat) (c : Card) (r : Req) (s : State) : Prop where
  /-- The opcode is assigned (check 7). -/
  card : cardOf op = some c
  /-- The device serves its mailboxes: READY; in RECOVERY mode it knows six commands, at level 1 (R476). -/
  power : s.sys.power = .run ∨ s.sys.power = .park
  ready : s.sys.ready = true
  normal : s.sys.recovery = false ∨ (recoveryCards.contains op = true ∧ r.level = 1)
  /-- The slot belongs to the host, and no other ring is latched (R438, R440). -/
  mine : (s.mb.slot.get r.slot.val).device = false
  clear : s.port.done.toNat.testBit r.slot.val = false
  rings : s.mb.rings = []
  /-- Checks 1 to 3. -/
  room : r.payload.length ≤ 1008
  len : r.len.toNat = r.payload.length
  crc : r.crc.toNat = crc32 r.payload
  zero : r.byte5 = 0
  /-- Check 4: no outstanding command carries the tag. -/
  tag : s.mb.outst.all (fun o => !(o.isSlot && o.tag == r.tag.toNat)) = true
  /-- Checks 5 and 6. -/
  epoch : op = 1 ∨ s.mb.epoch = some (epochOf r.tag.toNat)
  /-- Check 8. -/
  level : op = 1 ∨ (1 ≤ r.level.toNat ∧ r.level.toNat ≤ s.mb.level ∧ c.since ≤ r.level.toNat)
  /-- Check 9. -/
  need : c.need r.payload.length r.payload = r.payload.length
  /-- Start-up has come far enough for it (R474). -/
  started : s.sys.restored = true ∨ s.sys.recovery = true ∨ early.contains op = true
  /-- Its MT-keyed entry does not wait for role negotiation (R40, R474). -/
  negotiated : (s.sys.negotiated = true ∧ s.pr.adopt = false) ∨ mtKeyed (entryOf op r) = false
  /-- No command waits for its turn, and none stands in the way of this one (R441). -/
  held : s.mb.outst.all (fun o => o.wait != .held && o.org != .slot r.slot.val) = true
  free : atTake.contains op = true ∨ s.mb.outst.all (fun o => !blocks o (entryOf op r) c.journals) = true

/-- The request passes every check of R444 for the card of its opcode, and nothing makes it wait. -/
def Accepted (op : Nat) (r : Req) (s : State) : Prop := ∃ c, Accepts op c r s

/-- `t` is `s` with the request of opcode `op` taken, `p` its payload: what the command then executes on. -/
def Takes (op : Nat) (r : Req) (p : List Byte) (s t : State) : Prop := Accepted op r s ∧ p = r.payload ∧ t = taken op r s

/-- Every check of a list holds (R443). -/
def allOk (cs : List (Bool × Nat)) : Bool := cs.all (·.1)

/-- n reserved bytes of a request from offset o on are 0 (R13). -/
def zeroed (p : List Byte) (o n : Nat) : Bool := allOk (zero p o n)

/-- Every field of a record's map is within its range (R443). -/
def keeps (fs : List Field) (x : Img) : Bool := allOk (mapped fs 0 x)

/-- The command completes with OK and a response (R442, R448), in the state `u` that its effect leaves. -/
def answered (r : Req) (resp : List Byte) (u : State) : State := complete (.slot r.slot.val) St.ok 0 resp u

/-- The command is refused with a status and a DETAIL, and counted as refused (R448, R469). -/
def refusedWith (r : Req) (st d : Nat) (resp : List Byte) (u : State) : State :=
  complete (.slot r.slot.val) st d resp (mbUpd (fun m => { m with refused := sat32 m.refused }) u)

/-- The command stays outstanding until `w` (R448). -/
def waiting (r : Req) (w : Wait) (u : State) : State := setWait (.slot r.slot.val) w u

/-- The configuration region and the store can take a command's records: the store is not fenced (R371), and the records fit (R359). -/
def room (ws : List CfgWrite) (t : State) : Bool :=
  !t.fenced && !decide (0x400000 < cfgUsed (applyWrites t.nv.cfg ws) t.ses.staged)

/-- The command's records are submitted to the journal, and it stays outstanding until they are committed (R357, R448): `adv` is whether
the commit advances the generation, `arg` a number that the commit uses, and `resp` the response that the commit gives. -/
def recorded (r : Req) (adv : Bool) (arg : Nat) (ws : List CfgWrite) (resp : List Byte) (t : State) : State :=
  waiting r .journal (submit { typ := .config, slots := writesSlots adv ws, writes := ws, gen := if adv then some none else none,
                               org := some (.slot r.slot.val), resp := resp, arg := arg } t)

/-! ## Which commands reach which part of the device -/

/-- A command that reaches the supplies, the always-on domain, or the balls of the host port (which drive 0xFF without power). -/
def reachesAlwaysOn (i : Instr) : Bool :=
  match i with
  | .read _ _ | .write _ _ | .readCrc _ _ | .writeCrc _ _ _ _ | .qread _ _ | .qwrite _ _ | .qreadCrc _ _ | .qwriteCrc _ _ _ _
  | .porstNRelease _ _ | .pgoodCoreFall | .vaonPowerOn | .vaonLoss | .patrolScrub _ _ | .sentinelTick _ _ _ | .senWakeEdge _ _
  | .rtcAlarm | .crystalFail | .x32CrystalRetry _ => true
  | _ => false

/-- A command of PNT, the lanes, CSQ, PNL, the field links or PAIR, which are halted in NAP, thermal hold and RECOVERY mode (R383, R387, R476). -/
def engineCommand (i : Instr) : Bool :=
  match i with
  | .ethFrameRx _ _ | .phyStatusPoll _ _ | .phyint _ _ | .portSilence _ | .portRecover _ | .arpResolutionTimeout _ _
  | .arpAgeout _ _ | .gratuitousArp | .tcpRetransmitTimeout _ | .tcpIdleClose _ | .trunkFrameRx _ _ | .trunkFrameSent _ _
  | .mstpNoToken _ | .mstpReplyTimeout _ | .mstpUsageTimeout _ | .rtuFrameRx _ _ _ | .rtuRespTimeout _ | .rtuBcastDelay _
  | .rxStuck _ | .errRateWindow _ | .noPeer _ | .trunkProbe _ | .trunkRecover _ | .iAm _ _ _ _ _ | .readReply _ _ _
  | .covNotification _ _ _ _ _ _ | .writeReply _ _ _ | .subscribeCovReply _ _ _ _ | .requestTimeout _ _
  | .invokeIdQuarantineEnd _ _ | .modbusBusyRetry _ _ | .writeResend _ _ | .pollClassDue _ | .livenessProbe _
  | .deviceSilence _ | .silentProbe _ | .unbindTimeout _ | .seek _ | .discAgeTimeout _ | .covRenewal _ | .mstpFrameAbort _
  | .mstpSlotTimeout _ | .rtuTimeoutSilence _ | .loopDue _ | .loopScan _ _ | .loopEnd _ | .ldp _ | .ldf _ | .ldk _ | .ldw _
  | .stp _ | .relp _ | .mov _ | .add _ | .sub _ | .mul _ | .div _ | .abs _ | .min _ | .max _ | .lim _ | .sel _ | .cmp _
  | .qnt _ | .and _ | .or _ | .xor _ | .not _ | .loopJmp _ | .pid _ | .ramp _ | .tpos _ | .seq _ | .tab _ | .don _ | .doff _
  | .laneWatchdog _ | .laneSelfCheck _ _ | .laneTestEnd _ _ | .coilEventStart _ | .csqEnd _ | .src _ | .lsw _ | .dcy _ | .wt _
  | .wi _ | .chop _ | .mark _ | .dwin _ | .loop _ | .csqJmp _ | .br _ | .scrb _ | .wtExpiry _ | .comparatorCrossing _ _ _
  | .wiTimeout _ | .chopEnd _ | .peakLimit _ | .boostMaxLimit _ | .onTimeLimit _ | .slowDecayLimit _ | .eventEnd _
  | .dipConfirmed _ _ | .latenessAllowanceExpiry _ | .riseTimeout _ | .diagSequenceStart _ | .diagStepA _ _ _
  | .diagStepB _ _ _ | .diagStarveTimeout _ | .laneAlignment | .trainTimeout | .alignmentLost | .helloFrame _ | .helloRepeat
  | .beat _ | .beatDue | .mirror _ _ _ _ _ _ | .batchEnd _ _ _ | .resyncReq _ _ _ | .resyncDone _ _ _ | .relinquish _ _ _ _
  | .relinquishResend | .bond _ | .bondConfirm | .bondTimeout | .pairFrameRejected _ | .retransmitTimeout | .linkSilence
  | .heartbeatToggle | .prHbIEdge | .heartbeatLoss | .activityToggle | .prActIEdge | .activitySilence | .dovetailOutputEnable
  | .panelFrameEnd | .pnlPwrGoodRise | .pwrToExpiry | .loadMaxExpiry _ => true
  | _ => false


end Sys2Proof.Machine
end

