-- ==== Sys2Proof/Certificates/Slice0/Obligations.lean ====
section
/-!
DEFINITION. The statements for the provers.
-/

open Sys2Proof Sys2Proof.Machine

/-- A step takes the command at the front of the queue and runs it on the state with the queue's rest. -/
def Obligations.StepRunsFront : Prop :=
  ∀ (c : Instr) (rest : List Instr) (s : State), step { s with pending := c :: rest } = exec c { s with pending := rest }

/-- Every command answers a next state in every state and leaves the queue of waiting commands alone. -/
def Obligations.EveryCommandCompletes : Prop :=
  ∀ (i : Instr) (s : State), ∃ t, exec i s = .next t ∧ t.pending = s.pending

/-- After every step of a powered device its eligible flag is exactly the conjunction of R328. -/
def Obligations.EligibleStaysHonest : Prop :=
  ∀ s t : State, EligibleHonest s → step s = .next t → EligibleHonest t

/-- At reset the device is powered, nothing is queued, outputs are disabled, MT has not started, and the eligible flag is honest. -/
def Obligations.ResetIsHonestAndAtRest : Prop :=
  EligibleHonest State.reset ∧ portOn State.reset = true ∧ State.reset.port.bench = [] ∧ State.reset.cal.entries = [] ∧
  State.reset.mb.outst = [] ∧ State.reset.pending = [] ∧ State.reset.sys.outputs = false ∧ State.reset.mt.started = false ∧
  State.reset.sys.ready = false ∧ State.reset.sys.restored = false

/-- In STANDBY and OFF only the always-on domain and the supplies can change anything. -/
def Obligations.UnpoweredIsInert : Prop :=
  ∀ (i : Instr) (s : State), portOn s = false → reachesAlwaysOn i = false → exec i s = .next s

/-- In NAP, in thermal hold and in RECOVERY mode the engines, the field links and PAIR do nothing. -/
def Obligations.HaltedEnginesAreInert : Prop :=
  ∀ (i : Instr) (s : State), (portOn s = false ∨ s.sys.power = .nap ∨ s.th.hold = true ∨ s.sys.recovery = true) →
    engineCommand i = true → exec i s = .next (after s s)

/-- The checks of R444 in their order: each refused request gets its status and DETAIL, and nothing else of the device changes. -/
def Obligations.RefusalsAtTheTake : Prop :=
  ∀ (i : Instr) (op : Nat) (r : Req) (s : State) (st d : Nat), i.call = some (op, r) → op < 2 ^ 16 → r.payload.length ≤ 1008 →
    (s.sys.power = .run ∨ s.sys.power = .park) → s.sys.ready = true → s.sys.recovery = false →
    (s.mb.slot.get r.slot.val).device = false → s.port.done.toNat.testBit r.slot.val = false → s.mb.rings = [] →
    op ≠ 0x0001 →
    ((1008 < r.len.toNat ∧ st = St.badLen ∧ d = 1008) ∨
     (r.len.toNat = r.payload.length ∧
      ((crc32 r.payload ≠ r.crc.toNat ∧ st = St.badCrc ∧ d = 0) ∨
       (crc32 r.payload = r.crc.toNat ∧
        ((r.byte5 ≠ 0 ∧ st = St.range ∧ d = 0xFFFF) ∨
         (r.byte5 = 0 ∧
          ((∃ n, s.mb.outst.find? (fun o => o.isSlot && o.tag == r.tag.toNat) = some n ∧ n.org = .slot d ∧ st = St.tagBusy) ∨
           (s.mb.outst.find? (fun o => o.isSlot && o.tag == r.tag.toNat) = none ∧
            ((s.mb.epoch = none ∧ st = St.badLevel ∧ d = ((cardOf op).map (·.since)).getD 0) ∨
             ((∃ e, s.mb.epoch = some e ∧ e ≠ epochOf r.tag.toNat) ∧ st = St.staleEpoch ∧ d = 0) ∨
             (s.mb.epoch = some (epochOf r.tag.toNat) ∧
              ((cardOf op = none ∧ st = St.badOpcode ∧ d = 0) ∨
               (∃ c, cardOf op = some c ∧
                ((¬ (1 ≤ r.level.toNat ∧ r.level.toNat ≤ s.mb.level ∧ c.since ≤ r.level.toNat) ∧
                  st = St.badLevel ∧ d = c.since + 16 * s.mb.level) ∨
                 (1 ≤ r.level.toNat ∧ r.level.toNat ≤ s.mb.level ∧ c.since ≤ r.level.toNat ∧
                  c.need r.payload.length r.payload ≠ r.payload.length ∧
                  st = St.badLen ∧ d = min (c.need r.payload.length r.payload) 0xFFFF)))))))))))))) →
    exec i s = .next (after s (completeSlot r.slot.val st d [] false
      { s with mb := { s.mb with
          slot := (s.mb.slot.upd r.slot.val (fun k => k.write 0 (requestBytes op r))).upd r.slot.val (fun k => { k with device := true })
          taken := sat32 s.mb.taken
          refused := sat32 s.mb.refused
          rings := [] } }))

/-- The tracker's timeouts: LOCK becomes RIDE at the mean frequency of the last 8 cycles, ACQUIRE becomes RIDE or SYNTH at MT(0, 0), RIDE becomes SYNTH. -/
def Obligations.MainsTimeouts : Prop :=
  ∀ s : State, mainRuns s = true →
    (s.mt.state = .lock →
      let f := if s.mt.last8.isEmpty then s.mt.freq else freqOf (sumNat s.mt.last8) s.mt.last8.length
      exec .crossingTimeout s = .next (after s (mainsEvent 0x20 [efMT s.mt.lastValid, ef 4 f]
        { s with mt := { s.mt with state := .ride, freq := f, slew := 0, seam := none, newRef := false, run := [] } }))) ∧
    (s.mt.state ≠ .lock → exec .crossingTimeout s = .next (after s { s with mt := { s.mt with run := [] } })) ∧
    (s.mt.state = .acquire → 2 ≤ s.mt.last8.length → exec .acquireTimeout s = .next (after s { s with mt := { s.mt with
      started := true, now := {}, first := true, freq := freqOf (sumNat s.mt.last8) s.mt.last8.length, state := .ride } })) ∧
    (s.mt.state = .acquire → s.mt.last8.length < 2 → exec .acquireTimeout s = .next (after s { s with mt := { s.mt with
      started := true, now := {}, first := true, freq := s.nomFreq, state := .synth } })) ∧
    (s.mt.state ≠ .acquire → exec .acquireTimeout s = .next (after s s)) ∧
    (s.mt.state = .ride → exec .rideTimeout s = .next (after s (mainsEvent 0x21 [ef 4 s.nomFreq]
      { s with mt := { s.mt with state := .synth, toNominal := true } }))) ∧
    (s.mt.state ≠ .ride → exec .rideTimeout s = .next (after s s))

/-- A valid crossing of the reference phase that completes a consistent run in ACQUIRE starts MT at MT(0, 0) in LOCK; one of another phase changes nothing. -/
def Obligations.CrossingLocks : Prop :=
  ∀ (phase : Fin 3) (interval amp : Nat) (angle : U16) (m : MainsMeas) (s : State),
    portOn s = true → s.sys.recovery = false →
    (phase.val ≠ mtRef s → exec (.crossing phase interval amp angle m) s = .next (after s s)) ∧
    (phase.val = mtRef s → s.mt.state = .acquire → s.mt.started = false → validCrossing s interval amp = false →
      exec (.crossing phase interval amp angle m) s = .next (after s { s with mt := { s.mt with run := [] } })) ∧
    (phase.val = mtRef s → s.mt.state = .acquire → s.mt.started = false → validCrossing s interval amp = true →
      consistent s ((interval :: s.mt.run).take 32) = false →
      exec (.crossing phase interval amp angle m) s = .next (after s { s with mt := { s.mt with
        run := (interval :: s.mt.run).take 32, last8 := (interval :: s.mt.last8).take 8, lastValid := s.mt.now } })) ∧
    (phase.val = mtRef s → s.mt.state = .acquire → s.mt.started = false → validCrossing s interval amp = true →
      consistent s ((interval :: s.mt.run).take 32) = true →
      exec (.crossing phase interval amp angle m) s = .next (after s { s with mt := { s.mt with
        started := true, now := {}, first := true, state := .lock, run := [], last8 := (interval :: s.mt.last8).take 8
        freq := freqOf (sumNat (((interval :: s.mt.run).take 32).take (mtConfirm s))) (((interval :: s.mt.run).take 32).take (mtConfirm s)).length
        lastValid := {} } })) ∧
    (∀ b, phase.val = mtRef s → s.mt.state = .lock → b = reachAngle angle s →
      (validCrossing b interval amp = false → exec (.crossing phase interval amp angle m) s = .next (after s b)) ∧
      (validCrossing b interval amp = true → b.mt.newRef = false → inGate b angle = false →
        exec (.crossing phase interval amp angle m) s = .next (after s
          (mtUpd (fun m => { m with phaseHits := sat32 m.phaseHits }) b))) ∧
      (validCrossing b interval amp = true → b.mt.newRef = false → inGate b angle = true → b.mt.seam = none →
        exec (.crossing phase interval amp angle m) s = .next (after s (lockCrossing interval angle (noteCrossing interval angle b)))) ∧
      (validCrossing b interval amp = true → b.mt.newRef = false → inGate b angle = true → b.mt.seam.isSome = true →
        exec (.crossing phase interval amp angle m) s = .next (after s
          (seamBoundary m (lockCrossing interval angle (noteCrossing interval angle b)))))) ∧
    (∀ b, phase.val = mtRef s → s.mt.state = .ride → b = reachAngle angle s →
      (validCrossing b interval amp = false → exec (.crossing phase interval amp angle m) s = .next (after s
        (mtUpd (fun m => { m with run := [] }) b))) ∧
      (validCrossing b interval amp = true → consistent (noteCrossing interval angle b) (longerRun interval b) = true →
        exec (.crossing phase interval amp angle m) s = .next (after s (relock angle (mtUpd (fun m => { m with
          freq := runFreq (noteCrossing interval angle b) (longerRun interval b), run := [], toNominal := false })
          (noteCrossing interval angle b))))))

/-- A cycle boundary ends the cycle, latches UTC, and runs the steps of R24 in their order; a half-cycle boundary those of R25. -/
def Obligations.BoundarySteps : Prop :=
  (∀ (m : MainsMeas) (s b : State), mtRuns s = true → b = forRange 3 (phaseWatch m) (cycleStart (reachCycle s)) →
    (b.sys.power ≠ .nap → b.sys.restored = false → exec (.cycleBoundary m) s = .next (after s b)) ∧
    (b.sys.power = .nap → exec (.cycleBoundary m) s = .next (after s (napSteps none b).1)) ∧
    (b.sys.power ≠ .nap → b.sys.restored = true → (cycleOutputs b).pr.swapDue = true →
      exec (.cycleBoundary m) s = .next (after s (swapBoundary (cycleOutputs b)))) ∧
    (b.sys.power ≠ .nap → b.sys.restored = true → (cycleOutputs b).pr.swapDue = false →
      exec (.cycleBoundary m) s = .next (after s (napBoundary (applySession (dueAtZero (timedAll (dispatchAll
        (cycleLoops (cycleHalf (cycleLand m false (cycleOutputs b)))))))))))) ∧
  (∀ s : State, mtRuns s = true →
    (s.sys.power ≠ .nap → s.sys.restored = true →
      exec .halfCycleBoundary s = .next (after s (dispatchAll (halfSteps (reachHalf s))))) ∧
    (s.sys.power ≠ .nap → s.sys.restored = false → exec .halfCycleBoundary s = .next (after s (reachHalf s))) ∧
    (s.sys.power = .nap → exec .halfCycleBoundary s = .next (after s (napSteps none (reachHalf s)).1))) ∧
  (∀ (k : Fin 8) (s : State), mtRuns s = true → s.sys.power = .run →
    exec (.eighthCycleInstant k) s = .next (after s (takeCoils true (reachAngle (u16 (8192 * k.val)) s))))

/-- CALENDAR_DISPATCH reaches its angle and dispatches every entry that is due in MT order; TIMED_COMMAND_DISPATCH takes the first due timed command. -/
def Obligations.CalendarRows : Prop :=
  (∀ (angle : U16) (s : State), mtRuns s = true →
    (dueEntry (reachAngle angle s) = none → exec (.calendarDispatch angle) s = .next (after s (reachAngle angle s))) ∧
    (dueEntry (reachAngle angle s) ≠ none →
      exec (.calendarDispatch angle) s = .next (after s (dispatchAll (exitNap (reachAngle angle s)))))) ∧
  (∀ s : State, mtRuns s = true → dueTimed s = none → exec .timedCommandDispatch s = .next (after s s)) ∧
  (∀ (s : State) (e : CalEntry) (u maxLate op b5 : Nat) (p : List Byte), mtRuns s = true → s.sys.power ≠ .nap →
    dueTimed s = some (e, u) → e.job = .timed maxLate op b5 p →
    (s.duty = false → exec .timedCommandDispatch s = .next (after s
      (mtUpd (fun m => { m with timedStandby := sat32 m.timedStandby }) (calRemove e s)))) ∧
    (s.duty = true → maxLate ≠ 0 → maxLate * 32768 < s.rtc.corrUtc - u → exec .timedCommandDispatch s = .next (after s
      (raise 2 0x26 [ef 2 e.handle, ef 8 u, ef 4 ((s.rtc.corrUtc - u) / 32768)] (calRemove e s)))) ∧
    (s.duty = true → ¬ (maxLate ≠ 0 ∧ maxLate * 32768 < s.rtc.corrUtc - u) → (s.rtc.corrUtc - u) * s.nomFreq ≤ 65536000 →
      exec .timedCommandDispatch s = .next (after s (runTimed e.handle op b5 p (calRemove e s)))))

/-- Each instruction of the coil sequencer has its effect on its channel's context when the context is ready and its word carries the operation. -/
def Obligations.CsqInstructions : Prop :=
  ∀ (ch : Fin 24) (s u : State) (c : Ctx) (w : Nat), enginesRun s = true → (s.coil ch.val).ctx = some c → turn s ch.val = true →
    microWord s c.pc = w → u = bankUpd (ch.val / 4) (fun k => { k with issued := ch.val % 4 }) s →
    (fld w 27 5 = 0x00 → exec (.csqEnd ch) s = .next (after s (bankStep (ch.val / 4)
      (ctxUpd ch.val (fun c => { c with wait := .ending, src := 0, ends := 0 }) (closeWindow ch.val u))))) ∧
    (fld w 27 5 = 0x01 → fld w 25 2 ≠ 2 → exec (.src ch) s = .next (after s (bankStep (ch.val / 4)
      (ctxUpd ch.val (fun c => { c with
        src := fld w 25 2, decay := fld w 23 2, ih := fld w 8 8, il := fld w 0 8, noBoost := false, stealOff := false, heldOff := false
        fast := false, pc := c.pc + 1, wait := .ready, phaseAt := time10ns s, word := c.pc, peak := 0, low := none }) u)))) ∧
    (fld w 27 5 = 0x01 → fld w 25 2 = 2 → boostFit s (ch.val / 4) = false → exec (.src ch) s = .next (after s (bankStep (ch.val / 4)
      (ctxUpd ch.val (fun c => { c with
        src := 1, decay := fld w 23 2, ih := fld w 8 8, il := fld w 0 8, noBoost := false, stealOff := false, heldOff := false
        fast := false, pc := c.pc + 1, wait := .ready, phaseAt := time10ns s, word := c.pc, peak := 0, low := none }) u)))) ∧
    (fld w 27 5 = 0x01 → fld w 25 2 = 2 → boostFit s (ch.val / 4) = true →
      (c.pc = entFld s c.ev.entry 0 11 ∨ obstructions u ch.val = []) → exec (.src ch) s = .next (after s (bankStep (ch.val / 4)
      (ctxUpd ch.val (fun c => { c with
        src := 2, decay := fld w 23 2, ih := fld w 8 8, il := fld w 0 8, noBoost := false, stealOff := false, heldOff := false
        fast := false, pc := c.pc + 1, wait := .ready, phaseAt := time10ns s, word := c.pc, peak := 0, low := none })
        (if c.pc = entFld s c.ev.entry 0 11 then u else countSteal ch.val u))))) ∧
    (fld w 27 5 = 0x01 → fld w 25 2 = 2 → boostFit s (ch.val / 4) = true → c.pc ≠ entFld s c.ev.entry 0 11 →
      obstructions u ch.val ≠ [] → exec (.src ch) s = .next (after s (bankStep (ch.val / 4)
        (ctxUpd ch.val (fun c => { c with wait := .boost, waitAt := time10ns s })
          (bankUpd (ch.val / 4) (fun k => { k with delayed := sat32 k.delayed }) u))))) ∧
    (fld w 27 5 = 0x02 → (w.testBit 0 && kerfRuns s ch.val) = false → exec (.lsw ch) s = .next (after s (bankStep (ch.val / 4)
      (ctxUpd ch.val (fun c => { c.resetPeak with pc := c.pc + 1 }) (ctxUpd ch.val (fun c => { c with lsw := w.testBit 0 }) u))))) ∧
    (fld w 27 5 = 0x02 → (w.testBit 0 && kerfRuns s ch.val) = true → exec (.lsw ch) s = .next (after s (bankStep (ch.val / 4)
      (ctxUpd ch.val (fun c => { c.resetPeak with pc := c.pc + 1 }) (ctxUpd ch.val (fun c => { c with lsw := false })
        (coilUpd ch.val (fun k => { k with kerfViol := sat32 k.kerfViol }) u)))))) ∧
    (fld w 27 5 = 0x03 → exec (.dcy ch) s = .next (after s (bankStep (ch.val / 4)
      (ctxUpd ch.val (fun c => { c with decay := fld w 0 2, pc := c.pc + 1 }) u)))) ∧
    (fld w 27 5 = 0x04 → exec (.wt ch) s = .next (after s (bankStep (ch.val / 4)
      (ctxUpd ch.val (fun c => { c with wait := .wt, waitAt := time10ns s, pc := c.pc + 1 }) u)))) ∧
    (fld w 27 5 = 0x05 → exec (.wi ch) s = .next (after s (bankStep (ch.val / 4)
      (ctxUpd ch.val (fun c => { c with wait := .wi (w.testBit 26), waitAt := time10ns s, pc := c.pc + 1 }) u)))) ∧
    (fld w 27 5 = 0x06 → kerfRuns s ch.val = false → exec (.chop ch) s = .next (after s (bankStep (ch.val / 4)
      (ctxUpd ch.val (fun c => { c.resetPeak with wait := .chop true (fld w 0 26 == 0), waitAt := time10ns s, pc := c.pc + 1 })
        (ctxUpd ch.val (fun c => { c with lsw := true }) u))))) ∧
    (fld w 27 5 = 0x06 → kerfRuns s ch.val = true → exec (.chop ch) s = .next (after s (bankStep (ch.val / 4)
      (ctxUpd ch.val (fun c => { c.resetPeak with wait := .chop true (fld w 0 26 == 0), waitAt := time10ns s, pc := c.pc + 1 })
        (ctxUpd ch.val (fun c => { c with lsw := false }) (coilUpd ch.val (fun k => { k with kerfViol := sat32 k.kerfViol }) u)))))) ∧
    (fld w 27 5 = 0x07 → w.testBit 26 = true → exec (.mark ch) s = .next (after s (bankStep (ch.val / 4)
      (ctxUpd ch.val (fun c => { c with pc := c.pc + 1 }) (raise 3 0x92 [ef 1 ch.val, ef 1 (fld w 0 8)] u))))) ∧
    (fld w 27 5 = 0x07 → w.testBit 26 = false → exec (.mark ch) s = .next (after s (bankStep (ch.val / 4)
      (ctxUpd ch.val (fun c => { c with pc := c.pc + 1 }) (triggerMask .mark {} (fld w 22 4) u).2)))) ∧
    (fld w 27 5 = 0x08 → w.testBit 0 = true → exec (.dwin ch) s = .next (after s (bankStep (ch.val / 4)
      (ctxUpd ch.val (fun c => { c with dwin := true, seen := false, crossed := false, pc := c.pc + 1 }) u)))) ∧
    (fld w 27 5 = 0x08 → w.testBit 0 = false → exec (.dwin ch) s = .next (after s (bankStep (ch.val / 4)
      (ctxUpd ch.val (fun c => { c with pc := c.pc + 1 }) (closeWindow ch.val u))))) ∧
    (fld w 27 5 = 0x09 → exec (.loop ch) s = .next (after s (bankStep (ch.val / 4)
      (ctxUpd ch.val (fun c => if c.loopCnt < fld w 0 8 then { c with loopCnt := c.loopCnt + 1, pc := fld w 16 11 }
        else { c with loopCnt := 0, pc := c.pc + 1 }) u)))) ∧
    (fld w 27 5 = 0x0A → exec (.csqJmp ch) s = .next (after s (bankStep (ch.val / 4)
      (ctxUpd ch.val (fun c => { c with pc := fld w 16 11 }) u)))) ∧
    (fld w 27 5 = 0x0B → exec (.br ch) s = .next (after s (bankStep (ch.val / 4)
      (ctxUpd ch.val (fun c => if c.flags.testBit (fld w 0 4) ≠ w.testBit 4 then { c with pc := fld w 16 11 }
        else { c with pc := c.pc + 1 }) u)))) ∧
    (fld w 27 5 = 0x0C → w.testBit 0 = true → exec (.scrb ch) s = .next (after s (bankStep (ch.val / 4)
      (ctxUpd ch.val (fun c => { c.resetPeak with armed := true, tried := true, confirmed := c.confirmed && c.armed, pc := c.pc + 1 }) u)))) ∧
    (fld w 27 5 = 0x0C → w.testBit 0 = false → exec (.scrb ch) s = .next (after s (bankStep (ch.val / 4)
      (ctxUpd ch.val (fun c => { c with armed := false, confirmed := false, pc := c.pc + 1 })
        (if c.armed then eventMiss ch.val u else u)))))

/-- The waits and limits of a coil context: WT, WI and CHOP end, thresholds cross, PEAK_LIM, BOOST_MAX, ON_MAX and the SLOW limit act. -/
def Obligations.CsqWaits : Prop :=
  ∀ (ch : Fin 24) (s : State) (c : Ctx), enginesRun s = true → (s.coil ch.val).ctx = some c →
    let set (c' : Ctx) : State := coilUpd ch.val (fun k => { k with ctx := some c' }) s
    let goes (u : State) : Host.Outcome State Fault Refusal := .next (after s (bankStep (ch.val / 4) u))
    (c.wait = .wt → exec (.wtExpiry ch) s = .next (after s (set { c with wait := .ready }))) ∧
    (∀ low, c.wait = .wi low → exec (.wiTimeout ch) s = .next (after s (set { c with wait := .ready, to_ := true }))) ∧
    (∀ on, c.wait = .chop on false → exec (.chopEnd ch) s = goes (set { c.resetPeak with wait := .ready })) ∧
    (∀ low, c.wait = .wi low → c.src = 2 → c.noBoost = false →
      exec (.peakLimit ch) s = goes (set { c with noBoost := true, to_ := true, wait := .ready })) ∧
    (c.wait ≠ .ending → (∀ low, c.wait ≠ .wi low) → c.src = 2 → c.noBoost = false →
      exec (.peakLimit ch) s = goes (set { c with noBoost := true, to_ := c.to_ || !c.spent })) ∧
    (c.boosts = true → exec (.boostMaxLimit ch) s = goes (set { c with spent := true })) ∧
    (c.slow = true → exec (.slowDecayLimit ch) s = goes (set { c with fast := true })) ∧
    (∀ x elapsed, c.dwin = false → (∀ q, x ≠ .current q) → exec (.comparatorCrossing ch x elapsed) s = goes (ctxUpd ch.val (Ctx.cross x)
      (noteCurrent ch.val (coilUpd ch.val (fun k => { k with flow := flowAfter x k.flow }) s)))) ∧
    (∀ q elapsed, c.dwin = false → exec (.comparatorCrossing ch (.current q) elapsed) s = goes (ctxUpd ch.val
      (Ctx.track (csFld s ch.val 40 8) q) (noteCurrent ch.val (coilUpd ch.val (fun k => { k with flow := flowAfter (.current q) k.flow }) s)))) ∧
    (c.wait = .wi false → c.steal = false → c.cross .reachedIH = { c with wait := .ready, to_ := false }) ∧
    (c.wait = .wi true → c.stealOff = false → c.cross .fellToIL = { c with wait := .ready, to_ := false }) ∧
    (∀ u, c.wait = .chop true u → c.cross .reachedIH = { c.resetPeak with wait := .chop false u }) ∧
    (∀ u, c.wait = .chop false u → c.cross .fellToIL = { c.resetPeak with wait := .chop true u }) ∧
    (c.wait = .wt → c.steal = true → c.stealOff = false → c.cross .reachedIH = { c.resetPeak with stealOff := true }) ∧
    (c.wait = .wt → c.stealOff = true → c.cross .fellToIL = { c.resetPeak with stealOff := false }) ∧
    (c.slow = true → c.cross .belowZero = { c with fast := true }) ∧
    (c.wait ≠ .ending → (chFld s ch.val 48 16 ≠ 0 ∨ qualifies s ch.val c = false) →
      exec (.onTimeLimit ch) s = goes (endFast ch.val 3 (onFinding ch.val 12 s))) ∧
    (c.wait ≠ .ending → chFld s ch.val 48 16 = 0 → qualifies s ch.val c = true → exec (.onTimeLimit ch) s = .next (after s s)) ∧
    (c.dwin = true → c.crossed = false → chDiagOn s ch.val = true → chFld s ch.val 128 16 ≠ 0 →
      exec (.riseTimeout ch) s = .next (after s (onFinding ch.val 10 s))) ∧
    ((c.crossed = true ∨ chDiagOn s ch.val = false ∨ chFld s ch.val 128 16 = 0) → exec (.riseTimeout ch) s = .next (after s s))

/-- COIL_EVENT_START admits the head event of its channel, or drops it, or leaves it waiting, by the rules of the bank. -/
def Obligations.CoilEventStart : Prop :=
  ∀ (ch : Fin 24) (s0 s : State), enginesRun s0 = true →
    s = (if boostDue s0 ch.val then forAll ((bankChans (ch.val / 4)).filter (fun d => decide (d < ch.val) && boostDue s0 d)) startChannel s0
      else s0) →
    let goes (u : State) : Prop := exec (.coilEventStart ch) s0 = .next (after s0 u)
    (nextStart s ch.val = none → goes s) ∧
    (∀ e, nextStart s ch.val = some e →
      (reached s e = false → goes s) ∧
      (∀ c, reached s e = true → standingCause s ch.val e.entry = some c → goes (dropQueued (ch.val / 4) c (fun q => q == e) s)) ∧
      (reached s e = true → standingCause s ch.val e.entry = none → heldBack s ch.val e = true → goes (markWaited e s)) ∧
      (reached s e = true → standingCause s ch.val e.entry = none → heldBack s ch.val e = false →
        firstIsBoost s (ch.val / 4) e.entry = false → goes (startEvent ch.val e s)) ∧
      (reached s e = true → standingCause s ch.val e.entry = none → heldBack s ch.val e = false →
        firstIsBoost s (ch.val / 4) e.entry = true → obstructions s ch.val = [] → goes (startEvent ch.val e (countSteal ch.val s))) ∧
      (reached s e = true → standingCause s ch.val e.entry = none → heldBack s ch.val e = false →
        firstIsBoost s (ch.val / 4) e.entry = true → obstructions s ch.val ≠ [] →
        (e.allow = 0xFFFF ∨ ∃ x, worstOf s ch.val = some x ∧ latenessNow s e + x ≤ e.allow * 1000) →
        (e.waited = true → goes s) ∧
        (e.waited = false → goes (markWaited e (bankUpd (ch.val / 4) (fun k => { k with delayed := sat32 k.delayed }) s)))) ∧
      (reached s e = true → standingCause s ch.val e.entry = none → heldBack s ch.val e = false →
        firstIsBoost s (ch.val / 4) e.entry = true → obstructions s ch.val ≠ [] → e.allow ≠ 0xFFFF →
        (∀ x, worstOf s ch.val = some x → e.allow * 1000 < latenessNow s e + x) →
        goes (dropQueued (ch.val / 4) 2 (fun q => q == e) s))) ∧
    (∀ e, (s.coil ch.val).ctx = none → heldBack s ch.val e = kerfRuns s ch.val) ∧
    (∀ e c, (s.coil ch.val).ctx = some c → heldBack s ch.val e = (!e.preempt || c.wait == .ending))

/-- An event ends when its channel's current has vanished; the dip detector and the lateness allowance act as their rules say. -/
def Obligations.CoilEventEnds : Prop :=
  ∀ (ch : Fin 24) (s : State), enginesRun s = true →
    (∀ c t u, (s.coil ch.val).ctx = some c → c.wait = .ending → (s.coil ch.val).ls = false → t = eventMiss ch.val s →
      u = coilUpd ch.val (fun k => { k with ctx := none, kerf := some (time10ns t), flow := false, oldRange := none, trips := if c.ends = 4 ∧ k.lastOn = 7 then k.trips else 0 }) t →
      ((c.finding = true ∨ (u.coil ch.val).kept = false) → exec (.eventEnd ch) s = .next (after s (coilDone c (settleBank (ch.val / 4) u)))) ∧
      (c.finding = false → (u.coil ch.val).kept = true →
        exec (.eventEnd ch) s = .next (after s (coilDone c (settleBank (ch.val / 4) (setCode ch.val 0 u)))))) ∧
    (∀ c, (s.coil ch.val).ctx = some c → (c.wait ≠ .ending ∨ (s.coil ch.val).ls = true) → exec (.eventEnd ch) s = .next (after s s)) ∧
    ((s.coil ch.val).ctx = none → exec (.eventEnd ch) s = .next (after s s)) ∧
    ((s.coil ch.val).ctx = none → ∀ m, exec (.dipConfirmed ch m) s = .next (after s s)) ∧
    (∀ c m, (s.coil ch.val).ctx = some c → (c.armed = false ∨ c.confirmed = false ∨ c.measured = true) →
      exec (.dipConfirmed ch m) s = .next (after s s)) ∧
    (∀ c m, (s.coil ch.val).ctx = some c → c.armed = true → c.confirmed = true → c.measured = false →
      (csFld s ch.val 80 16 = 0 ∨ m < csFld s ch.val 64 16 * 1000 ∨ csFld s ch.val 80 16 * 1000 < m) →
      exec (.dipConfirmed ch m) s = .next (after s (scribeMiss ch.val
        (ctxUpd ch.val (fun c => { c with measured := true, dip := true }) s)))) ∧
    (∀ c m, (s.coil ch.val).ctx = some c → c.armed = true → c.confirmed = true → c.measured = false →
      csFld s ch.val 80 16 ≠ 0 → csFld s ch.val 64 16 * 1000 ≤ m → m ≤ csFld s ch.val 80 16 * 1000 →
      let s1 := ctxUpd ch.val (fun c => { c with measured := true, dip := true }) s
      let s2 := markDirty 1 ch.val (coilUpd ch.val (fun k => { k with
        scribe := newScribe (s1.coil ch.val).scribe m (csFld s ch.val 36 3)
        scrCount := sat16 k.scrCount, misses := 0, lastMeas := m }) s1)
      exec (.dipConfirmed ch m) s = .next (after s (checkDrift ch.val
        (submit { typ := .scribe, writes := [wr Kind.scribe ch.val (scribeImage (s2.coil ch.val))] } s2)))) ∧
    (∀ old m shift, newScribe 0 m shift = m ∧ (0 < old → old < 2 ^ 32 → m < 2 ^ 32 → newScribe old m 0 = m)) ∧
    (∀ e, (chanQueue s ch.val).find? (allowanceGone s) = some e →
      exec (.latenessAllowanceExpiry ch) s = .next (after s (dropEvent 1 (max (e.allow * 1000) (latenessNow s e)) e
        (bankUpd (ch.val / 4) (fun k => { k with queue := k.queue.erase e }) s)))) ∧
    ((chanQueue s ch.val).find? (allowanceGone s) = none → exec (.latenessAllowanceExpiry ch) s = .next (after s s)) ∧
    ((s.coil ch.val).ctx = none → exec (.riseTimeout ch) s = .next (after s s)) ∧
    (∀ c, (s.coil ch.val).ctx = some c → c.dwin = false → exec (.riseTimeout ch) s = .next (after s s))

/-- A low-side trip ends the channel's event as over-current and latches the channel after its retries; a high-side trip does so for the whole bank. -/
def Obligations.CoilTrips : Prop :=
  (∀ (ch : Fin 24) (s : State), portOn s = true →
    ((s.coil ch.val).ctx = none → exec (.lowSideTrip ch) s = .next (after s s)) ∧
    (∀ c, (s.coil ch.val).ctx = some c → c.wait = .ending → c.ends = 4 → exec (.lowSideTrip ch) s = .next (after s s)) ∧
    (∀ c t, (s.coil ch.val).ctx = some c → ¬ (c.wait = .ending ∧ c.ends = 4) →
      t = coilUpd ch.val (fun k => { k with trips := min (k.trips + 1) 255 })
        (ctxUpd ch.val (fun c => { c with ends := 4 }) (endFast ch.val 4 (onFinding ch.val 7 s))) →
      (chFld t ch.val 5 3 + 1 ≤ (t.coil ch.val).trips ∧ (t.coil ch.val).latched = false →
        exec (.lowSideTrip ch) s = .next (after s (settleBank (ch.val / 4) (latchChannel ch.val t)))) ∧
      (¬ (chFld t ch.val 5 3 + 1 ≤ (t.coil ch.val).trips ∧ (t.coil ch.val).latched = false) →
        exec (.lowSideTrip ch) s = .next (after s (settleBank (ch.val / 4) t))))) ∧
  (∀ (b : Fin 6) (s : State), portOn s = true →
    ((s.bank b.val).hs = 0 → exec (.highSideTrip b) s = .next (after s s)) ∧
    (∀ t recent, (s.bank b.val).hs ≠ 0 →
      t = forAll (bankChans b.val) (endFast · 4) (forAll ((bankChans b.val).filter (chEnabled s)) (fun ch s => onFinding ch 9 s) s) →
      recent = ((t.bank b.val).tripAt.filter (fun x => t.rtc.up < x + 60 * 32768)) ++ [t.rtc.up] →
      let u := bankUpd b.val (fun k => { k with hsTrips := min (k.hsTrips + 1) 65535, tripAt := recent }) t
      (¬ (3 ≤ recent.length ∧ (u.bank b.val).latched = false) →
        exec (.highSideTrip b) s = .next (after s (settleBank b.val u))) ∧
      (3 ≤ recent.length ∧ (u.bank b.val).latched = false →
        exec (.highSideTrip b) s = .next (after s (raise 2 0x82 [ef 1 b.val] (settleBank b.val (clearChannels (bankChans b.val) 3 4
          (forAll (bankChans b.val) (fun ch s => coilUpd ch (fun k => { k with latched := true }) s)
            (bankUpd b.val (fun k => { k with latched := true }) u)))))))))

/-- VGD undervoltage and the core supply's gate hold take every bank to the coil safe state; their releases lift only their own cause. -/
def Obligations.CoilSafeState : Prop :=
  ∀ s : State, portOn s = true →
    (s.sys.uvlo = false → exec .vgdUvlo s = .next (after s (coilSafe true { s with sys := { s.sys with uvlo := true } }))) ∧
    (s.sys.uvlo = true → exec .vgdUvlo s = .next (after s s)) ∧
    exec .vgdRelease s = .next (after s { s with sys := { s.sys with uvlo := false } }) ∧
    (s.sys.gateHold = false →
      exec .coreSupplyGateHold s = .next (after s (coilSafe false { s with sys := { s.sys with gateHold := true } }))) ∧
    (s.sys.gateHold = true → exec .coreSupplyGateHold s = .next (after s s)) ∧
    exec .coreSupplyGateRelease s = .next (after s { s with sys := { s.sys with gateHold := false } })

/-- The off-state sequence of a bank: its start, step A, step B, starvation, and new records taking effect. -/
def Obligations.CoilDiagnostics : Prop :=
  ∀ (b : Fin 6) (s : State),
    (enginesRun s = true → ((s.bank b.val).diagDue = true ∧ diagNeeded s b.val = true ∨ (s.bank b.val).diagAsk.isSome = true ∧ tested s b.val ≠ []) →
      (bankChans b.val).all (fun ch => (s.coil ch).ctx.isNone && !kerfRuns s ch) = true → (s.bank b.val).hs = 0 →
      (∀ e ∈ (s.bank b.val).queue, seqLength s b.val + 100000 < auTo10ns s (e.start.diff s.now)) → gatesOk s = true → (s.bank b.val).diag = none →
      exec (.diagSequenceStart b) s = .next (after s (bankUpd b.val (fun k => { k with diag := some {} }) s))) ∧
    (enginesRun s = true →
      ((s.bank b.val).diagAsk = none ∧ (s.bank b.val).diagDue = false ∨ (s.bank b.val).hs ≠ 0 ∨ gatesOk s = false ∨ (s.bank b.val).diag ≠ none ∨
        (∃ e ∈ (s.bank b.val).queue, auTo10ns s (e.start.diff s.now) ≤ seqLength s b.val + 100000) ∨
        (∃ ch ∈ bankChans b.val, (s.coil ch).ctx ≠ none ∨ kerfRuns s ch = true)) →
      exec (.diagSequenceStart b) s = .next (after s s)) ∧
    (∀ hs ld found t, enginesRun s = true → (s.bank b.val).diag = some { stepB := none, found := found } →
      t = forAll (tested s b.val) (fun ch s => coilUpd ch (fun k => { k with
        windows := hs.code + 4 * (ld.getD (ch % 4) .l).code }) s) s →
      (hs = .h → exec (.diagStepA b hs ld) s = .next (after s (endSequence b.val ((tested s b.val).map (fun ch => (ch, 3))) t))) ∧
      (hs = .l → exec (.diagStepA b hs ld) s = .next (after s (endSequence b.val ((tested s b.val).map (fun ch => (ch, 5))) t))) ∧
      (hs = .m → ((tested s b.val).filter (fun ch => ld.getD (ch % 4) .l == .l)).length ≠ 1 →
        exec (.diagStepA b hs ld) s = .next (after s (endSequence b.val ((tested s b.val).map (fun ch => (ch, 5))) t))) ∧
      (hs = .m → ((tested s b.val).filter (fun ch => ld.getD (ch % 4) .l == .l)).length = 1 →
        exec (.diagStepA b hs ld) s = .next (after s (endSequence b.val ((tested s b.val).map (fun ch =>
          (ch, if ((tested s b.val).filter (fun ch => ld.getD (ch % 4) .l == .l)).contains ch then 2 else 13))) t))) ∧
      (hs = .n → tested s b.val = [] → exec (.diagStepA b hs ld) s = .next (after s (endSequence b.val [] t))) ∧
      (hs = .n → tested s b.val ≠ [] → exec (.diagStepA b hs ld) s = .next (after s
        (bankUpd b.val (fun k => { k with diag := some { stepB := some (tested s b.val) } }) t)))) ∧
    (∀ hs ld ch ch2 rest found t, enginesRun s = true → (s.bank b.val).diag = some { stepB := some (ch :: ch2 :: rest), found := found } →
      t = coilUpd ch (fun k => { k with windows := k.windows % 16 + 16 * ld.code }) s →
      (combines (s.coil ch).code = true → exec (.diagStepB b hs ld) s = .next (after s (bankUpd b.val (fun k => { k with
        diag := some { stepB := some (ch2 :: rest), found := found ++ [(ch, if hs ≠ .n then 13 else stepBCode ld)] } }) t))) ∧
      (combines (s.coil ch).code = false → exec (.diagStepB b hs ld) s = .next (after s (bankUpd b.val (fun k => { k with
        diag := some { stepB := some (ch2 :: rest), found := found } }) (landOutcome ch (if hs ≠ .n then 13 else stepBCode ld) t))))) ∧
    (∀ hs ld, enginesRun s = true → (s.bank b.val).diag = none →
      exec (.diagStepA b hs ld) s = .next (after s s) ∧ (∀ ls, exec (.diagStepB b hs ls) s = .next (after s s))) ∧
    (enginesRun s = true → (s.bank b.val).diagDue = true → (s.bank b.val).starved = false →
      4 * bankFld s b.val 16 16 ≤ (s.bank b.val).dueCycles →
      exec (.diagStarveTimeout b) s = .next (after s (raise 2 0x83 [ef 1 b.val, ef 4 (s.bank b.val).dueCycles]
        (bankUpd b.val (fun k => { k with starved := true }) s)))) ∧
    (enginesRun s = true → ((s.bank b.val).diagDue = false ∨ (s.bank b.val).starved = true ∨ (s.bank b.val).dueCycles < 4 * bankFld s b.val 16 16) →
      exec (.diagStarveTimeout b) s = .next (after s s)) ∧
    (∀ t, portOn s = true → (s.bank b.val).pendAt = some t →
      ((bankChans b.val).all (fun ch => (s.coil ch).ctx.isNone) = true ∨ (t + 32768 ≤ s.rtc.up ∧
        (bankChans b.val).all (fun ch => ((s.coil ch).ctx).all (fun c => !c.inBoost && !endDecay s ch c && !c.dwin)) = true)) →
      exec (.cbRecordsTakeEffect b) s = .next (after s (bankTakesEffect b.val s))) ∧
    (∀ t, portOn s = true → (s.bank b.val).pendAt = some t → (bankChans b.val).all (fun ch => (s.coil ch).ctx.isNone) = false →
      (s.rtc.up < t + 32768 ∨
        (bankChans b.val).all (fun ch => ((s.coil ch).ctx).all (fun c => !c.inBoost && !endDecay s ch c && !c.dwin)) = false) →
      exec (.cbRecordsTakeEffect b) s = .next (after s s)) ∧
    (portOn s = true → (s.bank b.val).pendAt = none → exec (.cbRecordsTakeEffect b) s = .next (after s s))

/-- The operations of a lane that read points, load, move and write. -/
def Obligations.LaneMoves : Prop :=
  ∀ (l : Fin 4) (s : State) (r : ScanRun) (w : Nat), enginesRun s = true → (s.lane l.val).run = some r →
    r.pc < lpLength r.image → w = lpWord r.image r.pc →
    let goes (r' : ScanRun) : Host.Outcome State Fault Refusal := .next (after s (endWord l.val r r' w (r.pc + 1) s))
    let p := s.ptView (opPn w)
    (opOpc w = 0x01 → exec (.ldp l) s = goes { r.setV (opD w) (pointReal s (opPn w)) with
      q := r.q || p.stale || p.fault || p.oos }) ∧
    (opOpc w = 0x02 → exec (.ldf l) s = goes (r.setV (opD w) (realOfNat (p.flagBits % 128)))) ∧
    (opOpc w = 0x03 → exec (.ldk l) s = goes (r.setV (opD w) (u32 (opImm w)))) ∧
    (opOpc w = 0x04 → exec (.ldw l) s = goes (r.setW (opD w) (u32 (opImm w)))) ∧
    (opOpc w = 0x05 → exec (.stp l) s = goes { r with writes := r.writes ++
      [{ pn := opPn w, pri := if fld w 24 5 = 0 then lpDefPri r.image else fld w 24 5, null := false, value := r.v (opA w) }] }) ∧
    (opOpc w = 0x06 → exec (.relp l) s = goes { r with writes := r.writes ++
      [{ pn := opPn w, pri := if fld w 24 5 = 0 then lpDefPri r.image else fld w 24 5, null := true, value := 0 }] }) ∧
    (opOpc w = 0x07 → exec (.mov l) s = goes (r.setV (opD w) (r.v (opA w)))) ∧
    (opOpc w = 0x10 → isTrue (r.v (opC w)) = true → exec (.sel l) s = goes (r.setV (opD w) (r.v (opA w)))) ∧
    (opOpc w = 0x10 → isTrue (r.v (opC w)) = false → exec (.sel l) s = goes (r.setV (opD w) (r.v (opB w))))

/-- The arithmetic and logic operations of a lane write their result into the V half of their destination. -/
def Obligations.LaneArithmetic : Prop :=
  ∀ (l : Fin 4) (s : State) (r : ScanRun) (w : Nat), enginesRun s = true → (s.lane l.val).run = some r →
    r.pc < lpLength r.image → w = lpWord r.image r.pc →
    let goes (r' : ScanRun) : Host.Outcome State Fault Refusal := .next (after s (endWord l.val r r' w (r.pc + 1) s))
    let a := r.v (opA w)
    let b := r.v (opB w)
    let put (x : Real32) : ScanRun := { r.setV (opD w) x with numeric := r.numeric || isNaN x || isInf x }
    let truth (x : Bool) : ScanRun := r.setV (opD w) (ofTruth x)
    (opOpc w = 0x08 → exec (.add l) s = goes (put (fadd a b))) ∧
    (opOpc w = 0x09 → exec (.sub l) s = goes (put (fsub a b))) ∧
    (opOpc w = 0x0A → exec (.mul l) s = goes (put (fmul a b))) ∧
    (opOpc w = 0x0B → exec (.div l) s = goes (put (fdiv a b))) ∧
    (opOpc w = 0x0C → exec (.abs l) s = goes (put (fabs a))) ∧
    (opOpc w = 0x0D → exec (.min l) s = goes (put (fmin a b))) ∧
    (opOpc w = 0x0E → exec (.max l) s = goes (put (fmax a b))) ∧
    (opOpc w = 0x0F → exec (.lim l) s = goes (put (fmax (fmin a (r.v (opC w))) b))) ∧
    (opOpc w = 0x11 → exec (.cmp l) s = goes (truth (relTruth (opMod w % 8) a b))) ∧
    (opOpc w = 0x12 → fle b 0 = true → exec (.qnt l) s = goes (put a)) ∧
    (∀ i, opOpc w = 0x12 → fle b 0 = false → froundAway (fdiv a b) = some i → exec (.qnt l) s = goes (put (fmul (realOfInt i) b))) ∧
    (opOpc w = 0x13 → exec (.and l) s = goes (truth (isTrue a && isTrue b))) ∧
    (opOpc w = 0x14 → exec (.or l) s = goes (truth (isTrue a || isTrue b))) ∧
    (opOpc w = 0x15 → exec (.xor l) s = goes (truth (isTrue a ^^ isTrue b))) ∧
    (opOpc w = 0x16 → exec (.not l) s = goes (truth (!isTrue a)))

/-- The control operations of a lane: PID, RAMP, TPOS, SEQ, TAB, DON, DOFF, JMP and the end of a program. -/
def Obligations.LaneControl : Prop :=
  ∀ (l : Fin 4) (s : State) (r : ScanRun) (w : Nat), enginesRun s = true → (s.lane l.val).run = some r →
    r.pc < lpLength r.image → w = lpWord r.image r.pc →
    let goes (r' : ScanRun) : Host.Outcome State Fault Refusal := .next (after s (endWord l.val r r' w (r.pc + 1) s))
    let d := opD w
    let a := r.v (opA w)
    let b := r.v (opB w)
    let c := r.v (opC w)
    (opOpc w = 0x20 → (isNaN a || isNaN b) = true → exec (.pid l) s = goes r) ∧
    (∀ p i, opOpc w = 0x20 → (isNaN a || isNaN b) = false → opMod w % 2 = 0 → r.init = false → feq (r.v (opC w + 1)) 0 = true →
      (r.w (opC w)).toNat = 0 → p = fmul (r.v (opC w)) (fsub b a) →
      i = fmax (fmin (r.v (opC w + 3)) (fsub (fsub (r.w (opC w + 2)) p) 0)) (fsub (fsub (r.v (opC w + 2)) p) 0) →
      exec (.pid l) s = goes (((r.produce d (fmax (fmin (fadd (fadd p i) 0) (r.w (opC w + 2))) (r.v (opC w + 2)))).produce (opC w + 3) i).setW
        (opC w + 3) a)) ∧
    (opOpc w = 0x21 → r.init = false → (isNaN a || isNaN b || flt b 0) = false →
      (isInf b || fle (fabs (fsub a (r.v d))) (fmul b (realOfNat r.dt))) = true → exec (.ramp l) s = goes (r.produce d a)) ∧
    (opOpc w = 0x21 → r.init = false → (isNaN a || isNaN b || flt b 0) = false →
      (isInf b || fle (fabs (fsub a (r.v d))) (fmul b (realOfNat r.dt))) = false → flt (r.v d) a = true →
      exec (.ramp l) s = goes (r.produce d (fadd (r.v d) (fmul b (realOfNat r.dt))))) ∧
    (opOpc w = 0x22 → isNaN a = true → exec (.tpos l) s = goes r) ∧
    (opOpc w = 0x22 → isNaN a = false → opMod w % 2 = 0 → fle b a = true → exec (.tpos l) s = goes (r.setV d (ofTruth true))) ∧
    (opOpc w = 0x22 → isNaN a = false → opMod w % 2 = 0 → fle b a = false → fle a (fsub b c) = true →
      exec (.tpos l) s = goes (r.setV d (ofTruth false))) ∧
    (opOpc w = 0x23 → isNaN (r.v d) = true → fld w 48 16 ≤ (r.w d).toNat → 0 < fld w 32 4 →
      fle (fadd (fmul (realOfInt 0) (fdiv (realOfNat 100) (realOfNat (fld w 32 4)))) b) a = true →
      exec (.seq l) s = goes ((r.produce d (realOfInt 1)).setW d 0)) ∧
    (opOpc w = 0x24 → isNaN a = false → exec (.tab l) s = .next (after s (endWord l.val r
      (r.produce d (tabValue r.image a (fld w 32 5) (r.pc + 1) none)) w (r.pc + 1 + fld w 32 5) s))) ∧
    (opOpc w = 0x25 → isTrue a = true → exec (.don l) s = goes
      ((r.setV d (ofTruth (decide (opImm w ≤ min ((r.w d).toNat + r.dt) 0xFFFFFFFF)))).setW d (u32 (min ((r.w d).toNat + r.dt) 0xFFFFFFFF)))) ∧
    (opOpc w = 0x25 → isTrue a = false → exec (.don l) s = goes ((r.setV d (ofTruth (decide (opImm w ≤ 0)))).setW d 0)) ∧
    (opOpc w = 0x26 → isTrue a = true → exec (.doff l) s = goes ((r.setV d (ofTruth true)).setW d 0)) ∧
    (opOpc w = 0x26 → isTrue a = false → exec (.doff l) s = goes
      ((r.setV d (ofTruth (decide (min ((r.w d).toNat + r.dt) 0xFFFFFFFF < opImm w)))).setW d (u32 (min ((r.w d).toNat + r.dt) 0xFFFFFFFF)))) ∧
    (opOpc w = 0x18 → jmpTaken w r = true → exec (.loopJmp l) s = .next (after s (endWord l.val r r w (fld w 32 6) s))) ∧
    (opOpc w = 0x18 → jmpTaken w r = false → exec (.loopJmp l) s = .next (after s (endWord l.val r r w (r.pc + 1) s))) ∧
    (opOpc w = 0 → exec (.loopEnd l) s = .next (after s (commitScan l.val
      (laneUpd l.val (fun k => { k with run := some { r with clocks := r.clocks + 2 } }) s))))

/-- A loop falls due when its period divides the cycle; a lane takes the scan that goes first; watchdog, self-check and lane test act on the lane. -/
def Obligations.LaneScheduling : Prop :=
  (∀ (ln : Fin 8192) (s : State), enginesRun s = true →
    (s.now.c.toNat % max 1 (lpPeriod (liveImg s Kind.loop ln.val)) = 0 → exec (.loopDue ln) s = .next (after s
      (queueScan ln.val { c := s.now.c, a := u16 (lpOffset (liveImg s Kind.loop ln.val)) }
        (if lpEnable (liveImg s Kind.loop ln.val) then reachAngle (u16 (lpOffset (liveImg s Kind.loop ln.val))) s else s)))) ∧
    (s.now.c.toNat % max 1 (lpPeriod (liveImg s Kind.loop ln.val)) ≠ 0 → exec (.loopDue ln) s = .next (after s s))) ∧
  (∀ (l : Fin 4) (s : State), enginesRun s = true →
    (((s.lane l.val).state ≠ .inService ∨ (s.lane l.val).run ≠ none ∨ (s.lane l.val).waitRebalance = true ∨ lanesRun s = false ∨
        (∀ q ∈ (s.lane l.val).queue, scanning s q.ln = true)) →
      exec (.loopScan l false) s = .next (after s s)) ∧
    (∀ q u, (s.lane l.val).state = .inService → (s.lane l.val).run = none → (s.lane l.val).waitRebalance = false →
      lanesRun s = true → nextScan s ((s.lane l.val).queue.filter (fun q => !scanning s q.ln)) = some q →
      u = laneUpd l.val (fun k => { k with queue := k.queue.filter (· != q) }) s →
      (((s.loop q.ln).quarantined = true ∨ lpEnable (liveImg s Kind.loop q.ln) = false) → exec (.loopScan l false) s = .next (after s u)) ∧
      ((s.loop q.ln).quarantined = false → lpEnable (liveImg s Kind.loop q.ln) = true → (s.loop q.ln).init = false →
        exec (.loopScan l false) s = .next (after s (laneUpd l.val (fun k => { k with run := some ({ ln := q.ln, due := q.due, image := liveImg s Kind.loop q.ln, regs := (s.loop q.ln).regs, init := false, dt := scanDt s q.ln q.due } : ScanRun) }) u))) ∧
      (∀ regs : Tab U64, (s.loop q.ln).quarantined = false → lpEnable (liveImg s Kind.loop q.ln) = true → (s.loop q.ln).init = true →
        regs = (List.range 16).foldl (fun (t : Tab U64) r => t.set r (lpReg (liveImg s Kind.loop q.ln) r)) [] →
        exec (.loopScan l false) s = .next (after s (laneUpd l.val (fun k => { k with run := some ({ ln := q.ln, due := q.due, image := liveImg s Kind.loop q.ln, regs := regs, init := true, dt := lpPeriod (liveImg s Kind.loop q.ln) } : ScanRun) })
          (loopUpd q.ln (fun k => { k with regs := regs }) u))))) ∧
    ((s.lane l.val).state = .inService → exec (.loopScan l true) s = .next (after s (faultLane l.val 2 s))) ∧
    ((s.lane l.val).state = .inService → (s.lane l.val).run ≠ none →
      exec (.laneWatchdog l) s = .next (after s (faultLane l.val 1 s))) ∧
    (∀ t, (s.lane l.val).state = .testing → t = faultLane l.val 1 s →
      exec (.laneWatchdog l) s = .next (after s (completeWait (.lane l.val) St.ok 0 (laneResp t l.val) t))) ∧
    (∀ t, (s.lane l.val).state = .testing → t = faultLane l.val 2 s →
      exec (.loopScan l true) s = .next (after s (completeWait (.lane l.val) St.ok 0 (laneResp t l.val) t))) ∧
    ((s.lane l.val).state = .inService → (s.lane l.val).run = none → exec (.laneWatchdog l) s = .next (after s s)) ∧
    ((s.lane l.val).state = .inService → exec (.laneSelfCheck l false) s = .next (after s (faultLane l.val 3 s))) ∧
    (exec (.laneSelfCheck l true) s = .next (after s s)) ∧
    ((s.lane l.val).state ≠ .testing → ∀ pass, exec (.laneTestEnd l pass) s = .next (after s s)) ∧
    (∀ t, (s.lane l.val).state = .testing →
      t = raise 2 0x61 [ef 1 l.val] { laneUpd l.val (fun k => { k with state := .inService, waitRebalance := true }) s with
        lp := { (laneUpd l.val (fun k => { k with state := .inService, waitRebalance := true }) s).lp with rehome := true } } →
      exec (.laneTestEnd l true) s = .next (after s (completeWait (.lane l.val) St.ok 0 (laneResp t l.val) t))) ∧
    (∀ t, (s.lane l.val).state = .testing → t = faultLane l.val 3 s →
      exec (.laneTestEnd l false) s = .next (after s (completeWait (.lane l.val) St.ok 0 (laneResp t l.val) t))))

/-- The rows of an Ethernet port: receive, PHY status, silence and recovery, ARP, gratuitous ARP. -/
def Obligations.EthernetRows : Prop :=
  ∀ (p : Fin 2) (s : State), enginesRun s = true →
    (∀ f, (s.link (8 + p.val)).state = .off → exec (.ethFrameRx p f) s = .next (after s s)) ∧
    (∀ f, (s.link (8 + p.val)).state ≠ .off → (f.length < 64 ∨ 1518 < f.length ∨ fcsOk f = false) →
      exec (.ethFrameRx p f) s = .next (after s (linkErr (8 + p.val) (linkDrop (8 + p.val) (linkRx (8 + p.val) s))))) ∧
    (∀ f, (s.link (8 + p.val)).state ≠ .off → 64 ≤ f.length → f.length ≤ 1518 → fcsOk f = true →
      le (f.take (f.length - 4)) 0 6 = portMac s p.val → portMac s p.val % 2 = 0 → be (f.take (f.length - 4)) 12 2 = 0x0806 →
      exec (.ethFrameRx p f) s = .next (after s
        (arpRx (8 + p.val) (f.take (f.length - 4)) (f.take (f.length - 4)) (linkRx (8 + p.val) s)))) ∧
    (∀ y : PhyStatus, (s.link (8 + p.val)).state ≠ .off → y.up = true → liveFld s Kind.eth p.val 3 2 = 0 →
      exec (.phyStatusPoll p y) s = .next (after s (linkUpd (8 + p.val) (fun k => { k with
        phyUp := true, speed := y.speed.val, full := y.full || y.speed.val == 2 }) s))) ∧
    (∀ y : PhyStatus, (s.link (8 + p.val)).state ≠ .off → y.up = false →
      exec (.phyStatusPoll p y) s = .next (after s (faultLink (8 + p.val) 6 (linkUpd (8 + p.val) (fun k => { k with
        phyUp := false, speed := y.speed.val, full := y.full || y.speed.val == 2 }) s)))) ∧
    (∀ y0 y1, liveBit s Kind.eth 0 10 = false → liveBit s Kind.eth 1 10 = false → exec (.phyint y0 y1) s = .next (after s s)) ∧
    (∀ y0 y1, (liveBit s Kind.eth 0 10 = true ∨ liveBit s Kind.eth 1 10 = true) →
      exec (.phyint y0 y1) s = .next (after s (phyRead 1 y1 (phyRead 0 y0 s)))) ∧
    ((boundDevs s (8 + p.val)).isEmpty = true → exec (.portSilence p) s = .next (after s s)) ∧
    ((boundDevs s (8 + p.val)).isEmpty = false → exec (.portSilence p) s = .next (after s (faultLink (8 + p.val) 6 s))) ∧
    ((s.link (8 + p.val)).state = .fault → (s.link (8 + p.val)).phyUp = true → (s.link (8 + p.val)).probeOk = true →
      exec (.portRecover p) s = .next (after s (recoverLink (8 + p.val) s))) ∧
    ((s.link (8 + p.val)).state ≠ .fault → exec (.portRecover p) s = .next (after s s)) ∧
    (∀ ip : U32, exec (.arpResolutionTimeout p ip) s = .next (after s (linkUpd (8 + p.val) (fun k => { k with
      arpWait := k.arpWait.filter (fun e => e.1 != ip.toNat)
      dropped := min (k.dropped + ((s.link (8 + p.val)).arpWait.filter (fun e => e.1 == ip.toNat)).length) 0xFFFFFFFF }) s))) ∧
    (∀ ip : U32, exec (.arpAgeout p ip) s = .next (after s (linkUpd (8 + p.val) (fun k => { k with
      arp := k.arp.filter (fun e => e.1 != ip.toNat) }) s)))

/-- GRATUITOUS_ARP sends the second announcement; TCP connections retransmit, are abandoned, and close when idle. -/
def Obligations.TcpRows : Prop :=
  ∀ s : State, enginesRun s = true →
    (∀ u, u = forAll [8, 9] (fun l s => if (s.link l).garpDue && linksActive s then
        enqueue l .arpGratuitous (linkUpd l (fun k => { k with garpDue := false }) s) else s) s →
      exec .gratuitousArp s = .next (after s u)) ∧
    (∀ (i : Fin 128), (s.links.conn.get i.val).used = false → exec (.tcpRetransmitTimeout i) s = .next (after s s)) ∧
    (∀ (i : Fin 128) c, c = s.links.conn.get i.val → c.used = true → liveFld s Kind.eth c.port 202 4 ≤ c.retries →
      exec (.tcpRetransmitTimeout i) s = .next (after s (closeConn i.val s))) ∧
    (∀ (i : Fin 128) c, c = s.links.conn.get i.val → c.used = true → c.retries < liveFld s Kind.eth c.port 202 4 →
      exec (.tcpRetransmitTimeout i) s = .next (after s (enqueue (8 + c.port) (.tcp i.val (if c.established then .data else .syn 1460))
        { s with links := { s.links with conn := s.links.conn.upd i.val (fun c => { c with retries := c.retries + 1 }) } }))) ∧
    (∀ (i : Fin 128) c, c = s.links.conn.get i.val → c.used = true → c.established = true →
      liveFld s Kind.eth c.port 176 16 ≠ 0 → (inFlight s c.dv).isEmpty = true →
      exec (.tcpIdleClose i) s = .next (after s (closeConn i.val (enqueue (8 + c.port) (.tcp i.val .fin) s)))) ∧
    (∀ (i : Fin 128) c, c = s.links.conn.get i.val →
      (c.used = false ∨ c.established = false ∨ liveFld s Kind.eth c.port 176 16 = 0 ∨ (inFlight s c.dv).isEmpty = false) →
      exec (.tcpIdleClose i) s = .next (after s s))

/-- Frames on a trunk in MS/TP: receive errors, a duplicate address, frames of the token protocol, the end of a frame of its own, and the machine's timeouts. -/
def Obligations.TrunkFrames : Prop :=
  ∀ (t : Fin 8) (s : State), enginesRun s = true →
    (∀ f, ((s.link t.val).state = .off ∨ trunkMode s t.val ≠ 1) → exec (.trunkFrameRx t f) s = .next (after s s)) ∧
    (∀ f, (s.link t.val).state ≠ .off → trunkMode s t.val = 1 → (f.hdrOk = false ∨ f.dataOk = false) →
      exec (.trunkFrameRx t f) s = .next (after s (linkErr t.val (linkDrop t.val (linkRx t.val s))))) ∧
    (∀ f, (s.link t.val).state ≠ .off → trunkMode s t.val = 1 → f.hdrOk = true → f.dataOk = true →
      f.src.toNat = trunkMac s t.val → (s.link t.val).wire = [] → s.duty = true →
      exec (.trunkFrameRx t f) s = .next (after s
        (faultLink t.val 4 (linkUpd t.val (fun k => { k with mstp := .start, wire := [] }) (linkRx t.val s))))) ∧
    (∀ (f : MstpFrame) v, (s.link t.val).state ≠ .off → trunkMode s t.val = 1 → f.hdrOk = true → f.dataOk = true →
      (f.src.toNat ≠ trunkMac s t.val ∨ (s.link t.val).wire ≠ [] ∨ s.duty = false) →
      v = mstpReceived t.val f.typ.toNat f.src.toNat f.dst.toNat (heardFrom t.val { station := f.src } (linkRx t.val s)) →
      ((f.typ.toNat ≤ 2 ∨ f.typ.toNat = 7) → exec (.trunkFrameRx t f) s = .next (after s v)) ∧
      (f.typ = 3 → mstpRuns v t.val = true → f.dst.toNat = trunkMac v t.val →
        exec (.trunkFrameRx t f) s = .next (after s (onWire t.val (.mstp 4 f.src.toNat f.data) v))) ∧
      (f.typ = 3 → (mstpRuns v t.val = false ∨ f.dst.toNat ≠ trunkMac v t.val) → exec (.trunkFrameRx t f) s = .next (after s v)) ∧
      ((f.typ = 5 ∨ f.typ = 6) → (f.dst.toNat = trunkMac v t.val ∨ f.dst = 255 ∧ f.typ = 6) → f.data.length ≤ 501 →
        exec (.trunkFrameRx t f) s = .next (after s (mstpNpdu t.val f v))) ∧
      ((f.typ = 5 ∨ f.typ = 6) → (f.dst.toNat = trunkMac v t.val ∨ f.dst = 255 ∧ f.typ = 6) → 501 < f.data.length →
        exec (.trunkFrameRx t f) s = .next (after s (linkDrop t.val v))) ∧
      ((f.typ = 5 ∨ f.typ = 6) → f.dst.toNat ≠ trunkMac v t.val → ¬ (f.dst = 255 ∧ f.typ = 6) →
        exec (.trunkFrameRx t f) s = .next (after s v)) ∧
      (8 ≤ f.typ.toNat → exec (.trunkFrameRx t f) s = .next (after s (linkDrop t.val v)))) ∧
    (∀ ok, (s.link t.val).wire = [] → exec (.trunkFrameSent t ok) s = .next (after s s)) ∧
    (∀ f r, (s.link t.val).wire = f :: r → trunkMode s t.val = 1 →
      exec (.trunkFrameSent t true) s = .next (after s (mstpSent t.val f
        (linkUpd t.val (fun k => { k with wire := r, tx := sat32 k.tx, echoBad := 0 }) s)))) ∧
    (mstpRuns s t.val = true → ((s.link t.val).mstp = .idle ∨ (s.link t.val).mstp = .noToken ∨ (s.link t.val).mstp = .start) →
      exec (.mstpNoToken t) s = .next (after s (sendPfm t.val (mstpNext s t.val (trunkMac s t.val))
        (linkUpd t.val (fun k => { k with ns := trunkMac s t.val, tokens := 0 }) s)))) ∧
    (mstpRuns s t.val = true → (s.link t.val).mstp = .waitForReply →
      exec (.mstpReplyTimeout t) s = .next (after s (doneWithToken t.val
        (linkUpd t.val (fun k => { k with mstp := .useToken, frames := trunkMaxInfo s t.val }) s)))) ∧
    (mstpRuns s t.val = true → (s.link t.val).mstp = .passToken → (s.link t.val).retries = 0 →
      exec (.mstpUsageTimeout t) s = .next (after s (onWire t.val (.mstp 0 (s.link t.val).ns [])
        (linkUpd t.val (fun k => { k with retries := k.retries + 1 }) s)))) ∧
    (mstpRuns s t.val = true → (s.link t.val).mstp = .passToken → 1 ≤ (s.link t.val).retries →
      exec (.mstpUsageTimeout t) s = .next (after s (sendPfm t.val (mstpNext s t.val (s.link t.val).ns)
        (linkUpd t.val (fun k => { k with ns := trunkMac s t.val, tokens := 0 }) s)))) ∧
    (mstpRuns s t.val = true → (s.link t.val).mstp = .pollForMaster → (s.link t.val).sole = true →
      exec (.mstpSlotTimeout t) s = .next (after s (takeToken t.val s))) ∧
    (mstpRuns s t.val = true → (s.link t.val).mstp = .pollForMaster → (s.link t.val).sole = false →
      (s.link t.val).ns ≠ trunkMac s t.val → exec (.mstpSlotTimeout t) s = .next (after s (sendToken t.val s))) ∧
    (trunkMode s t.val = 1 → (s.link t.val).state ≠ .off →
      exec (.mstpFrameAbort t) s = .next (after s (linkErr t.val (linkRx t.val s))))

/-- The RTU line, the causes of a trunk fault, and its recovery. -/
def Obligations.RtuAndTrunkFaults : Prop :=
  ∀ (t : Fin 8) (s : State), enginesRun s = true →
    (∀ adu gap, ((s.link t.val).state = .off ∨ trunkMode s t.val ≠ 2) → exec (.rtuFrameRx t adu gap) s = .next (after s s)) ∧
    (∀ adu, (s.link t.val).state ≠ .off → trunkMode s t.val = 2 →
      exec (.rtuFrameRx t adu false) s = .next (after s (linkErr t.val (linkDrop t.val (linkRx t.val s))))) ∧
    (∀ adu, (s.link t.val).state ≠ .off → trunkMode s t.val = 2 → (adu.length < 4 ∨ 256 < adu.length ∨
        le adu (adu.length - 2) 2 ≠ crcModbus (adu.take (adu.length - 2))) →
      exec (.rtuFrameRx t adu true) s = .next (after s (linkErr t.val (linkDrop t.val (linkRx t.val s))))) ∧
    (∀ adu dv id q, (s.link t.val).state ≠ .off → trunkMode s t.val = 2 → 4 ≤ adu.length → adu.length ≤ 256 →
      le adu (adu.length - 2) 2 = crcModbus (adu.take (adu.length - 2)) → (s.link t.val).rtuWait = false →
      (s.link t.val).rtu = some (dv, id) → (findReq s dv id).bind (·.body) = some (.mb q) →
      (be adu 0 1 = (s.dev dv).station → rtuAnswers q adu = true →
        exec (.rtuFrameRx t adu true) s = .next (after s (validFrame dv (linkRx t.val s)))) ∧
      ((be adu 0 1 ≠ (s.dev dv).station ∨ rtuAnswers q adu = false) →
        exec (.rtuFrameRx t adu true) s = .next (after s (linkDrop t.val (linkRx t.val s))))) ∧
    (∀ adu, (s.link t.val).state ≠ .off → trunkMode s t.val = 2 → 4 ≤ adu.length → adu.length ≤ 256 →
      le adu (adu.length - 2) 2 = crcModbus (adu.take (adu.length - 2)) → (s.link t.val).rtuWait = false →
      (s.link t.val).rtu = none → exec (.rtuFrameRx t adu true) s = .next (after s (linkDrop t.val (linkRx t.val s)))) ∧
    ((s.link t.val).rtu = none → exec (.rtuRespTimeout t) s = .next (after s s)) ∧
    (∀ dv id, (s.link t.val).rtu = some (dv, id) → (s.link t.val).rtuBad + 1 < 16 →
      exec (.rtuRespTimeout t) s = .next (after s (requestTimeoutRow dv id
        (linkUpd t.val (fun k => { k with rtu := none, rtuWait := true, rtuLate := some dv, rtuBad := k.rtuBad + 1 }) s)))) ∧
    (∀ dv id, (s.link t.val).rtu = some (dv, id) → 16 ≤ (s.link t.val).rtuBad + 1 →
      exec (.rtuRespTimeout t) s = .next (after s (faultLink t.val 5 (requestTimeoutRow dv id
        (linkUpd t.val (fun k => { k with rtu := none, rtuWait := true, rtuLate := some dv, rtuBad := k.rtuBad + 1 }) s))))) ∧
    ((s.link t.val).rtuWait = true →
      exec (.rtuBcastDelay t) s = .next (after s (rtuNext t.val (linkUpd t.val (fun k => { k with rtuWait := false }) s)))) ∧
    ((s.link t.val).rtuWait = true →
      exec (.rtuTimeoutSilence t) s = .next (after s (rtuNext t.val (linkUpd t.val (fun k => { k with rtuWait := false }) s)))) ∧
    (trunkMode s t.val ≠ 0 → exec (.rxStuck t) s = .next (after s (faultLink t.val 2 s))) ∧
    (trunkMode s t.val = 0 → exec (.rxStuck t) s = .next (after s s)) ∧
    (trunkMode s t.val ≠ 0 → 20 ≤ (s.link t.val).winRx →
      liveFld s Kind.trunk t.val 96 7 * (s.link t.val).winRx < 100 * (s.link t.val).winErr →
      exec (.errRateWindow t) s = .next (after s (faultLink t.val 3 (linkUpd t.val (fun k => { k with winRx := 0, winErr := 0 }) s)))) ∧
    ((s.link t.val).winRx < 20 →
      exec (.errRateWindow t) s = .next (after s (linkUpd t.val (fun k => { k with winRx := 0, winErr := 0 }) s))) ∧
    (trunkMode s t.val = 1 → (boundDevs s t.val).isEmpty = false → exec (.noPeer t) s = .next (after s (faultLink t.val 5 s))) ∧
    (trunkMode s t.val = 1 → (boundDevs s t.val).isEmpty = true → exec (.noPeer t) s = .next (after s s)) ∧
    (∀ l : Fin 10,
      (((s.link l.val).state ≠ .fault ∨ (s.link l.val).cause = 4 ∨ boundDevs s l.val = []) → exec (.trunkProbe l) s = .next (after s s)) ∧
      (∀ d ds, (s.link l.val).state = .fault → (s.link l.val).cause ≠ 4 → boundDevs s l.val = d :: ds →
        exec (.trunkProbe l) s = .next (after s (probeDev
          (ds.foldl (fun b x => if (s.dev x).heard.diff (s.dev b).heard < 0 then x else b) d) s)))) ∧
    ((s.link t.val).state = .fault → ((s.link t.val).probeOk = true ∨ (s.link t.val).cause = 4) →
      exec (.trunkRecover t) s = .next (after s (recoverLink t.val s))) ∧
    (((s.link t.val).state ≠ .fault ∨ (s.link t.val).probeOk = false ∧ (s.link t.val).cause ≠ 4) →
      exec (.trunkRecover t) s = .next (after s s))

/-- Device timers of point acquisition, and I-Am. -/
def Obligations.PointDiscovery : Prop :=
  ∀ (s : State), enginesRun s = true →
    (∀ dv : Fin 4096,
      ((s.dev dv.val).state = .seeking → linksActive s = true → exec (.seek dv) s = .next (after s (seekDev dv.val s))) ∧
      ((s.dev dv.val).state ≠ .seeking → exec (.seek dv) s = .next (after s s)) ∧
      ((s.dev dv.val).state ≠ .bound → exec (.deviceSilence dv) s = .next (after s s) ∧ exec (.livenessProbe dv) s = .next (after s s)) ∧
      (∀ t, (s.dev dv.val).state = .bound →
        t = devUpd dv.val (fun d => { d with state := .silent, staleDue := true }) (abandonReqs dv.val true s) →
        exec (.deviceSilence dv) s = .next (after s (pump
          (raise 2 0x52 [ef 2 dv.val, ef 4 (devPoints t dv.val).length, efMT (s.dev dv.val).heard] t)))) ∧
      ((s.dev dv.val).state = .bound → (inFlight s dv.val).isEmpty = true → linksActive s = true →
        exec (.livenessProbe dv) s = .next (after s (probeDev dv.val s))) ∧
      (∀ t, (s.dev dv.val).state = .silent → linksActive s = true → t = probeDev dv.val s →
        (byWhoIs t dv.val = false → exec (.silentProbe dv) s = .next (after s t)) ∧
        (byWhoIs t dv.val = true → exec (.silentProbe dv) s = .next (after s
          (sendWhoIs (devLink t dv.val) (devInst t dv.val) (devInst t dv.val) t)))) ∧
      ((s.dev dv.val).state ≠ .silent → exec (.silentProbe dv) s = .next (after s s) ∧ exec (.unbindTimeout dv) s = .next (after s s)) ∧
      ((s.dev dv.val).state = .silent → devStatic s dv.val = false → exec (.unbindTimeout dv) s = .next (after s
        (raise 2 0x53 [ef 2 dv.val] (devUpd dv.val (fun d => clearAddress { d with state := .seeking }) s)))) ∧
      ((s.dev dv.val).state = .discovered → exec (.discAgeTimeout dv) s = .next (after s (devUpd dv.val (fun _ => {}) s))) ∧
      ((s.dev dv.val).state ≠ .discovered → exec (.discAgeTimeout dv) s = .next (after s s))) ∧
    (∀ pn : Fin 131072,
      (s.pnt.sub.get pn.val = true → linksActive s = true → exec (.covRenewal pn) s = .next (after s
        (pump (queueReq { dv := ptDv s pn.val, kind := .subscribe pn.val } s)))) ∧
      (s.pnt.sub.get pn.val = false → exec (.covRenewal pn) s = .next (after s s))) ∧
    (∀ (link : Fin 10) (src : DevAddr) (inst maxApdu seg : Nat),
      (linksActive s = false → exec (.iAm link src inst maxApdu seg) s = .next (after s s)) ∧
      (linksActive s = true → iAmHolder s inst = none → liveBit s Kind.pa 0 0 = false →
        exec (.iAm link src inst maxApdu seg) s = .next (after s s)) ∧
      (∀ dv, linksActive s = true → iAmHolder s inst = none → liveBit s Kind.pa 0 0 = true → freeDv s = some dv →
        exec (.iAm link src inst maxApdu seg) s = .next (after s (raise 3 0x51
          ([ef 2 dv, ef 4 inst] ++ srcFields link.val src)
          (devUpd dv (fun _ => learnAddr src maxApdu seg
            { (default : Dev) with state := .discovered, inst := inst, link := link.val, heard := s.now }) s)))) ∧
      (linksActive s = true → iAmHolder s inst = none → liveBit s Kind.pa 0 0 = true → freeDv s = none →
        exec (.iAm link src inst maxApdu seg) s = .next (after s s)) ∧
      (∀ dv d, linksActive s = true → iAmHolder s inst = some (dv, d) → d.state = .seeking →
        (devLink s dv = link.val → devStatic s dv = false →
          exec (.iAm link src inst maxApdu seg) s = .next (after s (bindDev dv (devUpd dv (learnAddr src maxApdu seg) s)))) ∧
        (devLink s dv = link.val → devStatic s dv = true →
          exec (.iAm link src inst maxApdu seg) s = .next (after s (bindDev dv s))) ∧
        (devLink s dv ≠ link.val → exec (.iAm link src inst maxApdu seg) s = .next (after s s))) ∧
      (∀ dv d, linksActive s = true → iAmHolder s inst = some (dv, d) → d.state = .discovered → devLink s dv = link.val →
        exec (.iAm link src inst maxApdu seg) s = .next (after s
          (devUpd dv (fun d => learnAddr src maxApdu seg { d with heard := s.now }) s))) ∧
      (∀ dv d, linksActive s = true → iAmHolder s inst = some (dv, d) → d.state = .bound → devLink s dv ≠ link.val →
        (s.every d.dupAt 60 = true → exec (.iAm link src inst maxApdu seg) s = .next (after s
          (raise 2 0x55 ([ef 2 dv, ef 4 inst] ++ entryFieldsOf (devLink s dv) d ++ srcFields link.val src)
            (devUpd dv (fun d => { d with dupAt := some s.rtc.up }) s)))) ∧
        (s.every d.dupAt 60 = false → exec (.iAm link src inst maxApdu seg) s = .next (after s s))))

/-- Replies to reads, writes and subscriptions, and COV notifications. -/
def Obligations.PointReplies : Prop :=
  ∀ (s : State), enginesRun s = true → ∀ (dv : Fin 4096) (id : U16),
    (∀ rep, (s.dev dv.val).quarantine.contains id.toNat = true → exec (.readReply dv id rep) s = .next (after s (lateReply dv.val s))) ∧
    (∀ rep, (s.dev dv.val).quarantine.contains id.toNat = true → exec (.writeReply dv id rep) s = .next (after s (lateReply dv.val s))) ∧
    (∀ ok c, (s.dev dv.val).quarantine.contains id.toNat = true →
      exec (.subscribeCovReply dv id ok c) s = .next (after s (lateReply dv.val s))) ∧
    (∀ rep, (s.dev dv.val).quarantine.contains id.toNat = false → findReq s dv.val id.toNat = none → (s.dev dv.val).issued ≤ id.toNat →
      exec (.readReply dv id rep) s = .next (after s { s with pnt := { s.pnt with stray := sat32 s.pnt.stray } })) ∧
    (∀ items r pns cls, (s.dev dv.val).quarantine.contains id.toNat = false → findReq s dv.val id.toNat = some r →
      r.kind = .read pns cls → exec (.readReply dv id (.items items)) s = .next (after s (goOn dv.val
        (readItems r items (validReply dv.val (rtuAnswered dv.val id.toNat (dropReq dv.val id.toNat s))))))) ∧
    (∀ rep r rt t, (s.dev dv.val).quarantine.contains id.toNat = false → findReq s dv.val id.toNat = some r → r.kind = .probe rt →
      t = validReply dv.val (rtuAnswered dv.val id.toNat (dropReq dv.val id.toNat s)) →
      exec (.readReply dv id rep) s = .next (after s (goOn dv.val
        (probeReply dv.val rt ((s.dev dv.val).state != .bound) rep (probeAnswered dv.val t))))) ∧
    (∀ r pn pri null v, (s.dev dv.val).quarantine.contains id.toNat = false → findReq s dv.val id.toNat = some r →
      r.kind = .write pn pri null v →
      (∀ t, t = validReply dv.val (dropReq dv.val id.toNat (rtuAnswered dv.val id.toNat s)) →
        ((null = false ∨ shadowOf t pn pri = none ∨ (∃ i, shadowOf t pn pri = some i ∧ (t.pts.shadow.get i).relinq = false)) →
          exec (.writeReply dv id .ack) s = .next (after s (goOn dv.val
            { t with pnt := { t.pnt with resend := t.pnt.resend.set (pn * 32 + pri) none } }))) ∧
        (∀ i u, null = true → shadowOf t pn pri = some i → (t.pts.shadow.get i).relinq = true → u = freeShadowOf pn pri t →
          exec (.writeReply dv id .ack) s = .next (after s (goOn dv.val
            { u with pnt := { u.pnt with resend := u.pnt.resend.set (pn * 32 + pri) none } }))) ∧
        (∀ c e u, u = writeFailed pn pri 0 c.toNat e.toNat t → exec (.writeReply dv id (.error c e)) s = .next (after s (goOn dv.val
          { u with pnt := { u.pnt with resend := u.pnt.resend.set (pn * 32 + pri) none } })))) ∧
      (∀ c, (c.toNat = 5 ∨ c.toNat = 6) → r.tries < devRetries (rtuAnswered dv.val id.toNat s) dv.val →
        exec (.writeReply dv id (.exception c)) s = .next (after s (validFrame dv.val (rtuAnswered dv.val id.toNat s))))) ∧
    (∀ r pn, (s.dev dv.val).quarantine.contains id.toNat = false → findReq s dv.val id.toNat = some r → r.kind = .subscribe pn →
      (∀ t c, t = validReply dv.val (dropReq dv.val id.toNat s) →
        exec (.subscribeCovReply dv id true c) s = .next (after s (goOn dv.val
          (if isFieldPoint t dv.val pn then { t with pnt := { t.pnt with sub := t.pnt.sub.set pn true } } else t))) ∧
        exec (.subscribeCovReply dv id false c) s = .next (after s (goOn dv.val (subscribeFailed dv.val pn c.toNat t))))) ∧
    (∀ (link : Fin 10) src pid (obj : U32) item (cf : Option Byte),
      ((linksActive s = false ∨ (s.link link.val).state ≠ .up) → exec (.covNotification link src pid obj item cf) s = .next (after s s)) ∧
      (linksActive s = true → (s.link link.val).state = .up → ∀ t,
        t = (match cf with
          | some id => sendCovAck link.val (destOfAddr link.val src) id.toNat (heardFrom link.val src s)
          | none => heardFrom link.val src s) →
        (∀ d v, devOfAddr t link.val src = some d → isFieldPoint t d pid = true → ptKind t pid = 3 → ptRef t pid = obj.toNat →
          pid < 131072 → item = some v → exec (.covNotification link src pid obj item cf) s = .next (after s (refreshField (ptDv t pid) pid v t))) ∧
        (∀ u, u = { t with pnt := { t.pnt with stray := sat32 t.pnt.stray } } →
          (∀ d, devOfAddr t link.val src = some d →
            (isFieldPoint t d pid = false ∨ ptKind t pid ≠ 3 ∨ ptRef t pid ≠ obj.toNat ∨ 131072 ≤ pid) →
            exec (.covNotification link src pid obj item cf) s = .next (after s (pump (queueReq { dv := d, kind := .cancel pid obj.toNat } u)))) ∧
          (devOfAddr t link.val src = none →
            exec (.covNotification link src pid obj item cf) s = .next (after s
              (sendNpdu link.val (destOfAddr link.val src) 0 (.subscribeCov pid obj.toNat none) u))))))

/-- Request timeouts, quarantine, busy retries, repeated writes and poll rounds. -/
def Obligations.PointTimers : Prop :=
  ∀ (s : State), enginesRun s = true →
    (∀ (dv : Fin 4096) (id : U16),
      (findReq s dv.val id.toNat = none → exec (.requestTimeout dv id) s = .next (after s s)) ∧
      (∀ r, findReq s dv.val id.toNat = some r → r.tries < devRetries s dv.val →
        exec (.requestTimeout dv id) s = .next (after s (transmitReq dv.val id.toNat
          { s with pnt := { s.pnt with reqs := s.pnt.reqs.map (fun q =>
            if q.dv == dv.val && q.id == some id.toNat then { q with tries := q.tries + 1 } else q) } }))) ∧
      (∀ r, findReq s dv.val id.toNat = some r → devRetries s dv.val ≤ r.tries →
        exec (.requestTimeout dv id) s = .next (after s (pump (requestFailed r id.toNat s)))) ∧
      (exec (.invokeIdQuarantineEnd dv id) s = .next (after s (pump
        (devUpd dv.val (fun d => { d with quarantine := d.quarantine.filter (· != id.toNat) }) s)))) ∧
      (∀ r, findReq s dv.val id.toNat = some r → r.tries < devRetries s dv.val →
        exec (.modbusBusyRetry dv id) s = .next (after s (transmitReq dv.val id.toNat
          { s with pnt := { s.pnt with reqs := s.pnt.reqs.map (fun q =>
            if q.dv == dv.val && q.id == some id.toNat then { q with tries := q.tries + 1 } else q) } })))) ∧
    (∀ (pn : Fin 131072) (pri : Fin 17),
      (s.pnt.resend.get (pn.val * 32 + pri.val) = none → exec (.writeResend pn pri) s = .next (after s s)) ∧
      (∀ null v, s.pnt.resend.get (pn.val * 32 + pri.val) = some (null, v) →
        (standsOut s pn.val pri.val = false → exec (.writeResend pn pri) s = .next (after s s)) ∧
        (∀ i, standsOut s pn.val pri.val = true → shadowOf s pn.val pri.val = some i →
          exec (.writeResend pn pri) s = .next (after s (forwardWrite pn.val pri.val (s.pts.shadow.get i).writer
            (s.pts.shadow.get i).relinq (s.pts.shadow.get i).value s))) ∧
        (standsOut s pn.val pri.val = true → shadowOf s pn.val pri.val = none →
          exec (.writeResend pn pri) s = .next (after s (forwardWrite pn.val pri.val WClass.cascade.code null v s))))) ∧
    (∀ cls : Fin 16,
      ((flag (liveImg s Kind.cls cls.val) 36 = false ∨ s.now.c.toNat % (max 1 (fld (liveImg s Kind.cls cls.val) 0 16)) ≠ 0 ∨
          s.pnt.roundC.get cls.val = some s.now.c) → exec (.pollClassDue cls) s = .next (after s s)) ∧
      (∀ t, flag (liveImg s Kind.cls cls.val) 36 = true → s.now.c.toNat % (max 1 (fld (liveImg s Kind.cls cls.val) 0 16)) = 0 →
        s.pnt.roundC.get cls.val ≠ some s.now.c → t = reachAngle (u16 (liveFld s Kind.cls cls.val 16 16)) s →
        (pollDueIn t cls.val s.now.c = true → linksActive t = true → t.pnt.reqs = [] →
          exec (.pollClassDue cls) s = .next (after s (pump (forAll (pollDevices t) (pollDevice cls.val)
            { t with pnt := { t.pnt with roundC := t.pnt.roundC.set cls.val (some s.now.c) } })))) ∧
        (linksActive t = false → exec (.pollClassDue cls) s = .next (after s t))))

/-- The pair link: training, HELLO, silence, loss of alignment, rejected frames, retransmission and beats. -/
def Obligations.PairLink : Prop :=
  ∀ s : State, enginesRun s = true →
    (s.pr.link = .train → pairEn s = true →
      exec .laneAlignment s = .next (after s (sendHello (prUpd (fun p => { p with link := .hello }) s)))) ∧
    (s.pr.link ≠ .train → exec .laneAlignment s = .next (after s s)) ∧
    (s.pr.link = .train → exec .trainTimeout s = .next (after s (prUpd (fun p => { p with trainFails := sat32 p.trainFails }) s))) ∧
    (s.pr.link ≠ .train → exec .trainTimeout s = .next (after s s)) ∧
    (s.pr.link = .up → exec .alignmentLost s = .next (after s (linkLost 1 .train s))) ∧
    (s.pr.link ≠ .up → exec .alignmentLost s = .next (after s s)) ∧
    (s.pr.link = .up → exec .linkSilence s = .next (after s (silentTrigger (linkLost 0 .train s)))) ∧
    (s.pr.link ≠ .up → exec .linkSilence s = .next (after s s)) ∧
    (∀ t, s.pr.link = .hello → t = prUpd (fun p => { p with nonce := p.nonce + 1 }) s →
      exec .helloRepeat s = .next (after s (prUpd (fun p => { p with
        loose := .hello (ownHello t) :: (if p.bondPend.isSome then [.bond] else []) }) t))) ∧
    (s.pr.link ≠ .hello → exec .helloRepeat s = .next (after s s)) ∧
    (∀ g, pairEn s = false → exec (.helloFrame g) s = .next (after s s)) ∧
    (∀ g, pairEn s = true → s.pr.link = .hello → s.pr.bond ≠ some g.fp → s.pr.unbonded = some g.fp → g.pairId ≠ pairId s →
      exec (.helloFrame g) s = .next (after s (prUpd (fun p => { p with presented := g.fp, pHello := false }) s))) ∧
    (∀ g, pairEn s = true → s.pr.link = .hello → s.pr.bond = some g.fp → g.pairId ≠ pairId s →
      g.plMin ≤ min (ownPlMax s) g.plMax → min (ownPlMax s) g.plMax ≠ 0 →
      exec (.helloFrame g) s = .next (after s (linkUp (min (ownPlMax s) g.plMax) g (prUpd (fun p => { p with
        presented := g.fp, pHello := true, clash := false, pRole := g.role, pEligible := g.eligible, pGen := g.gen, pCycle := g.cycle }) s)))) ∧
    (pairEn s = true → exec (.pairFrameRejected .crc) s = .next (after s (prUpd (fun p => { p with badFrames := sat32 p.badFrames }) s))) ∧
    (pairEn s = true → exec (.pairFrameRejected .type) s = .next (after s (prUpd (fun p => { p with discarded := sat32 p.discarded }) s))) ∧
    (pairEn s = true → exec (.pairFrameRejected .order) s = .next (after s (prUpd (fun p => { p with discarded := sat32 p.discarded }) s))) ∧
    (∀ why, pairEn s = false → exec (.pairFrameRejected why) s = .next (after s s)) ∧
    (s.pr.link = .up → exec .retransmitTimeout s = .next (after s
      (prUpd (fun p => { p with retrans := min (p.retrans + p.window.length) 0xFFFFFFFF }) s))) ∧
    (s.pr.link ≠ .up → exec .retransmitTimeout s = .next (after s s)) ∧
    (∀ g, pairEn s = true → s.pr.link = .up → s.pr.bond = some g.fp → g.pairId ≠ pairId s →
      g.plMin ≤ min (ownPlMax s) g.plMax → min (ownPlMax s) g.plMax ≠ 0 → s.pr.txSeq < 0x80000000 →
      exec (.helloFrame g) s = .next (after s (prUpd (fun p => { p with txSeq := p.window.length, rxSeq := 0 }) (sendHello (prUpd (fun p => { p with
        presented := g.fp, pHello := true, clash := false, pRole := g.role, pEligible := g.eligible, pGen := g.gen, pCycle := g.cycle }) s))))) ∧
    (s.pr.txIdle = false → s.pr.link = .up → s.pr.window.length < 64 → exec .beatDue s = .next (after s (seqSend (beatFrame s) s))) ∧
    (s.pr.txIdle = false → s.pr.link = .up → 64 ≤ s.pr.window.length → exec .beatDue s = .next (after s
      (prUpd (fun p => { p with sendQ := p.sendQ ++ [beatFrame s] }) s))) ∧
    ((s.pr.txIdle = true ∨ s.pr.link ≠ .up) → exec .beatDue s = .next (after s s))

/-- Mirror frames in order: records, batches, resynchronisation, beats and RELINQUISH. -/
def Obligations.PairMirroring : Prop :=
  ∀ (s : State) (seq ack : U32), enginesRun s = true →
    ((s.pr.link ≠ .up ∨ pairEn s = false) →
      (∀ c sn r d, exec (.mirror seq ack c sn r d) s = .next (after s s)) ∧ (∀ c, exec (.batchEnd seq ack c) s = .next (after s s)) ∧
      (∀ cls, exec (.resyncReq seq ack cls) s = .next (after s s)) ∧ (∀ c, exec (.resyncDone seq ack c) s = .next (after s s)) ∧
      (∀ areas swap, exec (.relinquish seq ack areas swap) s = .next (after s s)) ∧ (∀ b, exec (.beat b) s = .next (after s s))) ∧
    (s.pr.link = .up → pairEn s = true → seq.toNat ≠ s.pr.rxSeq → ∀ t, t = prUpd (fun p => { p with discarded := sat32 p.discarded }) s →
      (∀ c sn r d, exec (.mirror seq ack c sn r d) s = .next (after s t)) ∧ (∀ c, exec (.batchEnd seq ack c) s = .next (after s t)) ∧
      (∀ cls, exec (.resyncReq seq ack cls) s = .next (after s t)) ∧ (∀ c, exec (.resyncDone seq ack c) s = .next (after s t)) ∧
      (∀ areas swap, exec (.relinquish seq ack areas swap) s = .next (after s t)) ∧
      (∀ b : PairBeat, b.seq = seq → exec (.beat b) s = .next (after s t))) ∧
    (s.pr.link = .up → pairEn s = true → seq.toNat = s.pr.rxSeq →
      ∀ u t, u = pairAck ack.toNat (prUpd (fun p => { p with rxSeq := p.rxSeq + 1 }) s) →
        t = (if u.pr.relWait && !relinquishOut u then finishSwap u else u) →
      (∀ c sn r, t.pr.role = .standby → exec (.mirror seq ack c sn r true) s = .next (after s
        (pairSend (.resyncReq (recClass r)) (prUpd (fun p => { p with resync := true, stale := p.stale ||| 2 ^ (recClass r - 1) }) t)))) ∧
      (∀ c sn r, t.pr.role = .standby → recClass r ≤ 2 → exec (.mirror seq ack c sn r false) s = .next (after s (applyRec r t))) ∧
      (∀ c r, t.pr.role = .standby → 2 < recClass r → exec (.mirror seq ack c true r false) s = .next (after s
        (prUpd (fun p => { p with mirror := { p.mirror with snap := p.mirror.snap ++ [r] } }) t))) ∧
      (∀ c r, t.pr.role = .standby → 2 < recClass r → recClass r ≠ 5 → exec (.mirror seq ack c false r false) s = .next (after s
        (prUpd (fun p => { p with mirror := { p.mirror with batch := p.mirror.batch ++ [(c.toNat, r)] } }) t))) ∧
      (∀ c sn r d, t.pr.role ≠ .standby → exec (.mirror seq ack c sn r d) s = .next (after s t)) ∧
      (∀ c, t.pr.role = .standby → t.pr.resync = false → exec (.batchEnd seq ack c) s = .next (after s (applyBatch c.toNat t))) ∧
      (∀ c, t.pr.role = .standby → t.pr.resync = true → exec (.batchEnd seq ack c) s = .next (after s (applyBatch c.toNat
        (prUpd (fun p => { p with mirror := { p.mirror with ended := p.mirror.ended ++ [c.toNat] } }) t)))) ∧
      (∀ cls, t.duty = true → 2 < cls → exec (.resyncReq seq ack cls) s = .next (after s
        (prUpd (fun p => { p with snapDue := p.snapDue ||| 2 ^ (cls - 1) }) t))) ∧
      (∀ c v w, t.pr.role = .standby → t.pr.resync = true →
        v = prUpd (fun p => { p with resync := false, stale := 0, mirror := { p.mirror with snap := [], ended := [] } }) t →
        w = forAll t.pr.mirror.snap applyRec (beforeSnapshot t.pr.stale t.pr.mirror.snap v) → t.pr.mirror.ended = [] →
        exec (.resyncDone seq ack c) s = .next (after s (raise 2 0xE6 [ef 1 w.pr.mirrored] (prUpd (fun p => { p with mirror := { p.mirror with
          batch := p.mirror.batch.filter (fun b => decide (cycDiff (u32 b.1) c ≥ 0)) } }) w)))) ∧
      (∀ (b : PairBeat) v, b.seq = seq → b.ack = ack → v = prUpd (fun p => { p with
          pRole := b.role, pEligible := b.eligible, pGen := b.gen, pCycle := b.cycle, pAngle := b.angle }) t →
        (roleDuty b.role = false → v.pr.dual = none → exec (.beat b) s = .next (after s v)) ∧
        (roleDuty b.role = true → exec (.beat b) s = .next (after s (dualActive 1 v)))) ∧
      (∀ areas swap, t.duty = false → t.pr.role = .standby → eligibleNow t = true →
        exec (.relinquish seq ack areas swap) s = .next (after s (dovetail (if swap then 2 else 1) t))) ∧
      (∀ areas swap, t.duty = false → (t.pr.role ≠ .standby ∨ eligibleNow t = false) →
        exec (.relinquish seq ack areas swap) s = .next (after s t)) ∧
      (∀ areas swap, t.duty = true → (pairId t = true ∨ t.pr.dove = 1 ∨ t.pr.dove = 2) →
        exec (.relinquish seq ack areas swap) s = .next (after s t)))

/-- Heartbeat, activity, bonding and the release of duty. -/
def Obligations.PairLiveness : Prop :=
  ∀ s : State, enginesRun s = true →
    (pairEn s = true → s.sys.power = .run → s.pr.hbHold = false →
      exec .heartbeatToggle s = .next (after s (prUpd (fun p => { p with hbO := !p.hbO }) s))) ∧
    (pairEn s = false → exec .heartbeatToggle s = .next (after s s) ∧ exec .activityToggle s = .next (after s s) ∧
      exec .prHbIEdge s = .next (after s s) ∧ exec .prActIEdge s = .next (after s s) ∧ exec .heartbeatLoss s = .next (after s s) ∧
      exec .activitySilence s = .next (after s s) ∧ exec .dovetailOutputEnable s = .next (after s s)) ∧
    (pairEn s = true → s.duty = true → exec .activityToggle s = .next (after s (prUpd (fun p => { p with actO := !p.actO }) s))) ∧
    (pairEn s = true → s.duty = false → exec .activityToggle s = .next (after s s)) ∧
    (pairEn s = true → s.pr.hbLost = false → exec .prHbIEdge s = .next (after s (prUpd (fun p => { p with hbI := !p.hbI }) s))) ∧
    (pairEn s = true → s.pr.hbLost = true → exec .prHbIEdge s = .next (after s (raise 2 0xE3 []
      (prUpd (fun p => { p with hbLost := false }) (prUpd (fun p => { p with hbI := !p.hbI }) s))))) ∧
    (pairEn s = true → s.pr.hbLost = false →
      exec .heartbeatLoss s = .next (after s (silentTrigger (raise 2 0xE2 [] (prUpd (fun p => { p with hbLost := true }) s))))) ∧
    (s.pr.hbLost = true → exec .heartbeatLoss s = .next (after s s)) ∧
    (pairEn s = true → s.pr.actLost = false → exec .activitySilence s = .next (after s (silentTrigger
      (prUpd (fun p => { p with actI := false, actQuiet := true, actLost := true }) s)))) ∧
    (∀ t u, pairEn s = true → t = ({ s with out := { s.out with safeHold := false } } : State) →
      u = disableOutputs (prUpd (fun p => { p with actI := true, actQuiet := false, actLost := false, actEv := false }) t) → u.pr.dove = 1 →
      exec .prActIEdge s = .next (after s u)) ∧
    (∀ t u, pairEn s = true → t = ({ s with out := { s.out with safeHold := false } } : State) →
      u = disableOutputs (prUpd (fun p => { p with actI := true, actQuiet := false, actLost := false, actEv := false }) t) → u.pr.dove ≠ 1 →
      exec .prActIEdge s = .next (after s (dualActive 0 u))) ∧
    (∀ key, (s.pr.link = .up ∨ s.pr.link = .hello) → key.length = 65 → s.pr.bondPend = some (sha64 key) →
      exec (.bond key) s = .next (after s (sendBond .bondConfirm (prUpd (fun p => { p with bondKey := key }) s)))) ∧
    (∀ key, (s.pr.bondPend = none ∨ key.length ≠ 65) → exec (.bond key) s = .next (after s s)) ∧
    (s.pr.link = .up → s.pr.bondPend.isSome = true → s.pr.bondKey ≠ [] →
      exec .bondConfirm s = .next (after s (submit { typ := .keys, arg := 1 } s))) ∧
    (s.pr.bondPend = none → exec .bondConfirm s = .next (after s s)) ∧
    (s.pr.bondPend.isSome = true → exec .bondTimeout s = .next (after s
      (completeWait .bond St.bondTimeout 0 [] (prUpd (fun p => { p with bondPend := none, bondKey := [] }) s)))) ∧
    (s.pr.bondPend = none → exec .bondTimeout s = .next (after s s)) ∧
    (s.pr.relWait = true → s.pr.relSends < 3 → s.pr.link = .up → exec .relinquishResend s = .next (after s
      (prUpd (fun p => { p with relSends := p.relSends + 1, retrans := sat32 p.retrans }) s))) ∧
    (relinquishOut s = false → s.pr.relWait = false → exec .relinquishResend s = .next (after s s)) ∧
    (pairEn s = true → exec .dovetailOutputEnable s = .next (after s (dovetailEnable (prUpd (fun p => { p with actQuiet := true }) s))))

/-- A converter's conversion end, its injected sequence, its reference, the jig and calibration. -/
def Obligations.ConverterRows : Prop :=
  ∀ (c : Fin 4) (s : State), portOn s = true →
    (∀ raw out a, ((s.conv c.val).state ≠ .run ∧ (s.conv c.val).state ≠ .jig ∨ s.sys.power = .nap ∧ (c.val ≠ 0 ∨ s.sys.straps.pairEn = true)) →
      exec (.conversionEnd c raw out a) s = .next (after s s)) ∧
    (∀ raw out a, (s.conv c.val).state = .run → (s.conv c.val).busy = .idle → exec (.conversionEnd c raw out a) s = .next (after s s)) ∧
    (∀ raw a e t, (s.sys.power ≠ .nap ∨ c.val = 0 ∧ s.sys.straps.pairEn = false) →
      (s.conv c.val).state = .run → (s.conv c.val).busy = .regular e → entDiff (regEntry s c.val e) = false →
      entRec (regEntry s c.val e) = false → 0 ≤ raw → raw ≤ 65535 →
      t = convUpd c.val (fun k => { k with
        suspectNext := false, conversions := sat32 k.conversions,
        suspects := if (s.conv c.val).suspectNext || (s.conv c.val).calFail then sat32 k.suspects else k.suspects })
        (landResult c.val e (regEntry s c.val e) raw ({ code := code16 raw, ovr := false, suspect := (s.conv c.val).suspectNext || (s.conv c.val).calFail, unsettled := !(s.conv c.val).refRdy, late := decide (32 ≤ e) && ((s.conv c.val).inj.map (·.late)).getD false, valid := true, n := 1, angle := a } : ConvReg) s) →
      (supOwns (liveImg t Kind.lsIn 0) c.val e = false →
        exec (.conversionEnd c raw false a) s = .next (after s (startRegular c.val (e + 1) t))) ∧
      (supOwns (liveImg t Kind.lsIn 0) c.val e = true →
        exec (.conversionEnd c raw false a) s = .next (after s (startRegular c.val (e + 1)
          (keepSample (e - 24) (sampleMT t a) ((t.conv c.val).reg.get e).code t))))) ∧
    (∀ raw a e t, (s.sys.power ≠ .nap ∨ c.val = 0 ∧ s.sys.straps.pairEn = false) →
      (s.conv c.val).state = .run → (s.conv c.val).busy = .regular e → entDiff (regEntry s c.val e) = false →
      entRec (regEntry s c.val e) = false → 65535 < raw →
      t = overRange c.val e 65535 (convUpd c.val (fun k => { k with
        suspectNext := true, conversions := sat32 k.conversions, ovrs := sat32 k.ovrs,
        suspects := if (s.conv c.val).suspectNext || (s.conv c.val).calFail then sat32 k.suspects else k.suspects })
        (landResult c.val e (regEntry s c.val e) 65535 ({ code := 65535, ovr := true, suspect := (s.conv c.val).suspectNext || (s.conv c.val).calFail, unsettled := !(s.conv c.val).refRdy, late := decide (32 ≤ e) && ((s.conv c.val).inj.map (·.late)).getD false, valid := true, n := 1, angle := a } : ConvReg) s)) →
      supOwns (liveImg t Kind.lsIn 0) c.val e = false →
      exec (.conversionEnd c raw false a) s = .next (after s (startRegular c.val (e + 1) t))) ∧
    (∀ raw out a, (s.sys.power ≠ .nap ∨ c.val = 0 ∧ s.sys.straps.pairEn = false) → (s.conv c.val).state = .jig → (s.conv c.val).jigDelay = false →
      exec (.conversionEnd c raw out a) s = .next (after s (jigConversion c.val raw out s))) ∧
    (∀ raw out a, (s.conv c.val).state = .jig → (s.conv c.val).jigDelay = true → exec (.conversionEnd c raw out a) s = .next (after s s)) ∧
    ((s.conv c.val).inj = none → exec (.injectedSequenceEnd c) s = .next (after s s)) ∧
    (∀ i t, (s.conv c.val).state = .run → (s.conv c.val).inj = some i → (s.conv c.val).busy = .idle → (s.conv c.val).afterRec = none →
      t = convUpd c.val (fun k => { k with inj := none, injAt := none, oldImg := none }) (injDone c.val s) → (((resumePending t).conv c.val).inj = none ∧ ((resumePending t).conv c.val).pend = none) →
      exec (.injectedSequenceEnd c) s = .next (after s (startRegular c.val (s.conv c.val).next (resumePending t)))) ∧
    (convRef (liveImg s Kind.conv c.val) ≠ 1 → exec (.refSettled c) s = .next (after s (convUpd c.val (fun k => { k with refRdy := true }) s))) ∧
    (convRef (liveImg s Kind.conv c.val) = 1 → s.ad.extOut = true → exec (.refSettled c) s = .next (after s s)) ∧
    (exec (.vrefExtWindow true) s = .next (after s { s with ad := { s.ad with extOut := false, extBad := 0, extGood := 0 } })) ∧
    (∀ t, t = ({ s with ad := { s.ad with extOut := true, extBad := 0, extGood := 0 } } : State) →
      exec (.vrefExtWindow false) s = .next (after s (forRange 4 (fun c s =>
        if convRef (liveImg s Kind.conv c) = 1 then convUpd c (fun k => { k with refRdy := false }) s else s) t))) ∧
    ((s.conv c.val).state = .jig → (s.conv c.val).jigDelay = true → exec (.jigDelayExpiry c) s = .next (after s (jigNext c.val s))) ∧
    ((s.conv c.val).jigDelay = false → exec (.jigDelayExpiry c) s = .next (after s s)) ∧
    (∀ o g, (s.conv c.val).state ≠ .cal → exec (.calibrationEnd c o g) s = .next (after s s)) ∧
    (∀ o g t, (s.conv c.val).state = .cal → o.natAbs ≤ 64 → g.natAbs ≤ 100 → s.sys.restored = false →
      t = convUpd c.val (fun k => { k with calFail := false, offset := o, gain := g }) s →
      exec (.calibrationEnd c o g) s = .next (after s (completeWait (.calib c.val) St.ok 0 [] (convUpd c.val (fun k => { k with state := .off }) t))))

/-- Tachometer edges, kick and backoff timeouts, the tachometer timeout, and the current trigger of a fan. -/
def Obligations.FanRows : Prop :=
  ∀ (n : Fin 8) (s : State), portOn s = true →
    (exec (.tachEdge n 0) s = .next (after s (fanUpd n.val (fun f => { f with edges := f.edges + 1 }) s))) ∧
    (∀ iv, iv ≠ 0 → exec (.tachEdge n iv) s = .next (after s (fanUpd n.val (fun f => { f with
      edges := f.edges + 1, ivals := (iv :: f.ivals).take 16, lastIval := some iv }) s))) ∧
    (((s.fan n.val).state ≠ .kick ∨ 2 ≤ (s.fan n.val).edges) → exec (.kickTimeout n) s = .next (after s s)) ∧
    ((s.fan n.val).state = .kick → (s.fan n.val).edges < 2 → (s.fan n.val).attempts ≤ fnFld s n.val 216 3 →
      exec (.kickTimeout n) s = .next (after s (stall n.val (if (s.fan n.val).code = 4 then 4 else 1) (s.fan n.val).attempts s))) ∧
    ((s.fan n.val).state = .kick → (s.fan n.val).edges < 2 → fnFld s n.val 216 3 < (s.fan n.val).attempts →
      exec (.kickTimeout n) s = .next (after s (setDuty n.val 0 (setFanCode n.val 2 (fanUpd n.val (fun f => { f with state := .fault }) s))))) ∧
    ((s.fan n.val).state = .backoff →
      exec (.backoffExpiry n) s = .next (after s (kick n.val (fanUpd n.val (fun f => { f with attempts := f.attempts + 1 }) s)))) ∧
    ((s.fan n.val).state ≠ .backoff → exec (.backoffExpiry n) s = .next (after s s)) ∧
    (∀ t, t = fanUpd n.val (fun f => { f with lastIval := none, edges := if f.state = .kick then f.edges else 0 }) s →
      (t.fan n.val).state ≠ .run → exec (.tachTimeout n) s = .next (after s t)) ∧
    (∀ t, t = fanUpd n.val (fun f => { f with lastIval := none, edges := if f.state = .kick then f.edges else 0 }) s →
      (t.fan n.val).state = .run → currentOf t n.val = none → exec (.tachTimeout n) s = .next (after s
        (setFanCode n.val 5 (fanUpd n.val (fun f => { f with state := .openLoop, oob := 0, edges := 0 }) t)))) ∧
    (fnEnabled s n.val = true → fnFld s n.val 5 1 = 1 → s.sys.outputs = true →
      exec (.curTrig n) s = .next (after s (trigger .fan {} (fnFld s n.val 160 2) s).2)) ∧
    (fnEnabled s n.val = false → exec (.curTrig n) s = .next (after s s))

/-- The key scan, the stuck time of a key, and the timers of a life-safety area. -/
def Obligations.KeysAndAreas : Prop :=
  ∀ s : State, portOn s = true →
    (∀ k, ((keysTakeEffect s).duty = false ∨ (keysTakeEffect s).sys.outputs = false ∨ kyEnable (keysTakeEffect s) = false) →
      exec (.keyScan k) s = .next (after s (keysTakeEffect s))) ∧
    (∀ k t, (keysTakeEffect s).duty = true → (keysTakeEffect s).sys.outputs = true → kyEnable (keysTakeEffect s) = true →
      t = kyUpd (fun y => { y with scans := sat32 y.scans }) (keysTakeEffect s) → t.ky.discard = true →
      exec (.keyScan k) s = .next (after s (kyUpd (fun y => { y with discard := false }) t))) ∧
    (∀ (k : KeyScan) t u, (keysTakeEffect s).duty = true → (keysTakeEffect s).sys.outputs = true → kyEnable (keysTakeEffect s) = true →
      t = kyUpd (fun y => { y with scans := sat32 y.scans }) (keysTakeEffect s) → t.ky.discard = false →
      u = forRange (kyCols t) (fun c s => scanColumn (k.nul.getD c 0) c s) t →
      exec (.keyScan k) s = .next (after s (forRange 8 (fun r s =>
        if kyRow s r then forRange (kyCols (scanRow (k.dev.getD r 0) r s)) (fun c s => scanCross (keyFrozen t) ((k.rows.getD r []).getD c 0) r c s)
          (scanRow (k.dev.getD r 0) r s)
        else s) u))) ∧
    (∀ k : Fin 512, s.duty = true → (s.ky.key.get k.val).pressed = true → (s.ky.key.get k.val).stuck = false →
      liveFld s Kind.key k.val 32 8 ≠ 0 → exec (.stuckTimeout k) s = .next (after s (markDirty 6 (2 ^ 23)
        (kyUpd (fun y => { y with pendEv := y.pendEv ++ [(0xC3, k.val, 0, 0)] }) (keyUpd k.val (fun x => { x with stuck := true }) s))))) ∧
    (∀ k : Fin 512, ((s.ky.key.get k.val).pressed = false ∨ (s.ky.key.get k.val).stuck = true ∨ liveFld s Kind.key k.val 32 8 = 0) →
      exec (.stuckTimeout k) s = .next (after s s)) ∧
    (∀ an : Fin 64, (s.area an.val).alertHold = true → (actingTrigs s an.val).any (fun t => trigMode s t == 1) = false → s.duty = true →
      exec (.alertHoldExpiry an) s = .next (after s (finishArea an.val (s.area an.val) (areaUpd an.val (fun a => { a with alertHold := false }) s)))) ∧
    (∀ an : Fin 64, (s.area an.val).alertHold = false → exec (.alertHoldExpiry an) s = .next (after s s)) ∧
    (∀ an : Fin 64, (s.area an.val).testing = true → s.duty = true →
      exec (.testMaxExpiry an) s = .next (after s (finishArea an.val (s.area an.val) (areaUpd an.val (fun a => { a with testing := false }) s)))) ∧
    (∀ an : Fin 64, (s.area an.val).testing = false → exec (.testMaxExpiry an) s = .next (after s s))

/-- The end of a panel frame, the panel supply, and a region that loads for too long. -/
def Obligations.PanelRows : Prop :=
  ∀ s : State, enginesRun s = true →
    (s.pn.inFrame = false → exec .panelFrameEnd s = .next (after s s)) ∧
    (∀ t, s.pn.inFrame = true → s.pn.update = false → t = pnUpd (fun p => { p with inFrame := false, update := false }) s →
      (pnFld t 3 1 ≠ 0 ∨ panelNeeded t = true) → exec .panelFrameEnd s = .next (after s t)) ∧
    (∀ t, s.pn.inFrame = true → s.pn.update = false → t = pnUpd (fun p => { p with inFrame := false, update := false }) s →
      pnFld t 3 1 = 0 → panelNeeded t = false →
      (t.pn.pwrEn = true → exec .panelFrameEnd s = .next (after s
        (pnUpd (fun p => { p with vcom := false, downAt := some (p.downAt.getD (time10ns t)) }) t))) ∧
      (t.pn.pwrEn = false → exec .panelFrameEnd s = .next (after s t))) ∧
    (∀ t, s.pn.inFrame = true → s.pn.update = true → t = frameUpdate (pnUpd (fun p => { p with inFrame := false, update := false }) s) →
      (pnFld t 3 1 ≠ 0 ∨ panelNeeded t = true) → exec .panelFrameEnd s = .next (after s t)) ∧
    (s.pn.pwrEn = true → s.pn.pwrGood = false → exec .pnlPwrGoodRise s = .next (after s
      (pnUpd (fun p => { p with pwrGood := true, vcom := p.downAt.isNone, vcomAt := time10ns s }) s))) ∧
    ((s.pn.pwrEn = false ∨ s.pn.pwrGood = true) → exec .pnlPwrGoodRise s = .next (after s s)) ∧
    (s.pn.pwrEn = true → s.pn.pwrGood = false → exec .pwrToExpiry s = .next (after s (pnUpd (fun p => { p with pwrEn := false, downAt := none }) s))) ∧
    ((s.pn.pwrEn = false ∨ s.pn.pwrGood = true) → exec .pwrToExpiry s = .next (after s s)) ∧
    (∀ r : Fin 16, (s.region r.val).state = .loading → exec (.loadMaxExpiry r) s = .next (after s (discardRegion 1 r.val s))) ∧
    (∀ r : Fin 16, (s.region r.val).state ≠ .loading → exec (.loadMaxExpiry r) s = .next (after s s))

/-- The resets: PORST_N, RESET_N, SYS_RESET and the automatic restart each start the sequence with their cause; STANDBY and OFF hold RESET_N off. -/
def Obligations.ResetRows : Prop :=
  (∀ (st : Straps) (trim : Bool) (s : State),
    (s.sys.power = .off → exec (.porstNRelease st trim) s = .next (after s (sysUpd (fun y => { y with pgood := true }) s))) ∧
    (s.sys.power = .standby → exec (.porstNRelease st trim) s = .next (after s
      (startSequence 0 st trim (leaveStandby 4 (sysUpd (fun y => { y with pgood := true }) s))))) ∧
    (s.sys.power ≠ .off → s.sys.power ≠ .standby → exec (.porstNRelease st trim) s = .next (after s
      (startSequence 0 st trim (sysUpd (fun y => { y with pgood := true }) s)))) ∧
    ((s.sys.power = .off ∨ s.sys.power = .standby) → exec (.resetNRelease st trim) s = .next (after s s)) ∧
    (s.sys.power ≠ .off → s.sys.power ≠ .standby → exec (.resetNRelease st trim) s = .next (after s (startSequence 1 st trim s)))) ∧
  (∀ s : State, portOn s = true →
    (s.sys.resetDue = none → exec .sysResetExecute s = .next (after s s)) ∧
    (relinquishOut s = true → exec .sysResetExecute s = .next (after s s)) ∧
    (s.sys.resetDue = some 0 → relinquishOut s = false →
      exec .sysResetExecute s = .next (after s (startSequence 2 s.sys.straps (!s.sys.trimFail) s))) ∧
    (s.sys.resetDue = some 1 → relinquishOut s = false →
      exec .sysResetExecute s = .next (after s (enterRecovery (startSequence 2 s.sys.straps (!s.sys.trimFail) s)))) ∧
    (s.sys.resetDue = some 2 → relinquishOut s = false →
      exec .sysResetExecute s = .next (after s (startSequence 3 s.sys.straps (!s.sys.trimFail) s))) ∧
    (restartAllowed s = false → exec .automaticRestart s = .next (after s s)) ∧
    (restartAllowed s = true → exec .automaticRestart s = .next (after s (startSequence 4 s.sys.straps (!s.sys.trimFail)
      (thUpd (fun t => { t with restarts := sat32 t.restarts }) (snUpd (fun k => { k with
        autoAt := s.rtc.utc :: k.autoAt.filter (fun t => s.rtc.utc < t + 3600 * 32768) }) s))))))

/-- The supervisor comes up, the configuration is restored, and the negotiation ends. -/
def Obligations.StartUpRows : Prop :=
  (∀ s : State, portOn s = true →
    (s.sys.ready = true → exec .supervisorUp s = .next (after s s)) ∧
    (∀ t, s.sys.ready = false → s.sys.recovery = false → t = selectImage s → t.sys.recovery = false → t.th.hold = false →
      exec .supervisorUp s = .next (after s (analogStartUp (setIrq 0 (sysUpd (fun y => { y with ready := true }) t))))) ∧
    (s.sys.ready = false → s.sys.recovery = true →
      exec .supervisorUp s = .next (after s (setIrq 0 (sysUpd (fun y => { y with ready := true }) s)))) ∧
    (∀ bad, (s.sys.ready = false ∨ s.sys.recovery = true ∨ s.fenced = true ∨ s.sys.restored = true) →
      exec (.configurationRestore bad) s = .next (after s s)) ∧
    (∀ bad t, s.sys.ready = true → s.sys.recovery = false → s.fenced = false → s.sys.restored = false → s.th.hold = false →
      t = heldEvents (sysUpd (fun y => { y with restored := true })
        (restoreAreas (adjustThr (landHanded (restoreRecords (loadConfig bad (replayJournal s))))))) → pairEn t = false →
      exec (.configurationRestore bad) s = .next (after s t)) ∧
    (s.pr.role = .negotiate → s.sys.restored = true → s.pr.actI = false → s.sys.recovery = false → ownFault s = false →
      exec .negotiateTimeout s = .next (after s (setRole .simplex 0 s))) ∧
    (s.pr.role = .negotiate → s.sys.restored = true → s.pr.actI = false → s.sys.recovery = false → ownFault s = true →
      exec .negotiateTimeout s = .next (after s (setRole .isolated 0 s))) ∧
    (s.pr.role ≠ .negotiate → exec .negotiateTimeout s = .next (after s s)))

/-- Power failure, the fence, PGOOD_CORE and VAON. -/
def Obligations.PowerRows : Prop :=
  (∀ s : State, portOn s = true →
    exec .pfailNFall s = .next (after s (fenceStore 1 (interruptPanel 0 (sysUpd (fun y => { y with pfailLow := true, pfailWait := false }) s)))) ∧
    (s.sys.pfailLow = true → exec .pfailNRise s = .next (after s (sysUpd (fun y => { y with pfailLow := false, pfailWait := true }) s))) ∧
    (s.sys.pfailLow = false → exec .pfailNRise s = .next (after s s)) ∧
    (s.sys.pfailLow = false → exec .fenceLift s = .next (after s (liftFence (sysUpd (fun y => { y with pfailWait := false }) s)))) ∧
    (s.sys.pfailLow = true → exec .fenceLift s = .next (after s s))) ∧
  (∀ s : State,
    (portOn s = true → exec .pgoodCoreFall s = .next (after s
      (enterStandby 2 (fenceStore 1 (interruptPanel 1 (sysUpd (fun y => { y with pgood := false }) s)))))) ∧
    (portOn s = false → exec .pgoodCoreFall s = .next (after s (sysUpd (fun y => { y with pgood := false }) s))) ∧
    (∀ t, s.sys.power ≠ .off → t = coldState (retentionLost s) →
      exec .vaonLoss s = .next (after s (sysUpd (fun y => { y with power := .off, scrub := 0 }) { t with live := [] }))) ∧
    (s.sys.power = .off → exec .vaonLoss s = .next (after s s)) ∧
    (s.sys.power = .off → exec .vaonPowerOn s = .next (after s (sysUpd (fun y => { y with power := .standby }) s))) ∧
    (s.sys.power ≠ .off → exec .vaonPowerOn s = .next (after s s)))

/-- Journal commits, snapshots, the digest, memory errors, and the die bridge. -/
def Obligations.StoreRows : Prop :=
  (∀ s : State, portOn s = true →
    (s.fenced = true → s.sys.cutDue = false → exec .journalCommit s = .next (after s s)) ∧
    (s.fenced = false → (commitRecord s).sys.cutDue = false → exec .journalCommit s = .next (after s (commitRecord s))) ∧
    (s.fenced = false → (commitRecord s).sys.cutDue = true → exec .journalCommit s = .next (after s (enterStandby 1 (commitRecord s)))) ∧
    ((s.fenced = true ∨ s.sys.restored = false) → exec .snapshot s = .next (after s s)) ∧
    (s.fenced = false → s.sys.restored = true → exec .snapshot s = .next (after s
      (submit { typ := .snapDone, arg := 1 - s.nv.snapLatest } (writeSnapshot (snapshotNow s) s)))) ∧
    (s.nv.digestValid = true → exec .digestRecompute s = .next (after s s)) ∧
    (s.nv.digestValid = false →
      exec .digestRecompute s = .next (after s (nvUpd (fun n => { n with digest := digestOf s, digestValid := true }) s))) ∧
    (s.sys.bridgeLost = false → exec .bridgeWatchdog s = .next (after s
      (raise 2 0x10 [] (coilSafe true (sysUpd (fun y => { y with bridgeLost := true }) s))))) ∧
    (s.sys.bridgeLost = false → exec .bridgeBadFrames s = .next (after s
      (raise 2 0x10 [] (coilSafe true (sysUpd (fun y => { y with bridgeLost := true }) s))))) ∧
    (s.sys.bridgeLost = true → exec .bridgeWatchdog s = .next (after s s)) ∧
    (s.sys.bridgeLost = true → exec .bridgeBadFrames s = .next (after s s))) ∧
  (∀ s : State,
    (scrubs s = false → ∀ res, exec (.patrolScrub none res) s = .next (after s s)) ∧
    (scrubs s = true → exec (.patrolScrub none .clean) s = .next (after s
      (sysUpd (fun y => { y with scrub := (y.scrub + 1) % 2097152 }) s))) ∧
    (∀ r w, portOn s = true → r ≠ 17 → exec (.patrolScrub (some (r, w)) .single) s = .next (after s
      (sysUpd (fun y => { y with ecc := Tab.upd y.ecc (if r ≤ 9 then r else 12) sat32 }) s))) ∧
    (∀ r w, portOn s = true → r ≠ 17 → exec (.patrolScrub (some (r, w)) .double) s = .next (after s
      (damage r w (raise 2 0x11 [ef 1 r, ef 4 w] (sysUpd (fun y => { y with memUe := sat32 y.memUe }) s))))))

/-- The sensor window and the throttle report. -/
def Obligations.ThermalRows : Prop :=
  (∀ (r : List Int) (n : List Nat) (s t : State), portOn s = true →
    t = thUpd (fun t => { t with sinceRep := min (t.sinceRep + 1) 64 })
      (forRange 3 judgeSensor (forRange 3 (fun i s => newReading i (r.getD i 0) (n.getD i 0) s) (newThCfg s))) →
    (hottest t = none → t.th.level = 0 → exec (.sensorWindow r n) s = .next (after s (tripCheck t))) ∧
    (∀ i x, hottest t = some (i, x) → (throttle x t).th.level = 0 → exec (.sensorWindow r n) s = .next (after s (tripCheck (throttle x t)))) ∧
    (∀ i x, hottest t = some (i, x) → 0 < (throttle x t).th.level → exec (.sensorWindow r n) s = .next (after s
      (tripCheck (thUpd (fun t => { t with throttled := sat32 t.throttled }) (throttle x t)))))) ∧
  (∀ s : State, portOn s = true →
    (s.th.unreported = true → 64 ≤ s.th.sinceRep → exec .throttleReport s = .next (after s (thUpd (fun t => { t with sinceRep := 0, unreported := false, highest := t.level })
      (raise 2 0xF8 [ef 1 s.th.level, ef 1 (max s.th.highest s.th.level), ef 1 ((hottest s).getD (0, 0)).1, efInt 2 ((hottest s).getD (0, 0)).2] s)))) ∧
    ((s.th.unreported = false ∨ s.th.sinceRep < 64) → exec .throttleReport s = .next (after s s)))

/-- The sentinel's tick, wake edges, the alarm, and the crystal. -/
def Obligations.SentinelRows : Prop :=
  ∀ s : State,
    (∀ sup wk mv, s.sys.power = .off → exec (.sentinelTick sup wk mv) s = .next (after s s)) ∧
    (∀ sup wk mv, s.sys.power ≠ .off → senEnable (takeDue [Kind.sn] s) = false →
      exec (.sentinelTick sup wk mv) s = .next (after s (takeDue [Kind.sn] s))) ∧
    (∀ sup wk mv t l u, s.sys.power ≠ .off → t = takeDue [Kind.sn] s → senEnable t = true → l = latchOuts t →
      u = tickVaon mv (logEdges (forRange 4 (fun i s =>
        if chanFld s (4 + i) 0 1 == 1 && chanFld s (4 + i) 2 1 == 0 then
          tickChan (4 + i) (if wk.getD i false != (chanFld s (4 + i) 1 1 == 1) then 255 else 0) s
        else s)
        (forRange 4 (fun n s =>
          if (l.sys.power == .standby && liveBit l Kind.sn 0 1 && !l.sn.pairEn) && chanFld s n 0 1 == 1 then tickChan n (sup.getD n 0 / 4) s else s) l))) →
      (wakeChannel l u = none → exec (.sentinelTick sup wk mv) s = .next (after s u)) ∧
      (∀ n, wakeChannel l u = some n → exec (.sentinelTick sup wk mv) s = .next (after s (wakeBy 1 n (u.sn.chan.get n).state u)))) ∧
    (∀ (i : Fin 4) r, s.sys.power ≠ .off → chanFld s (4 + i.val) 0 1 = 1 → chanFld s (4 + i.val) 2 1 = 1 →
      (r != (chanFld s (4 + i.val) 1 1 == 1)) = true →
      exec (.senWakeEdge i r) s = .next (after s (wakeBy 2 (4 + i.val) 2 (snUpd (fun k => { k with edges := k.edges ++ [(4 + i.val, asleep s)] }) s)))) ∧
    (∀ (i : Fin 4) r, (chanFld s (4 + i.val) 0 1 ≠ 1 ∨ chanFld s (4 + i.val) 2 1 ≠ 1) → exec (.senWakeEdge i r) s = .next (after s s)) ∧
    (∀ u, s.rtc.alarm = some u → u ≤ s.rtc.utc → exec .rtcAlarm s = .next (after s (wakeBy 3 0 0 { s with rtc := { s.rtc with alarm := none } }))) ∧
    ((s.rtc.alarm = none ∨ (∃ u, s.rtc.alarm = some u ∧ s.rtc.utc < u)) → exec .rtcAlarm s = .next (after s s)) ∧
    (s.rtc.xtalFail = false → s.sys.power ≠ .off → exec .crystalFail s = .next (after s
      (raise 2 0xFE [ef 8 s.rtc.utc] { s with rtc := { s.rtc with xtalFail := true } }))) ∧
    (s.rtc.xtalFail = true → exec .crystalFail s = .next (after s s)) ∧
    exec (.x32CrystalRetry true) s = .next (after s { s with rtc := { s.rtc with xtalFail := false } }) ∧
    exec (.x32CrystalRetry false) s = .next (after s s)

/-- Reads of the host port: all ones before the port answers, registers and memories, the event stream, and reads with a CRC. -/
def Obligations.HostReads : Prop :=
  ∀ (a : BitVec 24) (s : State),
    (∀ n, (portOn s && s.sys.ready) = false →
      exec (.read a n) s = .next (after s (portUpd (fun p => { p with out := List.replicate n 0xFF }) s)) ∧
      exec (.qread a n) s = .next (after s (portUpd (fun p => { p with out := List.replicate n 0xFF }) s))) ∧
    (∀ n, portOn s = true → s.sys.ready = true → a.toNat ≠ 0x800 →
      exec (.read a n) s = .next (after s (portUpd (fun p => { p with out := (List.range n).map (fun i => byteAt a.toNat (a.toNat + i) s) }) s)) ∧
      exec (.qread a n) s = .next (after s (portUpd (fun p => { p with out := (List.range n).map (fun i => byteAt a.toNat (a.toNat + i) s) }) s))) ∧
    (∀ n, portOn s = true → s.sys.ready = true → a.toNat = 0x800 → 1 ≤ n → n < 8 →
      exec (.read a n) s = .next (after s (portUpd (fun p => { p with out := (leBytes 8 (nextItem s.port).toNat).take n }) s)) ∧
      exec (.qread a n) s = .next (after s (portUpd (fun p => { p with out := (leBytes 8 (nextItem s.port).toNat).take n }) s))) ∧
    (portOn s = true → s.sys.ready = true → a.toNat = 0x800 →
      exec (.read a 8) s = .next (after s (portUpd (fun p => { p with out := leBytes 8 (nextItem s.port).toNat }) (consumeItem s))) ∧
      exec (.qread a 8) s = .next (after s (portUpd (fun p => { p with out := leBytes 8 (nextItem s.port).toNat }) (consumeItem s)))) ∧
    (∀ len : U16, portOn s = true → s.sys.ready = true → lenOk len.toNat = false →
      exec (.readCrc a len) s = .next (after s (crcRefused 2 (portUpd (fun p => { p with out := [] }) s))) ∧
      exec (.qreadCrc a len) s = .next (after s (crcRefused 2 (portUpd (fun p => { p with out := [] }) s)))) ∧
    (∀ (len : U16) d, portOn s = true → s.sys.ready = true → lenOk len.toNat = true → a.toNat ≠ 0x800 →
      d = (List.range len.toNat).map (fun i => byteAt a.toNat (a.toNat + i) s) →
      exec (.readCrc a len) s = .next (after s (portUpd (fun p => { p with
        out := d ++ (leBytes 2 (crc16 (crcHead 0x1B a.toNat len.toNat ++ d))).reverse }) s)) ∧
      exec (.qreadCrc a len) s = .next (after s (portUpd (fun p => { p with
        out := d ++ (leBytes 2 (crc16 (crcHead 0xEC a.toNat len.toNat ++ d))).reverse }) s)))

/-- Writes of the host port: an aligned word reaches its register, a partial word is refused and counted, CRC writes act whole or not at all. -/
def Obligations.HostWrites : Prop :=
  ∀ (a : BitVec 24) (s : State),
    (∀ d, portOn s = false →
      exec (.write a d) s = .next (after s (portUpd (fun p => { p with out := [] }) s)) ∧
      exec (.qwrite a d) s = .next (after s (portUpd (fun p => { p with out := [] }) s))) ∧
    (∀ v : U32, portOn s = true → a.toNat < 0x800 → a.toNat % 4 = 0 →
      exec (.write a (leBytes 4 v.toNat)) s = .next (after s (regWrite a.toNat v.toNat (portUpd (fun p => { p with out := [] }) s))) ∧
      exec (.qwrite a (leBytes 4 v.toNat)) s = .next (after s (regWrite a.toNat v.toNat (portUpd (fun p => { p with out := [] }) s)))) ∧
    (∀ b, portOn s = true → a.toNat < 0x800 → a.toNat % 4 = 0 →
      exec (.write a [b]) s = .next (after s (portErr 4 (portUpd (fun p => { p with out := [], lenErrs := sat32 p.lenErrs }) s))) ∧
      exec (.qwrite a [b]) s = .next (after s (portErr 4 (portUpd (fun p => { p with out := [], lenErrs := sat32 p.lenErrs }) s)))) ∧
    (∀ (len : U16) d c, portOn s = true → (lenOk len.toNat = false ∨ d.length ≠ len.toNat) →
      exec (.writeCrc a len d c) s = .next (after s (crcRefused 2 (portUpd (fun p => { p with out := [] }) s))) ∧
      exec (.qwriteCrc a len d c) s = .next (after s (crcRefused 2 (portUpd (fun p => { p with out := [] }) s)))) ∧
    (∀ (len : U16) d c, portOn s = true → lenOk len.toNat = true → d.length = len.toNat →
      (crc16 (crcHead 0x12 a.toNat len.toNat ++ d) ≠ c.toNat →
        exec (.writeCrc a len d c) s = .next (after s (crcRefused 1 (portUpd (fun p => { p with out := [] }) s)))) ∧
      (crc16 (crcHead 0x12 a.toNat len.toNat ++ d) = c.toNat →
        exec (.writeCrc a len d c) s = .next (after s (hostWrite a.toNat d (portUpd (fun p => { p with out := [] }) s)))) ∧
      (crc16 (crcHead 0x3E a.toNat len.toNat ++ d) = c.toNat →
        exec (.qwriteCrc a len d c) s = .next (after s (hostWrite a.toNat d (portUpd (fun p => { p with out := [] }) s))))) ∧
    (∀ c : Byte, portOn s = true → [0x0B, 0x02, 0x1B, 0x12, 0xEB, 0x38, 0xEC, 0x3E].contains c.toNat = false →
      exec (.badInstruction c) s = .next (after s (portErr 5 (portUpd (fun p => { p with out := [] }) s))))

/-- Every register write of the host port has its effect, and each effect's own command does the same. -/
def Obligations.HostRegisters : Prop :=
  ∀ (v : U32) (s : State), portOn s = true →
    (exec (.registerWrite 0x008 v) s = .next (after s (portUpd (fun p => { p with irqStat := p.irqStat &&& ~~~v }) s)) ∧
      exec (.irqStatClear v) s = .next (after s (portUpd (fun p => { p with irqStat := p.irqStat &&& ~~~v }) s))) ∧
    exec (.registerWrite 0x00C v) s = .next (after s (portUpd (fun p => { p with irqMask := u32 (v.toNat % 2 ^ 10) }) s)) ∧
    (exec (.registerWrite 0x010 v) s = .next (after s (exitNap (forAll ((List.range 16).filter v.toNat.testBit) ringSlot s))) ∧
      exec (.doorbell v) s = .next (after s (exitNap (forAll ((List.range 16).filter v.toNat.testBit) ringSlot s)))) ∧
    (exec (.registerWrite 0x014 v) s = .next (after s (clearDone v.toNat s)) ∧
      exec (.hifDoneClear v) s = .next (after s (clearDone v.toNat s))) ∧
    (v.toNat % 4 = 1 → exec (.registerWrite 0x810 v) s = .next (after s (rewind (dropCurrent s))) ∧
      exec .rewind s = .next (after s (rewind (dropCurrent s)))) ∧
    (v.toNat % 4 = 2 → exec (.registerWrite 0x810 v) s = .next (after s (releaseAll (dropCurrent s))) ∧
      exec .releaseAll s = .next (after s (releaseAll (dropCurrent s)))) ∧
    (exec (.registerWrite 0x818 v) s = .next (after s (evalWmark (portUpd (fun p => { p with wmark := v.toNat % 2 ^ 17 }) s))) ∧
      exec (.evqWmarkWrite v) s = .next (after s (evalWmark (portUpd (fun p => { p with wmark := v.toNat % 2 ^ 17 }) s)))) ∧
    (v.toNat % 2 = 1 → exec (.registerWrite 0x81C v) s = .next (after s (setMark s)) ∧ exec .evqMarkSet s = .next (after s (setMark s))) ∧
    (exec (.registerWrite 0x820 v) s = .next (after s (releaseSeq v.toNat s)) ∧ exec (.evqRelease v) s = .next (after s (releaseSeq v.toNat s))) ∧
    exec (.registerWrite 0x004 v) s = .next (after s s)

/-- Slot memory, the bulk window and the event stream. -/
def Obligations.HostMemories : Prop :=
  ∀ s : State, portOn s = true →
    (∀ (n : Fin 16) (off : Fin 1024) d, d ≠ [] → off.val + d.length ≤ 1024 → (s.mb.slot.get n.val).device = true →
      exec (.mailboxSlotWrite n off d) s = .next (after s (countSlotBusy s))) ∧
    (∀ (n : Fin 16) (off : Fin 1024) d, d ≠ [] → off.val + d.length ≤ 1024 → (s.mb.slot.get n.val).device = false →
      exec (.mailboxSlotWrite n off d) s = .next (after s
        (mbUpd (fun m => { m with slot := m.slot.upd n.val (fun k => k.write off.val d) }) s))) ∧
    (∀ (off : Fin 65536) d, bulkLocked s = false →
      exec (.bulkWindowWrite off d) s = .next (after s (portUpd (fun p => { p with bulk := p.bulk.setMany off.val d }) s))) ∧
    (∀ (off : Fin 65536) d, bulkLocked s = true → exec (.bulkWindowWrite off d) s = .next (after s
      (portErr 3 (portUpd (fun p => { p with bulkRefused := sat32 p.bulkRefused }) s)))) ∧
    (s.sys.ready = true → exec (.evqPortRead 8) s = .next (after s
      (portUpd (fun p => { p with out := leBytes 8 (nextItem s.port).toNat }) (consumeItem s)))) ∧
    (s.sys.ready = false → ∀ n, exec (.evqPortRead n) s = .next (after s (portUpd (fun p => { p with out := List.replicate n 0xFF }) s)))

/-- CFG_OPEN, CFG_LOAD, CFG_COMMIT, CFG_ABORT, CFG_READ and CFG_INFO, taken at once. -/
def Obligations.SessionCards : Prop :=
  ∀ (r : Req) (p : List Byte) (s t : State),
    (Takes 0x0103 r p s t → le p 0 1 ≤ 1 → zeroed p 1 3 = true → (t.ses.isOpen && le p 0 1 == 0) = false →
      exec (.cfgOpen r) s = .next (after s (answered r (leBytes 4 t.nv.gen.toNat ++ leBytes 4 (cfgFree { t with ses := { isOpen := true, commits := t.ses.commits } })) ({ t with ses := { isOpen := true, commits := t.ses.commits } })))) ∧
    (Takes 0x0103 r p s t → le p 0 1 = 0 → zeroed p 1 3 = true → t.ses.isOpen = true →
      exec (.cfgOpen r) s = .next (after s (refusedWith r St.busy 0 [] t))) ∧
    (∀ k recs staged , Takes 0x0104 r p s t → k = le p 0 1 → recs = (List.range (le p 8 2)).map (fun i => (i, le p (16 + imgBytes (tableKind k) * i) (imgBytes (tableKind k)))) → staged = recs.foldl (fun m q => Tab.set m (recKey (tableKind k) (le p 4 4 + q.1)) (some (cleanImg (tableFields k) q.2))) t.ses.staged → 1 ≤ k ∧ k ≤ 7 → allOk (rangeChecks p) = true → zeroed p 1 3 = true → zeroed p 10 6 = true → recs.all (fun q => allOk (loadChecks k (16 + imgBytes (tableKind k) * q.1) q.2)) = true → t.ses.isOpen = true → staged.length ≤ 8192 → cfgUsed t.nv.cfg staged ≤ 0x400000 →
      exec (.cfgLoad r) s = .next (after s (answered r (leBytes 4 staged.length) ({ t with ses := { t.ses with staged := staged } })))) ∧
    (∀ k recs , Takes 0x0104 r p s t → k = le p 0 1 → recs = (List.range (le p 8 2)).map (fun i => (i, le p (16 + imgBytes (tableKind k) * i) (imgBytes (tableKind k)))) → 1 ≤ k ∧ k ≤ 7 → allOk (rangeChecks p) = true → zeroed p 1 3 = true → zeroed p 10 6 = true → recs.all (fun q => allOk (loadChecks k (16 + imgBytes (tableKind k) * q.1) q.2)) = true → t.ses.isOpen = false →
      exec (.cfgLoad r) s = .next (after s (refusedWith r St.noSession 0 [] t))) ∧
    (∀ fl ws , Takes 0x0105 r p s t → fl = le p 0 1 → ws = stagedWrites t → fl ≤ 3 → zeroed p 1 3 = true → t.ses.isOpen = true → (fl / 2 % 2 == 1 && t.nv.gen.toNat != le p 8 4) = false → allNormal t = true → reported t (stepThree t) = none → cfgUsed (standing t) [] ≤ 0x400000 → t.fenced = false →
      exec (.cfgCommit r) s = .next (after s (waiting r (.journal) (submit { typ := .config, slots := jslots (8 + 16 * ws.length), writes := ws, gen := some (if fl % 2 = 1 then some (u32 (le p 4 4)) else none), org := some (.slot r.slot.val), arg := if ws.isEmpty then sessionEmpty else sessionArg } t)))) ∧
    (∀ fl , Takes 0x0105 r p s t → fl = le p 0 1 → fl ≤ 3 → zeroed p 1 3 = true → t.ses.isOpen = false →
      exec (.cfgCommit r) s = .next (after s (refusedWith r St.noSession 0 [] t))) ∧
    (∀ fl , Takes 0x0105 r p s t → fl = le p 0 1 → fl ≤ 3 → zeroed p 1 3 = true → t.ses.isOpen = true → (fl / 2 % 2 == 1 && t.nv.gen.toNat != le p 8 4) = true →
      exec (.cfgCommit r) s = .next (after s (refusedWith r St.genChanged 0 [] t))) ∧
    (∀ fl , Takes 0x0105 r p s t → fl = le p 0 1 → fl ≤ 3 → zeroed p 1 3 = true → t.ses.isOpen = true → (fl / 2 % 2 == 1 && t.nv.gen.toNat != le p 8 4) = false → allNormal t = false →
      exec (.cfgCommit r) s = .next (after s (refusedWith r St.busy 0 [] t))) ∧
    (Takes 0x0106 r p s t → t.ses.isOpen = true →
      exec (.cfgAbort r) s = .next (after s (answered r (leBytes 4 t.ses.staged.length) ({ t with ses := { commits := t.ses.commits } })))) ∧
    (Takes 0x0106 r p s t → t.ses.isOpen = false →
      exec (.cfgAbort r) s = .next (after s (refusedWith r St.noSession 0 [] t))) ∧
    (∀ k first n , Takes 0x0107 r p s t → k = le p 0 1 → first = le p 4 4 → n = le p 8 2 → allOk (rangeChecks p) = true → le p 1 1 = 0 → zeroed p 2 2 = true →
      exec (.cfgRead r) s = .next (after s (answered r (leBytes 2 n ++ leBytes 14 0 ++ (List.range n).flatMap (fun i => leBytes (imgBytes (tableKind k)) (cleanImg (tableFields k) (cfgImg t (tableKind k) (first + i))))) t))) ∧
    (∀ k first n , Takes 0x0107 r p s t → k = le p 0 1 → first = le p 4 4 → n = le p 8 2 → allOk (rangeChecks p) = true → le p 1 1 = 1 → zeroed p 2 2 = true → t.ses.isOpen = true →
      exec (.cfgRead r) s = .next (after s (answered r (leBytes 2 n ++ leBytes 14 0 ++ (List.range n).flatMap (fun i => leBytes (imgBytes (tableKind k)) ((t.ses.staged.get (recKey (tableKind k) (first + i))).getD (cleanImg (tableFields k) (cfgImg t (tableKind k) (first + i)))))) t))) ∧
    (Takes 0x0108 r p s t →
      exec (.cfgInfo r) s = .next (after s (answered r (leBytes 4 t.nv.gen.toNat ++ leBytes 4 (cfgFree t) ++ leBytes 1 (bit t.ses.isOpen) ++ leBytes 1 t.ses.refTable ++ leBytes 2 t.ses.refStatus ++ leBytes 4 t.ses.refIndex ++ leBytes 16 (leNat t.ses.claim) ++ leBytes 4 t.ses.staged.length ++ (if r.level.toNat ≥ 2 then leBytes 8 t.nv.digest.toNat ++ leBytes 4 (bit t.nv.digestValid) else [])) t)))

/-- HELLO, SYS_IDENTIFY, SYS_RESET, SYS_TIME, SYS_GET_STATS, STATS_CLEAR, EVQ_SET_CFG and EVQ_GET_STATS, taken at once. -/
def Obligations.SystemCards : Prop :=
  ∀ (r : Req) (p : List Byte) (s t : State),
    (∀ lo hi ep others gone m , Takes 0x0001 r p s t → lo = le p 0 1 → hi = le p 1 1 → ep = epochOf r.tag.toNat → others = t.mb.outst.filter (fun o => o.org != .slot r.slot.val && o.isSlot) → gone = (if t.mb.epoch = some ep then [] else others.filter (fun o => epochOf o.tag != ep && !o.late)) → m = imgSlot t t.nv.running → (lo != 0) = true → hi ≤ 3 → lo ≤ hi → zeroed p 2 2 = true → lo ≤ min hi (ilMax t) →
      exec (.hello r) s = .next (after s (answered r (leBytes 1 (min hi (ilMax t)) ++ leBytes 1 (ilMax t) ++ leBytes 1 (headFld m 74 2) ++ leBytes 1 (bit t.mb.epoch.isNone + 2 * bit (!gone.isEmpty)) ++ leBytes 2 gone.length ++ leBytes 2 (others.foldl (fun m o => m ||| 2 ^ epochOf o.tag) 0) ++ leBytes 8 Config.ownFingerprint.toNat ++ leBytes 4 (headFld m 32 32) ++ leBytes 4 t.nv.gen.toNat ++ leBytes 1 t.pr.role.code ++ leBytes 3 0) ({ t with mb := { t.mb with epoch := some ep, level := min hi (ilMax t), outst := t.mb.outst.map (fun o => if gone.contains o then { o with late := true } else o) } })))) ∧
    (∀ lo hi , Takes 0x0001 r p s t → lo = le p 0 1 → hi = le p 1 1 → (lo != 0) = true → hi ≤ 3 → lo ≤ hi → zeroed p 2 2 = true → t.sys.recovery = false → min hi (ilMax t) < lo →
      exec (.hello r) s = .next (after s (refusedWith r St.badLevel (ilMax t + 16 * t.mb.level) [] t))) ∧
    (∀ m , Takes 0x0100 r p s t → m = imgSlot t t.nv.running →
      exec (.sysIdentify r) s = .next (after s (answered r (leBytes 2 0x9640 ++ leBytes 1 Config.siliconRev.toNat ++ leBytes 1 (bit (t.nv.trial && t.nv.running == t.nv.pref) + 2 * bit t.nv.fellBack.isSome) ++ leBytes 8 Config.ownFingerprint.toNat ++ leBytes 4 (headFld m 32 32) ++ leBytes 1 t.nv.running ++ leBytes 1 t.nv.otp ++ leBytes 1 (ilMax t) ++ leBytes 1 (headFld m 74 2) ++ leBytes 1 (strapByte t.sys.straps) ++ leBytes 1 t.sys.resetCause ++ leBytes 2 0 ++ leBytes 4 t.nv.gen.toNat) t))) ∧
    (∀ act force , Takes 0x0101 r p s t → act = le p 0 1 → force = le p 1 1 → act ≤ 1 → force ≤ 1 → zeroed p 2 2 = true → (t.pr.role == .simplex && !(force == 1) && !allNormal t) = false → t.duty = false →
      exec (.sysReset r) s = .next (after s (answered r [] ({ t with sys := { t.sys with resetDue := some act } })))) ∧
    (∀ act force , Takes 0x0101 r p s t → act = le p 0 1 → force = le p 1 1 → act ≤ 1 → force ≤ 1 → zeroed p 2 2 = true → (t.pr.role == .simplex && !(force == 1) && !allNormal t) = false → t.duty = true →
      exec (.sysReset r) s = .next (after s (answered r [] (releaseDuty .isolated 3 (prUpd (fun x => { x with isolated := true, eligible := false }) { t with sys := { t.sys with resetDue := some act } }))))) ∧
    (∀ act force , Takes 0x0101 r p s t → act = le p 0 1 → force = le p 1 1 → act ≤ 1 → force ≤ 1 → zeroed p 2 2 = true → (t.pr.role == .simplex && !(force == 1) && !allNormal t) = true →
      exec (.sysReset r) s = .next (after s (refusedWith r St.busy 0 [] t))) ∧
    (Takes 0x0102 r p s t → le p 0 1 = 0 → zeroed p 1 7 = true → le p 8 8 = 0 →
      exec (.sysTime r) s = .next (after s (answered r (leBytes 8 t.rtc.utc ++ leBytes 8 t.rtc.corrUtc ++ leBytes 4 t.rtc.corrC.toNat ++ leBytes 4 (bit t.rtc.valid + 2 * bit t.rtc.xtalFail)) t))) ∧
    (∀ utc , Takes 0x0102 r p s t → utc = le p 8 8 → le p 0 1 = 1 → zeroed p 1 7 = true → utc2020 ≤ utc →
      exec (.sysTime r) s = .next (after s (answered r (leBytes 8 utc ++ leBytes 8 t.rtc.corrUtc ++ leBytes 4 t.rtc.corrC.toNat ++ leBytes 4 (1 + 2 * bit t.rtc.xtalFail)) ({ t with rtc := { t.rtc with utc := utc, frac := 0, valid := true } })))) ∧
    (∀ fl , Takes 0x0109 r p s t → fl = le p 0 1 → fl ≤ (if r.level.toNat ≥ 3 then 1 else 0) → zeroed p 1 3 = true →
      exec (.sysGetStats r) s = .next (after s (answered r ((List.range 13).flatMap (fun k => leBytes 4 (t.sys.ecc.get k)) ++ [t.sys.memUe, t.pts.writeRefused, t.pts.unshadowed, t.mb.slotBusy, t.mb.taken, t.mb.refused, t.mb.lateDone, t.ses.commits].flatMap (leBytes 4)) (if fl = 1 then clearSystem t else t)))) ∧
    (Takes 0x010A r p s t → zeroed p 2 2 = true →
      exec (.statsClear r) s = .next (after s (answered r [] (forAll ((List.range 16).filter (le p 0 2).testBit) clearGroup t)))) ∧
    (∀ x , Takes 0x1200 r p s t → x = le p 0 8 → keeps evqFields x = true → room [wr Kind.evq 0 x] t →
      exec (.evqSetCfg r) s = .next (after s (recorded r true 0 [wr Kind.evq 0 x] [] t))) ∧
    (Takes 0x1201 r p s t →
      exec (.evqGetStats r) s = .next (after s (answered r ((List.range 4).flatMap (fun b => leBytes 4 (t.port.bench.get b).next.toNat ++ leBytes 4 (itemsOf (t.port.bench.get b).store) ++ leBytes 4 (t.port.bench.get b).spoil ++ leBytes 4 (t.port.bench.get b).written) ++ [t.port.crcErrs, t.port.lenErrs, t.port.bulkRefused].flatMap (leBytes 4) ++ leBytes 2 (t.port.bench.get 0).backlog.length ++ leBytes 2 (t.port.bench.get 1).backlog.length) t)))

/-- MT_SET_CFG, MT_GET_STATUS, MT_TIMED, MT_CANCEL, PT_READ, PT_WRITE, PA_WRITE, PA_READ and PA_SHADOWS, taken at once. -/
def Obligations.MainsAndPointCards : Prop :=
  ∀ (r : Req) (p : List Byte) (s t : State),
    (∀ x , Takes 0x0200 r p s t → x = le p 0 16 → keeps mtFields x = true → flag x (5 + fld x 2 2) = true → (fld x 0 4 != fld (cfgImg t Kind.mt 0) 0 4 && !allNormal t) = false → room [wr Kind.mt 0 x] t →
      exec (.mtSetCfg r) s = .next (after s (recorded r true 0 [wr Kind.mt 0 x] [] t))) ∧
    (∀ x , Takes 0x0200 r p s t → x = le p 0 16 → keeps mtFields x = true → flag x (5 + fld x 2 2) = true → (fld x 0 4 != fld (cfgImg t Kind.mt 0) 0 4 && !allNormal t) = true →
      exec (.mtSetCfg r) s = .next (after s (refusedWith r St.busy 0 [] t))) ∧
    (∀ m , Takes 0x0201 r p s t → m = t.mt →
      exec (.mtGetStatus r) s = .next (after s (answered r (leBytes 1 m.state.code ++ leBytes 1 (bit (m.slew != 0 && !m.corr) + 2 * bit m.seam.isSome + 4 * bit (m.present_.get 0) + 8 * bit (m.present_.get 1) + 16 * bit (m.present_.get 2)) ++ leBytes 2 0 ++ leBytes 4 m.now.c.toNat ++ leBytes 2 m.now.a.toNat ++ leBytes 2 (m.phaseErr % 65536).toNat ++ leBytes 4 m.freq ++ leBytes 4 m.seamCount ++ leBytes 4 m.seamC.toNat ++ leBytes 2 m.seamA.toNat ++ leBytes 2 t.cal.entries.length ++ leBytes 8 t.rtc.corrUtc ++ leBytes 4 t.rtc.corrC.toNat ++ leBytes 4 m.lateCount ++ leBytes 4 m.timedStandby) t))) ∧
    (∀ utc op body h u, Takes 0x0202 r p s t → utc = le p 0 8 → op = le p 12 2 → body = p.drop 28 → le p 18 2 = body.length → body.length ≤ 980 → le p 24 4 = crc32 body → embeddable op = true → utc ≤ t.rtc.utc + 400 * 86400 * 32768 → zeroed p 10 2 = true → calInsert (.utc utc) (.timed (le p 8 2) op (le p 17 1) body) t = some (h, u) →
      exec (.mtTimed r) s = .next (after s (answered r (leBytes 2 h) (u)))) ∧
    (∀ utc op body , Takes 0x0202 r p s t → utc = le p 0 8 → op = le p 12 2 → body = p.drop 28 → le p 18 2 = body.length → body.length ≤ 980 → le p 24 4 = crc32 body → embeddable op = true → utc ≤ t.rtc.utc + 400 * 86400 * 32768 → zeroed p 10 2 = true → calInsert (.utc utc) (.timed (le p 8 2) op (le p 17 1) body) t = none →
      exec (.mtTimed r) s = .next (after s (refusedWith r St.noResource 0 [] t))) ∧
    (∀  e, Takes 0x0203 r p s t → calFind t (le p 0 2) = some e →
      exec (.mtCancel r) s = .next (after s (answered r [] (calRemove e t)))) ∧
    (Takes 0x0203 r p s t → calFind t (le p 0 2) = none →
      exec (.mtCancel r) s = .next (after s (refusedWith r St.notPending 0 [] t))) ∧
    (∀ first count , Takes 0x0300 r p s t → first = le p 0 4 → count = le p 4 2 → first ≤ 131071 → 1 ≤ count ∧ count ≤ 62 → first + count ≤ 131072 → zeroed p 6 2 = true →
      exec (.ptRead r) s = .next (after s (answered r (leBytes 2 count ++ (List.range count).flatMap (fun i => ptReadBytes t (first + i))) t))) ∧
    (∀ pn v , Takes 0x0301 r p s t → pn = le p 0 4 → v = u32 (le p 4 4) → pn ≤ 131071 → le p 8 1 = 0 → zeroed p 9 3 = true → t.duty = true → ptConfigured t pn = true → (ptKind t pn == 0 && !ptCommandable t pn) = true → (t.point pn).quarantined = false → fitsFormat (ptFormat t pn) v = true →
      exec (.ptWrite r) s = .next (after s (answered r [] (updatePoint pn false {} (fun q => { q with value := v, fault := false, stale := false }) t)))) ∧
    (∀ pn , Takes 0x0301 r p s t → pn = le p 0 4 → pn ≤ 131071 → le p 8 1 = 1 → zeroed p 9 3 = true → t.duty = true → ptConfigured t pn = true → (t.point pn).quarantined = false →
      exec (.ptWrite r) s = .next (after s (answered r [] (setOos pn true t)))) ∧
    (∀ pn , Takes 0x0301 r p s t → pn = le p 0 4 → pn ≤ 131071 → le p 8 1 = 2 → zeroed p 9 3 = true → t.duty = true → ptConfigured t pn = true → (t.point pn).quarantined = false →
      exec (.ptWrite r) s = .next (after s (answered r [] (setOos pn false t)))) ∧
    (∀ pn v , Takes 0x0301 r p s t → pn = le p 0 4 → v = u32 (le p 4 4) → pn ≤ 131071 → le p 8 1 = 3 → zeroed p 9 3 = true → t.duty = true → ptConfigured t pn = true → (t.point pn).oos = true → (t.point pn).quarantined = false → fitsFormat (ptFormat t pn) v = true →
      exec (.ptWrite r) s = .next (after s (answered r [] (markDirty 6 (2 ^ 24 + pn) (updatePoint pn false {} (fun q => { q with value := v }) t))))) ∧
    (Takes 0x0301 r p s t → le p 0 4 ≤ 131071 → le p 8 1 ≤ 3 → zeroed p 9 3 = true → t.duty = false →
      exec (.ptWrite r) s = .next (after s (refusedWith r St.role 0 [] t))) ∧
    (∀ pn v pri fl cls , Takes 0x0302 r p s t → pn = le p 0 4 → v = u32 (le p 4 4) → pri = le p 8 1 → fl = le p 9 1 → cls = (if fl / 2 % 2 = 1 then WClass.network else WClass.host) → pn ≤ 131071 → 1 ≤ pri ∧ pri ≤ 16 → fl ≤ 3 → zeroed p 10 2 = true → t.duty = true → (ptConfigured t pn && ptCommandable t pn) = true → ptRemote t pn = false → (t.pts.arr.get (ptArray t pn)).quarantined = false → mayWrite cls false pri = true → (!(fl % 2 == 1) && !fitsFormat (ptFormat t pn) v) = false →
      exec (.paWrite r) s = .next (after s (answered r [] (arbApply pn pri cls 0 (fl % 2 == 1) v t)))) ∧
    (∀ pn v pri fl cls , Takes 0x0302 r p s t → pn = le p 0 4 → v = u32 (le p 4 4) → pri = le p 8 1 → fl = le p 9 1 → cls = (if fl / 2 % 2 = 1 then WClass.network else WClass.host) → pn ≤ 131071 → 1 ≤ pri ∧ pri ≤ 16 → fl ≤ 3 → zeroed p 10 2 = true → t.duty = true → (ptConfigured t pn && ptCommandable t pn) = true → ptRemote t pn = true → mayWrite cls false pri = true → (!(fl % 2 == 1) && !fitsFormat (ptFormat t pn) v) = false →
      exec (.paWrite r) s = .next (after s (complete (.slot r.slot.val) St.accepted 0 [] (arbApply pn pri cls 0 (fl % 2 == 1) v t)))) ∧
    (∀ pn pri fl , Takes 0x0302 r p s t → pn = le p 0 4 → pri = le p 8 1 → fl = le p 9 1 → pn ≤ 131071 → 1 ≤ pri ∧ pri ≤ 16 → fl ≤ 3 → zeroed p 10 2 = true → t.duty = true → (ptConfigured t pn && ptCommandable t pn) = false →
      exec (.paWrite r) s = .next (after s (refusedWith r St.notCommandable 0 [] t))) ∧
    (∀ pn pri fl cls , Takes 0x0302 r p s t → pn = le p 0 4 → pri = le p 8 1 → fl = le p 9 1 → cls = (if fl / 2 % 2 = 1 then WClass.network else WClass.host) → pn ≤ 131071 → 1 ≤ pri ∧ pri ≤ 16 → fl ≤ 3 → zeroed p 10 2 = true → t.duty = true → (ptConfigured t pn && ptCommandable t pn) = true → (!ptRemote t pn && (t.pts.arr.get (ptArray t pn)).quarantined) = false → mayWrite cls false pri = false →
      exec (.paWrite r) s = .next (after s (refusedWith r St.priorityReserved 0 [] t))) ∧
    (∀ pn , Takes 0x0303 r p s t → pn = le p 0 4 → pn ≤ 131071 → ptLocalCmd t pn = true → (t.pts.arr.get (ptArray t pn)).quarantined = false →
      exec (.paRead r) s = .next (after s (answered r (leBytes 128 (arrayImage t (ptArray t pn)) ++ leBytes 4 (t.ptView pn).value.toNat) t))) ∧
    (∀ first count , Takes 0x0304 r p s t → first = le p 0 2 → count = le p 2 2 → first ≤ 8191 → 1 ≤ count ∧ count ≤ 62 → first + count ≤ 8192 →
      exec (.paShadows r) s = .next (after s (answered r (leBytes 2 count ++ leBytes 2 (t.pts.shadow.filter (fun e => e.2.valid)).length ++ (List.range count).flatMap (fun i => leBytes 16 (shadowImage (t.pts.shadow.get (first + i))))) t)))

/-- The cards of the field links and of point acquisition, taken at once. What a PHY answers is a free value (notes/assumptions/20.md) -/
def Obligations.FieldCards : Prop :=
  ∀ (r : Req) (p : List Byte) (s t : State),
    (∀ port x other , Takes 0x0400 r p s t → port = le p 0 1 → x = le p 4 32 → other = t.nv.cfg.get (recKey Kind.eth (1 - port)) → port ≤ 1 → zeroed p 1 3 = true → (fld x 16 48 % 2 == 0 && fld x 16 48 != 0) = true → (match other with | some y => netOf (fld x 64 32) (min (fld x 96 8) (fld y 96 8)) == netOf (fld y 64 32) (min (fld x 96 8) (fld y 96 8)) | none => false) = false → keeps ethFields x = true → (fld x 128 32 == 0 || netOf (fld x 128 32) (fld x 96 8) == netOf (fld x 64 32) (fld x 96 8)) = true → other.any (fun y => fld y 5 5 == fld x 5 5) = false → allNormal t = true → room [wr Kind.eth port x] t →
      exec (.flSetEth r) s = .next (after s (recorded r true 0 [wr Kind.eth port x] [] t))) ∧
    (∀ k x , Takes 0x0401 r p s t → k = le p 0 1 → x = le p 4 16 → k ≤ 7 → zeroed p 1 3 = true → keeps trunkFields x = true → allOk (trunkUnused x) = true → (fld x 0 2 != 1 || decide (fld x 16 7 ≤ fld x 24 7)) = true → allNormal t = true → room [wr Kind.trunk k x] t →
      exec (.flSetTrunk r) s = .next (after s (recorded r true 0 [wr Kind.trunk k x] [] t))) ∧
    (∀ k x , Takes 0x0401 r p s t → k = le p 0 1 → x = le p 4 16 → k ≤ 7 → zeroed p 1 3 = true → keeps trunkFields x = true → allOk (trunkUnused x) = true → (fld x 0 2 != 1 || decide (fld x 16 7 ≤ fld x 24 7)) = true → allNormal t = false →
      exec (.flSetTrunk r) s = .next (after s (refusedWith r St.busy 0 [] t))) ∧
    (∀ l k , Takes 0x0402 r p s t → l = le p 0 1 → k = t.link l → l ≤ 9 →
      exec (.flGetStatus r) s = .next (after s (answered r (leBytes 1 (match k.state with | .off => 0 | .listen => 1 | .up => 2 | .fault => 3) ++ leBytes 1 k.cause ++ leBytes 1 (if isPort l then k.speed else liveFld t Kind.trunk l 2 3) ++ [0] ++ leBytes 4 k.rx ++ leBytes 4 k.tx ++ leBytes 4 k.dropped ++ leBytes 4 k.errs ++ leBytes 4 k.fwd ++ leBytes 4 k.fwdDropped ++ leBytes 4 k.heldDropped ++ leBytes 4 k.faults ++ leBytes 4 (if k.state == .fault then min (k.secsFault + (t.rtc.up - k.secsFrom) / 32768) 0xFFFFFFFF else k.secsFault)) t))) ∧
    (∀ port n k , Takes 0x0403 r p s t → port = le p 0 1 → n = le p 2 2 → k = t.link (8 + port) → port ≤ 1 → le p 1 1 ≤ 1 → 60 ≤ n ∧ n ≤ 1514 → (!(le p 1 1 == 1) || decide (le p 4 4 + n ≤ 65536)) = true → t.duty = true → k.state = .up → k.qHost.length < 32 →
      exec (.flEthTx r) s = .next (after s (answered r [] (linkUpd (8 + port) (fun k => { k with qHost := k.qHost ++ [.host (if le p 1 1 == 1 then bulkBytes t (le p 4 4) n else (p.drop 4).take n)] }) t)))) ∧
    (∀ n , Takes 0x0403 r p s t → n = le p 2 2 → le p 0 1 ≤ 1 → le p 1 1 ≤ 1 → n < 60 ∨ 1514 < n →
      exec (.flEthTx r) s = .next (after s (refusedWith r St.frame 0 [] t))) ∧
    (∀ phy reg , Takes 0x0404 r p s t → phy = le p 0 1 → reg = le p 1 1 → phy ≤ 31 → reg ≤ 31 → le p 2 1 = 1 → zeroed p 3 1 = true →
      exec (.flMdio r) s = .next (after s (answered r (leBytes 2 0) ({ t with links := { t.links with mdio := t.links.mdio.set (phy * 32 + reg) (le p 4 2) } })))) ∧
    (∀ phy reg n d , Takes 0x0404 r p s t → phy = le p 0 1 → reg = le p 1 1 → n = t.sys.free → d = (Config.mdioData phy reg n).toNat → phy ≤ 31 → reg ≤ 31 → le p 2 1 = 0 → zeroed p 3 1 = true → Config.mdioAnswers phy reg n = true →
      exec (.flMdio r) s = .next (after s (answered r (leBytes 2 d) ({ t with sys := { t.sys with free := n + 1 }, links := { t.links with mdio := t.links.mdio.set (phy * 32 + reg) d } })))) ∧
    (∀ phy reg n , Takes 0x0404 r p s t → phy = le p 0 1 → reg = le p 1 1 → n = t.sys.free → phy ≤ 31 → reg ≤ 31 → le p 2 1 = 0 → zeroed p 3 1 = true → Config.mdioAnswers phy reg n = false →
      exec (.flMdio r) s = .next (after s (refusedWith r St.mdioTimeout 0 [] ({ t with sys := { t.sys with free := n + 1 } })))) ∧
    (∀ k n , Takes 0x0405 r p s t → k = le p 0 1 → n = le p 4 2 → k ≤ 7 → (trunkMode t k != 2) = true → 5 ≤ le p 1 1 ∧ le p 1 1 ≤ 7 → zeroed p 3 1 = true → n ≤ 501 → t.duty = true → (t.link k).state = .up → (t.link k).qHost.length < 16 →
      exec (.flTrunkTx r) s = .next (after s (answered r [] (trunkKick k (linkUpd k (fun q => { q with qHost := q.qHost ++ [.mstp (le p 1 1) (le p 2 1) ((p.drop 6).take n)] }) t))))) ∧
    (∀ x , Takes 0x0500 r p s t → x = le p 0 16 → keeps paFields x = true → room [wr Kind.pa 0 x] t →
      exec (.paSetCfg r) s = .next (after s (recorded r true 0 [wr Kind.pa 0 x] [] t))) ∧
    (∀ x , Takes 0x0501 r p s t → x = le p 8 8 → le p 0 1 ≤ 15 → zeroed p 1 7 = true → keeps clsFields x = true → allNormal t = true → room [wr Kind.cls (le p 0 1) x] t →
      exec (.paSetClass r) s = .next (after s (recorded r true 0 [wr Kind.cls (le p 0 1) x] [] t))) ∧
    (∀ dv x , Takes 0x0502 r p s t → dv = le p 0 2 → x = le p 4 128 → dv ≤ 4095 → zeroed p 2 2 = true → (fld x 0 2 == 0) = false → keeps devFields x = true → allOk (devJoint t x) = true → devClash t dv x = none → allNormal t = true → room [{ kind := Kind.dev, idx := dv, image := some (cleanImg devFields x) }] t →
      exec (.paSetDev r) s = .next (after s (recorded r true 0 [{ kind := Kind.dev, idx := dv, image := some (cleanImg devFields x) }] [] t))) ∧
    (∀ dv x , Takes 0x0502 r p s t → dv = le p 0 2 → x = le p 4 128 → dv ≤ 4095 → zeroed p 2 2 = true → (fld x 0 2 == 0) = true → keeps (devFields.filter (fun f => f.kind == .rsv)) x = true → (devPoints t dv).isEmpty = true → allNormal t = true → room [{ kind := Kind.dev, idx := dv, image := none }] t →
      exec (.paSetDev r) s = .next (after s (recorded r true 0 [{ kind := Kind.dev, idx := dv, image := none }] [] t))) ∧
    (∀ dv x o, Takes 0x0502 r p s t → dv = le p 0 2 → x = le p 4 128 → dv ≤ 4095 → zeroed p 2 2 = true → (fld x 0 2 == 0) = false → keeps devFields x = true → allOk (devJoint t x) = true → devClash t dv x = some o →
      exec (.paSetDev r) s = .next (after s (refusedWith r St.cfgConflict 0x0B0B ((claimants 0x0B o 0x0B dv)) t))) ∧
    (Takes 0x0503 r p s t → le p 0 2 ≤ 4095 →
      exec (.paGetDev r) s = .next (after s (answered r (leBytes 128 (devImage t (le p 0 2))) t))) ∧
    (∀ dv , Takes 0x0504 r p s t → dv = le p 0 2 → dv ≤ 4095 → t.duty = true →
      exec (.paRebind r) s = .next (after s (answered r [] (rebindDev dv t)))) ∧
    (Takes 0x0504 r p s t → le p 0 2 = 0xFFFF → t.duty = true →
      exec (.paRebind r) s = .next (after s (answered r [] (forAll (List.map (fun e => e.1) t.pnt.dev) rebindDev t)))) ∧
    (∀ pn , Takes 0x0505 r p s t → pn = le p 0 4 → pn < 131072 → t.duty = true → (ptConfigured t pn && (ptKind t pn == 3 || ptKind t pn == 4)) = true → (t.dev (ptDv t pn)).state = .bound →
      exec (.paReadNow r) s = .next (after s (waiting r (.readNow pn) (pump (queueReq { dv := ptDv t pn, kind := .readNow pn (.slot r.slot.val) } t))))) ∧
    (∀ pn , Takes 0x0505 r p s t → pn = le p 0 4 → pn < 131072 → t.duty = true → (ptConfigured t pn && (ptKind t pn == 3 || ptKind t pn == 4)) = true → ((t.dev (ptDv t pn)).state != .bound) = true →
      exec (.paReadNow r) s = .next (after s (refusedWith r St.notBound 0 [] t)))

/-- The cards of the loop engine and of life safety, taken at once. -/
def Obligations.LoopAndLifeCards : Prop :=
  ∀ (r : Req) (p : List Byte) (s t : State),
    (∀ ln desc x , Takes 0x0600 r p s t → ln = le p 0 2 → desc = cleanImg loopFields (le p 4 16) → x = loopRecord p → ln ≤ 8191 → le p 2 1 ≤ 1 → zeroed p 3 1 = true → keeps loopFields (le p 4 16) = true → (lpLife desc || decide (3 ≤ lpDefPri desc)) = true → (loopWords x).all (wordOk x) = true → loopCost x ≤ 700 → targetsFault (cfgImg t Kind.point) ln x = none → (lifeTargets x).find? (isMember t) = none → (lpMirror x && decide (2048 ≤ mirrorLoops t ln)) = false → (!allNormal t && (lpLife x || (loopConfigured t ln && lpLife (cfgImg t Kind.loop ln)))) = false → room [wr Kind.loop ln x] t →
      exec (.lpSetLoop r) s = .next (after s (recorded r true (le p 2 1) [wr Kind.loop ln x] (leBytes 2 (loopCost x)) t))) ∧
    (∀ ln desc x , Takes 0x0600 r p s t → ln = le p 0 2 → desc = cleanImg loopFields (le p 4 16) → x = loopRecord p → ln ≤ 8191 → le p 2 1 ≤ 1 → zeroed p 3 1 = true → keeps loopFields (le p 4 16) = true → (lpLife desc || decide (3 ≤ lpDefPri desc)) = true → (loopWords x).all (wordOk x) = false →
      exec (.lpSetLoop r) s = .next (after s (refusedWith r St.badProgram 0 [] t))) ∧
    (∀ ln desc x , Takes 0x0600 r p s t → ln = le p 0 2 → desc = cleanImg loopFields (le p 4 16) → x = loopRecord p → ln ≤ 8191 → le p 2 1 ≤ 1 → zeroed p 3 1 = true → keeps loopFields (le p 4 16) = true → (lpLife desc || decide (3 ≤ lpDefPri desc)) = true → (loopWords x).all (wordOk x) = true → 700 < loopCost x →
      exec (.lpSetLoop r) s = .next (after s (refusedWith r St.loopCost 0 [] t))) ∧
    (∀ ln x k , Takes 0x0601 r p s t → ln = le p 0 2 → x = liveImg t Kind.loop ln → k = t.loop ln → ln ≤ 8191 →
      exec (.lpGetLoop r) s = .next (after s (answered r (leBytes 16 (descImage t ln x) ++ (List.range 16).flatMap (fun i => leBytes 8 (if !t.duty && !k.mirrored then lpReg x i else k.regs.get i).toNat) ++ leBytes 4 k.lastCommit.toNat ++ leBytes 2 k.lastClocks ++ leBytes 2 k.skips ++ leBytes 2 (bit k.numeric + 2 * bit k.init) ++ leBytes 6 0 ++ (List.range (lpLength x)).flatMap (fun i => leBytes 8 (lpWord x i))) t))) ∧
    (∀ first n act lns , Takes 0x0602 r p s t → first = le p 0 2 → n = le p 2 2 → act = le p 4 1 → lns = (t.nv.cfg.filter (fun e => e.1 / 0x40000 == Kind.loop && e.2.isSome)).filterMap (fun e => if first ≤ e.1 % 0x40000 ∧ e.1 % 0x40000 < first + n then some (e.1 % 0x40000) else none) → first ≤ 8191 → 1 ≤ n ∧ n ≤ 8192 ∧ first + n ≤ 8192 → act ≤ 2 → zeroed p 5 3 = true → (!allNormal t && lns.any (fun ln => lpLife (cfgImg t Kind.loop ln))) = false → room (lns.map (fun ln => wr Kind.loop ln (setFld (cfgImg t Kind.loop ln) 0 1 (bit (act == 1))))) t →
      exec (.lpEnable r) s = .next (after s (recorded r true (16 + act) (lns.map (fun ln => wr Kind.loop ln (setFld (cfgImg t Kind.loop ln) 0 1 (bit (act == 1))))) [] t))) ∧
    (∀ ln first n vals , Takes 0x0603 r p s t → ln = le p 0 2 → first = le p 2 1 → n = le p 3 1 → vals = (List.range n).map (fun i => (first + i, BitVec.ofNat 64 (le p (8 + 8 * i) 8))) → ln ≤ 8191 → loopConfigured t ln = true → first ≤ 15 → 1 ≤ n ∧ n ≤ 16 ∧ first + n ≤ 16 → le p 4 1 = 1 → zeroed p 5 3 = true → room [wr Kind.loop ln (vals.foldl (fun x v => setFld x (128 + 64 * v.1) 64 v.2.toNat) (cfgImg t Kind.loop ln))] t →
      exec (.lpSetReg r) s = .next (after s (recorded r true 32 [wr Kind.loop ln (vals.foldl (fun x v => setFld x (128 + 64 * v.1) 64 v.2.toNat) (cfgImg t Kind.loop ln))] [] t))) ∧
    (∀ ln first n vals , Takes 0x0603 r p s t → ln = le p 0 2 → first = le p 2 1 → n = le p 3 1 → vals = (List.range n).map (fun i => (first + i, BitVec.ofNat 64 (le p (8 + 8 * i) 8))) → ln ≤ 8191 → loopConfigured t ln = true → first ≤ 15 → 1 ≤ n ∧ n ≤ 16 ∧ first + n ≤ 16 → le p 4 1 = 2 → zeroed p 5 3 = true → t.duty = true →
      exec (.lpSetReg r) s = .next (after s (answered r [] (loopUpd ln (fun k => if scanning t ln then { k with liveDue := k.liveDue ++ vals } else { k with regs := vals.foldl (fun m v => m.set v.1 v.2) k.regs }) t)))) ∧
    (Takes 0x0604 r p s t → le p 0 1 ≤ 3 → le p 1 1 = 0 → zeroed p 2 2 = true →
      exec (.lpLane r) s = .next (after s (answered r (laneResp t (le p 0 1)) t))) ∧
    (∀ l u , Takes 0x0604 r p s t → l = le p 0 1 → u = { laneUpd l (fun k => { k with state := .out }) t with lp := { (laneUpd l (fun k => { k with state := .out }) t).lp with outDue := t.lp.outDue ++ [l] } } → l ≤ 3 → le p 1 1 = 1 → zeroed p 2 2 = true → (!t.duty || t.th.hold) = false → ((t.lane l).state == .inService && decide ((serviceLanes t).length > 1)) = true →
      exec (.lpLane r) s = .next (after s (answered r (laneResp u l) (u)))) ∧
    (∀ l , Takes 0x0604 r p s t → l = le p 0 1 → l ≤ 3 → le p 1 1 = 2 → zeroed p 2 2 = true → (!t.duty || t.th.hold) = false → ((t.lane l).state == .faulted || (t.lane l).state == .out) = true →
      exec (.lpLane r) s = .next (after s (waiting r (.lane l) (laneUpd l (fun k => { k with state := .testing, run := none, queue := k.queue ++ (match k.run with | some q => [{ ln := q.ln, due := q.due }] | none => []) }) (match (t.lane l).run with | some q => applyLive q.ln t | none => t))))) ∧
    (Takes 0x0604 r p s t → le p 0 1 ≤ 3 → 1 ≤ le p 1 1 ∧ le p 1 1 ≤ 2 → zeroed p 2 2 = true → (!t.duty || t.th.hold) = true →
      exec (.lpLane r) s = .next (after s (refusedWith r St.role 0 [] t))) ∧
    (∀ load , Takes 0x0605 r p s t → load = (fun l => (homedOn t l).foldl (fun a ln => fracAdd a (loopLoad t ln)) (0, 1)) →
      exec (.lpGetStats r) s = .next (after s (answered r ((List.range 4).flatMap (fun l => leBytes 1 (laneCode t l) ++ leBytes 1 (t.lane l).cause ++ leBytes 2 (homedOn t l).length ++ leBytes 2 ((homedOn t l).filter (fun ln => lpLife (liveImg t Kind.loop ln))).length ++ leBytes 2 (min ((load l).1 * t.mt.freq / ((load l).2 * 250000000)) 65535) ++ leBytes 2 (min (((t.lane l).busy64.foldl (· + ·) 0) * t.mt.freq / (64 * 250000000)) 65535) ++ leBytes 2 0 ++ leBytes 4 (t.lane l).commits) ++ leBytes 4 t.lp.stretches ++ leBytes 4 t.lp.overruns ++ leBytes 4 t.lp.numerics ++ leBytes 4 t.lp.suppressed ++ leBytes 4 t.lp.repeated) t))) ∧
    (∀ an x , Takes 0x0700 r p s t → an = le p 0 1 → x = le p 4 48 → an ≤ 63 → zeroed p 1 3 = true → keeps lsAreaFields x = true → areaBusy t an = false → room [wr Kind.lsArea an (cleanImg lsAreaFields x)] t →
      exec (.lsSetArea r) s = .next (after s (recorded r true 0 [wr Kind.lsArea an (cleanImg lsAreaFields x)] [] t))) ∧
    (∀ an x , Takes 0x0700 r p s t → an = le p 0 1 → x = le p 4 48 → an ≤ 63 → zeroed p 1 3 = true → keeps lsAreaFields x = true → areaBusy t an = true →
      exec (.lsSetArea r) s = .next (after s (refusedWith r St.busy 0 [] t))) ∧
    (∀ first n touches , Takes 0x0701 r p s t → first = le p 0 1 → n = le p 1 1 → touches = (fun x => fld x 0 2 != 0 && areaBusy t (fld x 8 6)) → 1 ≤ n ∧ n ≤ 125 ∧ first + n ≤ 256 → zeroed p 2 6 = true → (List.range n).all (fun i => allOk (trigChecks t (8 + 8 * i) (le p (8 + 8 * i) 8))) = true → (List.range n).any (fun i => touches (le p (8 + 8 * i) 8) || touches (cfgImg t Kind.trig (first + i))) = false → room ((List.range n).map (fun i => wr Kind.trig (first + i) (le p (8 + 8 * i) 8))) t →
      exec (.lsSetTrig r) s = .next (after s (recorded r true 0 ((List.range n).map (fun i => wr Kind.trig (first + i) (le p (8 + 8 * i) 8))) [] t))) ∧
    (∀ first n , Takes 0x0702 r p s t → first = le p 0 2 → n = le p 2 2 → first ≤ 16383 → 1 ≤ n ∧ n ≤ 120 ∧ first + n ≤ 16384 → zeroed p 4 4 = true → (List.range n).all (fun i => keeps respFields (le p (8 + 8 * i) 8)) = true → (List.range n).all (fun i => (respIndexes (le p (8 + 8 * i) 8)).all (fun v => fitsMember t (first + i) (cfgImg t Kind.val v))) = true → (List.range n).any (fun i => (areasOfEntry t (first + i)).any (areaBusy t)) = false → room ((List.range n).map (fun i => wr Kind.resp (first + i) (le p (8 + 8 * i) 8))) t →
      exec (.lsSetResp r) s = .next (after s (recorded r true 0 ((List.range n).map (fun i => wr Kind.resp (first + i) (le p (8 + 8 * i) 8))) [] t))) ∧
    (∀ first n named , Takes 0x0703 r p s t → first = le p 0 2 → n = le p 2 2 → named = (committed t Kind.resp).flatMap (fun e => ((respIndexes e.2).filter (fun v => decide (first ≤ v ∧ v < first + n))).map (fun v => (e.1, v))) → first ≤ 4094 → 1 ≤ n ∧ n ≤ 240 ∧ first + n ≤ 4095 → zeroed p 4 4 = true → named.all (fun ev => fitsMember t ev.1 (le p (8 + 4 * (ev.2 - first)) 4)) = true → named.any (fun ev => (areasOfEntry t ev.1).any (areaBusy t)) = false → room ((List.range n).map (fun i => wr Kind.val (first + i) (le p (8 + 4 * i) 4))) t →
      exec (.lsSetVal r) s = .next (after s (recorded r true 0 ((List.range n).map (fun i => wr Kind.val (first + i) (le p (8 + 4 * i) 4))) [] t))) ∧
    (∀ x old conv , Takes 0x0704 r p s t → x = le p 0 32 → old = cfgImg t Kind.lsIn 0 → conv = cfgImg t Kind.conv 0 → (List.range 8).all (fun n => allOk (lsInChecks n (fld x (32 * n) 32))) = true → (anySup x && (decide (24 < convRegLen conv) || convRef conv != 0)) = false → (committed t Kind.trig).any (fun e => fld e.2 0 2 == 1 && fld old (32 * fld e.2 4 3) 32 != fld x (32 * fld e.2 4 3) 32 && areaBusy t (fld e.2 8 6)) = false → room [wr Kind.lsIn 0 x] t →
      exec (.lsSetIn r) s = .next (after s (recorded r true 0 [wr Kind.lsIn 0 x] [] t))) ∧
    (∀ x conv , Takes 0x0704 r p s t → x = le p 0 32 → conv = cfgImg t Kind.conv 0 → (List.range 8).all (fun n => allOk (lsInChecks n (fld x (32 * n) 32))) = true → (anySup x && (decide (24 < convRegLen conv) || convRef conv != 0)) = true →
      exec (.lsSetIn r) s = .next (after s (refusedWith r St.cfgConflict 0x0905 ((claimants 0x05 24 0x09 0)) t))) ∧
    (∀ an act arg , Takes 0x0705 r p s t → an = le p 0 1 → act = le p 1 1 → arg = le p 2 1 → an ≤ 63 → act ≤ 4 → (if act = 0 ∨ act = 2 then decide (1 ≤ arg ∧ arg ≤ 4) else if act = 4 then decide (arg ≤ 5) else true) = true → zeroed p 3 1 = true → t.duty = true → (act = 4 → areaHostFfp t an = true) →
      exec (.lsMode r) s = .next (after s (waiting r (.lsMode) t))) ∧
    (Takes 0x0705 r p s t → le p 0 1 = 0xFF → zeroed p 3 1 = true → t.duty = true →
      exec (.lsMode r) s = .next (after s (waiting r (.lsMode) t))) ∧
    (∀ an arg , Takes 0x0705 r p s t → an = le p 0 1 → arg = le p 2 1 → an ≤ 63 → le p 1 1 = 4 → arg ≤ 5 → zeroed p 3 1 = true → t.duty = true → areaHostFfp t an = false →
      exec (.lsMode r) s = .next (after s (refusedWith r St.ffpDisabled 0 [] t)))

/-- The cards of the coil banks and of the coil sequencer, taken at once. -/
def Obligations.CoilCards : Prop :=
  ∀ (r : Req) (p : List Byte) (s t : State),
    (∀ b x steal , Takes 0x0800 r p s t → b = le p 0 1 → x = le p 4 144 → steal = (fun k => (fld x (128 + 256 * k + 88) 8 == 0 && fld x (128 + 256 * k + 96) 8 == 0) || decide (fld x (128 + 256 * k + 96) 8 < fld x (128 + 256 * k + 88) 8)) → b ≤ 5 → zeroed p 1 3 = true → keeps bankFields x = true → (List.range 4).all (fun k => keeps (chanFields k) x && steal k) = true → allNormal t = true → room [wr Kind.bank b x] t →
      exec (.cbSetBank r) s = .next (after s (recorded r true 0 [wr Kind.bank b x] [] t))) ∧
    (∀ b x steal , Takes 0x0800 r p s t → b = le p 0 1 → x = le p 4 144 → steal = (fun k => (fld x (128 + 256 * k + 88) 8 == 0 && fld x (128 + 256 * k + 96) 8 == 0) || decide (fld x (128 + 256 * k + 96) 8 < fld x (128 + 256 * k + 88) 8)) → b ≤ 5 → zeroed p 1 3 = true → keeps bankFields x = true → (List.range 4).all (fun k => keeps (chanFields k) x && steal k) = true → allNormal t = false →
      exec (.cbSetBank r) s = .next (after s (refusedWith r St.busy 0 [] t))) ∧
    (Takes 0x0801 r p s t → le p 0 1 ≤ 5 →
      exec (.cbGetDiag r) s = .next (after s (answered r (diagResp t (le p 0 1)) t))) ∧
    (∀ b , Takes 0x0802 r p s t → b = le p 0 1 → b ≤ 5 → zeroed p 1 3 = true → t.duty = true → (t.bank b).latched = false →
      exec (.cbRunDiag r) s = .next (after s (waiting r (.diag b) (bankUpd b (fun k => { k with diagAsk := k.diagAsk <|> some t.rtc.up }) t)))) ∧
    (∀ b , Takes 0x0802 r p s t → b = le p 0 1 → b ≤ 5 → zeroed p 1 3 = true → t.duty = true → (t.bank b).latched = true →
      exec (.cbRunDiag r) s = .next (after s (refusedWith r St.channelLatched 0 [] t))) ∧
    (∀ n , Takes 0x0803 r p s t → n = le p 0 1 → n ≤ 23 → zeroed p 1 3 = true → t.duty = true →
      exec (.cbClear r) s = .next (after s (answered r [] (coilUpd n (fun k => { k with latched := (t.bank (n / 4)).latched, trips := 0 }) t)))) ∧
    (∀ n b , Takes 0x0803 r p s t → n = le p 0 1 → b = n - 0x80 → 0x80 ≤ n ∧ n ≤ 0x85 → zeroed p 1 3 = true → t.duty = true →
      exec (.cbClear r) s = .next (after s (answered r [] (forAll (bankChans b) (fun ch u => coilUpd ch (fun k => { k with latched := false, trips := 0 }) u) (bankUpd b (fun k => { k with latched := false, hsTrips := 0, tripAt := [] }) t))))) ∧
    (∀ a n x hit , Takes 0x0900 r p s t → a = le p 0 2 → n = le p 2 2 → x = setFld (cfgImg t Kind.micro 0) (32 * a) (32 * n) (le p 8 (4 * n)) → hit = (List.range 32).filter (fun e => flag (cfgImg t Kind.entry e) 11 && decide (fld (cfgImg t Kind.entry e) 0 11 < a + n ∧ a < fld (cfgImg t Kind.entry e) 0 11 + fld (cfgImg t Kind.entry e) 12 12)) → a ≤ 2047 → 1 ≤ n ∧ n ≤ 250 ∧ a + n ≤ 2048 → zeroed p 4 4 = true → hit.all (fun e => codeOk (fun i => fld x (32 * i) 32) (cfgImg t Kind.entry e)) = true → hit.any (entryInUse t) = false → room [wr Kind.micro 0 x] t →
      exec (.csLoad r) s = .next (after s (recorded r true 0 [wr Kind.micro 0 x] [] t))) ∧
    (∀ a n x hit , Takes 0x0900 r p s t → a = le p 0 2 → n = le p 2 2 → x = setFld (cfgImg t Kind.micro 0) (32 * a) (32 * n) (le p 8 (4 * n)) → hit = (List.range 32).filter (fun e => flag (cfgImg t Kind.entry e) 11 && decide (fld (cfgImg t Kind.entry e) 0 11 < a + n ∧ a < fld (cfgImg t Kind.entry e) 0 11 + fld (cfgImg t Kind.entry e) 12 12)) → a ≤ 2047 → 1 ≤ n ∧ n ≤ 250 ∧ a + n ≤ 2048 → zeroed p 4 4 = true → hit.all (fun e => codeOk (fun i => fld x (32 * i) 32) (cfgImg t Kind.entry e)) = false →
      exec (.csLoad r) s = .next (after s (refusedWith r St.badCode 0 [] t))) ∧
    (∀ e x word , Takes 0x0901 r p s t → e = le p 0 1 → x = cleanImg entryFields (le p 8 8) → word = (fun i => fld (cfgImg t Kind.micro 0) (32 * i) 32) → e ≤ 31 → zeroed p 1 7 = true → flag x 11 = true → keeps entryFields x = true → fld x 0 11 + fld x 12 12 ≤ 2048 → codeOk word x = true → entryInUse t e = false → room [wr Kind.entry e (setFld x 28 4 (phasesOf word x))] t →
      exec (.csSetEntry r) s = .next (after s (recorded r true 0 [wr Kind.entry e (setFld x 28 4 (phasesOf word x))] (leBytes 1 (phasesOf word x)) t))) ∧
    (∀ e x word , Takes 0x0901 r p s t → e = le p 0 1 → x = cleanImg entryFields (le p 8 8) → word = (fun i => fld (cfgImg t Kind.micro 0) (32 * i) 32) → e ≤ 31 → zeroed p 1 7 = true → flag x 11 = false → keeps (entryFields.filter (fun f => f.lo != 12)) x = true → (List.range 24).any (fun ch => chanNames (cfgImg t Kind.chan ch) e) = false → fld x 0 11 + fld x 12 12 ≤ 2048 → entryInUse t e = false → room [wr Kind.entry e (setFld x 28 4 (phasesOf word x))] t →
      exec (.csSetEntry r) s = .next (after s (recorded r true 0 [wr Kind.entry e (setFld x 28 4 (phasesOf word x))] (leBytes 1 (phasesOf word x)) t))) ∧
    (∀ ch fl x on , Takes 0x0902 r p s t → ch = le p 0 1 → fl = le p 1 1 → x = cleanImg csChanFields (le p 8 32) → on = fld x 0 5 → ch ≤ 23 → fl ≤ 1 → zeroed p 2 6 = true → keeps csChanFields x = true → (!flag x 6 || flag (cfgImg t Kind.entry on) 24) = true → (fld x 80 16 == 0 || decide (fld x 64 16 < fld x 80 16)) = true → ((flag x 5 && !flag (cfgImg t Kind.entry on) 11) || (flag x 13 && !flag (cfgImg t Kind.entry (fld x 8 5)) 11)) = false → allNormal t = true → room [wr Kind.chan ch x] t →
      exec (.csSetChan r) s = .next (after s (recorded r true fl [wr Kind.chan ch x] [] t))) ∧
    (∀ ch x on , Takes 0x0902 r p s t → ch = le p 0 1 → x = cleanImg csChanFields (le p 8 32) → on = fld x 0 5 → ch ≤ 23 → le p 1 1 ≤ 1 → zeroed p 2 6 = true → keeps csChanFields x = true → (!flag x 6 || flag (cfgImg t Kind.entry on) 24) = true → (fld x 80 16 == 0 || decide (fld x 64 16 < fld x 80 16)) = true → ((flag x 5 && !flag (cfgImg t Kind.entry on) 11) || (flag x 13 && !flag (cfgImg t Kind.entry (fld x 8 5)) 11)) = true →
      exec (.csSetChan r) s = .next (after s (refusedWith r St.entryInvalid 0 [] t))) ∧
    (∀ ch en fl target raw ev h u, Takes 0x0903 r p s t → ch = le p 0 1 → en = le p 1 1 → fl = le p 2 1 → target = { c := u32 (le p 4 4), a := u16 (le p 8 2) : MT } → raw = { ch := ch, entry := en, start := target, target := target, allow := le p 10 2, pow := fl.testBit 0, preempt := fl.testBit 1, report := fl.testBit 2, roll := fl / 8 % 4 : CoilEvent } → ev = (if fl.testBit 0 then aimAt t target raw else raw) → ch ≤ 23 → en ≤ 31 → fl < 32 ∧ fl / 8 % 4 ≤ 2 → zeroed p 3 1 = true → (!fl.testBit 0 || entFld t en 24 1 == 1) = true → tooFarAhead t target = false → t.duty = true → entFld t en 11 1 ≠ 0 → (t.coil ch).latched = false → calInsert (.mt ev.start) (.coil ev) t = some (h, u) →
      exec (.csEvent r) s = .next (after s (complete (.slot r.slot.val) St.ok 0 (leBytes 2 h) (dispatchAll (calSetJob h (.coil { ev with handle := h }) u))))) ∧
    (∀ ch en fl target , Takes 0x0903 r p s t → ch = le p 0 1 → en = le p 1 1 → fl = le p 2 1 → target = { c := u32 (le p 4 4), a := u16 (le p 8 2) : MT } → ch ≤ 23 → en ≤ 31 → fl < 32 ∧ fl / 8 % 4 ≤ 2 → zeroed p 3 1 = true → (!fl.testBit 0 || entFld t en 24 1 == 1) = true → tooFarAhead t target = false → t.duty = true → entFld t en 11 1 = 0 →
      exec (.csEvent r) s = .next (after s (refusedWith r St.entryInvalid 0 [] t))) ∧
    (∀ ch en fl target , Takes 0x0903 r p s t → ch = le p 0 1 → en = le p 1 1 → fl = le p 2 1 → target = { c := u32 (le p 4 4), a := u16 (le p 8 2) : MT } → ch ≤ 23 → en ≤ 31 → fl < 32 ∧ fl / 8 % 4 ≤ 2 → zeroed p 3 1 = true → (!fl.testBit 0 || entFld t en 24 1 == 1) = true → tooFarAhead t target = false → t.duty = true → entFld t en 11 1 ≠ 0 → (t.coil ch).latched = true →
      exec (.csEvent r) s = .next (after s (refusedWith r St.channelLatched 0 [] t))) ∧
    (∀ n , Takes 0x0904 r p s t → n = le p 0 1 → n ≤ 23 → le p 1 1 = 0 → zeroed p 2 2 = true → t.duty = true →
      exec (.csStop r) s = .next (after s (answered r (leBytes 1 ((t.bank (n / 4)).queue.filter (fun e => [n].contains e.ch)).length) (dropQueued (n / 4) 5 (fun e => [n].contains e.ch) t)))) ∧
    (∀ n , Takes 0x0904 r p s t → n = le p 0 1 → n ≤ 23 → le p 1 1 = 1 → zeroed p 2 2 = true → t.duty = true →
      exec (.csStop r) s = .next (after s (answered r (leBytes 1 ((t.bank (n / 4)).queue.filter (fun e => [n].contains e.ch)).length) (bankStep (n / 4) (endFast n 2 (dropQueued (n / 4) 5 (fun e => [n].contains e.ch) t)))))) ∧
    (∀ n b u , Takes 0x0904 r p s t → n = le p 0 1 → b = n - 0x80 → u = dropQueued b 5 (fun e => (bankChans b).contains e.ch) t → 0x80 ≤ n ∧ n ≤ 0x85 → le p 1 1 ≤ 1 → zeroed p 2 2 = true → t.duty = true →
      exec (.csStop r) s = .next (after s (answered r (leBytes 1 ((t.bank b).queue.filter (fun e => (bankChans b).contains e.ch)).length) (if le p 1 1 = 1 then bankStep b (forAll (bankChans b) (endFast · 2) u) else u)))) ∧
    (∀ ch c , Takes 0x0905 r p s t → ch = le p 0 1 → c = t.coil ch → ch ≤ 23 →
      exec (.csGetChan r) s = .next (after s (answered r (leBytes 32 (liveImg t Kind.chan ch + scribeImage c * 2 ^ 160) ++ [c.started, c.lates, c.dropped, c.preempts, c.rolled, c.lastLate, c.lastMeas].flatMap (leBytes 4) ++ leBytes 1 (t.bank (ch / 4)).queue.length ++ leBytes 1 ((c.ctx.map (·.ev.entry)).getD 0xFF) ++ leBytes 2 0) t)))

/-- The cards of the converters, the fans and the key matrix, taken at once. -/
def Obligations.OutputCards : Prop :=
  ∀ (r : Req) (p : List Byte) (s t : State),
    (∀ c x grp , Takes 0x0A00 r p s t → c = le p 0 1 → x = le p 8 168 → grp = cfgImg t Kind.group 0 → c ≤ 3 → zeroed p 1 7 = true → keeps convFields x = true → (List.range 40).all (fun e => allOk (if e < 32 ∧ (supOwns (cfgImg t Kind.lsIn 0) c e || railOwns (anyBankCfg t) c e) then [] else entryChecks c e (16 + 4 * e) (convEntry x e))) = true → (!(flag grp c && ((List.range 4).filter (fun m => flag grp m && m != c)).any (fun m => !groupMatches x (cfgImg t Kind.conv m)))) = true → convConflict t c x = none → allNormal t = true → room [wr Kind.conv c x] t →
      exec (.adSetConv r) s = .next (after s (recorded r true 0 [wr Kind.conv c x] [] t))) ∧
    (∀ m , Takes 0x0A01 r p s t → m = le p 0 1 → m = 0 → zeroed p 1 3 = true → allNormal t = true → room [wr Kind.group 0 m] t →
      exec (.adSetGroup r) s = .next (after s (recorded r true 0 [wr Kind.group 0 m] [] t))) ∧
    (∀ m a b l, Takes 0x0A01 r p s t → m = le p 0 1 → m < 16 → (List.range 4).filter (fun c => m.testBit c) = a :: b :: l → (b :: l).all (fun c => groupMatches (cfgImg t Kind.conv a) (cfgImg t Kind.conv c)) = true → zeroed p 1 3 = true → allNormal t = true → room [wr Kind.group 0 m] t →
      exec (.adSetGroup r) s = .next (after s (recorded r true 0 [wr Kind.group 0 m] [] t))) ∧
    (∀ k , Takes 0x0A02 r p s t → k = t.conv (le p 0 1) → le p 0 1 ≤ 3 → le p 1 1 ≤ 1 → zeroed p 2 2 = true →
      exec (.adRead r) s = .next (after s (answered r (leBytes 4 k.landC.toNat ++ leBytes 1 k.state.code ++ leBytes 1 (bit k.refRdy + 2 * bit k.pend.isSome + 4 * bit k.calFail) ++ leBytes 2 0 ++ (if le p 1 1 = 0 then List.range 32 else (List.range 8).map (· + 32)).flatMap (fun e => (k.reg.get e).bytes)) t))) ∧
    (∀ mask fl at_ h u, Takes 0x0A03 r p s t → mask = le p 0 1 → fl = le p 1 1 → at_ = { c := u32 (le p 4 4), a := u16 (le p 8 2) : MT } → 0 < mask ∧ mask < 16 → fl < 4 → zeroed p 2 2 = true → fl.testBit 0 = true → tooFarAhead t at_ = false → calInsert (.mt at_) (.inject (mask + 16 * bit (fl.testBit 1))) t = some (h, u) →
      exec (.adInject r) s = .next (after s (complete (.slot r.slot.val) St.ok 0 (leBytes 2 h) (dispatchAll (u))))) ∧
    (∀ mask fl at_ , Takes 0x0A03 r p s t → mask = le p 0 1 → fl = le p 1 1 → at_ = { c := u32 (le p 4 4), a := u16 (le p 8 2) : MT } → 0 < mask ∧ mask < 16 → fl < 4 → zeroed p 2 2 = true → fl.testBit 0 = true → tooFarAhead t at_ = false → calInsert (.mt at_) (.inject (mask + 16 * bit (fl.testBit 1))) t = none →
      exec (.adInject r) s = .next (after s (refusedWith r St.noResource 0 [] t))) ∧
    (∀ mask fl q , Takes 0x0A03 r p s t → mask = le p 0 1 → fl = le p 1 1 → q = triggerMask .host { report := if fl.testBit 1 then some 0xFFFF else none } mask t → 0 < mask ∧ mask < 16 → fl < 4 → zeroed p 2 2 = true → fl.testBit 0 = false → q.1.all (fun a => a == .excluded || a == .ignored || a == .overrun) = false →
      exec (.adInject r) s = .next (after s (answered r (leBytes 2 0xFFFF) (q.2)))) ∧
    (∀ mask fl q , Takes 0x0A03 r p s t → mask = le p 0 1 → fl = le p 1 1 → q = triggerMask .host { report := if fl.testBit 1 then some 0xFFFF else none } mask t → 0 < mask ∧ mask < 16 → fl < 4 → zeroed p 2 2 = true → fl.testBit 0 = false → q.1.all (fun a => a == .excluded) = true →
      exec (.adInject r) s = .next (after s (refusedWith r St.jigActive 0 [] (q.2)))) ∧
    (∀ mask fl q , Takes 0x0A03 r p s t → mask = le p 0 1 → fl = le p 1 1 → q = triggerMask .host { report := if fl.testBit 1 then some 0xFFFF else none } mask t → 0 < mask ∧ mask < 16 → fl < 4 → zeroed p 2 2 = true → fl.testBit 0 = false → q.1.all (fun a => a == .excluded) = false → q.1.all (fun a => a == .excluded || a == .ignored || a == .overrun) = true →
      exec (.adInject r) s = .next (after s (refusedWith r St.injDropped 0 [] (q.2)))) ∧
    (∀ c k , Takes 0x0A04 r p s t → c = le p 0 1 → k = t.conv c → c ≤ 3 → le p 1 1 = 0 → zeroed p 4 4 = true → k.state = .jig →
      exec (.adJig r) s = .next (after s (answered r [] (stopJig c t)))) ∧
    (∀ c k , Takes 0x0A04 r p s t → c = le p 0 1 → k = t.conv c → c ≤ 3 → le p 1 1 = 2 → zeroed p 4 4 = true → (k.state == .cal || (2 == 1 && k.state == .jig)) = false → allNormal t = true →
      exec (.adJig r) s = .next (after s (waiting r (.calib c) (startCal c t)))) ∧
    (∀ c k n , Takes 0x0A04 r p s t → c = le p 0 1 → k = t.conv c → n = le p 2 1 → c ≤ 3 → le p 1 1 = 1 → 1 ≤ n ∧ n ≤ 64 → 4 ≤ le p 3 1 → (List.range n).all (fun i => chanOk c (le p (8 + 4 * i) 4) && fld (le p (8 + 4 * i) 4) 6 2 == 0) = true → zeroed p 4 4 = true → (k.state == .cal || k.state == .jig) = false → allNormal t = true → room [wr Kind.jig c (n + le p 3 1 * 2 ^ 8 + le p 8 (4 * n) * 2 ^ 32)] t →
      exec (.adJig r) s = .next (after s (recorded r false 0 [wr Kind.jig c (n + le p 3 1 * 2 ^ 8 + le p 8 (4 * n) * 2 ^ 32)] [] t))) ∧
    (∀ c k , Takes 0x0A04 r p s t → c = le p 0 1 → k = t.conv c → c ≤ 3 → le p 1 1 = 3 → zeroed p 4 4 = true → k.state = .jig →
      exec (.adJig r) s = .next (after s (answered r (leBytes 8 ((List.range 64).foldl (fun m e => if (k.jigRes.get e).ovr then m + 2 ^ e else m) 0) ++ leBytes 8 0 ++ (List.range (jigCount t c)).flatMap (fun e => leBytes 2 (k.jigRes.get e).last ++ leBytes 2 (k.jigRes.get e).lo ++ leBytes 2 (k.jigRes.get e).hi ++ leBytes 2 (k.jigRes.get e).mean)) t))) ∧
    (∀ k , Takes 0x0A05 r p s t → k = t.conv (le p 0 1) → le p 0 1 ≤ 3 →
      exec (.adGetStats r) s = .next (after s (answered r ([k.conversions, k.aborts, k.sequences, k.pendings, k.overruns, k.merged, k.excluded, k.ignored, k.ovrs, k.suspects, k.jigOvrs].flatMap (leBytes 4)) t))) ∧
    (∀ n x conv inj e a , Takes 0x0B00 r p s t → n = le p 0 1 → x = le p 4 32 → conv = cfgImg t Kind.conv (fld x 160 2) → inj = flag x 162 → e = fld x 163 5 → a = fld x 8 3 → n ≤ 7 → zeroed p 1 3 = true → keeps fanFields x = true → (!flag x 5 || inj) = true → fld x 64 10 ≤ fld x 74 10 → ((!inj || decide (e ≤ 7)) && (!flag x 4 || decide (e < (if inj then convInjLen conv else convRegLen conv)))) = true → fld x 176 16 ≤ fld x 192 16 → (flag x 0 && flag x 1) = false → allNormal t = true → room [wr Kind.fan n x] t →
      exec (.fnSetChan r) s = .next (after s (recorded r true 0 [wr Kind.fan n x] [] t))) ∧
    (∀ n x conv inj e a , Takes 0x0B00 r p s t → n = le p 0 1 → x = le p 4 32 → conv = cfgImg t Kind.conv (fld x 160 2) → inj = flag x 162 → e = fld x 163 5 → a = fld x 8 3 → n ≤ 7 → zeroed p 1 3 = true → keeps fanFields x = true → (!flag x 5 || inj) = true → fld x 64 10 ≤ fld x 74 10 → ((!inj || decide (e ≤ 7)) && (!flag x 4 || decide (e < (if inj then convInjLen conv else convRegLen conv)))) = true → fld x 176 16 ≤ fld x 192 16 → (List.range 8).find? (fun m => m != n && fanOwns (cfgImg t Kind.fan m) a) = none → (committed t Kind.binding).find? (fun b => fld b.2 0 16 == 0x8000 + a && flag b.2 33 && cfgBindingInUse t b.1 b.2) = none → allNormal t = true → room [wr Kind.fan n x] t →
      exec (.fnSetChan r) s = .next (after s (recorded r true 0 [wr Kind.fan n x] [] t))) ∧
    (Takes 0x0B01 r p s t →
      exec (.fnGetStatus r) s = .next (after s (answered r ((List.range 8).flatMap (fun n => leBytes 1 (t.fan n).state.code ++ leBytes 1 (t.fan n).code ++ leBytes 2 (t.fan n).duty ++ leBytes 2 (min (t.fan n).speed 65535) ++ leBytes 2 (t.fan n).target ++ leBytes 2 (t.fan n).current ++ leBytes 1 (t.fan n).attempts ++ [0] ++ leBytes 4 (t.fan n).starts) ++ (List.range 8).flatMap (fun n => leBytes 2 (t.out.aout.get n))) t))) ∧
    (Takes 0x0B02 r p s t → le p 0 1 ≤ 7 → zeroed p 1 3 = true → t.duty = true →
      exec (.fnClear r) s = .next (after s (answered r [] (fanUpd (le p 0 1) (fun f => { f with clear := true }) t)))) ∧
    (Takes 0x0B02 r p s t → le p 0 1 ≤ 7 → zeroed p 1 3 = true → t.duty = false →
      exec (.fnClear r) s = .next (after s (refusedWith r St.role 0 [] t))) ∧
    (∀ x out , Takes 0x0C00 r p s t → x = le p 0 8 → out = (fun y => (committed t Kind.key).all (fun e => fld e.2 0 2 == 0 || keyInSet y e.1)) → keeps kyFields x = true → out (setFld x 8 8 0xFF) = true → out x = true → (if keysTake x then keyEntry (cfgImg t Kind.conv 3) else none) = none → allNormal t = true → room [wr Kind.ky 0 x] t →
      exec (.kySetCfg r) s = .next (after s (recorded r true 0 [wr Kind.ky 0 x] [] t))) ∧
    (∀ x out e, Takes 0x0C00 r p s t → x = le p 0 8 → out = (fun y => (committed t Kind.key).all (fun e => fld e.2 0 2 == 0 || keyInSet y e.1)) → keeps kyFields x = true → out (setFld x 8 8 0xFF) = true → out x = true → (if keysTake x then keyEntry (cfgImg t Kind.conv 3) else none) = some e →
      exec (.kySetCfg r) s = .next (after s (refusedWith r St.cfgConflict 0x0805 ((claimants 0x05 (3 * 64 + e) 0x08 0)) t))) ∧
    (∀ first count recs cfg , Takes 0x0C01 r p s t → first = le p 0 2 → count = le p 2 2 → recs = (List.range count).map (fun i => (i, le p (8 + 16 * i) 16)) → cfg = cfgImg t Kind.ky 0 → first ≤ 511 → 1 ≤ count ∧ count ≤ 62 → first + count ≤ 512 → zeroed p 4 4 = true → recs.all (fun k => keeps keyFields k.2 && ((fld k.2 0 2 == 0 || keyInSet cfg (first + k.1)) && ((!flag k.2 4 || fld k.2 2 2 == 1) && (fld k.2 0 2 != 2 || flag (cfgImg t Kind.area (fld k.2 16 6)) 0)))) = true → recs.findSome? (fun k => keyTarget (cfgImg t Kind.point) (committed t Kind.zone) (cfgImg t Kind.member) (first + k.1) k.2) = none → allNormal t = true → room (recs.map (fun k => wr Kind.key (first + k.1) k.2)) t →
      exec (.kySetKeys r) s = .next (after s (recorded r true 0 (recs.map (fun k => wr Kind.key (first + k.1) k.2)) [] t))) ∧
    (Takes 0x0C02 r p s t →
      exec (.kyGetState r) s = .next (after s (answered r (bitBytes 512 (fun k => (t.ky.key.get k).pressed) ++ bitBytes 512 (keyFlag t) ++ (List.range 16).flatMap (fun c => leBytes 2 (t.ky.nul.get c)) ++ bitBytes 16 (fun c => (t.ky.col.get c).stands) ++ bitBytes 8 (fun k => (t.ky.row.get k).stands) ++ leBytes 1 0 ++ leBytes 4 t.ky.scans ++ leBytes 4 t.ky.offGrid) t)))

/-- The cards of the panel driver and of the pair, taken at once. -/
def Obligations.PanelAndPairCards : Prop :=
  ∀ (r : Req) (p : List Byte) (s t : State),
    (∀ x pt , Takes 0x0D00 r p s t → x = le p 0 16 → pt = cfgImg t Kind.point (fld x 64 17) → keeps pnFields x = true → (!tableCommitted t || bandValid (cfgImg t Kind.wave 0) (fld x 12 4)) = true → fld x 24 10 * (32 * fld x 16 6 / 8 + 40) * fld x 36 5 ≤ 1300000 → (flag pt 42 && fld pt 40 2 == 0) = true → (List.range 16).any (fun k => (t.region k).state != .free) = false → room [wr Kind.pn 0 x] t →
      exec (.pnSetCfg r) s = .next (after s (recorded r true 0 [wr Kind.pn 0 x] [] t))) ∧
    (∀ part w , Takes 0x0D01 r p s t → part = le p 0 1 → w = (fun n => leNat (t.port.bulk.getMany 0 n)) → part ≤ 2 → zeroed p 1 3 = true →
      exec (.pnLoadTable r) s = .next (after s (answered r [] (pnUpd (fun q => if part = 0 then { q with stBody := some (w 65536) } else if part = 1 then { q with stBand := some (w 512) } else { q with stGamma := some (w 1024) }) t)))) ∧
    (Takes 0x0D01 r p s t → le p 0 1 = 3 → zeroed p 1 3 = true → tableFault (fld (cfgImg t Kind.pn 0) 8 4 + 1) 4 (stagedTable t) = none → (List.range 16).any (fun k => (t.region k).state != .free) = false → room [wr Kind.wave 0 (stagedTable t)] t →
      exec (.pnLoadTable r) s = .next (after s (recorded r true 0 [wr Kind.wave 0 (stagedTable t)] [] t))) ∧
    (∀  d, Takes 0x0D01 r p s t → le p 0 1 = 3 → zeroed p 1 3 = true → tableFault (fld (cfgImg t Kind.pn 0) 8 4 + 1) 4 (stagedTable t) = some d →
      exec (.pnLoadTable r) s = .next (after s (refusedWith r St.range d [] t))) ∧
    (∀ x y w h k, Takes 0x0D02 r p s t → x = le p 0 2 → y = le p 2 2 → w = le p 4 2 → h = le p 6 2 → (x % 8 == 0 && decide (x < pnW t)) = true → y < pnH t → (w % 8 == 0 && decide (0 < w ∧ x + w ≤ pnW t)) = true → 0 < h ∧ y + h ≤ pnH t → le p 8 1 ≤ 1 → le p 9 1 ≤ 1 → zeroed p 10 2 = true → t.duty = true → tableCommitted t = true → (List.range 16).any (fun k => ((t.region k).state == .loading || (t.region k).state == .armed) && overlaps (t.region k) x y w h) = false → freeRegion t = some k →
      exec (.pnOpen r) s = .next (after s (answered r (leBytes 1 k) (regionUpd k (fun _ => { state := .loading, x := x, y := y, w := w, h := h, state4 := le p 8 1 == 1, balance := le p 9 1 == 1 }) t)))) ∧
    (∀ k first count off g l u , Takes 0x0D03 r p s t → k = le p 0 1 → first = le p 2 2 → count = le p 4 2 → off = le p 8 4 → g = t.region k → l = lineStates t g first count off → u = forAll l (fun c s => setTarget c.1 c.2 s) t → k ≤ 15 → zeroed p 1 1 = true → zeroed p 6 2 = true → t.duty = true → g.state = .loading → first + count ≤ g.h → off + count * (if g.state4 then g.w / 2 else g.w) ≤ 65536 → l.any (fun c => decide (pnStates t ≤ c.2)) = false → pendEntries u ≤ 20480 →
      exec (.pnLines r) s = .next (after s (answered r (leBytes 4 (pendEntries u)) (u)))) ∧
    (∀ k els u , Takes 0x0D04 r p s t → k = le p 0 1 → els = regElems t k → u = regionUpd k (fun g => { g with state := .armed, band := bandNow t, start := nextHalf t }) t → k ≤ 15 → zeroed p 1 3 = true → t.duty = true → (t.region k).state = .loading → t.fenced = false →
      exec (.pnStart r) s = .next (after s (waiting r (.region k) (markDirty 5 k (submit { typ := .panelStart, arg := k } (pnUpd (fun q => { q with nvTarget := els.foldl (fun m e => m.set e (q.target.get e)) q.nvTarget, started := q.started.set k (some (q.region.get k).record) }) (mramBytes (els.length / 2) u))))))) ∧
    (∀ k , Takes 0x0D05 r p s t → k = le p 0 1 → k ≤ 15 → zeroed p 1 3 = true → t.duty = true → (t.region k).state = .loading →
      exec (.pnDiscard r) s = .next (after s (answered r [] (discardRegion 0 k t)))) ∧
    (∀ k , Takes 0x0D05 r p s t → k = le p 0 1 → k ≤ 15 → zeroed p 1 3 = true → t.duty = true → ((t.region k).state != .loading) = true →
      exec (.pnDiscard r) s = .next (after s (refusedWith r St.regionState 0 [] t))) ∧
    (∀ n , Takes 0x0D06 r p s t → n = t.pn →
      exec (.pnGetStatus r) s = .next (after s (answered r (leBytes 1 (bandNow t) ++ leBytes 1 (bit n.vcom + 2 * bit (pnlOwn t) + 4 * bit (tableCommitted t)) ++ leBytes 2 (n.temp % 65536).toNat ++ leBytes 12 0 ++ (List.range 16).flatMap (fun k => leBytes 1 (t.region k).state.code ++ leBytes 1 (t.region k).kind ++ leBytes 2 (t.region k).x ++ leBytes 2 (t.region k).y ++ leBytes 2 (t.region k).w ++ leBytes 2 (t.region k).h ++ leBytes 2 (t.region k).frame ++ leBytes 2 (t.region k).length ++ leBytes 2 0) ++ leBytes 4 (pendEntries t) ++ leBytes 4 n.skipped ++ leBytes 4 n.mismatches ++ leBytes 4 n.accReset ++ leBytes 4 n.saturations) t))) ∧
    (∀ x , Takes 0x0E00 r p s t → x = le p 0 8 → keeps prFields x = true → allNormal t = true → room [wr Kind.pr 0 x] t →
      exec (.prSetCfg r) s = .next (after s (recorded r false 0 [wr Kind.pr 0 x] [] t))) ∧
    (∀ fp , Takes 0x0E01 r p s t → fp = BitVec.ofNat 64 (le p 0 8) → (fp != Config.ownFingerprint) = true → allNormal t = true → t.fenced = false → (fp == 0) = false →
      exec (.prBond r) s = .next (after s (waiting r (.bond) (sendBond .bond (prUpd (fun q => { q with bondPend := some fp, bondKey := [] }) (completeWait .bond St.bondTimeout 0 [] t)))))) ∧
    (Takes 0x0E01 r p s t → (BitVec.ofNat 64 (le p 0 8) != Config.ownFingerprint) = true → allNormal t = true → t.fenced = false → (BitVec.ofNat 64 (le p 0 8) == 0) = true →
      exec (.prBond r) s = .next (after s (waiting r (.journal) (submit { typ := .keys, arg := 0, org := some (.slot r.slot.val) } (prUpd (fun q => { q with bondPend := none, bondKey := [] }) (completeWait .bond St.bondTimeout 0 [] t)))))) ∧
    (Takes 0x0E02 r p s t → le p 0 1 = 0 → le p 1 1 ≤ 1 → zeroed p 2 2 = true → (t.pr.role != .active) = false → allNormal t = true → (t.pr.link != .up) = false → (t.pr.pEligible && t.pr.pRole == .standby) = true → (!t.pr.synced || t.pr.snapDue != 0) = false →
      exec (.prRole r) s = .next (after s (waiting r (.swap) (prUpd (fun q => { q with swapDue := true }) t)))) ∧
    (∀ u , Takes 0x0E02 r p s t → u = roleSettle (releaseDuty .isolated 3 (prUpd (fun q => { q with isolated := true, eligible := false }) t)) → le p 0 1 = 1 → le p 1 1 ≤ 1 → zeroed p 2 2 = true → (t.pr.role == .simplex && !(le p 1 1 % 2 == 1)) = false → ((le p 1 1 % 2 == 1) && !allNormal t) = false →
      exec (.prRole r) s = .next (after s (answered r ([u8 u.pr.role.code]) (u)))) ∧
    (∀ v u , Takes 0x0E02 r p s t → v = prUpd (fun q => { q with isolated := false }) t → u = (if t.pr.role == .isolated && !pairEn t && !ownFault v && !t.pr.napIso then setRole .simplex 3 v else roleSettle v) → le p 0 1 = 2 → le p 1 1 ≤ 1 → zeroed p 2 2 = true →
      exec (.prRole r) s = .next (after s (answered r ([u8 u.pr.role.code]) (u)))) ∧
    (Takes 0x0E02 r p s t → le p 0 1 = 1 → le p 1 1 = 0 → zeroed p 2 2 = true → t.pr.role = .simplex →
      exec (.prRole r) s = .next (after s (refusedWith r St.notEligible 0 [] t))) ∧
    (∀ q , Takes 0x0E03 r p s t → q = t.pr →
      exec (.prGetStatus r) s = .next (after s (answered r (leBytes 1 q.role.code ++ leBytes 1 (match q.link with | .down => 0 | .train => 1 | .hello => 2 | .up => 3) ++ leBytes 1 q.level ++ leBytes 1 (bit q.eligible + 2 * bit (pairEn t && !q.hbLost) + 4 * bit (pairEn t && !q.actQuiet) + 8 * bit q.bond.isSome + 16 * bit q.resync + 32 * bit q.isolated) ++ leBytes 2 q.mirrored ++ leBytes 2 q.stale ++ leBytes 8 Config.ownFingerprint.toNat ++ leBytes 8 ((q.bond.getD 0).toNat) ++ leBytes 8 q.presented.toNat ++ leBytes 4 t.nv.gen.toNat ++ leBytes 4 q.pGen.toNat ++ leBytes 4 q.takeovers ++ leBytes 4 q.swaps ++ leBytes 4 q.duals ++ leBytes 4 q.retrans ++ leBytes 4 q.badFrames ++ leBytes 4 q.takeoverC.toNat) t)))

/-- The cards of the store, the thermal monitor and the sentinel, taken at once. -/
def Obligations.StoreAndPowerCards : Prop :=
  ∀ (r : Req) (p : List Byte) (s t : State),
    (∀ n snap , Takes 0x0F00 r p s t → n = t.nv → snap = (if n.snapLatest = 0 then n.snapA else n.snapB) →
      exec (.nvGetStatus r) s = .next (after s (answered r (leBytes 1 n.running ++ leBytes 1 (bit (n.trial && n.running == n.pref) + 2 * bit n.fence.isSome + 4 * bit n.fellBack.isSome) ++ leBytes 1 n.otp ++ leBytes 1 0 ++ leBytes 4 (headFld n.slotA 32 32) ++ leBytes 4 (headFld n.slotB 32 32) ++ leBytes 4 (cfgFree t) ++ leBytes 4 n.lastSeq.toNat ++ leBytes 4 n.rolledBack ++ leBytes 4 (if snap.valid then snap.cycle.toNat else 0) ++ leBytes 4 (min (n.bytesWritten / 1048576) 0xFFFFFFFF)) t))) ∧
    (Takes 0x0F01 r p s t → t.fenced = false →
      exec (.nvSnapshot r) s = .next (after s (waiting r (.journal) (submit { typ := .snapDone, arg := 1 - t.nv.snapLatest, org := some (.slot r.slot.val), resp := leBytes 4 t.now.c.toNat } (writeSnapshot (snapshotNow t) t))))) ∧
    (Takes 0x0F01 r p s t → t.fenced = true →
      exec (.nvSnapshot r) s = .next (after s (refusedWith r St.fenced 0 [] t))) ∧
    (∀ n o c m , Takes 0x0F02 r p s t → n = le p 0 1 → o = le p 4 4 → c = le p 8 4 → m = imgSlot t n → n ≤ 1 → zeroed p 1 3 = true → (o % 8 == 0 && decide (o < 0x200000)) = true → (decide (8 ≤ c ∧ c ≤ 65536) && c % 8 == 0 && decide (o + c ≤ 0x200000)) = true → (n ≠ t.nv.running ∨ t.sys.recovery = true) → t.fenced = false →
      exec (.nvFwWrite r) s = .next (after s (answered r [] (nvUpd (fun v => { v with bytesWritten := v.bytesWritten + c }) (setSlot n { mem := Tab.setMany (if m.open_ then m.mem else m.mem.setMany 0 [0, 0, 0, 0]) o (bulkBytes t 0 c), written := true, open_ := true } t))))) ∧
    (∀ n o c , Takes 0x0F02 r p s t → n = le p 0 1 → o = le p 4 4 → c = le p 8 4 → n ≤ 1 → zeroed p 1 3 = true → (o % 8 == 0 && decide (o < 0x200000)) = true → (decide (8 ≤ c ∧ c ≤ 65536) && c % 8 == 0 && decide (o + c ≤ 0x200000)) = true → n = t.nv.running → t.sys.recovery = false →
      exec (.nvFwWrite r) s = .next (after s (refusedWith r St.slotActive 0 [] t))) ∧
    (∀ n m , Takes 0x0F03 r p s t → n = le p 0 1 → m = imgSlot t n → n ≤ 1 → zeroed p 1 3 = true → imageWhole m = true → imageSigned m = true → arbOk t n = true → t.fenced = false →
      exec (.nvFwActivate r) s = .next (after s (waiting r (.journal) (submit { typ := .boot, arg := n, org := some (.slot r.slot.val), resp := leBytes 4 (headFld m 32 32) ++ leBytes 1 (headFld m 64 8) } (setSlot n { m with open_ := false } t))))) ∧
    (Takes 0x0F03 r p s t → le p 0 1 ≤ 1 → zeroed p 1 3 = true → imageWhole (imgSlot t (le p 0 1)) = true → imageSigned (imgSlot t (le p 0 1)) = false → t.sys.recovery = true →
      exec (.nvFwActivate r) s = .next (after s (refusedWith r St.auth 0 [] t))) ∧
    (Takes 0x0F03 r p s t → le p 0 1 ≤ 1 → zeroed p 1 3 = true → imageWhole (imgSlot t (le p 0 1)) = true → imageSigned (imgSlot t (le p 0 1)) = false → t.sys.recovery = false →
      exec (.nvFwActivate r) s = .next (after s (refusedWith r St.imageInvalid 0 [] t))) ∧
    (Takes 0x0F03 r p s t → le p 0 1 ≤ 1 → zeroed p 1 3 = true → imageWhole (imgSlot t (le p 0 1)) = true → imageSigned (imgSlot t (le p 0 1)) = true → arbOk t (le p 0 1) = false →
      exec (.nvFwActivate r) s = .next (after s (refusedWith r St.rollback 0 [] t))) ∧
    (Takes 0x0F03 r p s t → le p 0 1 ≤ 1 → zeroed p 1 3 = true → imageWhole (imgSlot t (le p 0 1)) = false →
      exec (.nvFwActivate r) s = .next (after s (refusedWith r St.imageInvalid 0 [] t))) ∧
    (Takes 0x0F04 r p s t → (t.nv.trial && t.nv.running == t.nv.pref) = false →
      exec (.nvFwConfirm r) s = .next (after s (answered r (leBytes 1 t.nv.otp) t))) ∧
    (Takes 0x0F04 r p s t → (t.nv.trial && t.nv.running == t.nv.pref) = true → t.fenced = false →
      exec (.nvFwConfirm r) s = .next (after s (waiting r (.journal) (submit { typ := .boot, arg := 2, org := some (.slot r.slot.val), resp := leBytes 1 (max t.nv.otp (headFld (imgSlot t t.nv.running) 64 8)) } t)))) ∧
    (∀ x , Takes 0x1000 r p s t → x = le p 0 8 → keeps thFields x = true → fld x 0 8 ≤ tcrit t - 5 → room [wr Kind.th 0 x] t →
      exec (.thSetCfg r) s = .next (after s (recorded r true 0 [wr Kind.th 0 x] [] t))) ∧
    (∀ h i16 , Takes 0x1001 r p s t → h = t.th → i16 = (fun v : Int => leBytes 2 (v % 65536).toNat) →
      exec (.thGetStatus r) s = .next (after s (answered r (leBytes 1 h.level ++ leBytes 1 t.sys.straps.tcritSel.toNat ++ leBytes 1 (bit h.hold + 2 * bit t.sn.trip.isSome + 4 * (List.range 3).foldl (fun m i => m + bit (h.sensor.get i).failed * 2 ^ i) 0 + 32 * bit h.adjusted.isSome) ++ leBytes 1 0 ++ (List.range 3).flatMap (fun i => i16 (h.sensor.get i).reading) ++ (List.range 3).flatMap (fun i => i16 (h.sensor.get i).highest) ++ leBytes 4 h.throttled ++ leBytes 4 h.changes ++ leBytes 4 h.trips ++ leBytes 4 h.restarts ++ leBytes 4 h.tripC.toNat) t))) ∧
    (∀ x lsIn , Takes 0x1100 r p s t → x = le p 0 40 → lsIn = cfgImg t Kind.lsIn 0 → keeps snFields x = true → (List.range 8).all (fun n => allOk ((if n < 4 then [(!flag x (64 + 32 * n) || flag lsIn (32 * n), 8 + 4 * n)] else []) ++ [(!(flag x 2 && fld x (64 + 32 * n + 12) 2 == 2), 9 + 4 * n)])) = true → room [wr Kind.sn 0 x] t →
      exec (.snSetCfg r) s = .next (after s (recorded r true 0 [wr Kind.sn 0 x] [] t))) ∧
    (∀ alarm utc , Takes 0x1101 r p s t → alarm = (le p 1 1 % 2 == 1) → utc = le p 8 8 → le p 0 1 = 0 → le p 1 1 ≤ 1 → zeroed p 2 6 = true → (!alarm || decide (t.rtc.utc < utc)) = true → (t.sys.power != .park) = false → allNormal t = true →
      exec (.snPower r) s = .next (after s (waiting r (.nap) (sysUpd (fun y => { y with napDue := true }) { t with rtc := { t.rtc with alarm := if alarm then some utc else none } })))) ∧
    (∀ alarm utc u , Takes 0x1101 r p s t → alarm = (le p 1 1 % 2 == 1) → utc = le p 8 8 → u = { t with rtc := { t.rtc with alarm := if alarm then some utc else none } } → le p 0 1 = 1 → le p 1 1 ≤ 1 → zeroed p 2 6 = true → (!alarm || decide (t.rtc.utc < utc)) = true → (t.sys.power != .park) = false → allNormal t = true → t.fenced = false →
      exec (.snPower r) s = .next (after s (waiting r (.journal) (submit { typ := .snapDone, arg := 3 - t.nv.snapLatest, org := some (.slot r.slot.val) } (writeSnapshot (snapshotNow u) u))))) ∧
    (∀ alarm utc , Takes 0x1101 r p s t → alarm = (le p 1 1 % 2 == 1) → utc = le p 8 8 → le p 0 1 ≤ 1 → le p 1 1 ≤ 1 → zeroed p 2 6 = true → (!alarm || decide (t.rtc.utc < utc)) = true → (t.sys.power != .park) = true →
      exec (.snPower r) s = .next (after s (refusedWith r St.role 0 [] t))) ∧
    (∀ k latched , Takes 0x1102 r p s t → k = t.sn → latched = (fun o => (List.range 8).any (fun n => (k.chan.get n).latch && chanFld t n 12 2 == o + 1)) →
      exec (.snStatus r) s = .next (after s (answered r (leBytes 1 k.entryCause ++ leBytes 1 k.wakeCause ++ leBytes 1 k.wakeChan ++ leBytes 1 (bit t.rtc.valid + 2 * bit t.rtc.xtalFail + 4 * bit k.lostFlag + 8 * bit k.vaonLow) ++ leBytes 2 ((List.range 8).foldl (fun x n => x + (k.chan.get n).state % 4 * 4 ^ n) 0) ++ leBytes 1 (senAsserted t + 4 * (bit (latched 0) + 2 * bit (latched 1)) + 16 * (k.force % 4)) ++ leBytes 1 k.newest ++ (List.range 8).flatMap (fun n => leBytes 2 ((k.chan.get n).y / 256).toNat) ++ leBytes 2 k.vaonMv ++ leBytes 2 0 ++ leBytes 8 k.entryUtc ++ leBytes 8 k.wakeUtc ++ leBytes 4 k.logged) t))) ∧
    (∀ first count , Takes 0x1103 r p s t → first = le p 0 1 → count = le p 1 1 → 1 ≤ count ∧ count ≤ 62 → zeroed p 2 2 = true →
      exec (.snGetLog r) s = .next (after s (answered r (leBytes 4 count ++ (List.range count).flatMap (fun i => (t.sn.log.get ((first + i) % 256)).bytes)) t))) ∧
    (∀ force clear , Takes 0x1104 r p s t → force = le p 0 1 → clear = le p 1 1 → (decide (force ≤ 3) && !(force.testBit 1 && pwrReq t)) = true → clear ≤ 3 → zeroed p 2 2 = true →
      exec (.snOut r) s = .next (after s (answered r [] (snUpd (fun k => { k with force := force, chan := Tab.map k.chan (fun n c => { c with latch := c.latch && !(chanFld t n 12 2 != 0 && clear.testBit (chanFld t n 12 2 - 1)) }) }) t)))) ∧
    (Takes 0x1104 r p s t → (decide (le p 0 1 ≤ 3) && !((le p 0 1).testBit 1 && pwrReq t)) = false → le p 1 1 ≤ 3 → zeroed p 2 2 = true →
      exec (.snOut r) s = .next (after s (refusedWith r St.range 0 [] t)))

/-- An opcode of no card, and in RECOVERY mode an opcode it does not serve, is answered with BAD_OPCODE. -/
def Obligations.UnassignedOpcodes : Prop :=
  ∀ (r : Req) (s : State),
    (s.sys.power = .run ∨ s.sys.power = .park) → s.sys.ready = true →
    (s.mb.slot.get r.slot.val).device = false → s.port.done.toNat.testBit r.slot.val = false → s.mb.rings = [] →
    r.payload.length ≤ 1008 → r.len.toNat = r.payload.length → crc32 r.payload = r.crc.toNat → r.byte5 = 0 →
    s.mb.outst.find? (fun o => o.isSlot && o.tag == r.tag.toNat) = none → s.mb.epoch = some (epochOf r.tag.toNat) →
    (∀ op : U16, cardOf op.toNat = none →
      exec (.unassignedOpcode op r) s = .next (after s (completeSlot r.slot.val St.badOpcode 0 [] false
        { s with mb := { s.mb with
            slot := (s.mb.slot.upd r.slot.val (fun k => k.write 0 (requestBytes op.toNat r))).upd r.slot.val (fun k => { k with device := true })
            taken := sat32 s.mb.taken
            refused := sat32 s.mb.refused
            rings := [] } }))) ∧
    (∀ (i : Instr) (op : Nat), i.call = some (op, r) → op < 2 ^ 16 → s.sys.recovery = true →
      [0x0001, 0x0100, 0x0101, 0x0F00, 0x0F02, 0x0F03].contains op = false →
      exec i s = .next (after s (completeSlot r.slot.val St.badOpcode 0 [] false
        { s with mb := { s.mb with
            slot := (s.mb.slot.upd r.slot.val (fun k => k.write 0 (requestBytes op r))).upd r.slot.val (fun k => { k with device := true })
            taken := sat32 s.mb.taken
            refused := sat32 s.mb.refused
            rings := [] } })))

/-- The priority array: the lowest priority that holds a value wins, and VALUE follows it unless OUT_OF_SERVICE is set. -/
def Obligations.PriorityArray : Prop :=
  ∀ (pn : Nat) (s : State), (arrayLost s pn = true → resolve pn s = s) ∧ (arrayLost s pn = false →
    (∀ q, 1 ≤ q → q ≤ 16 → (s.pts.arr.get (ptArray s pn)).notNull.get q = true →
      (∀ k, 1 ≤ k → k < q → (s.pts.arr.get (ptArray s pn)).notNull.get k = false) →
      ((resolve pn s).pts.arr.get (ptArray s pn)).active = q ∧
      ((resolve pn s).point pn).value = (if (s.point pn).oos then (s.point pn).value else (s.pts.arr.get (ptArray s pn)).val.get q)) ∧
    ((∀ k, 1 ≤ k → k ≤ 16 → (s.pts.arr.get (ptArray s pn)).notNull.get k = false) →
      ((resolve pn s).pts.arr.get (ptArray s pn)).active = 0 ∧
      ((resolve pn s).point pn).value = (if (s.point pn).oos then (s.point pn).value else relinqDefault s (ptArray s pn))) ∧
    ((resolve pn s).pts.arr.get (ptArray s pn)).notNull = (s.pts.arr.get (ptArray s pn)).notNull ∧
    ((resolve pn s).pts.arr.get (ptArray s pn)).val = (s.pts.arr.get (ptArray s pn)).val ∧
    ((resolve pn s).pts.arr.get (ptArray s pn)).writer = (s.pts.arr.get (ptArray s pn)).writer ∧
    (((resolve pn s).pts.arr.get (ptArray s pn)).active = (s.pts.arr.get (ptArray s pn)).active →
      ((resolve pn s).point pn).value = (s.point pn).value →
      ((resolve pn s).pts.arr.get (ptArray s pn)).chgC = (s.pts.arr.get (ptArray s pn)).chgC) ∧
    (((resolve pn s).pts.arr.get (ptArray s pn)).active ≠ (s.pts.arr.get (ptArray s pn)).active ∨
      ((resolve pn s).point pn).value ≠ (s.point pn).value →
      ((resolve pn s).pts.arr.get (ptArray s pn)).chgC = s.now.c) ∧
    ((s.point pn).quarantined = false → (s.point pn).oos = false → ((resolve pn s).point pn).fault = false))

/-- A packet on bench 0 or 1 goes to the end of its storage, waits in the backlog, or is counted; it never overwrites. That a discarded packet takes no sequence number is the model's reading (notes/assumptions/6.md) -/
def Obligations.EventStream : Prop :=
  ∀ (b typ detail : Nat) (body : List U64) (s : State), b ≤ 1 → s.sys.recovery = false → s.sys.power ≠ .standby → s.sys.power ≠ .off →
    ((s.port.bench.get b).backlog = [] → hasRoom b (body.length + 1) s = true →
      ((writePacket b typ detail body s).port.bench.get b).store =
        (s.port.bench.get b).store ++ [.packet { typ := typ, detail := detail, seq := (s.port.bench.get b).next, body := body }] ∧
      ((writePacket b typ detail body s).port.bench.get b).next = (s.port.bench.get b).next + 1 ∧
      ((writePacket b typ detail body s).port.bench.get b).backlog = []) ∧
    (((s.port.bench.get b).backlog ≠ [] ∨ hasRoom b (body.length + 1) s = false) → (s.port.bench.get b).backlog.length < 256 →
      ((writePacket b typ detail body s).port.bench.get b).store = (s.port.bench.get b).store ∧
      ((writePacket b typ detail body s).port.bench.get b).next = (s.port.bench.get b).next + 1 ∧
      ((writePacket b typ detail body s).port.bench.get b).backlog = (s.port.bench.get b).backlog ++
        [{ typ := typ, detail := detail, seq := (s.port.bench.get b).next, body := body }]) ∧
    (256 ≤ (s.port.bench.get b).backlog.length →
      writePacket b typ detail body s = benchUpd b (fun q => { q with lost := Tab.upd q.lost typ sat32, spoil := min (q.spoil + (body.length + 1)) 0xFFFFFFFF }) s)

/-- A slot that the device owns is not written and not rung. -/
def Obligations.SlotOwnership : Prop :=
  ∀ s : State,
    (∀ (n : Fin 16) (off : Fin 1024) d, portOn s = true → d ≠ [] → off.val + d.length ≤ 1024 → (s.mb.slot.get n.val).device = true →
      exec (.mailboxSlotWrite n off d) s = .next (after s { s with mb := { s.mb with slotBusy := sat32 s.mb.slotBusy } })) ∧
    (∀ n : Fin 16, (s.sys.power = .run ∨ s.sys.power = .park) →
      ((s.mb.slot.get n.val).device = true ∨ s.port.done.toNat.testBit n.val = true) →
      exec (.doorbell (u32 (2 ^ n.val))) s = .next (after s { s with mb := { s.mb with slotBusy := sat32 s.mb.slotBusy } })) ∧
    (∀ (v : U32) (n : Fin 16), (s.sys.power = .run ∨ s.sys.power = .park) → v.toNat.testBit n.val = false →
      exec (.doorbell v) s = .next (after s (ringSlots v.toNat s)) ∧
      (ringSlots v.toNat s).mb.slot.get n.val = s.mb.slot.get n.val ∧
      ∃ l, (ringSlots v.toNat s).mb.rings = s.mb.rings ++ l ∧ n.val ∉ l)

/-- Cycle counts are compared modulo 2^32. -/
def Obligations.CycleOrder : Prop :=
  ∀ a b : U32,
    (cycDiff a b = if (a.toNat + 2 ^ 32 - b.toNat) % 2 ^ 32 < 2 ^ 31 then (((a.toNat + 2 ^ 32 - b.toNat) % 2 ^ 32 : Nat) : Int)
      else (((a.toNat + 2 ^ 32 - b.toNat) % 2 ^ 32 : Nat) : Int) - 2 ^ 32) ∧
    (cycLater a b = true ↔ 0 < cycDiff a b) ∧ (a = b ↔ cycDiff a b = 0) ∧
    ((a.toNat + 2 ^ 32 - b.toNat) % 2 ^ 32 = 2 ^ 31 → cycLater a b = false)
end

