-- ==== Sys2Proof/Laws/State.lean ====
section
/-!
SUPPORT. One lemma per field per update of State: an update of one part of the state leaves every other part as it was.
-/

namespace Sys2Proof.Machine

open Sys2Proof

@[simp] theorem markDirty_sys (cls idx : Nat) (s : State) : (markDirty cls idx s).sys = s.sys := by
  unfold markDirty; split <;> rfl
@[simp] theorem markDirty_mt (cls idx : Nat) (s : State) : (markDirty cls idx s).mt = s.mt := by
  unfold markDirty; split <;> rfl
@[simp] theorem markDirty_cal (cls idx : Nat) (s : State) : (markDirty cls idx s).cal = s.cal := by
  unfold markDirty; split <;> rfl
@[simp] theorem markDirty_rtc (cls idx : Nat) (s : State) : (markDirty cls idx s).rtc = s.rtc := by
  unfold markDirty; split <;> rfl
@[simp] theorem markDirty_pts (cls idx : Nat) (s : State) : (markDirty cls idx s).pts = s.pts := by
  unfold markDirty; split <;> rfl
@[simp] theorem markDirty_links (cls idx : Nat) (s : State) : (markDirty cls idx s).links = s.links := by
  unfold markDirty; split <;> rfl
@[simp] theorem markDirty_pnt (cls idx : Nat) (s : State) : (markDirty cls idx s).pnt = s.pnt := by
  unfold markDirty; split <;> rfl
@[simp] theorem markDirty_lp (cls idx : Nat) (s : State) : (markDirty cls idx s).lp = s.lp := by
  unfold markDirty; split <;> rfl
@[simp] theorem markDirty_ls (cls idx : Nat) (s : State) : (markDirty cls idx s).ls = s.ls := by
  unfold markDirty; split <;> rfl
@[simp] theorem markDirty_cb (cls idx : Nat) (s : State) : (markDirty cls idx s).cb = s.cb := by
  unfold markDirty; split <;> rfl
@[simp] theorem markDirty_ad (cls idx : Nat) (s : State) : (markDirty cls idx s).ad = s.ad := by
  unfold markDirty; split <;> rfl
@[simp] theorem markDirty_out (cls idx : Nat) (s : State) : (markDirty cls idx s).out = s.out := by
  unfold markDirty; split <;> rfl
@[simp] theorem markDirty_ky (cls idx : Nat) (s : State) : (markDirty cls idx s).ky = s.ky := by
  unfold markDirty; split <;> rfl
@[simp] theorem markDirty_pn (cls idx : Nat) (s : State) : (markDirty cls idx s).pn = s.pn := by
  unfold markDirty; split <;> rfl
@[simp] theorem markDirty_nv (cls idx : Nat) (s : State) : (markDirty cls idx s).nv = s.nv := by
  unfold markDirty; split <;> rfl
@[simp] theorem markDirty_th (cls idx : Nat) (s : State) : (markDirty cls idx s).th = s.th := by
  unfold markDirty; split <;> rfl
@[simp] theorem markDirty_sn (cls idx : Nat) (s : State) : (markDirty cls idx s).sn = s.sn := by
  unfold markDirty; split <;> rfl
@[simp] theorem markDirty_port (cls idx : Nat) (s : State) : (markDirty cls idx s).port = s.port := by
  unfold markDirty; split <;> rfl
@[simp] theorem markDirty_mb (cls idx : Nat) (s : State) : (markDirty cls idx s).mb = s.mb := by
  unfold markDirty; split <;> rfl
@[simp] theorem markDirty_ses (cls idx : Nat) (s : State) : (markDirty cls idx s).ses = s.ses := by
  unfold markDirty; split <;> rfl
@[simp] theorem markDirty_live (cls idx : Nat) (s : State) : (markDirty cls idx s).live = s.live := by
  unfold markDirty; split <;> rfl
@[simp] theorem markDirty_pending (cls idx : Nat) (s : State) : (markDirty cls idx s).pending = s.pending := by
  unfold markDirty; split <;> rfl
@[simp] theorem convUpd_sys (c : Nat) (f : Conv → Conv) (s : State) : (convUpd c f s).sys = s.sys := rfl
@[simp] theorem convUpd_mt (c : Nat) (f : Conv → Conv) (s : State) : (convUpd c f s).mt = s.mt := rfl
@[simp] theorem convUpd_cal (c : Nat) (f : Conv → Conv) (s : State) : (convUpd c f s).cal = s.cal := rfl
@[simp] theorem convUpd_rtc (c : Nat) (f : Conv → Conv) (s : State) : (convUpd c f s).rtc = s.rtc := rfl
@[simp] theorem convUpd_pts (c : Nat) (f : Conv → Conv) (s : State) : (convUpd c f s).pts = s.pts := rfl
@[simp] theorem convUpd_links (c : Nat) (f : Conv → Conv) (s : State) : (convUpd c f s).links = s.links := rfl
@[simp] theorem convUpd_pnt (c : Nat) (f : Conv → Conv) (s : State) : (convUpd c f s).pnt = s.pnt := rfl
@[simp] theorem convUpd_lp (c : Nat) (f : Conv → Conv) (s : State) : (convUpd c f s).lp = s.lp := rfl
@[simp] theorem convUpd_ls (c : Nat) (f : Conv → Conv) (s : State) : (convUpd c f s).ls = s.ls := rfl
@[simp] theorem convUpd_cb (c : Nat) (f : Conv → Conv) (s : State) : (convUpd c f s).cb = s.cb := rfl
@[simp] theorem convUpd_out (c : Nat) (f : Conv → Conv) (s : State) : (convUpd c f s).out = s.out := rfl
@[simp] theorem convUpd_ky (c : Nat) (f : Conv → Conv) (s : State) : (convUpd c f s).ky = s.ky := rfl
@[simp] theorem convUpd_pn (c : Nat) (f : Conv → Conv) (s : State) : (convUpd c f s).pn = s.pn := rfl
@[simp] theorem convUpd_pr (c : Nat) (f : Conv → Conv) (s : State) : (convUpd c f s).pr = s.pr := rfl
@[simp] theorem convUpd_nv (c : Nat) (f : Conv → Conv) (s : State) : (convUpd c f s).nv = s.nv := rfl
@[simp] theorem convUpd_th (c : Nat) (f : Conv → Conv) (s : State) : (convUpd c f s).th = s.th := rfl
@[simp] theorem convUpd_sn (c : Nat) (f : Conv → Conv) (s : State) : (convUpd c f s).sn = s.sn := rfl
@[simp] theorem convUpd_port (c : Nat) (f : Conv → Conv) (s : State) : (convUpd c f s).port = s.port := rfl
@[simp] theorem convUpd_mb (c : Nat) (f : Conv → Conv) (s : State) : (convUpd c f s).mb = s.mb := rfl
@[simp] theorem convUpd_ses (c : Nat) (f : Conv → Conv) (s : State) : (convUpd c f s).ses = s.ses := rfl
@[simp] theorem convUpd_live (c : Nat) (f : Conv → Conv) (s : State) : (convUpd c f s).live = s.live := rfl
@[simp] theorem convUpd_pending (c : Nat) (f : Conv → Conv) (s : State) : (convUpd c f s).pending = s.pending := rfl
@[simp] theorem coilUpd_sys (ch : Nat) (f : Coil → Coil) (s : State) : (coilUpd ch f s).sys = s.sys := rfl
@[simp] theorem coilUpd_mt (ch : Nat) (f : Coil → Coil) (s : State) : (coilUpd ch f s).mt = s.mt := rfl
@[simp] theorem coilUpd_cal (ch : Nat) (f : Coil → Coil) (s : State) : (coilUpd ch f s).cal = s.cal := rfl
@[simp] theorem coilUpd_rtc (ch : Nat) (f : Coil → Coil) (s : State) : (coilUpd ch f s).rtc = s.rtc := rfl
@[simp] theorem coilUpd_pts (ch : Nat) (f : Coil → Coil) (s : State) : (coilUpd ch f s).pts = s.pts := rfl
@[simp] theorem coilUpd_links (ch : Nat) (f : Coil → Coil) (s : State) : (coilUpd ch f s).links = s.links := rfl
@[simp] theorem coilUpd_pnt (ch : Nat) (f : Coil → Coil) (s : State) : (coilUpd ch f s).pnt = s.pnt := rfl
@[simp] theorem coilUpd_lp (ch : Nat) (f : Coil → Coil) (s : State) : (coilUpd ch f s).lp = s.lp := rfl
@[simp] theorem coilUpd_ls (ch : Nat) (f : Coil → Coil) (s : State) : (coilUpd ch f s).ls = s.ls := rfl
@[simp] theorem coilUpd_ad (ch : Nat) (f : Coil → Coil) (s : State) : (coilUpd ch f s).ad = s.ad := rfl
@[simp] theorem coilUpd_out (ch : Nat) (f : Coil → Coil) (s : State) : (coilUpd ch f s).out = s.out := rfl
@[simp] theorem coilUpd_ky (ch : Nat) (f : Coil → Coil) (s : State) : (coilUpd ch f s).ky = s.ky := rfl
@[simp] theorem coilUpd_pn (ch : Nat) (f : Coil → Coil) (s : State) : (coilUpd ch f s).pn = s.pn := rfl
@[simp] theorem coilUpd_pr (ch : Nat) (f : Coil → Coil) (s : State) : (coilUpd ch f s).pr = s.pr := rfl
@[simp] theorem coilUpd_nv (ch : Nat) (f : Coil → Coil) (s : State) : (coilUpd ch f s).nv = s.nv := rfl
@[simp] theorem coilUpd_th (ch : Nat) (f : Coil → Coil) (s : State) : (coilUpd ch f s).th = s.th := rfl
@[simp] theorem coilUpd_sn (ch : Nat) (f : Coil → Coil) (s : State) : (coilUpd ch f s).sn = s.sn := rfl
@[simp] theorem coilUpd_port (ch : Nat) (f : Coil → Coil) (s : State) : (coilUpd ch f s).port = s.port := rfl
@[simp] theorem coilUpd_mb (ch : Nat) (f : Coil → Coil) (s : State) : (coilUpd ch f s).mb = s.mb := rfl
@[simp] theorem coilUpd_ses (ch : Nat) (f : Coil → Coil) (s : State) : (coilUpd ch f s).ses = s.ses := rfl
@[simp] theorem coilUpd_live (ch : Nat) (f : Coil → Coil) (s : State) : (coilUpd ch f s).live = s.live := rfl
@[simp] theorem coilUpd_pending (ch : Nat) (f : Coil → Coil) (s : State) : (coilUpd ch f s).pending = s.pending := rfl
@[simp] theorem bankUpd_sys (b : Nat) (f : Bank → Bank) (s : State) : (bankUpd b f s).sys = s.sys := rfl
@[simp] theorem bankUpd_mt (b : Nat) (f : Bank → Bank) (s : State) : (bankUpd b f s).mt = s.mt := rfl
@[simp] theorem bankUpd_cal (b : Nat) (f : Bank → Bank) (s : State) : (bankUpd b f s).cal = s.cal := rfl
@[simp] theorem bankUpd_rtc (b : Nat) (f : Bank → Bank) (s : State) : (bankUpd b f s).rtc = s.rtc := rfl
@[simp] theorem bankUpd_pts (b : Nat) (f : Bank → Bank) (s : State) : (bankUpd b f s).pts = s.pts := rfl
@[simp] theorem bankUpd_links (b : Nat) (f : Bank → Bank) (s : State) : (bankUpd b f s).links = s.links := rfl
@[simp] theorem bankUpd_pnt (b : Nat) (f : Bank → Bank) (s : State) : (bankUpd b f s).pnt = s.pnt := rfl
@[simp] theorem bankUpd_lp (b : Nat) (f : Bank → Bank) (s : State) : (bankUpd b f s).lp = s.lp := rfl
@[simp] theorem bankUpd_ls (b : Nat) (f : Bank → Bank) (s : State) : (bankUpd b f s).ls = s.ls := rfl
@[simp] theorem bankUpd_ad (b : Nat) (f : Bank → Bank) (s : State) : (bankUpd b f s).ad = s.ad := rfl
@[simp] theorem bankUpd_out (b : Nat) (f : Bank → Bank) (s : State) : (bankUpd b f s).out = s.out := rfl
@[simp] theorem bankUpd_ky (b : Nat) (f : Bank → Bank) (s : State) : (bankUpd b f s).ky = s.ky := rfl
@[simp] theorem bankUpd_pn (b : Nat) (f : Bank → Bank) (s : State) : (bankUpd b f s).pn = s.pn := rfl
@[simp] theorem bankUpd_pr (b : Nat) (f : Bank → Bank) (s : State) : (bankUpd b f s).pr = s.pr := rfl
@[simp] theorem bankUpd_nv (b : Nat) (f : Bank → Bank) (s : State) : (bankUpd b f s).nv = s.nv := rfl
@[simp] theorem bankUpd_th (b : Nat) (f : Bank → Bank) (s : State) : (bankUpd b f s).th = s.th := rfl
@[simp] theorem bankUpd_sn (b : Nat) (f : Bank → Bank) (s : State) : (bankUpd b f s).sn = s.sn := rfl
@[simp] theorem bankUpd_port (b : Nat) (f : Bank → Bank) (s : State) : (bankUpd b f s).port = s.port := rfl
@[simp] theorem bankUpd_mb (b : Nat) (f : Bank → Bank) (s : State) : (bankUpd b f s).mb = s.mb := rfl
@[simp] theorem bankUpd_ses (b : Nat) (f : Bank → Bank) (s : State) : (bankUpd b f s).ses = s.ses := rfl
@[simp] theorem bankUpd_live (b : Nat) (f : Bank → Bank) (s : State) : (bankUpd b f s).live = s.live := rfl
@[simp] theorem bankUpd_pending (b : Nat) (f : Bank → Bank) (s : State) : (bankUpd b f s).pending = s.pending := rfl
@[simp] theorem fanUpd_sys (n : Nat) (f : Fan → Fan) (s : State) : (fanUpd n f s).sys = s.sys := rfl
@[simp] theorem fanUpd_mt (n : Nat) (f : Fan → Fan) (s : State) : (fanUpd n f s).mt = s.mt := rfl
@[simp] theorem fanUpd_cal (n : Nat) (f : Fan → Fan) (s : State) : (fanUpd n f s).cal = s.cal := rfl
@[simp] theorem fanUpd_rtc (n : Nat) (f : Fan → Fan) (s : State) : (fanUpd n f s).rtc = s.rtc := rfl
@[simp] theorem fanUpd_pts (n : Nat) (f : Fan → Fan) (s : State) : (fanUpd n f s).pts = s.pts := rfl
@[simp] theorem fanUpd_links (n : Nat) (f : Fan → Fan) (s : State) : (fanUpd n f s).links = s.links := rfl
@[simp] theorem fanUpd_pnt (n : Nat) (f : Fan → Fan) (s : State) : (fanUpd n f s).pnt = s.pnt := rfl
@[simp] theorem fanUpd_lp (n : Nat) (f : Fan → Fan) (s : State) : (fanUpd n f s).lp = s.lp := rfl
@[simp] theorem fanUpd_ls (n : Nat) (f : Fan → Fan) (s : State) : (fanUpd n f s).ls = s.ls := rfl
@[simp] theorem fanUpd_cb (n : Nat) (f : Fan → Fan) (s : State) : (fanUpd n f s).cb = s.cb := rfl
@[simp] theorem fanUpd_ad (n : Nat) (f : Fan → Fan) (s : State) : (fanUpd n f s).ad = s.ad := rfl
@[simp] theorem fanUpd_ky (n : Nat) (f : Fan → Fan) (s : State) : (fanUpd n f s).ky = s.ky := rfl
@[simp] theorem fanUpd_pn (n : Nat) (f : Fan → Fan) (s : State) : (fanUpd n f s).pn = s.pn := rfl
@[simp] theorem fanUpd_pr (n : Nat) (f : Fan → Fan) (s : State) : (fanUpd n f s).pr = s.pr := rfl
@[simp] theorem fanUpd_nv (n : Nat) (f : Fan → Fan) (s : State) : (fanUpd n f s).nv = s.nv := rfl
@[simp] theorem fanUpd_th (n : Nat) (f : Fan → Fan) (s : State) : (fanUpd n f s).th = s.th := rfl
@[simp] theorem fanUpd_sn (n : Nat) (f : Fan → Fan) (s : State) : (fanUpd n f s).sn = s.sn := rfl
@[simp] theorem fanUpd_port (n : Nat) (f : Fan → Fan) (s : State) : (fanUpd n f s).port = s.port := rfl
@[simp] theorem fanUpd_mb (n : Nat) (f : Fan → Fan) (s : State) : (fanUpd n f s).mb = s.mb := rfl
@[simp] theorem fanUpd_ses (n : Nat) (f : Fan → Fan) (s : State) : (fanUpd n f s).ses = s.ses := rfl
@[simp] theorem fanUpd_live (n : Nat) (f : Fan → Fan) (s : State) : (fanUpd n f s).live = s.live := rfl
@[simp] theorem fanUpd_pending (n : Nat) (f : Fan → Fan) (s : State) : (fanUpd n f s).pending = s.pending := rfl
@[simp] theorem portUpd_sys (f : Port → Port) (s : State) : (portUpd f s).sys = s.sys := rfl
@[simp] theorem portUpd_mt (f : Port → Port) (s : State) : (portUpd f s).mt = s.mt := rfl
@[simp] theorem portUpd_cal (f : Port → Port) (s : State) : (portUpd f s).cal = s.cal := rfl
@[simp] theorem portUpd_rtc (f : Port → Port) (s : State) : (portUpd f s).rtc = s.rtc := rfl
@[simp] theorem portUpd_pts (f : Port → Port) (s : State) : (portUpd f s).pts = s.pts := rfl
@[simp] theorem portUpd_links (f : Port → Port) (s : State) : (portUpd f s).links = s.links := rfl
@[simp] theorem portUpd_pnt (f : Port → Port) (s : State) : (portUpd f s).pnt = s.pnt := rfl
@[simp] theorem portUpd_lp (f : Port → Port) (s : State) : (portUpd f s).lp = s.lp := rfl
@[simp] theorem portUpd_ls (f : Port → Port) (s : State) : (portUpd f s).ls = s.ls := rfl
@[simp] theorem portUpd_cb (f : Port → Port) (s : State) : (portUpd f s).cb = s.cb := rfl
@[simp] theorem portUpd_ad (f : Port → Port) (s : State) : (portUpd f s).ad = s.ad := rfl
@[simp] theorem portUpd_out (f : Port → Port) (s : State) : (portUpd f s).out = s.out := rfl
@[simp] theorem portUpd_ky (f : Port → Port) (s : State) : (portUpd f s).ky = s.ky := rfl
@[simp] theorem portUpd_pn (f : Port → Port) (s : State) : (portUpd f s).pn = s.pn := rfl
@[simp] theorem portUpd_pr (f : Port → Port) (s : State) : (portUpd f s).pr = s.pr := rfl
@[simp] theorem portUpd_nv (f : Port → Port) (s : State) : (portUpd f s).nv = s.nv := rfl
@[simp] theorem portUpd_th (f : Port → Port) (s : State) : (portUpd f s).th = s.th := rfl
@[simp] theorem portUpd_sn (f : Port → Port) (s : State) : (portUpd f s).sn = s.sn := rfl
@[simp] theorem portUpd_port (f : Port → Port) (s : State) : (portUpd f s).port = f s.port := rfl
@[simp] theorem portUpd_mb (f : Port → Port) (s : State) : (portUpd f s).mb = s.mb := rfl
@[simp] theorem portUpd_ses (f : Port → Port) (s : State) : (portUpd f s).ses = s.ses := rfl
@[simp] theorem portUpd_live (f : Port → Port) (s : State) : (portUpd f s).live = s.live := rfl
@[simp] theorem portUpd_pending (f : Port → Port) (s : State) : (portUpd f s).pending = s.pending := rfl
@[simp] theorem mbUpd_sys (f : Mbox → Mbox) (s : State) : (mbUpd f s).sys = s.sys := rfl
@[simp] theorem mbUpd_mt (f : Mbox → Mbox) (s : State) : (mbUpd f s).mt = s.mt := rfl
@[simp] theorem mbUpd_cal (f : Mbox → Mbox) (s : State) : (mbUpd f s).cal = s.cal := rfl
@[simp] theorem mbUpd_rtc (f : Mbox → Mbox) (s : State) : (mbUpd f s).rtc = s.rtc := rfl
@[simp] theorem mbUpd_pts (f : Mbox → Mbox) (s : State) : (mbUpd f s).pts = s.pts := rfl
@[simp] theorem mbUpd_links (f : Mbox → Mbox) (s : State) : (mbUpd f s).links = s.links := rfl
@[simp] theorem mbUpd_pnt (f : Mbox → Mbox) (s : State) : (mbUpd f s).pnt = s.pnt := rfl
@[simp] theorem mbUpd_lp (f : Mbox → Mbox) (s : State) : (mbUpd f s).lp = s.lp := rfl
@[simp] theorem mbUpd_ls (f : Mbox → Mbox) (s : State) : (mbUpd f s).ls = s.ls := rfl
@[simp] theorem mbUpd_cb (f : Mbox → Mbox) (s : State) : (mbUpd f s).cb = s.cb := rfl
@[simp] theorem mbUpd_ad (f : Mbox → Mbox) (s : State) : (mbUpd f s).ad = s.ad := rfl
@[simp] theorem mbUpd_out (f : Mbox → Mbox) (s : State) : (mbUpd f s).out = s.out := rfl
@[simp] theorem mbUpd_ky (f : Mbox → Mbox) (s : State) : (mbUpd f s).ky = s.ky := rfl
@[simp] theorem mbUpd_pn (f : Mbox → Mbox) (s : State) : (mbUpd f s).pn = s.pn := rfl
@[simp] theorem mbUpd_pr (f : Mbox → Mbox) (s : State) : (mbUpd f s).pr = s.pr := rfl
@[simp] theorem mbUpd_nv (f : Mbox → Mbox) (s : State) : (mbUpd f s).nv = s.nv := rfl
@[simp] theorem mbUpd_th (f : Mbox → Mbox) (s : State) : (mbUpd f s).th = s.th := rfl
@[simp] theorem mbUpd_sn (f : Mbox → Mbox) (s : State) : (mbUpd f s).sn = s.sn := rfl
@[simp] theorem mbUpd_port (f : Mbox → Mbox) (s : State) : (mbUpd f s).port = s.port := rfl
@[simp] theorem mbUpd_mb (f : Mbox → Mbox) (s : State) : (mbUpd f s).mb = f s.mb := rfl
@[simp] theorem mbUpd_ses (f : Mbox → Mbox) (s : State) : (mbUpd f s).ses = s.ses := rfl
@[simp] theorem mbUpd_live (f : Mbox → Mbox) (s : State) : (mbUpd f s).live = s.live := rfl
@[simp] theorem mbUpd_pending (f : Mbox → Mbox) (s : State) : (mbUpd f s).pending = s.pending := rfl
@[simp] theorem nvUpd_sys (f : Nvm → Nvm) (s : State) : (nvUpd f s).sys = s.sys := rfl
@[simp] theorem nvUpd_mt (f : Nvm → Nvm) (s : State) : (nvUpd f s).mt = s.mt := rfl
@[simp] theorem nvUpd_cal (f : Nvm → Nvm) (s : State) : (nvUpd f s).cal = s.cal := rfl
@[simp] theorem nvUpd_rtc (f : Nvm → Nvm) (s : State) : (nvUpd f s).rtc = s.rtc := rfl
@[simp] theorem nvUpd_pts (f : Nvm → Nvm) (s : State) : (nvUpd f s).pts = s.pts := rfl
@[simp] theorem nvUpd_links (f : Nvm → Nvm) (s : State) : (nvUpd f s).links = s.links := rfl
@[simp] theorem nvUpd_pnt (f : Nvm → Nvm) (s : State) : (nvUpd f s).pnt = s.pnt := rfl
@[simp] theorem nvUpd_lp (f : Nvm → Nvm) (s : State) : (nvUpd f s).lp = s.lp := rfl
@[simp] theorem nvUpd_ls (f : Nvm → Nvm) (s : State) : (nvUpd f s).ls = s.ls := rfl
@[simp] theorem nvUpd_cb (f : Nvm → Nvm) (s : State) : (nvUpd f s).cb = s.cb := rfl
@[simp] theorem nvUpd_ad (f : Nvm → Nvm) (s : State) : (nvUpd f s).ad = s.ad := rfl
@[simp] theorem nvUpd_out (f : Nvm → Nvm) (s : State) : (nvUpd f s).out = s.out := rfl
@[simp] theorem nvUpd_ky (f : Nvm → Nvm) (s : State) : (nvUpd f s).ky = s.ky := rfl
@[simp] theorem nvUpd_pn (f : Nvm → Nvm) (s : State) : (nvUpd f s).pn = s.pn := rfl
@[simp] theorem nvUpd_pr (f : Nvm → Nvm) (s : State) : (nvUpd f s).pr = s.pr := rfl
@[simp] theorem nvUpd_nv (f : Nvm → Nvm) (s : State) : (nvUpd f s).nv = f s.nv := rfl
@[simp] theorem nvUpd_th (f : Nvm → Nvm) (s : State) : (nvUpd f s).th = s.th := rfl
@[simp] theorem nvUpd_sn (f : Nvm → Nvm) (s : State) : (nvUpd f s).sn = s.sn := rfl
@[simp] theorem nvUpd_port (f : Nvm → Nvm) (s : State) : (nvUpd f s).port = s.port := rfl
@[simp] theorem nvUpd_mb (f : Nvm → Nvm) (s : State) : (nvUpd f s).mb = s.mb := rfl
@[simp] theorem nvUpd_ses (f : Nvm → Nvm) (s : State) : (nvUpd f s).ses = s.ses := rfl
@[simp] theorem nvUpd_live (f : Nvm → Nvm) (s : State) : (nvUpd f s).live = s.live := rfl
@[simp] theorem nvUpd_pending (f : Nvm → Nvm) (s : State) : (nvUpd f s).pending = s.pending := rfl
@[simp] theorem kyUpd_sys (f : Keys → Keys) (s : State) : (kyUpd f s).sys = s.sys := rfl
@[simp] theorem kyUpd_mt (f : Keys → Keys) (s : State) : (kyUpd f s).mt = s.mt := rfl
@[simp] theorem kyUpd_cal (f : Keys → Keys) (s : State) : (kyUpd f s).cal = s.cal := rfl
@[simp] theorem kyUpd_rtc (f : Keys → Keys) (s : State) : (kyUpd f s).rtc = s.rtc := rfl
@[simp] theorem kyUpd_pts (f : Keys → Keys) (s : State) : (kyUpd f s).pts = s.pts := rfl
@[simp] theorem kyUpd_links (f : Keys → Keys) (s : State) : (kyUpd f s).links = s.links := rfl
@[simp] theorem kyUpd_pnt (f : Keys → Keys) (s : State) : (kyUpd f s).pnt = s.pnt := rfl
@[simp] theorem kyUpd_lp (f : Keys → Keys) (s : State) : (kyUpd f s).lp = s.lp := rfl
@[simp] theorem kyUpd_ls (f : Keys → Keys) (s : State) : (kyUpd f s).ls = s.ls := rfl
@[simp] theorem kyUpd_cb (f : Keys → Keys) (s : State) : (kyUpd f s).cb = s.cb := rfl
@[simp] theorem kyUpd_ad (f : Keys → Keys) (s : State) : (kyUpd f s).ad = s.ad := rfl
@[simp] theorem kyUpd_out (f : Keys → Keys) (s : State) : (kyUpd f s).out = s.out := rfl
@[simp] theorem kyUpd_ky (f : Keys → Keys) (s : State) : (kyUpd f s).ky = f s.ky := rfl
@[simp] theorem kyUpd_pn (f : Keys → Keys) (s : State) : (kyUpd f s).pn = s.pn := rfl
@[simp] theorem kyUpd_pr (f : Keys → Keys) (s : State) : (kyUpd f s).pr = s.pr := rfl
@[simp] theorem kyUpd_nv (f : Keys → Keys) (s : State) : (kyUpd f s).nv = s.nv := rfl
@[simp] theorem kyUpd_th (f : Keys → Keys) (s : State) : (kyUpd f s).th = s.th := rfl
@[simp] theorem kyUpd_sn (f : Keys → Keys) (s : State) : (kyUpd f s).sn = s.sn := rfl
@[simp] theorem kyUpd_port (f : Keys → Keys) (s : State) : (kyUpd f s).port = s.port := rfl
@[simp] theorem kyUpd_mb (f : Keys → Keys) (s : State) : (kyUpd f s).mb = s.mb := rfl
@[simp] theorem kyUpd_ses (f : Keys → Keys) (s : State) : (kyUpd f s).ses = s.ses := rfl
@[simp] theorem kyUpd_live (f : Keys → Keys) (s : State) : (kyUpd f s).live = s.live := rfl
@[simp] theorem kyUpd_pending (f : Keys → Keys) (s : State) : (kyUpd f s).pending = s.pending := rfl
@[simp] theorem areaUpd_sys (an : Nat) (f : Area → Area) (s : State) : (areaUpd an f s).sys = s.sys := rfl
@[simp] theorem areaUpd_mt (an : Nat) (f : Area → Area) (s : State) : (areaUpd an f s).mt = s.mt := rfl
@[simp] theorem areaUpd_cal (an : Nat) (f : Area → Area) (s : State) : (areaUpd an f s).cal = s.cal := rfl
@[simp] theorem areaUpd_rtc (an : Nat) (f : Area → Area) (s : State) : (areaUpd an f s).rtc = s.rtc := rfl
@[simp] theorem areaUpd_pts (an : Nat) (f : Area → Area) (s : State) : (areaUpd an f s).pts = s.pts := rfl
@[simp] theorem areaUpd_links (an : Nat) (f : Area → Area) (s : State) : (areaUpd an f s).links = s.links := rfl
@[simp] theorem areaUpd_pnt (an : Nat) (f : Area → Area) (s : State) : (areaUpd an f s).pnt = s.pnt := rfl
@[simp] theorem areaUpd_lp (an : Nat) (f : Area → Area) (s : State) : (areaUpd an f s).lp = s.lp := rfl
@[simp] theorem areaUpd_cb (an : Nat) (f : Area → Area) (s : State) : (areaUpd an f s).cb = s.cb := rfl
@[simp] theorem areaUpd_ad (an : Nat) (f : Area → Area) (s : State) : (areaUpd an f s).ad = s.ad := rfl
@[simp] theorem areaUpd_out (an : Nat) (f : Area → Area) (s : State) : (areaUpd an f s).out = s.out := rfl
@[simp] theorem areaUpd_ky (an : Nat) (f : Area → Area) (s : State) : (areaUpd an f s).ky = s.ky := rfl
@[simp] theorem areaUpd_pn (an : Nat) (f : Area → Area) (s : State) : (areaUpd an f s).pn = s.pn := rfl
@[simp] theorem areaUpd_pr (an : Nat) (f : Area → Area) (s : State) : (areaUpd an f s).pr = s.pr := rfl
@[simp] theorem areaUpd_nv (an : Nat) (f : Area → Area) (s : State) : (areaUpd an f s).nv = s.nv := rfl
@[simp] theorem areaUpd_th (an : Nat) (f : Area → Area) (s : State) : (areaUpd an f s).th = s.th := rfl
@[simp] theorem areaUpd_sn (an : Nat) (f : Area → Area) (s : State) : (areaUpd an f s).sn = s.sn := rfl
@[simp] theorem areaUpd_port (an : Nat) (f : Area → Area) (s : State) : (areaUpd an f s).port = s.port := rfl
@[simp] theorem areaUpd_mb (an : Nat) (f : Area → Area) (s : State) : (areaUpd an f s).mb = s.mb := rfl
@[simp] theorem areaUpd_ses (an : Nat) (f : Area → Area) (s : State) : (areaUpd an f s).ses = s.ses := rfl
@[simp] theorem areaUpd_live (an : Nat) (f : Area → Area) (s : State) : (areaUpd an f s).live = s.live := rfl
@[simp] theorem areaUpd_pending (an : Nat) (f : Area → Area) (s : State) : (areaUpd an f s).pending = s.pending := rfl
@[simp] theorem supUpd_sys (n : Nat) (f : Sup → Sup) (s : State) : (supUpd n f s).sys = s.sys := rfl
@[simp] theorem supUpd_mt (n : Nat) (f : Sup → Sup) (s : State) : (supUpd n f s).mt = s.mt := rfl
@[simp] theorem supUpd_cal (n : Nat) (f : Sup → Sup) (s : State) : (supUpd n f s).cal = s.cal := rfl
@[simp] theorem supUpd_rtc (n : Nat) (f : Sup → Sup) (s : State) : (supUpd n f s).rtc = s.rtc := rfl
@[simp] theorem supUpd_pts (n : Nat) (f : Sup → Sup) (s : State) : (supUpd n f s).pts = s.pts := rfl
@[simp] theorem supUpd_links (n : Nat) (f : Sup → Sup) (s : State) : (supUpd n f s).links = s.links := rfl
@[simp] theorem supUpd_pnt (n : Nat) (f : Sup → Sup) (s : State) : (supUpd n f s).pnt = s.pnt := rfl
@[simp] theorem supUpd_lp (n : Nat) (f : Sup → Sup) (s : State) : (supUpd n f s).lp = s.lp := rfl
@[simp] theorem supUpd_cb (n : Nat) (f : Sup → Sup) (s : State) : (supUpd n f s).cb = s.cb := rfl
@[simp] theorem supUpd_ad (n : Nat) (f : Sup → Sup) (s : State) : (supUpd n f s).ad = s.ad := rfl
@[simp] theorem supUpd_out (n : Nat) (f : Sup → Sup) (s : State) : (supUpd n f s).out = s.out := rfl
@[simp] theorem supUpd_ky (n : Nat) (f : Sup → Sup) (s : State) : (supUpd n f s).ky = s.ky := rfl
@[simp] theorem supUpd_pn (n : Nat) (f : Sup → Sup) (s : State) : (supUpd n f s).pn = s.pn := rfl
@[simp] theorem supUpd_pr (n : Nat) (f : Sup → Sup) (s : State) : (supUpd n f s).pr = s.pr := rfl
@[simp] theorem supUpd_nv (n : Nat) (f : Sup → Sup) (s : State) : (supUpd n f s).nv = s.nv := rfl
@[simp] theorem supUpd_th (n : Nat) (f : Sup → Sup) (s : State) : (supUpd n f s).th = s.th := rfl
@[simp] theorem supUpd_sn (n : Nat) (f : Sup → Sup) (s : State) : (supUpd n f s).sn = s.sn := rfl
@[simp] theorem supUpd_port (n : Nat) (f : Sup → Sup) (s : State) : (supUpd n f s).port = s.port := rfl
@[simp] theorem supUpd_mb (n : Nat) (f : Sup → Sup) (s : State) : (supUpd n f s).mb = s.mb := rfl
@[simp] theorem supUpd_ses (n : Nat) (f : Sup → Sup) (s : State) : (supUpd n f s).ses = s.ses := rfl
@[simp] theorem supUpd_live (n : Nat) (f : Sup → Sup) (s : State) : (supUpd n f s).live = s.live := rfl
@[simp] theorem supUpd_pending (n : Nat) (f : Sup → Sup) (s : State) : (supUpd n f s).pending = s.pending := rfl
@[simp] theorem loopUpd_sys (ln : Nat) (f : Loop → Loop) (s : State) : (loopUpd ln f s).sys = s.sys := rfl
@[simp] theorem loopUpd_mt (ln : Nat) (f : Loop → Loop) (s : State) : (loopUpd ln f s).mt = s.mt := rfl
@[simp] theorem loopUpd_cal (ln : Nat) (f : Loop → Loop) (s : State) : (loopUpd ln f s).cal = s.cal := rfl
@[simp] theorem loopUpd_rtc (ln : Nat) (f : Loop → Loop) (s : State) : (loopUpd ln f s).rtc = s.rtc := rfl
@[simp] theorem loopUpd_pts (ln : Nat) (f : Loop → Loop) (s : State) : (loopUpd ln f s).pts = s.pts := rfl
@[simp] theorem loopUpd_links (ln : Nat) (f : Loop → Loop) (s : State) : (loopUpd ln f s).links = s.links := rfl
@[simp] theorem loopUpd_pnt (ln : Nat) (f : Loop → Loop) (s : State) : (loopUpd ln f s).pnt = s.pnt := rfl
@[simp] theorem loopUpd_ls (ln : Nat) (f : Loop → Loop) (s : State) : (loopUpd ln f s).ls = s.ls := rfl
@[simp] theorem loopUpd_cb (ln : Nat) (f : Loop → Loop) (s : State) : (loopUpd ln f s).cb = s.cb := rfl
@[simp] theorem loopUpd_ad (ln : Nat) (f : Loop → Loop) (s : State) : (loopUpd ln f s).ad = s.ad := rfl
@[simp] theorem loopUpd_out (ln : Nat) (f : Loop → Loop) (s : State) : (loopUpd ln f s).out = s.out := rfl
@[simp] theorem loopUpd_ky (ln : Nat) (f : Loop → Loop) (s : State) : (loopUpd ln f s).ky = s.ky := rfl
@[simp] theorem loopUpd_pn (ln : Nat) (f : Loop → Loop) (s : State) : (loopUpd ln f s).pn = s.pn := rfl
@[simp] theorem loopUpd_pr (ln : Nat) (f : Loop → Loop) (s : State) : (loopUpd ln f s).pr = s.pr := rfl
@[simp] theorem loopUpd_nv (ln : Nat) (f : Loop → Loop) (s : State) : (loopUpd ln f s).nv = s.nv := rfl
@[simp] theorem loopUpd_th (ln : Nat) (f : Loop → Loop) (s : State) : (loopUpd ln f s).th = s.th := rfl
@[simp] theorem loopUpd_sn (ln : Nat) (f : Loop → Loop) (s : State) : (loopUpd ln f s).sn = s.sn := rfl
@[simp] theorem loopUpd_port (ln : Nat) (f : Loop → Loop) (s : State) : (loopUpd ln f s).port = s.port := rfl
@[simp] theorem loopUpd_mb (ln : Nat) (f : Loop → Loop) (s : State) : (loopUpd ln f s).mb = s.mb := rfl
@[simp] theorem loopUpd_ses (ln : Nat) (f : Loop → Loop) (s : State) : (loopUpd ln f s).ses = s.ses := rfl
@[simp] theorem loopUpd_live (ln : Nat) (f : Loop → Loop) (s : State) : (loopUpd ln f s).live = s.live := rfl
@[simp] theorem loopUpd_pending (ln : Nat) (f : Loop → Loop) (s : State) : (loopUpd ln f s).pending = s.pending := rfl
@[simp] theorem laneUpd_sys (l : Nat) (f : Lane → Lane) (s : State) : (laneUpd l f s).sys = s.sys := rfl
@[simp] theorem laneUpd_mt (l : Nat) (f : Lane → Lane) (s : State) : (laneUpd l f s).mt = s.mt := rfl
@[simp] theorem laneUpd_cal (l : Nat) (f : Lane → Lane) (s : State) : (laneUpd l f s).cal = s.cal := rfl
@[simp] theorem laneUpd_rtc (l : Nat) (f : Lane → Lane) (s : State) : (laneUpd l f s).rtc = s.rtc := rfl
@[simp] theorem laneUpd_pts (l : Nat) (f : Lane → Lane) (s : State) : (laneUpd l f s).pts = s.pts := rfl
@[simp] theorem laneUpd_links (l : Nat) (f : Lane → Lane) (s : State) : (laneUpd l f s).links = s.links := rfl
@[simp] theorem laneUpd_pnt (l : Nat) (f : Lane → Lane) (s : State) : (laneUpd l f s).pnt = s.pnt := rfl
@[simp] theorem laneUpd_ls (l : Nat) (f : Lane → Lane) (s : State) : (laneUpd l f s).ls = s.ls := rfl
@[simp] theorem laneUpd_cb (l : Nat) (f : Lane → Lane) (s : State) : (laneUpd l f s).cb = s.cb := rfl
@[simp] theorem laneUpd_ad (l : Nat) (f : Lane → Lane) (s : State) : (laneUpd l f s).ad = s.ad := rfl
@[simp] theorem laneUpd_out (l : Nat) (f : Lane → Lane) (s : State) : (laneUpd l f s).out = s.out := rfl
@[simp] theorem laneUpd_ky (l : Nat) (f : Lane → Lane) (s : State) : (laneUpd l f s).ky = s.ky := rfl
@[simp] theorem laneUpd_pn (l : Nat) (f : Lane → Lane) (s : State) : (laneUpd l f s).pn = s.pn := rfl
@[simp] theorem laneUpd_pr (l : Nat) (f : Lane → Lane) (s : State) : (laneUpd l f s).pr = s.pr := rfl
@[simp] theorem laneUpd_nv (l : Nat) (f : Lane → Lane) (s : State) : (laneUpd l f s).nv = s.nv := rfl
@[simp] theorem laneUpd_th (l : Nat) (f : Lane → Lane) (s : State) : (laneUpd l f s).th = s.th := rfl
@[simp] theorem laneUpd_sn (l : Nat) (f : Lane → Lane) (s : State) : (laneUpd l f s).sn = s.sn := rfl
@[simp] theorem laneUpd_port (l : Nat) (f : Lane → Lane) (s : State) : (laneUpd l f s).port = s.port := rfl
@[simp] theorem laneUpd_mb (l : Nat) (f : Lane → Lane) (s : State) : (laneUpd l f s).mb = s.mb := rfl
@[simp] theorem laneUpd_ses (l : Nat) (f : Lane → Lane) (s : State) : (laneUpd l f s).ses = s.ses := rfl
@[simp] theorem laneUpd_live (l : Nat) (f : Lane → Lane) (s : State) : (laneUpd l f s).live = s.live := rfl
@[simp] theorem laneUpd_pending (l : Nat) (f : Lane → Lane) (s : State) : (laneUpd l f s).pending = s.pending := rfl
@[simp] theorem mtUpd_sys (f : Tracker → Tracker) (s : State) : (mtUpd f s).sys = s.sys := rfl
@[simp] theorem mtUpd_mt (f : Tracker → Tracker) (s : State) : (mtUpd f s).mt = f s.mt := rfl
@[simp] theorem mtUpd_cal (f : Tracker → Tracker) (s : State) : (mtUpd f s).cal = s.cal := rfl
@[simp] theorem mtUpd_rtc (f : Tracker → Tracker) (s : State) : (mtUpd f s).rtc = s.rtc := rfl
@[simp] theorem mtUpd_pts (f : Tracker → Tracker) (s : State) : (mtUpd f s).pts = s.pts := rfl
@[simp] theorem mtUpd_links (f : Tracker → Tracker) (s : State) : (mtUpd f s).links = s.links := rfl
@[simp] theorem mtUpd_pnt (f : Tracker → Tracker) (s : State) : (mtUpd f s).pnt = s.pnt := rfl
@[simp] theorem mtUpd_lp (f : Tracker → Tracker) (s : State) : (mtUpd f s).lp = s.lp := rfl
@[simp] theorem mtUpd_ls (f : Tracker → Tracker) (s : State) : (mtUpd f s).ls = s.ls := rfl
@[simp] theorem mtUpd_cb (f : Tracker → Tracker) (s : State) : (mtUpd f s).cb = s.cb := rfl
@[simp] theorem mtUpd_ad (f : Tracker → Tracker) (s : State) : (mtUpd f s).ad = s.ad := rfl
@[simp] theorem mtUpd_out (f : Tracker → Tracker) (s : State) : (mtUpd f s).out = s.out := rfl
@[simp] theorem mtUpd_ky (f : Tracker → Tracker) (s : State) : (mtUpd f s).ky = s.ky := rfl
@[simp] theorem mtUpd_pn (f : Tracker → Tracker) (s : State) : (mtUpd f s).pn = s.pn := rfl
@[simp] theorem mtUpd_pr (f : Tracker → Tracker) (s : State) : (mtUpd f s).pr = s.pr := rfl
@[simp] theorem mtUpd_nv (f : Tracker → Tracker) (s : State) : (mtUpd f s).nv = s.nv := rfl
@[simp] theorem mtUpd_th (f : Tracker → Tracker) (s : State) : (mtUpd f s).th = s.th := rfl
@[simp] theorem mtUpd_sn (f : Tracker → Tracker) (s : State) : (mtUpd f s).sn = s.sn := rfl
@[simp] theorem mtUpd_port (f : Tracker → Tracker) (s : State) : (mtUpd f s).port = s.port := rfl
@[simp] theorem mtUpd_mb (f : Tracker → Tracker) (s : State) : (mtUpd f s).mb = s.mb := rfl
@[simp] theorem mtUpd_ses (f : Tracker → Tracker) (s : State) : (mtUpd f s).ses = s.ses := rfl
@[simp] theorem mtUpd_live (f : Tracker → Tracker) (s : State) : (mtUpd f s).live = s.live := rfl
@[simp] theorem mtUpd_pending (f : Tracker → Tracker) (s : State) : (mtUpd f s).pending = s.pending := rfl
@[simp] theorem arrUpd_sys (pa : Nat) (f : PArray → PArray) (s : State) : (arrUpd pa f s).sys = s.sys := rfl
@[simp] theorem arrUpd_mt (pa : Nat) (f : PArray → PArray) (s : State) : (arrUpd pa f s).mt = s.mt := rfl
@[simp] theorem arrUpd_cal (pa : Nat) (f : PArray → PArray) (s : State) : (arrUpd pa f s).cal = s.cal := rfl
@[simp] theorem arrUpd_rtc (pa : Nat) (f : PArray → PArray) (s : State) : (arrUpd pa f s).rtc = s.rtc := rfl
@[simp] theorem arrUpd_links (pa : Nat) (f : PArray → PArray) (s : State) : (arrUpd pa f s).links = s.links := rfl
@[simp] theorem arrUpd_pnt (pa : Nat) (f : PArray → PArray) (s : State) : (arrUpd pa f s).pnt = s.pnt := rfl
@[simp] theorem arrUpd_lp (pa : Nat) (f : PArray → PArray) (s : State) : (arrUpd pa f s).lp = s.lp := rfl
@[simp] theorem arrUpd_ls (pa : Nat) (f : PArray → PArray) (s : State) : (arrUpd pa f s).ls = s.ls := rfl
@[simp] theorem arrUpd_cb (pa : Nat) (f : PArray → PArray) (s : State) : (arrUpd pa f s).cb = s.cb := rfl
@[simp] theorem arrUpd_ad (pa : Nat) (f : PArray → PArray) (s : State) : (arrUpd pa f s).ad = s.ad := rfl
@[simp] theorem arrUpd_out (pa : Nat) (f : PArray → PArray) (s : State) : (arrUpd pa f s).out = s.out := rfl
@[simp] theorem arrUpd_ky (pa : Nat) (f : PArray → PArray) (s : State) : (arrUpd pa f s).ky = s.ky := rfl
@[simp] theorem arrUpd_pn (pa : Nat) (f : PArray → PArray) (s : State) : (arrUpd pa f s).pn = s.pn := rfl
@[simp] theorem arrUpd_pr (pa : Nat) (f : PArray → PArray) (s : State) : (arrUpd pa f s).pr = s.pr := rfl
@[simp] theorem arrUpd_nv (pa : Nat) (f : PArray → PArray) (s : State) : (arrUpd pa f s).nv = s.nv := rfl
@[simp] theorem arrUpd_th (pa : Nat) (f : PArray → PArray) (s : State) : (arrUpd pa f s).th = s.th := rfl
@[simp] theorem arrUpd_sn (pa : Nat) (f : PArray → PArray) (s : State) : (arrUpd pa f s).sn = s.sn := rfl
@[simp] theorem arrUpd_port (pa : Nat) (f : PArray → PArray) (s : State) : (arrUpd pa f s).port = s.port := rfl
@[simp] theorem arrUpd_mb (pa : Nat) (f : PArray → PArray) (s : State) : (arrUpd pa f s).mb = s.mb := rfl
@[simp] theorem arrUpd_ses (pa : Nat) (f : PArray → PArray) (s : State) : (arrUpd pa f s).ses = s.ses := rfl
@[simp] theorem arrUpd_live (pa : Nat) (f : PArray → PArray) (s : State) : (arrUpd pa f s).live = s.live := rfl
@[simp] theorem arrUpd_pending (pa : Nat) (f : PArray → PArray) (s : State) : (arrUpd pa f s).pending = s.pending := rfl
@[simp] theorem pnUpd_sys (f : Panel → Panel) (s : State) : (pnUpd f s).sys = s.sys := rfl
@[simp] theorem pnUpd_mt (f : Panel → Panel) (s : State) : (pnUpd f s).mt = s.mt := rfl
@[simp] theorem pnUpd_cal (f : Panel → Panel) (s : State) : (pnUpd f s).cal = s.cal := rfl
@[simp] theorem pnUpd_rtc (f : Panel → Panel) (s : State) : (pnUpd f s).rtc = s.rtc := rfl
@[simp] theorem pnUpd_pts (f : Panel → Panel) (s : State) : (pnUpd f s).pts = s.pts := rfl
@[simp] theorem pnUpd_links (f : Panel → Panel) (s : State) : (pnUpd f s).links = s.links := rfl
@[simp] theorem pnUpd_pnt (f : Panel → Panel) (s : State) : (pnUpd f s).pnt = s.pnt := rfl
@[simp] theorem pnUpd_lp (f : Panel → Panel) (s : State) : (pnUpd f s).lp = s.lp := rfl
@[simp] theorem pnUpd_ls (f : Panel → Panel) (s : State) : (pnUpd f s).ls = s.ls := rfl
@[simp] theorem pnUpd_cb (f : Panel → Panel) (s : State) : (pnUpd f s).cb = s.cb := rfl
@[simp] theorem pnUpd_ad (f : Panel → Panel) (s : State) : (pnUpd f s).ad = s.ad := rfl
@[simp] theorem pnUpd_out (f : Panel → Panel) (s : State) : (pnUpd f s).out = s.out := rfl
@[simp] theorem pnUpd_ky (f : Panel → Panel) (s : State) : (pnUpd f s).ky = s.ky := rfl
@[simp] theorem pnUpd_pn (f : Panel → Panel) (s : State) : (pnUpd f s).pn = f s.pn := rfl
@[simp] theorem pnUpd_pr (f : Panel → Panel) (s : State) : (pnUpd f s).pr = s.pr := rfl
@[simp] theorem pnUpd_nv (f : Panel → Panel) (s : State) : (pnUpd f s).nv = s.nv := rfl
@[simp] theorem pnUpd_th (f : Panel → Panel) (s : State) : (pnUpd f s).th = s.th := rfl
@[simp] theorem pnUpd_sn (f : Panel → Panel) (s : State) : (pnUpd f s).sn = s.sn := rfl
@[simp] theorem pnUpd_port (f : Panel → Panel) (s : State) : (pnUpd f s).port = s.port := rfl
@[simp] theorem pnUpd_mb (f : Panel → Panel) (s : State) : (pnUpd f s).mb = s.mb := rfl
@[simp] theorem pnUpd_ses (f : Panel → Panel) (s : State) : (pnUpd f s).ses = s.ses := rfl
@[simp] theorem pnUpd_live (f : Panel → Panel) (s : State) : (pnUpd f s).live = s.live := rfl
@[simp] theorem pnUpd_pending (f : Panel → Panel) (s : State) : (pnUpd f s).pending = s.pending := rfl
@[simp] theorem snUpd_sys (f : Sentinel → Sentinel) (s : State) : (snUpd f s).sys = s.sys := rfl
@[simp] theorem snUpd_mt (f : Sentinel → Sentinel) (s : State) : (snUpd f s).mt = s.mt := rfl
@[simp] theorem snUpd_cal (f : Sentinel → Sentinel) (s : State) : (snUpd f s).cal = s.cal := rfl
@[simp] theorem snUpd_rtc (f : Sentinel → Sentinel) (s : State) : (snUpd f s).rtc = s.rtc := rfl
@[simp] theorem snUpd_pts (f : Sentinel → Sentinel) (s : State) : (snUpd f s).pts = s.pts := rfl
@[simp] theorem snUpd_links (f : Sentinel → Sentinel) (s : State) : (snUpd f s).links = s.links := rfl
@[simp] theorem snUpd_pnt (f : Sentinel → Sentinel) (s : State) : (snUpd f s).pnt = s.pnt := rfl
@[simp] theorem snUpd_lp (f : Sentinel → Sentinel) (s : State) : (snUpd f s).lp = s.lp := rfl
@[simp] theorem snUpd_ls (f : Sentinel → Sentinel) (s : State) : (snUpd f s).ls = s.ls := rfl
@[simp] theorem snUpd_cb (f : Sentinel → Sentinel) (s : State) : (snUpd f s).cb = s.cb := rfl
@[simp] theorem snUpd_ad (f : Sentinel → Sentinel) (s : State) : (snUpd f s).ad = s.ad := rfl
@[simp] theorem snUpd_out (f : Sentinel → Sentinel) (s : State) : (snUpd f s).out = s.out := rfl
@[simp] theorem snUpd_ky (f : Sentinel → Sentinel) (s : State) : (snUpd f s).ky = s.ky := rfl
@[simp] theorem snUpd_pn (f : Sentinel → Sentinel) (s : State) : (snUpd f s).pn = s.pn := rfl
@[simp] theorem snUpd_pr (f : Sentinel → Sentinel) (s : State) : (snUpd f s).pr = s.pr := rfl
@[simp] theorem snUpd_nv (f : Sentinel → Sentinel) (s : State) : (snUpd f s).nv = s.nv := rfl
@[simp] theorem snUpd_th (f : Sentinel → Sentinel) (s : State) : (snUpd f s).th = s.th := rfl
@[simp] theorem snUpd_sn (f : Sentinel → Sentinel) (s : State) : (snUpd f s).sn = f s.sn := rfl
@[simp] theorem snUpd_port (f : Sentinel → Sentinel) (s : State) : (snUpd f s).port = s.port := rfl
@[simp] theorem snUpd_mb (f : Sentinel → Sentinel) (s : State) : (snUpd f s).mb = s.mb := rfl
@[simp] theorem snUpd_ses (f : Sentinel → Sentinel) (s : State) : (snUpd f s).ses = s.ses := rfl
@[simp] theorem snUpd_live (f : Sentinel → Sentinel) (s : State) : (snUpd f s).live = s.live := rfl
@[simp] theorem snUpd_pending (f : Sentinel → Sentinel) (s : State) : (snUpd f s).pending = s.pending := rfl
@[simp] theorem sysUpd_sys (f : Sys → Sys) (s : State) : (sysUpd f s).sys = f s.sys := rfl
@[simp] theorem sysUpd_mt (f : Sys → Sys) (s : State) : (sysUpd f s).mt = s.mt := rfl
@[simp] theorem sysUpd_cal (f : Sys → Sys) (s : State) : (sysUpd f s).cal = s.cal := rfl
@[simp] theorem sysUpd_rtc (f : Sys → Sys) (s : State) : (sysUpd f s).rtc = s.rtc := rfl
@[simp] theorem sysUpd_pts (f : Sys → Sys) (s : State) : (sysUpd f s).pts = s.pts := rfl
@[simp] theorem sysUpd_links (f : Sys → Sys) (s : State) : (sysUpd f s).links = s.links := rfl
@[simp] theorem sysUpd_pnt (f : Sys → Sys) (s : State) : (sysUpd f s).pnt = s.pnt := rfl
@[simp] theorem sysUpd_lp (f : Sys → Sys) (s : State) : (sysUpd f s).lp = s.lp := rfl
@[simp] theorem sysUpd_ls (f : Sys → Sys) (s : State) : (sysUpd f s).ls = s.ls := rfl
@[simp] theorem sysUpd_cb (f : Sys → Sys) (s : State) : (sysUpd f s).cb = s.cb := rfl
@[simp] theorem sysUpd_ad (f : Sys → Sys) (s : State) : (sysUpd f s).ad = s.ad := rfl
@[simp] theorem sysUpd_out (f : Sys → Sys) (s : State) : (sysUpd f s).out = s.out := rfl
@[simp] theorem sysUpd_ky (f : Sys → Sys) (s : State) : (sysUpd f s).ky = s.ky := rfl
@[simp] theorem sysUpd_pn (f : Sys → Sys) (s : State) : (sysUpd f s).pn = s.pn := rfl
@[simp] theorem sysUpd_pr (f : Sys → Sys) (s : State) : (sysUpd f s).pr = s.pr := rfl
@[simp] theorem sysUpd_nv (f : Sys → Sys) (s : State) : (sysUpd f s).nv = s.nv := rfl
@[simp] theorem sysUpd_th (f : Sys → Sys) (s : State) : (sysUpd f s).th = s.th := rfl
@[simp] theorem sysUpd_sn (f : Sys → Sys) (s : State) : (sysUpd f s).sn = s.sn := rfl
@[simp] theorem sysUpd_port (f : Sys → Sys) (s : State) : (sysUpd f s).port = s.port := rfl
@[simp] theorem sysUpd_mb (f : Sys → Sys) (s : State) : (sysUpd f s).mb = s.mb := rfl
@[simp] theorem sysUpd_ses (f : Sys → Sys) (s : State) : (sysUpd f s).ses = s.ses := rfl
@[simp] theorem sysUpd_live (f : Sys → Sys) (s : State) : (sysUpd f s).live = s.live := rfl
@[simp] theorem sysUpd_pending (f : Sys → Sys) (s : State) : (sysUpd f s).pending = s.pending := rfl
@[simp] theorem prUpd_sys (f : Pair → Pair) (s : State) : (prUpd f s).sys = s.sys := rfl
@[simp] theorem prUpd_mt (f : Pair → Pair) (s : State) : (prUpd f s).mt = s.mt := rfl
@[simp] theorem prUpd_cal (f : Pair → Pair) (s : State) : (prUpd f s).cal = s.cal := rfl
@[simp] theorem prUpd_rtc (f : Pair → Pair) (s : State) : (prUpd f s).rtc = s.rtc := rfl
@[simp] theorem prUpd_pts (f : Pair → Pair) (s : State) : (prUpd f s).pts = s.pts := rfl
@[simp] theorem prUpd_links (f : Pair → Pair) (s : State) : (prUpd f s).links = s.links := rfl
@[simp] theorem prUpd_pnt (f : Pair → Pair) (s : State) : (prUpd f s).pnt = s.pnt := rfl
@[simp] theorem prUpd_lp (f : Pair → Pair) (s : State) : (prUpd f s).lp = s.lp := rfl
@[simp] theorem prUpd_ls (f : Pair → Pair) (s : State) : (prUpd f s).ls = s.ls := rfl
@[simp] theorem prUpd_cb (f : Pair → Pair) (s : State) : (prUpd f s).cb = s.cb := rfl
@[simp] theorem prUpd_ad (f : Pair → Pair) (s : State) : (prUpd f s).ad = s.ad := rfl
@[simp] theorem prUpd_out (f : Pair → Pair) (s : State) : (prUpd f s).out = s.out := rfl
@[simp] theorem prUpd_ky (f : Pair → Pair) (s : State) : (prUpd f s).ky = s.ky := rfl
@[simp] theorem prUpd_pn (f : Pair → Pair) (s : State) : (prUpd f s).pn = s.pn := rfl
@[simp] theorem prUpd_pr (f : Pair → Pair) (s : State) : (prUpd f s).pr = f s.pr := rfl
@[simp] theorem prUpd_nv (f : Pair → Pair) (s : State) : (prUpd f s).nv = s.nv := rfl
@[simp] theorem prUpd_th (f : Pair → Pair) (s : State) : (prUpd f s).th = s.th := rfl
@[simp] theorem prUpd_sn (f : Pair → Pair) (s : State) : (prUpd f s).sn = s.sn := rfl
@[simp] theorem prUpd_port (f : Pair → Pair) (s : State) : (prUpd f s).port = s.port := rfl
@[simp] theorem prUpd_mb (f : Pair → Pair) (s : State) : (prUpd f s).mb = s.mb := rfl
@[simp] theorem prUpd_ses (f : Pair → Pair) (s : State) : (prUpd f s).ses = s.ses := rfl
@[simp] theorem prUpd_live (f : Pair → Pair) (s : State) : (prUpd f s).live = s.live := rfl
@[simp] theorem prUpd_pending (f : Pair → Pair) (s : State) : (prUpd f s).pending = s.pending := rfl
@[simp] theorem thUpd_sys (f : Thermal → Thermal) (s : State) : (thUpd f s).sys = s.sys := rfl
@[simp] theorem thUpd_mt (f : Thermal → Thermal) (s : State) : (thUpd f s).mt = s.mt := rfl
@[simp] theorem thUpd_cal (f : Thermal → Thermal) (s : State) : (thUpd f s).cal = s.cal := rfl
@[simp] theorem thUpd_rtc (f : Thermal → Thermal) (s : State) : (thUpd f s).rtc = s.rtc := rfl
@[simp] theorem thUpd_pts (f : Thermal → Thermal) (s : State) : (thUpd f s).pts = s.pts := rfl
@[simp] theorem thUpd_links (f : Thermal → Thermal) (s : State) : (thUpd f s).links = s.links := rfl
@[simp] theorem thUpd_pnt (f : Thermal → Thermal) (s : State) : (thUpd f s).pnt = s.pnt := rfl
@[simp] theorem thUpd_lp (f : Thermal → Thermal) (s : State) : (thUpd f s).lp = s.lp := rfl
@[simp] theorem thUpd_ls (f : Thermal → Thermal) (s : State) : (thUpd f s).ls = s.ls := rfl
@[simp] theorem thUpd_cb (f : Thermal → Thermal) (s : State) : (thUpd f s).cb = s.cb := rfl
@[simp] theorem thUpd_ad (f : Thermal → Thermal) (s : State) : (thUpd f s).ad = s.ad := rfl
@[simp] theorem thUpd_out (f : Thermal → Thermal) (s : State) : (thUpd f s).out = s.out := rfl
@[simp] theorem thUpd_ky (f : Thermal → Thermal) (s : State) : (thUpd f s).ky = s.ky := rfl
@[simp] theorem thUpd_pn (f : Thermal → Thermal) (s : State) : (thUpd f s).pn = s.pn := rfl
@[simp] theorem thUpd_pr (f : Thermal → Thermal) (s : State) : (thUpd f s).pr = s.pr := rfl
@[simp] theorem thUpd_nv (f : Thermal → Thermal) (s : State) : (thUpd f s).nv = s.nv := rfl
@[simp] theorem thUpd_th (f : Thermal → Thermal) (s : State) : (thUpd f s).th = f s.th := rfl
@[simp] theorem thUpd_sn (f : Thermal → Thermal) (s : State) : (thUpd f s).sn = s.sn := rfl
@[simp] theorem thUpd_port (f : Thermal → Thermal) (s : State) : (thUpd f s).port = s.port := rfl
@[simp] theorem thUpd_mb (f : Thermal → Thermal) (s : State) : (thUpd f s).mb = s.mb := rfl
@[simp] theorem thUpd_ses (f : Thermal → Thermal) (s : State) : (thUpd f s).ses = s.ses := rfl
@[simp] theorem thUpd_live (f : Thermal → Thermal) (s : State) : (thUpd f s).live = s.live := rfl
@[simp] theorem thUpd_pending (f : Thermal → Thermal) (s : State) : (thUpd f s).pending = s.pending := rfl
@[simp] theorem ctxUpd_sys (ch : Nat) (f : Ctx → Ctx) (s : State) : (ctxUpd ch f s).sys = s.sys := rfl
@[simp] theorem ctxUpd_mt (ch : Nat) (f : Ctx → Ctx) (s : State) : (ctxUpd ch f s).mt = s.mt := rfl
@[simp] theorem ctxUpd_cal (ch : Nat) (f : Ctx → Ctx) (s : State) : (ctxUpd ch f s).cal = s.cal := rfl
@[simp] theorem ctxUpd_rtc (ch : Nat) (f : Ctx → Ctx) (s : State) : (ctxUpd ch f s).rtc = s.rtc := rfl
@[simp] theorem ctxUpd_pts (ch : Nat) (f : Ctx → Ctx) (s : State) : (ctxUpd ch f s).pts = s.pts := rfl
@[simp] theorem ctxUpd_links (ch : Nat) (f : Ctx → Ctx) (s : State) : (ctxUpd ch f s).links = s.links := rfl
@[simp] theorem ctxUpd_pnt (ch : Nat) (f : Ctx → Ctx) (s : State) : (ctxUpd ch f s).pnt = s.pnt := rfl
@[simp] theorem ctxUpd_lp (ch : Nat) (f : Ctx → Ctx) (s : State) : (ctxUpd ch f s).lp = s.lp := rfl
@[simp] theorem ctxUpd_ls (ch : Nat) (f : Ctx → Ctx) (s : State) : (ctxUpd ch f s).ls = s.ls := rfl
@[simp] theorem ctxUpd_ad (ch : Nat) (f : Ctx → Ctx) (s : State) : (ctxUpd ch f s).ad = s.ad := rfl
@[simp] theorem ctxUpd_out (ch : Nat) (f : Ctx → Ctx) (s : State) : (ctxUpd ch f s).out = s.out := rfl
@[simp] theorem ctxUpd_ky (ch : Nat) (f : Ctx → Ctx) (s : State) : (ctxUpd ch f s).ky = s.ky := rfl
@[simp] theorem ctxUpd_pn (ch : Nat) (f : Ctx → Ctx) (s : State) : (ctxUpd ch f s).pn = s.pn := rfl
@[simp] theorem ctxUpd_pr (ch : Nat) (f : Ctx → Ctx) (s : State) : (ctxUpd ch f s).pr = s.pr := rfl
@[simp] theorem ctxUpd_nv (ch : Nat) (f : Ctx → Ctx) (s : State) : (ctxUpd ch f s).nv = s.nv := rfl
@[simp] theorem ctxUpd_th (ch : Nat) (f : Ctx → Ctx) (s : State) : (ctxUpd ch f s).th = s.th := rfl
@[simp] theorem ctxUpd_sn (ch : Nat) (f : Ctx → Ctx) (s : State) : (ctxUpd ch f s).sn = s.sn := rfl
@[simp] theorem ctxUpd_port (ch : Nat) (f : Ctx → Ctx) (s : State) : (ctxUpd ch f s).port = s.port := rfl
@[simp] theorem ctxUpd_mb (ch : Nat) (f : Ctx → Ctx) (s : State) : (ctxUpd ch f s).mb = s.mb := rfl
@[simp] theorem ctxUpd_ses (ch : Nat) (f : Ctx → Ctx) (s : State) : (ctxUpd ch f s).ses = s.ses := rfl
@[simp] theorem ctxUpd_live (ch : Nat) (f : Ctx → Ctx) (s : State) : (ctxUpd ch f s).live = s.live := rfl
@[simp] theorem ctxUpd_pending (ch : Nat) (f : Ctx → Ctx) (s : State) : (ctxUpd ch f s).pending = s.pending := rfl
@[simp] theorem keyUpd_sys (k : Nat) (f : Key → Key) (s : State) : (keyUpd k f s).sys = s.sys := rfl
@[simp] theorem keyUpd_mt (k : Nat) (f : Key → Key) (s : State) : (keyUpd k f s).mt = s.mt := rfl
@[simp] theorem keyUpd_cal (k : Nat) (f : Key → Key) (s : State) : (keyUpd k f s).cal = s.cal := rfl
@[simp] theorem keyUpd_rtc (k : Nat) (f : Key → Key) (s : State) : (keyUpd k f s).rtc = s.rtc := rfl
@[simp] theorem keyUpd_pts (k : Nat) (f : Key → Key) (s : State) : (keyUpd k f s).pts = s.pts := rfl
@[simp] theorem keyUpd_links (k : Nat) (f : Key → Key) (s : State) : (keyUpd k f s).links = s.links := rfl
@[simp] theorem keyUpd_pnt (k : Nat) (f : Key → Key) (s : State) : (keyUpd k f s).pnt = s.pnt := rfl
@[simp] theorem keyUpd_lp (k : Nat) (f : Key → Key) (s : State) : (keyUpd k f s).lp = s.lp := rfl
@[simp] theorem keyUpd_ls (k : Nat) (f : Key → Key) (s : State) : (keyUpd k f s).ls = s.ls := rfl
@[simp] theorem keyUpd_cb (k : Nat) (f : Key → Key) (s : State) : (keyUpd k f s).cb = s.cb := rfl
@[simp] theorem keyUpd_ad (k : Nat) (f : Key → Key) (s : State) : (keyUpd k f s).ad = s.ad := rfl
@[simp] theorem keyUpd_out (k : Nat) (f : Key → Key) (s : State) : (keyUpd k f s).out = s.out := rfl
@[simp] theorem keyUpd_pn (k : Nat) (f : Key → Key) (s : State) : (keyUpd k f s).pn = s.pn := rfl
@[simp] theorem keyUpd_pr (k : Nat) (f : Key → Key) (s : State) : (keyUpd k f s).pr = s.pr := rfl
@[simp] theorem keyUpd_nv (k : Nat) (f : Key → Key) (s : State) : (keyUpd k f s).nv = s.nv := rfl
@[simp] theorem keyUpd_th (k : Nat) (f : Key → Key) (s : State) : (keyUpd k f s).th = s.th := rfl
@[simp] theorem keyUpd_sn (k : Nat) (f : Key → Key) (s : State) : (keyUpd k f s).sn = s.sn := rfl
@[simp] theorem keyUpd_port (k : Nat) (f : Key → Key) (s : State) : (keyUpd k f s).port = s.port := rfl
@[simp] theorem keyUpd_mb (k : Nat) (f : Key → Key) (s : State) : (keyUpd k f s).mb = s.mb := rfl
@[simp] theorem keyUpd_ses (k : Nat) (f : Key → Key) (s : State) : (keyUpd k f s).ses = s.ses := rfl
@[simp] theorem keyUpd_live (k : Nat) (f : Key → Key) (s : State) : (keyUpd k f s).live = s.live := rfl
@[simp] theorem keyUpd_pending (k : Nat) (f : Key → Key) (s : State) : (keyUpd k f s).pending = s.pending := rfl
@[simp] theorem linkUpd_sys (l : Nat) (f : Link → Link) (s : State) : (linkUpd l f s).sys = s.sys := rfl
@[simp] theorem linkUpd_mt (l : Nat) (f : Link → Link) (s : State) : (linkUpd l f s).mt = s.mt := rfl
@[simp] theorem linkUpd_cal (l : Nat) (f : Link → Link) (s : State) : (linkUpd l f s).cal = s.cal := rfl
@[simp] theorem linkUpd_rtc (l : Nat) (f : Link → Link) (s : State) : (linkUpd l f s).rtc = s.rtc := rfl
@[simp] theorem linkUpd_pts (l : Nat) (f : Link → Link) (s : State) : (linkUpd l f s).pts = s.pts := rfl
@[simp] theorem linkUpd_pnt (l : Nat) (f : Link → Link) (s : State) : (linkUpd l f s).pnt = s.pnt := rfl
@[simp] theorem linkUpd_lp (l : Nat) (f : Link → Link) (s : State) : (linkUpd l f s).lp = s.lp := rfl
@[simp] theorem linkUpd_ls (l : Nat) (f : Link → Link) (s : State) : (linkUpd l f s).ls = s.ls := rfl
@[simp] theorem linkUpd_cb (l : Nat) (f : Link → Link) (s : State) : (linkUpd l f s).cb = s.cb := rfl
@[simp] theorem linkUpd_ad (l : Nat) (f : Link → Link) (s : State) : (linkUpd l f s).ad = s.ad := rfl
@[simp] theorem linkUpd_out (l : Nat) (f : Link → Link) (s : State) : (linkUpd l f s).out = s.out := rfl
@[simp] theorem linkUpd_ky (l : Nat) (f : Link → Link) (s : State) : (linkUpd l f s).ky = s.ky := rfl
@[simp] theorem linkUpd_pn (l : Nat) (f : Link → Link) (s : State) : (linkUpd l f s).pn = s.pn := rfl
@[simp] theorem linkUpd_pr (l : Nat) (f : Link → Link) (s : State) : (linkUpd l f s).pr = s.pr := rfl
@[simp] theorem linkUpd_nv (l : Nat) (f : Link → Link) (s : State) : (linkUpd l f s).nv = s.nv := rfl
@[simp] theorem linkUpd_th (l : Nat) (f : Link → Link) (s : State) : (linkUpd l f s).th = s.th := rfl
@[simp] theorem linkUpd_sn (l : Nat) (f : Link → Link) (s : State) : (linkUpd l f s).sn = s.sn := rfl
@[simp] theorem linkUpd_port (l : Nat) (f : Link → Link) (s : State) : (linkUpd l f s).port = s.port := rfl
@[simp] theorem linkUpd_mb (l : Nat) (f : Link → Link) (s : State) : (linkUpd l f s).mb = s.mb := rfl
@[simp] theorem linkUpd_ses (l : Nat) (f : Link → Link) (s : State) : (linkUpd l f s).ses = s.ses := rfl
@[simp] theorem linkUpd_live (l : Nat) (f : Link → Link) (s : State) : (linkUpd l f s).live = s.live := rfl
@[simp] theorem linkUpd_pending (l : Nat) (f : Link → Link) (s : State) : (linkUpd l f s).pending = s.pending := rfl
@[simp] theorem benchUpd_sys (b : Nat) (f : Bench → Bench) (s : State) : (benchUpd b f s).sys = s.sys := rfl
@[simp] theorem benchUpd_mt (b : Nat) (f : Bench → Bench) (s : State) : (benchUpd b f s).mt = s.mt := rfl
@[simp] theorem benchUpd_cal (b : Nat) (f : Bench → Bench) (s : State) : (benchUpd b f s).cal = s.cal := rfl
@[simp] theorem benchUpd_rtc (b : Nat) (f : Bench → Bench) (s : State) : (benchUpd b f s).rtc = s.rtc := rfl
@[simp] theorem benchUpd_pts (b : Nat) (f : Bench → Bench) (s : State) : (benchUpd b f s).pts = s.pts := rfl
@[simp] theorem benchUpd_links (b : Nat) (f : Bench → Bench) (s : State) : (benchUpd b f s).links = s.links := rfl
@[simp] theorem benchUpd_pnt (b : Nat) (f : Bench → Bench) (s : State) : (benchUpd b f s).pnt = s.pnt := rfl
@[simp] theorem benchUpd_lp (b : Nat) (f : Bench → Bench) (s : State) : (benchUpd b f s).lp = s.lp := rfl
@[simp] theorem benchUpd_ls (b : Nat) (f : Bench → Bench) (s : State) : (benchUpd b f s).ls = s.ls := rfl
@[simp] theorem benchUpd_cb (b : Nat) (f : Bench → Bench) (s : State) : (benchUpd b f s).cb = s.cb := rfl
@[simp] theorem benchUpd_ad (b : Nat) (f : Bench → Bench) (s : State) : (benchUpd b f s).ad = s.ad := rfl
@[simp] theorem benchUpd_out (b : Nat) (f : Bench → Bench) (s : State) : (benchUpd b f s).out = s.out := rfl
@[simp] theorem benchUpd_ky (b : Nat) (f : Bench → Bench) (s : State) : (benchUpd b f s).ky = s.ky := rfl
@[simp] theorem benchUpd_pn (b : Nat) (f : Bench → Bench) (s : State) : (benchUpd b f s).pn = s.pn := rfl
@[simp] theorem benchUpd_pr (b : Nat) (f : Bench → Bench) (s : State) : (benchUpd b f s).pr = s.pr := rfl
@[simp] theorem benchUpd_nv (b : Nat) (f : Bench → Bench) (s : State) : (benchUpd b f s).nv = s.nv := rfl
@[simp] theorem benchUpd_th (b : Nat) (f : Bench → Bench) (s : State) : (benchUpd b f s).th = s.th := rfl
@[simp] theorem benchUpd_sn (b : Nat) (f : Bench → Bench) (s : State) : (benchUpd b f s).sn = s.sn := rfl
@[simp] theorem benchUpd_mb (b : Nat) (f : Bench → Bench) (s : State) : (benchUpd b f s).mb = s.mb := rfl
@[simp] theorem benchUpd_ses (b : Nat) (f : Bench → Bench) (s : State) : (benchUpd b f s).ses = s.ses := rfl
@[simp] theorem benchUpd_live (b : Nat) (f : Bench → Bench) (s : State) : (benchUpd b f s).live = s.live := rfl
@[simp] theorem benchUpd_pending (b : Nat) (f : Bench → Bench) (s : State) : (benchUpd b f s).pending = s.pending := rfl
@[simp] theorem regionUpd_sys (r : Nat) (f : Region → Region) (s : State) : (regionUpd r f s).sys = s.sys := rfl
@[simp] theorem regionUpd_mt (r : Nat) (f : Region → Region) (s : State) : (regionUpd r f s).mt = s.mt := rfl
@[simp] theorem regionUpd_cal (r : Nat) (f : Region → Region) (s : State) : (regionUpd r f s).cal = s.cal := rfl
@[simp] theorem regionUpd_rtc (r : Nat) (f : Region → Region) (s : State) : (regionUpd r f s).rtc = s.rtc := rfl
@[simp] theorem regionUpd_pts (r : Nat) (f : Region → Region) (s : State) : (regionUpd r f s).pts = s.pts := rfl
@[simp] theorem regionUpd_links (r : Nat) (f : Region → Region) (s : State) : (regionUpd r f s).links = s.links := rfl
@[simp] theorem regionUpd_pnt (r : Nat) (f : Region → Region) (s : State) : (regionUpd r f s).pnt = s.pnt := rfl
@[simp] theorem regionUpd_lp (r : Nat) (f : Region → Region) (s : State) : (regionUpd r f s).lp = s.lp := rfl
@[simp] theorem regionUpd_ls (r : Nat) (f : Region → Region) (s : State) : (regionUpd r f s).ls = s.ls := rfl
@[simp] theorem regionUpd_cb (r : Nat) (f : Region → Region) (s : State) : (regionUpd r f s).cb = s.cb := rfl
@[simp] theorem regionUpd_ad (r : Nat) (f : Region → Region) (s : State) : (regionUpd r f s).ad = s.ad := rfl
@[simp] theorem regionUpd_out (r : Nat) (f : Region → Region) (s : State) : (regionUpd r f s).out = s.out := rfl
@[simp] theorem regionUpd_ky (r : Nat) (f : Region → Region) (s : State) : (regionUpd r f s).ky = s.ky := rfl
@[simp] theorem regionUpd_pr (r : Nat) (f : Region → Region) (s : State) : (regionUpd r f s).pr = s.pr := rfl
@[simp] theorem regionUpd_nv (r : Nat) (f : Region → Region) (s : State) : (regionUpd r f s).nv = s.nv := rfl
@[simp] theorem regionUpd_th (r : Nat) (f : Region → Region) (s : State) : (regionUpd r f s).th = s.th := rfl
@[simp] theorem regionUpd_sn (r : Nat) (f : Region → Region) (s : State) : (regionUpd r f s).sn = s.sn := rfl
@[simp] theorem regionUpd_port (r : Nat) (f : Region → Region) (s : State) : (regionUpd r f s).port = s.port := rfl
@[simp] theorem regionUpd_mb (r : Nat) (f : Region → Region) (s : State) : (regionUpd r f s).mb = s.mb := rfl
@[simp] theorem regionUpd_ses (r : Nat) (f : Region → Region) (s : State) : (regionUpd r f s).ses = s.ses := rfl
@[simp] theorem regionUpd_live (r : Nat) (f : Region → Region) (s : State) : (regionUpd r f s).live = s.live := rfl
@[simp] theorem regionUpd_pending (r : Nat) (f : Region → Region) (s : State) : (regionUpd r f s).pending = s.pending := rfl
@[simp] theorem devUpd_sys (dv : Nat) (f : Dev → Dev) (s : State) : (devUpd dv f s).sys = s.sys := by
  unfold devUpd when; dsimp only; split
  · rw [markDirty_sys]
  · rfl
@[simp] theorem devUpd_mt (dv : Nat) (f : Dev → Dev) (s : State) : (devUpd dv f s).mt = s.mt := by
  unfold devUpd when; dsimp only; split
  · rw [markDirty_mt]
  · rfl
@[simp] theorem devUpd_cal (dv : Nat) (f : Dev → Dev) (s : State) : (devUpd dv f s).cal = s.cal := by
  unfold devUpd when; dsimp only; split
  · rw [markDirty_cal]
  · rfl
@[simp] theorem devUpd_rtc (dv : Nat) (f : Dev → Dev) (s : State) : (devUpd dv f s).rtc = s.rtc := by
  unfold devUpd when; dsimp only; split
  · rw [markDirty_rtc]
  · rfl
@[simp] theorem devUpd_pts (dv : Nat) (f : Dev → Dev) (s : State) : (devUpd dv f s).pts = s.pts := by
  unfold devUpd when; dsimp only; split
  · rw [markDirty_pts]
  · rfl
@[simp] theorem devUpd_links (dv : Nat) (f : Dev → Dev) (s : State) : (devUpd dv f s).links = s.links := by
  unfold devUpd when; dsimp only; split
  · rw [markDirty_links]
  · rfl
@[simp] theorem devUpd_lp (dv : Nat) (f : Dev → Dev) (s : State) : (devUpd dv f s).lp = s.lp := by
  unfold devUpd when; dsimp only; split
  · rw [markDirty_lp]
  · rfl
@[simp] theorem devUpd_ls (dv : Nat) (f : Dev → Dev) (s : State) : (devUpd dv f s).ls = s.ls := by
  unfold devUpd when; dsimp only; split
  · rw [markDirty_ls]
  · rfl
@[simp] theorem devUpd_cb (dv : Nat) (f : Dev → Dev) (s : State) : (devUpd dv f s).cb = s.cb := by
  unfold devUpd when; dsimp only; split
  · rw [markDirty_cb]
  · rfl
@[simp] theorem devUpd_ad (dv : Nat) (f : Dev → Dev) (s : State) : (devUpd dv f s).ad = s.ad := by
  unfold devUpd when; dsimp only; split
  · rw [markDirty_ad]
  · rfl
@[simp] theorem devUpd_out (dv : Nat) (f : Dev → Dev) (s : State) : (devUpd dv f s).out = s.out := by
  unfold devUpd when; dsimp only; split
  · rw [markDirty_out]
  · rfl
@[simp] theorem devUpd_ky (dv : Nat) (f : Dev → Dev) (s : State) : (devUpd dv f s).ky = s.ky := by
  unfold devUpd when; dsimp only; split
  · rw [markDirty_ky]
  · rfl
@[simp] theorem devUpd_pn (dv : Nat) (f : Dev → Dev) (s : State) : (devUpd dv f s).pn = s.pn := by
  unfold devUpd when; dsimp only; split
  · rw [markDirty_pn]
  · rfl
@[simp] theorem devUpd_nv (dv : Nat) (f : Dev → Dev) (s : State) : (devUpd dv f s).nv = s.nv := by
  unfold devUpd when; dsimp only; split
  · rw [markDirty_nv]
  · rfl
@[simp] theorem devUpd_th (dv : Nat) (f : Dev → Dev) (s : State) : (devUpd dv f s).th = s.th := by
  unfold devUpd when; dsimp only; split
  · rw [markDirty_th]
  · rfl
@[simp] theorem devUpd_sn (dv : Nat) (f : Dev → Dev) (s : State) : (devUpd dv f s).sn = s.sn := by
  unfold devUpd when; dsimp only; split
  · rw [markDirty_sn]
  · rfl
@[simp] theorem devUpd_port (dv : Nat) (f : Dev → Dev) (s : State) : (devUpd dv f s).port = s.port := by
  unfold devUpd when; dsimp only; split
  · rw [markDirty_port]
  · rfl
@[simp] theorem devUpd_mb (dv : Nat) (f : Dev → Dev) (s : State) : (devUpd dv f s).mb = s.mb := by
  unfold devUpd when; dsimp only; split
  · rw [markDirty_mb]
  · rfl
@[simp] theorem devUpd_ses (dv : Nat) (f : Dev → Dev) (s : State) : (devUpd dv f s).ses = s.ses := by
  unfold devUpd when; dsimp only; split
  · rw [markDirty_ses]
  · rfl
@[simp] theorem devUpd_live (dv : Nat) (f : Dev → Dev) (s : State) : (devUpd dv f s).live = s.live := by
  unfold devUpd when; dsimp only; split
  · rw [markDirty_live]
  · rfl
@[simp] theorem devUpd_pending (dv : Nat) (f : Dev → Dev) (s : State) : (devUpd dv f s).pending = s.pending := by
  unfold devUpd when; dsimp only; split
  · rw [markDirty_pending]
  · rfl
@[simp] theorem sensorUpd_sys (i : Nat) (f : Sensor → Sensor) (s : State) : (sensorUpd i f s).sys = s.sys := rfl
@[simp] theorem sensorUpd_mt (i : Nat) (f : Sensor → Sensor) (s : State) : (sensorUpd i f s).mt = s.mt := rfl
@[simp] theorem sensorUpd_cal (i : Nat) (f : Sensor → Sensor) (s : State) : (sensorUpd i f s).cal = s.cal := rfl
@[simp] theorem sensorUpd_rtc (i : Nat) (f : Sensor → Sensor) (s : State) : (sensorUpd i f s).rtc = s.rtc := rfl
@[simp] theorem sensorUpd_pts (i : Nat) (f : Sensor → Sensor) (s : State) : (sensorUpd i f s).pts = s.pts := rfl
@[simp] theorem sensorUpd_links (i : Nat) (f : Sensor → Sensor) (s : State) : (sensorUpd i f s).links = s.links := rfl
@[simp] theorem sensorUpd_pnt (i : Nat) (f : Sensor → Sensor) (s : State) : (sensorUpd i f s).pnt = s.pnt := rfl
@[simp] theorem sensorUpd_lp (i : Nat) (f : Sensor → Sensor) (s : State) : (sensorUpd i f s).lp = s.lp := rfl
@[simp] theorem sensorUpd_ls (i : Nat) (f : Sensor → Sensor) (s : State) : (sensorUpd i f s).ls = s.ls := rfl
@[simp] theorem sensorUpd_cb (i : Nat) (f : Sensor → Sensor) (s : State) : (sensorUpd i f s).cb = s.cb := rfl
@[simp] theorem sensorUpd_ad (i : Nat) (f : Sensor → Sensor) (s : State) : (sensorUpd i f s).ad = s.ad := rfl
@[simp] theorem sensorUpd_out (i : Nat) (f : Sensor → Sensor) (s : State) : (sensorUpd i f s).out = s.out := rfl
@[simp] theorem sensorUpd_ky (i : Nat) (f : Sensor → Sensor) (s : State) : (sensorUpd i f s).ky = s.ky := rfl
@[simp] theorem sensorUpd_pn (i : Nat) (f : Sensor → Sensor) (s : State) : (sensorUpd i f s).pn = s.pn := rfl
@[simp] theorem sensorUpd_pr (i : Nat) (f : Sensor → Sensor) (s : State) : (sensorUpd i f s).pr = s.pr := rfl
@[simp] theorem sensorUpd_nv (i : Nat) (f : Sensor → Sensor) (s : State) : (sensorUpd i f s).nv = s.nv := rfl
@[simp] theorem sensorUpd_sn (i : Nat) (f : Sensor → Sensor) (s : State) : (sensorUpd i f s).sn = s.sn := rfl
@[simp] theorem sensorUpd_port (i : Nat) (f : Sensor → Sensor) (s : State) : (sensorUpd i f s).port = s.port := rfl
@[simp] theorem sensorUpd_mb (i : Nat) (f : Sensor → Sensor) (s : State) : (sensorUpd i f s).mb = s.mb := rfl
@[simp] theorem sensorUpd_ses (i : Nat) (f : Sensor → Sensor) (s : State) : (sensorUpd i f s).ses = s.ses := rfl
@[simp] theorem sensorUpd_live (i : Nat) (f : Sensor → Sensor) (s : State) : (sensorUpd i f s).live = s.live := rfl
@[simp] theorem sensorUpd_pending (i : Nat) (f : Sensor → Sensor) (s : State) : (sensorUpd i f s).pending = s.pending := rfl

end Sys2Proof.Machine
end

