-- ==== Sys2Proof/Laws/Tab.lean ====
section
/-!
SUPPORT. Sparse tables: what has been written is read back, every other place stays, and every operation keeps the canonical form.
-/

namespace Sys2Proof

theorem Tab.get_put_self {α : Type} [Inhabited α] (t : Tab α) (k : Nat) (v : α) : Tab.get (Tab.put t k v) k = v := by
  induction t with
  | nil => simp [Tab.put, Tab.get]
  | cons e r ih =>
    obtain ⟨a, w⟩ := e
    unfold Tab.put
    split
    · simp [Tab.get]
    · split
      · simp [Tab.get]
      · rename_i _ h2
        simp [Tab.get, h2, ih]

theorem Tab.get_del_self {α : Type} [Inhabited α] (t : Tab α) (k : Nat) : Tab.get (Tab.del t k) k = default := by
  unfold Tab.del
  induction t with
  | nil => rfl
  | cons e r ih =>
    obtain ⟨a, w⟩ := e
    by_cases h : a = k
    · rw [List.filter_cons_of_neg (by simp [h])]; exact ih
    · have h' : k ≠ a := fun hh => h hh.symm
      rw [List.filter_cons_of_pos (by simp [h])]
      simp only [Tab.get, if_neg h', ih]

/-- What has been written is read back. -/
@[simp] theorem Tab.get_set_self {α : Type} [Inhabited α] [DecidableEq α] (t : Tab α) (k : Nat) (v : α) : (t.set k v).get k = v := by
  unfold Tab.set
  split
  · rename_i h; rw [Tab.get_del_self, h]
  · exact Tab.get_put_self t k v

theorem Tab.get_put_other {α : Type} [Inhabited α] (t : Tab α) (k j : Nat) (v : α) (h : j ≠ k) : Tab.get (Tab.put t k v) j = Tab.get t j := by
  induction t with
  | nil => simp [Tab.put, Tab.get, h]
  | cons e r ih =>
    obtain ⟨a, w⟩ := e
    unfold Tab.put
    split
    · simp [Tab.get, h]
    · split
      · rename_i h1 h2
        subst h2
        simp [Tab.get, h]
      · simp only [Tab.get, ih]

theorem Tab.get_del_other {α : Type} [Inhabited α] (t : Tab α) (k j : Nat) (h : j ≠ k) : Tab.get (Tab.del t k) j = Tab.get t j := by
  unfold Tab.del
  induction t with
  | nil => rfl
  | cons e r ih =>
    obtain ⟨a, w⟩ := e
    by_cases hk : a = k
    · subst hk
      rw [List.filter_cons_of_neg (by simp)]
      simp only [Tab.get, ih, if_neg h]
    · rw [List.filter_cons_of_pos (by simp [hk])]
      simp only [Tab.get, ih]

/-- A write leaves every other place. -/
theorem Tab.get_set_other {α : Type} [Inhabited α] [DecidableEq α] (t : Tab α) (k j : Nat) (v : α) (h : j ≠ k) :
    (t.set k v).get j = t.get j := by
  unfold Tab.set
  split
  · exact Tab.get_del_other t k j h
  · exact Tab.get_put_other t k j v h

@[simp] theorem Tab.get_upd_self {α : Type} [Inhabited α] [DecidableEq α] (t : Tab α) (k : Nat) (f : α → α) :
    (t.upd k f).get k = f (t.get k) := by
  unfold Tab.upd; rw [Tab.get_set_self]

/-! ## The canonical form -/

theorem Tab.wfFrom_weaken {α : Type} [Inhabited α] [DecidableEq α] (t : Tab α) (b : Option Nat) (x : Nat) (h : t.wfFrom (some x) = true)
    (hb : ∀ y, b = some y → y ≤ x) : t.wfFrom b = true := by
  cases t with
  | nil => rfl
  | cons e r =>
    obtain ⟨a, v⟩ := e
    simp only [Tab.wfFrom, Bool.and_eq_true, decide_eq_true_eq] at h ⊢
    refine ⟨⟨?_, h.1.2⟩, h.2⟩
    cases b with
    | none => rfl
    | some y => have := hb y rfl; simp only [decide_eq_true_eq]; omega

theorem Tab.wfFrom_filter {α : Type} [Inhabited α] [DecidableEq α] (t : Tab α) (b : Option Nat) (p : Nat × α → Bool)
    (h : t.wfFrom b = true) : Tab.wfFrom b (List.filter p t) = true := by
  induction t generalizing b with
  | nil => rfl
  | cons e r ih =>
    obtain ⟨a, v⟩ := e
    simp only [Tab.wfFrom, Bool.and_eq_true] at h
    by_cases hp : p (a, v) = true
    · rw [List.filter_cons_of_pos hp]
      simp only [Tab.wfFrom, Bool.and_eq_true]
      exact ⟨h.1, ih _ h.2⟩
    · rw [List.filter_cons_of_neg hp]
      refine Tab.wfFrom_weaken _ b a (ih _ h.2) ?_
      rintro y rfl
      have := h.1.1
      simp only [decide_eq_true_eq] at this
      omega

theorem Tab.wfFrom_cons {α : Type} [Inhabited α] [DecidableEq α] (b : Option Nat) (a : Nat) (v : α) (r : Tab α) :
    Tab.wfFrom b ((a, v) :: r) = true ↔ (∀ y, b = some y → y < a) ∧ v ≠ default ∧ Tab.wfFrom (some a) r = true := by
  cases b <;> simp [Tab.wfFrom, and_assoc]

theorem Tab.wfFrom_put {α : Type} [Inhabited α] [DecidableEq α] (t : Tab α) (b : Option Nat) (k : Nat) (v : α) (hv : v ≠ default)
    (hb : ∀ y, b = some y → y < k) (h : t.wfFrom b = true) : Tab.wfFrom b (t.put k v) = true := by
  induction t generalizing b with
  | nil => exact (Tab.wfFrom_cons b k v []).mpr ⟨hb, hv, rfl⟩
  | cons e r ih =>
    obtain ⟨a, w⟩ := e
    have h' := (Tab.wfFrom_cons b a w r).mp h
    unfold Tab.put
    split
    · rename_i h1
      exact (Tab.wfFrom_cons _ _ _ _).mpr ⟨hb, hv, (Tab.wfFrom_cons _ _ _ _).mpr ⟨by rintro y hy; cases hy; exact h1, h'.2⟩⟩
    · split
      · rename_i h1 h2
        subst h2
        exact (Tab.wfFrom_cons _ _ _ _).mpr ⟨hb, hv, h'.2.2⟩
      · rename_i h1 h2
        exact (Tab.wfFrom_cons _ _ _ _).mpr ⟨h'.1, h'.2.1, ih (some a) (by rintro y hy; cases hy; omega) h'.2.2⟩

/-- Every write keeps the canonical form. -/
theorem Tab.wf_set {α : Type} [Inhabited α] [DecidableEq α] (t : Tab α) (k : Nat) (v : α) (h : t.wf = true) : (t.set k v).wf = true := by
  unfold Tab.set
  split
  · exact Tab.wfFrom_filter t none _ h
  · rename_i hv
    exact Tab.wfFrom_put t none k v hv (by simp) h

theorem Tab.wf_upd {α : Type} [Inhabited α] [DecidableEq α] (t : Tab α) (k : Nat) (f : α → α) (h : t.wf = true) : (t.upd k f).wf = true :=
  Tab.wf_set t k _ h

theorem Tab.wf_setMany {α : Type} [Inhabited α] [DecidableEq α] (l : List α) (t : Tab α) (k : Nat) (h : t.wf = true) :
    (t.setMany k l).wf = true := by
  induction l generalizing t k with
  | nil => exact h
  | cons v l ih => exact ih _ _ (Tab.wf_set t k v h)

theorem Tab.wf_keep {α : Type} [Inhabited α] [DecidableEq α] (t : Tab α) (p : Nat → α → Bool) (h : t.wf = true) : (t.keep p).wf = true :=
  Tab.wfFrom_filter t none _ h

theorem Tab.wf_map {α : Type} [Inhabited α] [DecidableEq α] (t : Tab α) (f : Nat → α → α) (h : t.wf = true) : (Tab.map t f).wf = true := by
  have key : ∀ (t : Tab α) (b : Option Nat), t.wfFrom b = true → Tab.wfFrom b (Tab.map t f) = true := by
    intro t
    unfold Tab.map
    induction t with
    | nil => intro b _; rfl
    | cons e r ih =>
      obtain ⟨a, v⟩ := e
      intro b hb
      have hb' := (Tab.wfFrom_cons b a v r).mp hb
      rw [List.map_cons]
      by_cases hp : f a v = default
      · rw [List.filter_cons_of_neg (by simp [hp])]
        refine Tab.wfFrom_weaken _ b a (ih _ hb'.2.2) ?_
        rintro y rfl
        have := hb'.1 y rfl
        omega
      · rw [List.filter_cons_of_pos (by simp [hp])]
        exact (Tab.wfFrom_cons _ _ _ _).mpr ⟨hb'.1, hp, ih _ hb'.2.2⟩
  exact key t none h

/-- The table after reset has the canonical form. -/
theorem Tab.wf_reset {α : Type} [Inhabited α] [DecidableEq α] : Tab.wf ([] : Tab α) = true := rfl

end Sys2Proof
end

