-- ==== Sys2Proof/Laws/Mailbox.lean ====
section
/-!
SUPPORT. The take of a mailbox request: a request that passes the checks of R444 is executed at once, on the state in which it has
been taken.
-/

namespace Sys2Proof.Machine

open Sys2Proof

theorem leBytes_length (n x : Nat) : (leBytes n x).length = n := by
  induction n generalizing x with
  | zero => rfl
  | succ n ih => simp [leBytes, ih]

theorem leNat_leBytes (n x : Nat) (h : x < 256 ^ n) : leNat (leBytes n x) = x := by
  induction n generalizing x with
  | zero => simp at h; simp [leBytes, leNat, h]
  | succ n ih =>
    have h2 : x / 256 < 256 ^ n := by
      apply Nat.div_lt_of_lt_mul
      rw [pow_succ, Nat.mul_comm] at h
      exact h
    simp only [leBytes, leNat, ih _ h2, BitVec.toNat_ofNat]
    omega

/-- Reading a field of a list of pieces. -/
theorem le_append (a b : List Byte) (n : Nat) (h : b.length = n) (c : List Byte) : le (a ++ b ++ c) a.length n = leNat b := by
  unfold le
  rw [List.append_assoc, List.drop_left, ← h, List.take_left]

theorem overlay_full (l d : List Byte) (h : d.length = l.length) : overlay l 0 d = d := by
  unfold overlay
  simp [h]

theorem header_length (m : MSlot) : m.header.length = 16 := by
  simp [MSlot.header, leBytes_length]

/-- A request written over a slot. -/
theorem write_request (op : Nat) (hop : op < 2 ^ 16) (r : Req) (hr : r.payload.length ≤ 1008) (m : MSlot) :
    { m.write 0 (requestBytes op r) with device := true } = slotTaken op r m := by
  obtain ⟨sl, tag, level, byte5, len, crc, pl⟩ := r
  have hl : pl.take 1008 = pl := List.take_of_length_le hr
  have ht : (leBytes 2 op ++ leBytes 2 tag.toNat ++ [level, byte5] ++ leBytes 2 len.toNat ++ leBytes 4 0 ++ leBytes 4 crc.toNat).length = 16 := by
    simp [leBytes_length]
  unfold MSlot.write requestBytes slotTaken
  simp only [hl, Nat.sub_zero]
  rw [List.take_left' ht, List.drop_left' ht, overlay_full _ _ (by rw [ht, header_length])]
  have e1 : ∀ x y z : List Byte, le (leBytes 2 op ++ leBytes 2 tag.toNat ++ x ++ leBytes 2 len.toNat ++ y ++ z) 0 2 = op := by
    intro x y z
    have := le_append [] (leBytes 2 op) 2 (leBytes_length _ _) (leBytes 2 tag.toNat ++ x ++ leBytes 2 len.toNat ++ y ++ z)
    simp only [List.nil_append, List.length_nil] at this
    rw [leNat_leBytes 2 op (by omega)] at this
    simpa [List.append_assoc] using this
  have e2 : ∀ x y z : List Byte, le (leBytes 2 op ++ leBytes 2 tag.toNat ++ x ++ leBytes 2 len.toNat ++ y ++ z) 2 2 = tag.toNat := by
    intro x y z
    have := le_append (leBytes 2 op) (leBytes 2 tag.toNat) 2 (leBytes_length _ _) (x ++ leBytes 2 len.toNat ++ y ++ z)
    rw [leNat_leBytes 2 _ tag.isLt, leBytes_length] at this
    simpa [List.append_assoc] using this
  have e3 : ∀ y z : List Byte, le (leBytes 2 op ++ leBytes 2 tag.toNat ++ [level, byte5] ++ leBytes 2 len.toNat ++ y ++ z) 4 1 = level.toNat := by
    intro y z
    have := le_append (leBytes 2 op ++ leBytes 2 tag.toNat) [level] 1 rfl ([byte5] ++ leBytes 2 len.toNat ++ y ++ z)
    simp only [List.length_append, leBytes_length] at this
    simpa [List.append_assoc, leNat] using this
  have e4 : ∀ y z : List Byte, le (leBytes 2 op ++ leBytes 2 tag.toNat ++ [level, byte5] ++ leBytes 2 len.toNat ++ y ++ z) 5 1 = byte5.toNat := by
    intro y z
    have := le_append (leBytes 2 op ++ leBytes 2 tag.toNat ++ [level]) [byte5] 1 rfl (leBytes 2 len.toNat ++ y ++ z)
    simp only [List.length_append, leBytes_length] at this
    simpa [List.append_assoc, leNat] using this
  have e5 : ∀ y z : List Byte, le (leBytes 2 op ++ leBytes 2 tag.toNat ++ [level, byte5] ++ leBytes 2 len.toNat ++ y ++ z) 6 2 = len.toNat := by
    intro y z
    have := le_append (leBytes 2 op ++ leBytes 2 tag.toNat ++ [level, byte5]) (leBytes 2 len.toNat) 2 (leBytes_length _ _) (y ++ z)
    rw [leNat_leBytes 2 _ len.isLt] at this
    simp only [List.length_append, leBytes_length] at this
    simpa [List.append_assoc] using this
  have e6 : le (leBytes 2 op ++ leBytes 2 tag.toNat ++ [level, byte5] ++ leBytes 2 len.toNat ++ leBytes 4 0 ++ leBytes 4 crc.toNat) 12 4 = crc.toNat := by
    have := le_append (leBytes 2 op ++ leBytes 2 tag.toNat ++ [level, byte5] ++ leBytes 2 len.toNat ++ leBytes 4 0) (leBytes 4 crc.toNat) 4
      (leBytes_length _ _) []
    rw [leNat_leBytes 4 _ crc.isLt] at this
    simp only [List.length_append, leBytes_length] at this
    simpa [List.append_assoc] using this
  simp only [e1, e2, e3, e4, e5, e6, if_neg (by omega : ¬ (16 ≤ 0)), BitVec.ofNat_toNat, BitVec.setWidth_eq]
  cases pl with
  | nil => rfl
  | cons a l => simp [overlay]

theorem taken_slot (op : Nat) (hop : op < 2 ^ 16) (r : Req) (hr : r.payload.length ≤ 1008) (s : State) :
    (taken op r s).mb.slot.get r.slot.val = slotTaken op r (s.mb.slot.get r.slot.val) := by
  unfold taken
  simp only [Tab.get_upd_self]
  exact write_request op hop r hr _

theorem write_device (m : MSlot) (o : Nat) (d : List Byte) : (m.write o d).device = m.device := by
  unfold MSlot.write
  dsimp only
  split <;> split <;> rfl

theorem ringSlots_one (n : Fin 16) (s : State) (hp : s.sys.power = .run ∨ s.sys.power = .park)
    (hd : (s.mb.slot.get n.val).device = false) (hc : s.port.done.toNat.testBit n.val = false) :
    ringSlots (2 ^ n.val) s =
      { s with mb := { s.mb with
        slot := s.mb.slot.upd n.val (fun k => { k with device := true }), rings := s.mb.rings ++ [n.val] } } := by
  have hf : (List.range 16).filter (2 ^ n.val).testBit = [n.val] := by
    clear hd hc; revert n; decide
  unfold ringSlots
  rw [hf]
  have : forAll [n.val] ringSlot s = ringSlot n.val s := rfl
  rw [this]
  unfold ringSlot
  rw [hd, hc]
  simp only [Bool.or_self, Bool.false_eq_true, if_false]
  unfold exitNap mbUpd
  rcases hp with h | h <;> simp [h]

theorem slotTaken_payload (op : Nat) (r : Req) (m : MSlot) (hr : r.payload.length ≤ 1008) (hl : r.len.toNat = r.payload.length) :
    (slotTaken op r m).payload = r.payload := by
  unfold MSlot.payload slotTaken
  simp only [hl]
  apply List.ext_getElem
  · simp
  · intro i h1 h2
    simp only [List.length_map, List.length_range] at h1
    have hne : r.payload.isEmpty = false := by
      cases hp : r.payload with
      | nil => simp [hp] at h1
      | cons a l => rfl
    simp only [List.getElem_map, List.getElem_range, hne, Bool.false_eq_true, if_false]
    rw [List.getD_eq_getElem?_getD, List.getElem?_take, if_pos (by omega), List.getElem?_append_left h1, List.getElem?_eq_getElem h1]
    rfl

theorem dispatchOne_not_held (o : Outst) (s : State) (h : ∀ e ∈ s.mb.outst, (e.org == o.org) = true → (e.wait == .held) = false) :
    dispatchOne o s = s := by
  unfold dispatchOne
  split
  · rename_i e hf
    have h2 : (e.org == o.org) = true := by simpa using List.find?_some hf
    rw [h e (List.mem_of_find?_eq_some hf) h2]
    rfl
  · rfl

theorem dispatch_last (l : List Outst) (o : Outst) (s : State) (hs : s.mb.outst = l ++ [o]) (ho : o.wait = .held)
    (hl : l.all (fun e => e.wait != .held && e.org != o.org) = true) (hr : mayRun s l o = true) : dispatchHeld s = runCommand o s := by
  have hall := List.all_eq_true.mp hl
  have hne : ∀ e ∈ l, (e.org == o.org) = false := by
    intro e he
    have := hall e he
    simp only [Bool.and_eq_true, bne_iff_ne, ne_eq] at this
    simpa using this.2
  have h1 : ∀ m : List Outst, (∀ e ∈ m, e ∈ l) → forAll m dispatchOne s = s := by
    intro m hm
    unfold forAll
    induction m with
    | nil => rfl
    | cons e m ih =>
      rw [List.foldl_cons, dispatchOne_not_held e s]
      · exact ih (fun y hy => hm y (by simp [hy]))
      · intro x hx hxe
        rw [hs, List.mem_append, List.mem_singleton] at hx
        rcases hx with hx | hx
        · have := hall x hx
          simp only [Bool.and_eq_true, bne_iff_ne, ne_eq] at this
          simpa using this.1
        · exfalso
          subst hx
          have h2 := hne e (hm e (by simp))
          simp only [beq_iff_eq, beq_eq_false_iff_ne, ne_eq] at hxe h2
          exact h2 hxe.symm
  have h3 : forAll (l ++ [o]) dispatchOne s = dispatchOne o (forAll l dispatchOne s) := by
    unfold forAll
    rw [List.foldl_append]
    rfl
  unfold dispatchHeld
  rw [hs, h3, h1 l (fun e he => he)]
  have htw : (l ++ [o]).takeWhile (fun x => x.org != o.org) = l := by
    rw [List.takeWhile_append_of_pos]
    · simp
    · intro e he
      have := hne e he
      simp only [bne, this, Bool.not_false]
  have hfd : (l ++ [o]).find? (fun x => x.org == o.org) = some o := by
    rw [List.find?_append, List.find?_eq_none.mpr]
    · simp
    · intro e he; simp [hne e he]
  unfold dispatchOne
  rw [hs, htw, hfd]
  simp only [ho, hr, beq_self_eq_true, Bool.and_true, if_true]

theorem cardOf_op (op : Nat) (c : Card) (h : cardOf op = some c) : c.op = op := by
  unfold cardOf at h
  split at h
  · rename_i e
    injection h with h
    rw [← h, e]
    rfl
  · simpa using List.find?_some h

theorem levelCheck_accepts (op : Nat) (c : Card) (r : Req) (s : State) (h : Accepts op c r s) (m : Mbox) (hm : m.level = s.mb.level) :
    levelCheck { s with mb := m } c r.level.toNat r.payload = none := by
  unfold levelCheck
  dsimp only
  rw [hm, h.need, cardOf_op op c h.card, if_neg, if_pos rfl]
  rcases h.level with e | e
  · rw [e]; simp
  · rw [decide_eq_true e]; simp

theorem takeCheck_accepts (op : Nat) (c : Card) (r : Req) (s : State) (h : Accepts op c r s) (m : Mbox) (k : MSlot)
    (h1 : m.outst = s.mb.outst) (h2 : m.epoch = s.mb.epoch) (h3 : m.level = s.mb.level)
    (ko : k.opcode.toNat = op) (kt : k.tag = r.tag) (kl : k.level = r.level) (kc : k.crc = r.crc) (kn : k.len = r.len)
    (kb : k.byte5 = r.byte5) (kp : k.payload = r.payload) : takeCheck { s with mb := m } k = none := by
  unfold takeCheck
  dsimp only
  rw [ko, kp, kt, kl, kc, kn, kb, h1, h2, h.len]
  rw [if_neg (Nat.not_lt.mpr h.room), if_neg (fun e => e h.crc.symm), if_neg (fun e => e h.zero)]
  have hf : s.mb.outst.find? (fun o => !(op == 0x0001) && o.isSlot && o.tag == r.tag.toNat) = none := by
    rw [List.find?_eq_none]
    intro o ho
    have := (List.all_eq_true.mp h.tag) o ho
    simp only [Bool.not_eq_true'] at this
    simp only [Bool.and_assoc, this, Bool.and_false, Bool.false_eq_true, not_false_eq_true]
  rw [hf]
  dsimp only
  have hsv : servedCard { s with mb := m } op = some c := by
    unfold servedCard
    dsimp only
    rcases h.normal with e | e
    · rw [e, Bool.false_and, if_neg Bool.false_ne_true, h.card]
    · rw [e.1, Bool.not_true, Bool.and_false, if_neg Bool.false_ne_true, h.card]
  rw [hsv]
  dsimp only
  rw [levelCheck_accepts op c r s h m h3]
  rcases h.epoch with e | e
  · have : (op == 0x0001) = true := by rw [e]; rfl
    rw [this]; rfl
  · rw [e]; simp

theorem mayRun_accepts (op : Nat) (c : Card) (r : Req) (s : State) (h : Accepts op c r s) (m : Mbox) :
    mayRun { s with mb := m } s.mb.outst (entryOf op r) = true := by
  unfold mayRun
  dsimp only
  have hst : (s.sys.restored || s.sys.recovery || early.contains op) = true := by
    rcases h.started with e | e | e
    · rw [e]; rfl
    · rw [e, Bool.or_true]; rfl
    · rw [e]; exact Bool.or_true _
  have hng : ((s.sys.negotiated && !s.pr.adopt) || !mtKeyed (entryOf op r)) = true := by
    rcases h.negotiated with e | e
    · rw [e.1, e.2]; rfl
    · rw [e]; exact Bool.or_true _
  have hfr : (atTake.contains op || !s.mb.outst.any (fun e => blocks e (entryOf op r) c.journals)) = true := by
    rcases h.free with e | e
    · rw [e]; rfl
    · rw [Bool.or_eq_true]
      right
      rw [Bool.not_eq_true', List.any_eq_false]
      intro x hx
      have := (List.all_eq_true.mp e) x hx
      simpa using this
  have hc : (cardOf (entryOf op r).opcode).any (·.journals) = c.journals := by
    show (cardOf op).any (·.journals) = c.journals
    rw [h.card]; rfl
  rw [hc, hng]
  show (_ && _ && (_ || _)) = true
  have e1 : (entryOf op r).opcode = op := rfl
  rw [e1, hst, hfr]
  rfl

/-- The take of a request that passes every check (R444): it executes on the state in which it has been taken. -/
theorem cardRow_accepts (op : Nat) (hop : op < 2 ^ 16) (c : Card) (r : Req) (s : State) (h : Accepts op c r s) :
    cardRow op r s = runCommand (entryOf op r) (taken op r s) := by
  have hpo : portOn s = true := by unfold portOn; rcases h.power with e | e <;> rw [e] <;> rfl
  unfold cardRow
  rw [if_pos hpo]
  unfold slotWriteMem
  rw [if_neg (by rw [h.mine]; exact Bool.false_ne_true)]
  rw [ringSlots_one r.slot _ (by simpa using h.power) (by simpa [write_device] using h.mine) (by simpa using h.clear)]
  simp only [mbUpd, h.rings, List.nil_append]
  unfold takeOnly
  dsimp only
  have hs : ∀ m : Mbox, serves { s with mb := m } = true := by
    intro m
    unfold serves portOn
    rcases h.power with e | e <;> simp [h.ready, e]
  rw [hs, if_pos rfl]
  unfold mbUpd takeSlot
  dsimp only
  have hslot : ((s.mb.slot.upd r.slot.val (fun k => k.write 0 (requestBytes op r))).upd r.slot.val (fun k => { k with device := true })).get
      r.slot.val = slotTaken op r (s.mb.slot.get r.slot.val) := by
    rw [Tab.get_upd_self, Tab.get_upd_self]
    exact write_request op hop r h.room _
  rw [hslot]
  have hpay := slotTaken_payload op r (s.mb.slot.get r.slot.val) h.room h.len
  have hop' : (slotTaken op r (s.mb.slot.get r.slot.val)).opcode.toNat = op := by
    unfold slotTaken; exact Nat.mod_eq_of_lt hop
  unfold mbUpd
  dsimp only
  rw [takeCheck_accepts op c r s h _ _ ?_ ?_ ?_ hop' rfl rfl rfl rfl rfl hpay] <;> try rfl
  dsimp only
  have hlv : (if s.sys.recovery then 1 else r.level.toNat) = r.level.toNat := by
    rcases h.normal with e | e
    · rw [e]; rfl
    · rw [e.2]; exact ite_self 1
  rw [hop', hpay, show (slotTaken op r (s.mb.slot.get r.slot.val)).level = r.level from rfl, hlv]
  exact dispatch_last s.mb.outst (entryOf op r) _ rfl rfl h.held (mayRun_accepts op c r s h _)

/-- A command that completes at once with OK. -/
theorem card_ok (op : Nat) (hop : op < 2 ^ 16) (c : Card) (r : Req) (s u : State) (resp : List Byte) (h : Accepts op c r s)
    (hk : mtKeyed (entryOf op r) = false)
    (hb : c.body (.slot r.slot.val) r.level.toNat r.payload (taken op r s) = (u, .ok resp)) :
    done s (cardRow op r s) = .next (after s (answered r resp u)) := by
  unfold done after answered
  rw [cardRow_accepts op hop c r s h]
  unfold runCommand
  have hc : cardOf (entryOf op r).opcode = some c := h.card
  rw [hc]
  dsimp only
  have hb' : c.body (entryOf op r).org (entryOf op r).level (entryOf op r).req (taken op r s) = (u, .ok resp) := hb
  rw [hb']
  rw [hk]
  rfl

/-- A command that stays outstanding. -/
theorem card_wait (op : Nat) (hop : op < 2 ^ 16) (c : Card) (r : Req) (s u : State) (w : Wait) (h : Accepts op c r s)
    (hb : c.body (.slot r.slot.val) r.level.toNat r.payload (taken op r s) = (u, .wait w)) :
    done s (cardRow op r s) = .next (after s (waiting r w u)) := by
  unfold done after waiting
  rw [cardRow_accepts op hop c r s h]
  unfold runCommand
  have hc : cardOf (entryOf op r).opcode = some c := h.card
  rw [hc]
  dsimp only
  have hb' : c.body (entryOf op r).org (entryOf op r).level (entryOf op r).req (taken op r s) = (u, .wait w) := hb
  rw [hb']
  rfl

/-- A request that the card refuses. -/
theorem card_no (op : Nat) (hop : op < 2 ^ 16) (c : Card) (r : Req) (s u : State) (st d : Nat) (h : Accepts op c r s) (hst : 1 < st)
    (hb : c.body (.slot r.slot.val) r.level.toNat r.payload (taken op r s) = (u, .no st d)) :
    done s (cardRow op r s) =
      .next (after s (complete (.slot r.slot.val) st d [] (mbUpd (fun m => { m with refused := sat32 m.refused }) u))) := by
  unfold done after
  rw [cardRow_accepts op hop c r s h]
  unfold runCommand
  have hc : cardOf (entryOf op r).opcode = some c := h.card
  rw [hc]
  dsimp only
  have hb' : c.body (entryOf op r).org (entryOf op r).level (entryOf op r).req (taken op r s) = (u, .no st d) := hb
  rw [hb']
  have hw : (decide (1 < st) && (entryOf op r).isSlot) = true := by simp [hst, entryOf, Outst.isSlot]
  have hs : (mtKeyed (entryOf op r) && decide (st ≤ 1)) = false := by simp; omega
  unfold Res.no
  dsimp only
  rw [hw, hs]
  rfl

/-- A mailbox command is the write of its request, its ring and its take. -/
theorem exec_call (i : Instr) (op : Nat) (r : Req) (s : State) (h : i.call = some (op, r)) : exec i s = done s (cardRow op r s) := by
  cases i <;> simp only [Instr.call, reduceCtorEq, Option.some.injEq, Prod.mk.injEq] at h <;> (obtain ⟨h1, h2⟩ := h; subst h2; subst h1; rfl)

/-- A request that fails a check of R444 (checks 1 to 9). -/
theorem take_refused (op : Nat) (hop : op < 2 ^ 16) (r : Req) (hroom : r.payload.length ≤ 1008) (s : State) (st d : Nat)
    (hp : s.sys.power = .run ∨ s.sys.power = .park) (hrd : s.sys.ready = true)
    (hm : (s.mb.slot.get r.slot.val).device = false) (hcl : s.port.done.toNat.testBit r.slot.val = false) (hri : s.mb.rings = [])
    (ht : ∀ m : Mbox, m.outst = s.mb.outst → m.epoch = s.mb.epoch → m.level = s.mb.level →
      takeCheck { s with mb := m } (slotTaken op r (s.mb.slot.get r.slot.val)) = some (st, d)) :
    cardRow op r s = completeSlot r.slot.val st d [] false
      { s with mb := { s.mb with
          slot := (s.mb.slot.upd r.slot.val (fun k => k.write 0 (requestBytes op r))).upd r.slot.val (fun k => { k with device := true })
          taken := sat32 s.mb.taken
          refused := sat32 s.mb.refused
          rings := [] } } := by
  have hpo : portOn s = true := by unfold portOn; rcases hp with e | e <;> rw [e] <;> rfl
  unfold cardRow
  rw [if_pos hpo]
  unfold slotWriteMem
  rw [if_neg (by rw [hm]; exact Bool.false_ne_true)]
  rw [ringSlots_one r.slot _ (by simpa using hp) (by simpa [write_device] using hm) (by simpa using hcl)]
  simp only [mbUpd, hri, List.nil_append]
  unfold takeOnly
  dsimp only
  have hs : ∀ m : Mbox, serves { s with mb := m } = true := by
    intro m
    unfold serves portOn
    rcases hp with e | e <;> simp [hrd, e]
  rw [hs, if_pos rfl]
  unfold mbUpd takeSlot
  dsimp only
  have hslot : ((s.mb.slot.upd r.slot.val (fun k => k.write 0 (requestBytes op r))).upd r.slot.val (fun k => { k with device := true })).get
      r.slot.val = slotTaken op r (s.mb.slot.get r.slot.val) := by
    rw [Tab.get_upd_self, Tab.get_upd_self]
    exact write_request op hop r hroom _
  rw [hslot]
  unfold mbUpd
  dsimp only
  rw [ht _ ?_ ?_ ?_] <;> rfl

/-! ## Cards, from their conditions -/

@[simp] theorem allOk_nil : allOk [] = true := rfl
@[simp] theorem allOk_cons (c : Bool × Nat) (l : List (Bool × Nat)) : allOk (c :: l) = (c.1 && allOk l) := rfl
@[simp] theorem allOk_append (a b : List (Bool × Nat)) : allOk (a ++ b) = (allOk a && allOk b) := by simp [allOk]
theorem allOk_zero (p : List Byte) (o n : Nat) : allOk (zero p o n) = zeroed p o n := rfl
theorem allOk_mapped (fs : List Field) (b : Nat) (x : Img) : allOk (mapped fs b x) = keeps fs x := by
  simp [keeps, allOk, mapped, List.all_map, Function.comp_def]
theorem allOk_flatMap {α : Type} (l : List α) (f : α → List (Bool × Nat)) : allOk (l.flatMap f) = l.all (fun a => allOk (f a)) := by
  simp [allOk, List.all_flatMap]

theorem firstBad_ok (cs : List (Bool × Nat)) (h : allOk cs = true) : firstBad cs = none := by
  unfold firstBad
  have : cs.filter (fun c => !c.1) = [] := by
    rw [List.filter_eq_nil_iff]
    intro c hc
    have := (List.all_eq_true.mp h) c hc
    simp [this]
  rw [this]
  rfl

/-- A card whose RANGE checks all hold goes on. -/
theorem ranged_ok (cs : List (Bool × Nat)) (s : State) (k : Unit → State × Res) (h : allOk cs = true) : ranged cs s k = k () := by
  unfold ranged
  rw [firstBad_ok cs h]

/-- A card with a failing check is refused with RANGE and the lowest offset. -/
theorem ranged_bad (cs : List (Bool × Nat)) (s : State) (k : Unit → State × Res) (d : Nat) (h : firstBad cs = some d) :
    ranged cs s k = (s, .no St.range d) := by
  unfold ranged
  rw [h]

theorem journalArg_ok (r : Req) (adv : Bool) (arg : Nat) (ws : List CfgWrite) (resp : List Byte) (t : State) (h : room ws t = true) :
    journalArg (.slot r.slot.val) adv arg ws resp t =
      (submit { typ := .config, slots := writesSlots adv ws, writes := ws, gen := if adv then some none else none,
                org := some (.slot r.slot.val), resp := resp, arg := arg } t, .wait .journal) := by
  unfold room at h
  rw [Bool.and_eq_true, Bool.not_eq_true', Bool.not_eq_true', decide_eq_false_iff_not] at h
  unfold journalArg
  rw [if_neg (by rw [h.1]; exact Bool.false_ne_true), if_neg h.2]

theorem takes_ok {op : Nat} {r : Req} {p : List Byte} {s t u : State} {resp : List Byte} (c : Card) (e : cardOf op = some c)
    (hop : op < 2 ^ 16) (h : Takes op r p s t) (hb : c.body (.slot r.slot.val) r.level.toNat p t = (u, .ok resp))
    (hk : mtKeyed (entryOf op r) = false := by rfl) :
    done s (cardRow op r s) = .next (after s (answered r resp u)) := by
  obtain ⟨⟨c', hc⟩, rfl, rfl⟩ := h
  have : c' = c := Option.some.inj (hc.card.symm.trans e)
  subst this
  exact card_ok op hop c' r s u resp hc hk hb

theorem takes_wait {op : Nat} {r : Req} {p : List Byte} {s t u : State} {w : Wait} (c : Card) (e : cardOf op = some c)
    (hop : op < 2 ^ 16) (h : Takes op r p s t) (hb : c.body (.slot r.slot.val) r.level.toNat p t = (u, .wait w)) :
    done s (cardRow op r s) = .next (after s (waiting r w u)) := by
  obtain ⟨⟨c', hc⟩, rfl, rfl⟩ := h
  have : c' = c := Option.some.inj (hc.card.symm.trans e)
  subst this
  exact card_wait op hop c' r s u w hc hb

/-- A card that submits a record of the configuration. -/
theorem takes_recorded {op : Nat} {r : Req} {p : List Byte} {s t : State} {adv : Bool} {arg : Nat} {ws : List CfgWrite}
    {resp : List Byte} (c : Card) (e : cardOf op = some c) (hop : op < 2 ^ 16) (h : Takes op r p s t) (hr : room ws t = true)
    (hb : c.body (.slot r.slot.val) r.level.toNat p t = journalArg (.slot r.slot.val) adv arg ws resp t) :
    done s (cardRow op r s) = .next (after s (recorded r adv arg ws resp t)) :=
  takes_wait c e hop h (hb.trans (journalArg_ok r adv arg ws resp t hr))

/-- A card that is refused. -/
theorem takes_no {op : Nat} {r : Req} {p : List Byte} {s t u : State} {st d : Nat} {resp : List Byte} (c : Card)
    (e : cardOf op = some c) (hop : op < 2 ^ 16) (h : Takes op r p s t) (hst : 1 < st)
    (hb : c.body (.slot r.slot.val) r.level.toNat p t = (u, .done st d resp)) :
    done s (cardRow op r s) = .next (after s (refusedWith r st d resp u)) := by
  obtain ⟨⟨c', hc⟩, rfl, rfl⟩ := h
  have : c' = c := Option.some.inj (hc.card.symm.trans e)
  subst this
  unfold done after refusedWith
  rw [cardRow_accepts op hop c' r s hc]
  unfold runCommand
  have h2 : cardOf (entryOf op r).opcode = some c' := hc.card
  rw [h2]
  dsimp only
  have hb' : c'.body (entryOf op r).org (entryOf op r).level (entryOf op r).req (taken op r s) = (u, .done st d resp) := hb
  rw [hb']
  have hw : (decide (1 < st) && (entryOf op r).isSlot) = true := by simp [hst, entryOf, Outst.isSlot]
  have hs : (mtKeyed (entryOf op r) && decide (st ≤ 1)) = false := by simp; omega
  dsimp only
  rw [hw, hs]
  rfl

/-- A card that completes with ACCEPTED. -/
theorem takes_accepted {op : Nat} {r : Req} {p : List Byte} {s t u : State} (c : Card)
    (e : cardOf op = some c) (hop : op < 2 ^ 16) (h : Takes op r p s t)
    (hb : c.body (.slot r.slot.val) r.level.toNat p t = (u, .done St.accepted 0 []))
    (hk : mtKeyed (entryOf op r) = false := by rfl) :
    done s (cardRow op r s) = .next (after s (complete (.slot r.slot.val) St.accepted 0 [] u)) := by
  obtain ⟨⟨c', hc⟩, rfl, rfl⟩ := h
  have : c' = c := Option.some.inj (hc.card.symm.trans e)
  subst this
  unfold done after
  rw [cardRow_accepts op hop c' r s hc]
  unfold runCommand
  have h2 : cardOf (entryOf op r).opcode = some c' := hc.card
  rw [h2]
  dsimp only
  have hb' : c'.body (entryOf op r).org (entryOf op r).level (entryOf op r).req (taken op r s) = (u, .done St.accepted 0 []) := hb
  rw [hb']
  rw [hk]
  rfl

/-- A command that keys an entry to MT, and that completes without a refusal: an entry it has set in the past dispatches at once. -/
theorem takes_keyed {op : Nat} {r : Req} {p : List Byte} {s t u : State} {st : Nat} {resp : List Byte} (c : Card)
    (e : cardOf op = some c) (hop : op < 2 ^ 16) (h : Takes op r p s t) (hst : st ≤ 1) (hk : mtKeyed (entryOf op r) = true)
    (hb : c.body (.slot r.slot.val) r.level.toNat p t = (u, .done st 0 resp)) :
    done s (cardRow op r s) = .next (after s (complete (.slot r.slot.val) st 0 resp (dispatchAll u))) := by
  obtain ⟨⟨c', hc⟩, rfl, rfl⟩ := h
  have : c' = c := Option.some.inj (hc.card.symm.trans e)
  subst this
  unfold done after
  rw [cardRow_accepts op hop c' r s hc]
  unfold runCommand
  have h2 : cardOf (entryOf op r).opcode = some c' := hc.card
  rw [h2]
  dsimp only
  have hb' : c'.body (entryOf op r).org (entryOf op r).level (entryOf op r).req (taken op r s) = (u, .done st 0 resp) := hb
  rw [hb']
  have hw : (decide (1 < st) && (entryOf op r).isSlot) = false := by simp [Nat.not_lt.mpr hst]
  have hs : (mtKeyed (entryOf op r) && decide (st ≤ 1)) = true := by simp [hk, hst]
  dsimp only
  rw [hw, hs]
  rfl

/-- The entry of a command that has just been taken. -/
theorem takes_entry {op : Nat} {r : Req} {p : List Byte} {s t : State} (h : Takes op r p s t) :
    t.mb.outst.find? (fun o => o.org == .slot r.slot.val) = some (entryOf op r) := by
  obtain ⟨⟨c, hc⟩, -, rfl⟩ := h
  show (s.mb.outst ++ [entryOf op r]).find? _ = _
  rw [List.find?_append, List.find?_eq_none.mpr]
  · simp [entryOf]
  · intro o ho
    have := (List.all_eq_true.mp hc.held) o ho
    simp only [Bool.and_eq_true, bne_iff_ne, ne_eq] at this
    simp [this.2]

end Sys2Proof.Machine
end

