-- ==== Sys2Proof/Laws/Cards.lean ====
section
/-!
SUPPORT. What the cards that carry large records answer, with the record as a variable: a kernel that unfolds such a record evaluates
its powers of two, so proofs cite these lemmas and do not unfold the cards.
-/

namespace Sys2Proof.Machine

open Sys2Proof

/-- A check of the first byte that fails is the one that is reported. -/
theorem firstBad_zero (l : List (Bool × Nat)) : firstBad ((false, 0) :: l) = some 0 := by
  unfold firstBad
  have h : ∀ m : List Nat, List.foldl min 0 m = 0 := by
    intro m
    induction m with
    | nil => rfl
    | cons a m ih => rw [List.foldl_cons, Nat.zero_min]; exact ih
  simp [List.min?, h]

theorem commitTable_bad (org : Origin) (x : Img) (t : State) (d : Nat)
    (h : tableFault (fld (cfgImg t Kind.pn 0) 8 4 + 1) 4 x = some d) : commitTable org x t = (t, .no St.range d) := by
  unfold commitTable
  rw [h]

theorem commitTable_ok (org : Origin) (x : Img) (t : State) (h : tableFault (fld (cfgImg t Kind.pn 0) 8 4 + 1) 4 x = none)
    (hf : (List.range 16).any (fun r => (t.region r).state != .free) = false) :
    commitTable org x t = journalArg org true 0 [wr Kind.wave 0 x] [] t := by
  unfold commitTable
  rw [h]
  dsimp only
  rw [hf, if_neg (by decide)]
  rfl

/-- PN_LOAD_TABLE with PART 3. -/
theorem cardPnTable_commit (org : Origin) (l : Nat) (p : List Byte) (t : State) (h : le p 0 1 = 3) (hz : zeroed p 1 3 = true) :
    cardPnTable org l p t = commitTable org (stagedTable t) t := by
  unfold cardPnTable
  dsimp only
  rw [ranged_ok _ _ _ (by simp only [allOk_append, allOk_cons, allOk_nil, allOk_zero, h, hz]; rfl), if_pos h]

theorem setLoop_ok (org : Origin) (ln arg : Nat) (x : Img) (t : State) (h1 : (loopWords x).all (wordOk x) = true)
    (h2 : loopCost x ≤ 700) (h3 : targetsFault (cfgImg t Kind.point) ln x = none) (h4 : (lifeTargets x).find? (isMember t) = none)
    (h5 : (lpMirror x && decide (2048 ≤ mirrorLoops t ln)) = false)
    (h6 : (!allNormal t && (lpLife x || (loopConfigured t ln && lpLife (cfgImg t Kind.loop ln)))) = false) :
    setLoop org ln arg x t = journalArg org true arg [wr Kind.loop ln x] (leBytes 2 (loopCost x)) t := by
  unfold setLoop
  rw [h1, if_neg (by decide), if_neg (Nat.not_lt.mpr h2), h3, h4, h5, if_neg (by decide), h6, if_neg (by decide)]

theorem setLoop_badProgram (org : Origin) (ln arg : Nat) (x : Img) (t : State) (h : (loopWords x).all (wordOk x) = false) :
    setLoop org ln arg x t = (t, .no St.badProgram 0) := by
  unfold setLoop
  rw [h, if_pos (by decide)]

theorem setLoop_cost (org : Origin) (ln arg : Nat) (x : Img) (t : State) (h1 : (loopWords x).all (wordOk x) = true)
    (h2 : 700 < loopCost x) : setLoop org ln arg x t = (t, .no St.loopCost 0) := by
  unfold setLoop
  rw [h1, if_neg (by decide), if_pos h2]

/-- LP_SET_LOOP whose range checks hold. -/
theorem cardSetLoop_ranged (org : Origin) (l : Nat) (p : List Byte) (t : State) (h0 : le p 0 2 ≤ 8191) (h1 : le p 2 1 ≤ 1)
    (h2 : zeroed p 3 1 = true) (h3 : keeps loopFields (le p 4 16) = true)
    (h4 : (lpLife (cleanImg loopFields (le p 4 16)) || decide (3 ≤ lpDefPri (cleanImg loopFields (le p 4 16)))) = true) :
    cardSetLoop org l p t = setLoop org (le p 0 2) (le p 2 1) (loopRecord p) t := by
  unfold cardSetLoop
  dsimp only
  rw [ranged_ok _ _ _ (by
    simp only [allOk_append, allOk_cons, allOk_nil, allOk_zero, allOk_mapped, h0, h1, h2, h3, h4, decide_true, Bool.and_true])]

end Sys2Proof.Machine
end

