-- ==== Sys2Proof/Laws/Events.lean ====
section
/-!
SUPPORT. Everything that raising an event can do: it changes the benches and latches of the host port, the journal's queue and its
ring and counts, and the count of numbers past a limit, and nothing else.
-/

namespace Sys2Proof.Machine

open Sys2Proof

/-- `t` differs from `s` at most in what writing packets changes. -/
def EventFrame (s t : State) : Prop :=
  ∃ (p : Port) (q : List JRec) (ls sq : U32) (bw : Nat) (rg : Tab (Option Img)) (cd : Nat) (ps : List Nat) (past : Tab Nat),
    t = { s with
      port := p
      nv := { s.nv with queue := q, lastSeq := ls, seq := sq, bytesWritten := bw, ring := rg, chainDone := cd, passed := ps }
      sn := { s.sn with past := past } }

theorem EventFrame.rfl (s : State) : EventFrame s s := ⟨s.port, s.nv.queue, s.nv.lastSeq, s.nv.seq, s.nv.bytesWritten, s.nv.ring, s.nv.chainDone, s.nv.passed, s.sn.past, Eq.refl _⟩

theorem EventFrame.trans {s t u : State} (h : EventFrame s t) (k : EventFrame t u) : EventFrame s u := by
  obtain ⟨p, q, ls, sq, bw, rg, cd, ps, past, rfl⟩ := h
  obtain ⟨p', q', ls', sq', bw', rg', cd', ps', past', rfl⟩ := k
  exact ⟨p', q', ls', sq', bw', rg', cd', ps', past', Eq.refl _⟩

theorem EventFrame.port (s : State) (p : Port) : EventFrame s { s with port := p } :=
  ⟨p, s.nv.queue, s.nv.lastSeq, s.nv.seq, s.nv.bytesWritten, s.nv.ring, s.nv.chainDone, s.nv.passed, s.sn.past, Eq.refl _⟩

theorem benchUpd_frame (b : Nat) (f : Bench → Bench) (s : State) : EventFrame s (benchUpd b f s) := EventFrame.port s _

theorem setIrq_frame (n : Nat) (s : State) : EventFrame s (setIrq n s) := EventFrame.port s _

theorem evalWmark_frame (s : State) : EventFrame s (evalWmark s) := by
  unfold evalWmark
  dsimp only
  split
  · exact (EventFrame.port s _).trans (setIrq_frame _ _)
  · exact EventFrame.port s _

theorem storePacket_frame (b : Nat) (p : Packet) (s : State) : EventFrame s (storePacket b p s) :=
  ((benchUpd_frame b _ s).trans (setIrq_frame _ _)).trans (evalWmark_frame _)

theorem reserveFor_frame (b : Nat) (s : State) : EventFrame s (reserveFor b s) := by
  unfold reserveFor
  dsimp only
  split
  · exact ⟨_, s.nv.queue, _, _, _, _, _, _, _, Eq.refl _⟩
  · exact EventFrame.rfl s

theorem takeSeq_frame (b : Nat) (s : State) : EventFrame s (takeSeq b s) := by
  unfold takeSeq
  refine (reserveFor_frame b s).trans ?_
  generalize reserveFor b s = s1
  dsimp only
  have h2 := fun f => benchUpd_frame b f s1
  generalize hg : benchUpd b _ s1 = s2
  have h3 : EventFrame s1 s2 := by rw [← hg]; exact h2 _
  have h4 : ∀ c : Bool, EventFrame s1 (if c = true then { s2 with sn := { s2.sn with past := s2.sn.past.upd b (· + 1) } } else s2) := by
    intro c
    split
    · exact h3.trans ⟨s2.port, s2.nv.queue, s2.nv.lastSeq, s2.nv.seq, s2.nv.bytesWritten, s2.nv.ring, s2.nv.chainDone, s2.nv.passed, _, Eq.refl _⟩
    · exact h3
  generalize hc : (s1.fenced && needsLimit (s1.port.bench.get b)) = c
  have h5 := h4 c
  split
  · revert h5
    generalize (if c = true then { s2 with sn := { s2.sn with past := s2.sn.past.upd b (· + 1) } } else s2) = s3
    intro h5
    exact h5.trans ⟨s3.port, _, s3.nv.lastSeq, s3.nv.seq, s3.nv.bytesWritten, s3.nv.ring, s3.nv.chainDone, s3.nv.passed, s3.sn.past, Eq.refl _⟩
  · exact h5

theorem reserveNow_port (b : Nat) (l : U32) (s : State) : (reserveNow b l s).port = s.port := Eq.refl _

/-- A reservation changes no other bench, and of its own nothing that a reader of the stream sees. -/
theorem reserveFor_bench (b : Nat) (s : State) :
    ((reserveFor b s).port.bench.get b).store = (s.port.bench.get b).store ∧
    ((reserveFor b s).port.bench.get b).backlog = (s.port.bench.get b).backlog ∧
    ((reserveFor b s).port.bench.get b).next = (s.port.bench.get b).next ∧
    ∀ c, c ≠ b → (reserveFor b s).port.bench.get c = s.port.bench.get c := by
  unfold reserveFor
  dsimp only
  split
  · unfold benchUpd
    rw [reserveNow_port]
    dsimp only
    refine ⟨?_, ?_, ?_, fun c h => ?_⟩
    · rw [Tab.get_upd_self]
    · rw [Tab.get_upd_self]
    · rw [Tab.get_upd_self]
    · unfold Tab.upd; rw [Tab.get_set_other _ _ _ _ h]
  · exact ⟨Eq.refl _, Eq.refl _, Eq.refl _, fun _ _ => Eq.refl _⟩

/-- The rest of `takeSeq`, behind the reservation, writes the port through its one bench. -/
theorem takeSeq_port (b : Nat) (s : State) : ∃ r : Bool, (takeSeq b s).port =
    (benchUpd b (fun q => { q with next := q.next + 1, reserving := r }) (reserveFor b s)).port := by
  unfold takeSeq benchUpd Tab.upd
  generalize reserveFor b s = u
  dsimp only
  exact ⟨(u.port.bench.get b).reserving || (decide (cycDiff (u.port.bench.get b).limit ((u.port.bench.get b).next + 1) ≤ 32768) &&
    !(u.port.bench.get b).reserving && !u.fenced), by split <;> split <;> exact Eq.refl _⟩

/-- Taking a number moves the bench's next one on, and leaves its storage and every other bench as they are. -/
theorem takeSeq_bench (b : Nat) (s : State) :
    ((takeSeq b s).port.bench.get b).store = (s.port.bench.get b).store ∧
    ((takeSeq b s).port.bench.get b).backlog = (s.port.bench.get b).backlog ∧
    ((takeSeq b s).port.bench.get b).next = (s.port.bench.get b).next + 1 ∧
    ∀ c, c ≠ b → (takeSeq b s).port.bench.get c = s.port.bench.get c := by
  obtain ⟨r, h⟩ := takeSeq_port b s
  obtain ⟨h1, h2, h3, h4⟩ := reserveFor_bench b s
  rw [h]
  unfold benchUpd
  dsimp only
  refine ⟨?_, ?_, ?_, fun c hc => ?_⟩
  · rw [Tab.get_upd_self]; exact h1
  · rw [Tab.get_upd_self]; exact h2
  · rw [Tab.get_upd_self]; dsimp only; rw [h3]
  · unfold Tab.upd; rw [Tab.get_set_other _ _ _ _ hc]; exact h4 c hc

theorem writeOver_frame (b typ detail : Nat) (body : List U64) (s : State) : EventFrame s (writeOver b typ detail body s) := by
  unfold writeOver
  dsimp only
  exact ((takeSeq_frame b s).trans (EventFrame.port _ _)).trans (storePacket_frame _ _ _)

theorem writeKeep_frame (b typ detail : Nat) (body : List U64) (s : State) : EventFrame s (writeKeep b typ detail body s) := by
  unfold writeKeep
  dsimp only
  split
  · exact (takeSeq_frame b s).trans (storePacket_frame _ _ _)
  · split
    · split
      · exact (((benchUpd_frame b _ s).trans (takeSeq_frame b _)).trans (setIrq_frame _ _)).trans (writeOver_frame _ _ _ _ _)
      · exact (benchUpd_frame b _ s).trans (takeSeq_frame b _)
    · exact benchUpd_frame b _ s

theorem writePacket_frame (b typ detail : Nat) (body : List U64) (s : State) : EventFrame s (writePacket b typ detail body s) := by
  unfold writePacket
  split
  · exact EventFrame.rfl s
  · split
    · exact writeKeep_frame _ _ _ _ _
    · exact writeOver_frame _ _ _ _ _

/-- Raising an event changes the host port, the journal's queue, ring and counts, and the counts past a limit, at most. -/
theorem raise_frame (b typ : Nat) (fields : List EvF) (s : State) : EventFrame s (raise b typ fields s) := writePacket_frame _ _ _ _ _

theorem EventFrame.pr {s t : State} (h : EventFrame s t) : t.pr = s.pr := by obtain ⟨p, q, ls, sq, bw, rg, cd, ps, past, rfl⟩ := h; exact Eq.refl _
theorem EventFrame.sys {s t : State} (h : EventFrame s t) : t.sys = s.sys := by obtain ⟨p, q, ls, sq, bw, rg, cd, ps, past, rfl⟩ := h; exact Eq.refl _
theorem EventFrame.mt {s t : State} (h : EventFrame s t) : t.mt = s.mt := by obtain ⟨p, q, ls, sq, bw, rg, cd, ps, past, rfl⟩ := h; exact Eq.refl _
theorem EventFrame.cal {s t : State} (h : EventFrame s t) : t.cal = s.cal := by obtain ⟨p, q, ls, sq, bw, rg, cd, ps, past, rfl⟩ := h; exact Eq.refl _
theorem EventFrame.rtc {s t : State} (h : EventFrame s t) : t.rtc = s.rtc := by obtain ⟨p, q, ls, sq, bw, rg, cd, ps, past, rfl⟩ := h; exact Eq.refl _
theorem EventFrame.pts {s t : State} (h : EventFrame s t) : t.pts = s.pts := by obtain ⟨p, q, ls, sq, bw, rg, cd, ps, past, rfl⟩ := h; exact Eq.refl _
theorem EventFrame.links {s t : State} (h : EventFrame s t) : t.links = s.links := by obtain ⟨p, q, ls, sq, bw, rg, cd, ps, past, rfl⟩ := h; exact Eq.refl _
theorem EventFrame.pnt {s t : State} (h : EventFrame s t) : t.pnt = s.pnt := by obtain ⟨p, q, ls, sq, bw, rg, cd, ps, past, rfl⟩ := h; exact Eq.refl _
theorem EventFrame.lp {s t : State} (h : EventFrame s t) : t.lp = s.lp := by obtain ⟨p, q, ls, sq, bw, rg, cd, ps, past, rfl⟩ := h; exact Eq.refl _
theorem EventFrame.ls {s t : State} (h : EventFrame s t) : t.ls = s.ls := by obtain ⟨p, q, ls, sq, bw, rg, cd, ps, past, rfl⟩ := h; exact Eq.refl _
theorem EventFrame.cb {s t : State} (h : EventFrame s t) : t.cb = s.cb := by obtain ⟨p, q, ls, sq, bw, rg, cd, ps, past, rfl⟩ := h; exact Eq.refl _
theorem EventFrame.ad {s t : State} (h : EventFrame s t) : t.ad = s.ad := by obtain ⟨p, q, ls, sq, bw, rg, cd, ps, past, rfl⟩ := h; exact Eq.refl _
theorem EventFrame.out {s t : State} (h : EventFrame s t) : t.out = s.out := by obtain ⟨p, q, ls, sq, bw, rg, cd, ps, past, rfl⟩ := h; exact Eq.refl _
theorem EventFrame.ky {s t : State} (h : EventFrame s t) : t.ky = s.ky := by obtain ⟨p, q, ls, sq, bw, rg, cd, ps, past, rfl⟩ := h; exact Eq.refl _
theorem EventFrame.pn {s t : State} (h : EventFrame s t) : t.pn = s.pn := by obtain ⟨p, q, ls, sq, bw, rg, cd, ps, past, rfl⟩ := h; exact Eq.refl _
theorem EventFrame.th {s t : State} (h : EventFrame s t) : t.th = s.th := by obtain ⟨p, q, ls, sq, bw, rg, cd, ps, past, rfl⟩ := h; exact Eq.refl _
theorem EventFrame.mb {s t : State} (h : EventFrame s t) : t.mb = s.mb := by obtain ⟨p, q, ls, sq, bw, rg, cd, ps, past, rfl⟩ := h; exact Eq.refl _
theorem EventFrame.ses {s t : State} (h : EventFrame s t) : t.ses = s.ses := by obtain ⟨p, q, ls, sq, bw, rg, cd, ps, past, rfl⟩ := h; exact Eq.refl _
theorem EventFrame.live {s t : State} (h : EventFrame s t) : t.live = s.live := by obtain ⟨p, q, ls, sq, bw, rg, cd, ps, past, rfl⟩ := h; exact Eq.refl _
theorem EventFrame.pending {s t : State} (h : EventFrame s t) : t.pending = s.pending := by obtain ⟨p, q, ls, sq, bw, rg, cd, ps, past, rfl⟩ := h; exact Eq.refl _
theorem EventFrame.gen {s t : State} (h : EventFrame s t) : t.nv.gen = s.nv.gen := by obtain ⟨p, q, ls, sq, bw, rg, cd, ps, past, rfl⟩ := h; exact Eq.refl _

/-- Raising an event leaves the eligibility of the device as it is. -/
theorem EventFrame.eligible {s t : State} (h : EventFrame s t) : eligibleNow t = eligibleNow s := by
  unfold eligibleNow ownFault pairEn
  rw [h.sys, h.pr, h.gen, h.lp, h.th]

end Sys2Proof.Machine
end

