-- ==== Sys2Proof/Laws/PerInstr.lean ====
section
/-!
SUPPORT. One lemma per command: a well-formed command that is a mailbox request names a 16-bit opcode, and its payload fits the
slot (R442).
-/

namespace Sys2Proof.Laws.Request

open Sys2Proof

/-- A request of a well-formed command fits a mailbox slot. -/
def Statement (i : Instr) : Prop :=
  i.wf = true → ∀ op r, i.call = some (op, r) → op < 2 ^ 16 ∧ r.payload.length ≤ 1008

theorem of_card (op : Nat) (r : Req) (h : op < 2 ^ 16) (hw : r.wf = true) (o : Nat) (q : Req) (he : some (op, r) = some (o, q)) :
    o < 2 ^ 16 ∧ q.payload.length ≤ 1008 := by
  injection he with he
  injection he with h1 h2
  subst h1 h2
  exact ⟨h, of_decide_eq_true hw⟩

theorem porstNRelease (straps : Straps) (trimOk : Bool) : Statement (.porstNRelease straps trimOk) := fun _ _ _ he => nomatch he
theorem resetNRelease (straps : Straps) (trimOk : Bool) : Statement (.resetNRelease straps trimOk) := fun _ _ _ he => nomatch he
theorem supervisorUp : Statement .supervisorUp := fun _ _ _ he => nomatch he
theorem configurationRestore (bad : List CfgKey) : Statement (.configurationRestore bad) := fun _ _ _ he => nomatch he
theorem negotiateTimeout : Statement .negotiateTimeout := fun _ _ _ he => nomatch he
theorem pfailNFall : Statement .pfailNFall := fun _ _ _ he => nomatch he
theorem pfailNRise : Statement .pfailNRise := fun _ _ _ he => nomatch he
theorem fenceLift : Statement .fenceLift := fun _ _ _ he => nomatch he
theorem pgoodCoreFall : Statement .pgoodCoreFall := fun _ _ _ he => nomatch he
theorem vaonPowerOn : Statement .vaonPowerOn := fun _ _ _ he => nomatch he
theorem vaonLoss : Statement .vaonLoss := fun _ _ _ he => nomatch he
theorem crossing (phase : Fin 3) (interval : Nat) (amp : Nat) (angle : U16) (m : MainsMeas) : Statement (.crossing phase interval amp angle m) :=
  fun _ _ _ he => nomatch he
theorem crossingTimeout : Statement .crossingTimeout := fun _ _ _ he => nomatch he
theorem acquireTimeout : Statement .acquireTimeout := fun _ _ _ he => nomatch he
theorem rideTimeout : Statement .rideTimeout := fun _ _ _ he => nomatch he
theorem cycleBoundary (m : MainsMeas) : Statement (.cycleBoundary m) := fun _ _ _ he => nomatch he
theorem halfCycleBoundary : Statement .halfCycleBoundary := fun _ _ _ he => nomatch he
theorem eighthCycleInstant (k : Fin 8) : Statement (.eighthCycleInstant k) := fun _ _ _ he => nomatch he
theorem calendarDispatch (angle : U16) : Statement (.calendarDispatch angle) := fun _ _ _ he => nomatch he
theorem timedCommandDispatch : Statement .timedCommandDispatch := fun _ _ _ he => nomatch he
theorem patrolScrub (found : Option (Nat × Nat)) (res : EccResult) : Statement (.patrolScrub found res) :=
  fun _ _ _ he => nomatch he
theorem bridgeWatchdog : Statement .bridgeWatchdog := fun _ _ _ he => nomatch he
theorem ethFrameRx (port : Fin 2) (frame : List Byte) : Statement (.ethFrameRx port frame) := fun _ _ _ he => nomatch he
theorem phyStatusPoll (port : Fin 2) (phy : PhyStatus) : Statement (.phyStatusPoll port phy) := fun _ _ _ he => nomatch he
theorem phyint (phy0 phy1 : PhyStatus) : Statement (.phyint phy0 phy1) := fun _ _ _ he => nomatch he
theorem portSilence (port : Fin 2) : Statement (.portSilence port) := fun _ _ _ he => nomatch he
theorem portRecover (port : Fin 2) : Statement (.portRecover port) := fun _ _ _ he => nomatch he
theorem arpResolutionTimeout (port : Fin 2) (ip : U32) : Statement (.arpResolutionTimeout port ip) := fun _ _ _ he => nomatch he
theorem arpAgeout (port : Fin 2) (ip : U32) : Statement (.arpAgeout port ip) := fun _ _ _ he => nomatch he
theorem gratuitousArp : Statement .gratuitousArp := fun _ _ _ he => nomatch he
theorem tcpRetransmitTimeout (conn : Fin 128) : Statement (.tcpRetransmitTimeout conn) := fun _ _ _ he => nomatch he
theorem tcpIdleClose (conn : Fin 128) : Statement (.tcpIdleClose conn) := fun _ _ _ he => nomatch he
theorem trunkFrameRx (trunk : Fin 8) (f : MstpFrame) : Statement (.trunkFrameRx trunk f) := fun _ _ _ he => nomatch he
theorem trunkFrameSent (trunk : Fin 8) (echoOk : Bool) : Statement (.trunkFrameSent trunk echoOk) := fun _ _ _ he => nomatch he
theorem mstpNoToken (trunk : Fin 8) : Statement (.mstpNoToken trunk) := fun _ _ _ he => nomatch he
theorem mstpReplyTimeout (trunk : Fin 8) : Statement (.mstpReplyTimeout trunk) := fun _ _ _ he => nomatch he
theorem mstpUsageTimeout (trunk : Fin 8) : Statement (.mstpUsageTimeout trunk) := fun _ _ _ he => nomatch he
theorem rtuFrameRx (trunk : Fin 8) (adu : List Byte) (gapOk : Bool) : Statement (.rtuFrameRx trunk adu gapOk) :=
  fun _ _ _ he => nomatch he
theorem rtuRespTimeout (trunk : Fin 8) : Statement (.rtuRespTimeout trunk) := fun _ _ _ he => nomatch he
theorem rtuBcastDelay (trunk : Fin 8) : Statement (.rtuBcastDelay trunk) := fun _ _ _ he => nomatch he
theorem rxStuck (trunk : Fin 8) : Statement (.rxStuck trunk) := fun _ _ _ he => nomatch he
theorem errRateWindow (trunk : Fin 8) : Statement (.errRateWindow trunk) := fun _ _ _ he => nomatch he
theorem noPeer (trunk : Fin 8) : Statement (.noPeer trunk) := fun _ _ _ he => nomatch he
theorem trunkProbe (link : Fin 10) : Statement (.trunkProbe link) := fun _ _ _ he => nomatch he
theorem trunkRecover (trunk : Fin 8) : Statement (.trunkRecover trunk) := fun _ _ _ he => nomatch he
theorem iAm (link : Fin 10) (src : DevAddr) (instance_ : Nat) (maxApdu seg : Nat) : Statement (.iAm link src instance_ maxApdu seg) :=
  fun _ _ _ he => nomatch he
theorem readReply (dv : Fin 4096) (id : U16) (r : ReadReply) : Statement (.readReply dv id r) := fun _ _ _ he => nomatch he
theorem covNotification (link : Fin 10) (src : DevAddr) (pid : Nat) (obj : U32) (item : Option FieldRead) (confirmed : Option Byte) : Statement (.covNotification link src pid obj item confirmed) :=
  fun _ _ _ he => nomatch he
theorem writeReply (dv : Fin 4096) (id : U16) (r : WriteAns) : Statement (.writeReply dv id r) := fun _ _ _ he => nomatch he
theorem subscribeCovReply (dv : Fin 4096) (id : U16) (ok : Bool) (cause : Byte) : Statement (.subscribeCovReply dv id ok cause) :=
  fun _ _ _ he => nomatch he
theorem requestTimeout (dv : Fin 4096) (id : U16) : Statement (.requestTimeout dv id) := fun _ _ _ he => nomatch he
theorem invokeIdQuarantineEnd (dv : Fin 4096) (id : U16) : Statement (.invokeIdQuarantineEnd dv id) := fun _ _ _ he => nomatch he
theorem modbusBusyRetry (dv : Fin 4096) (id : U16) : Statement (.modbusBusyRetry dv id) := fun _ _ _ he => nomatch he
theorem writeResend (pn : Fin 131072) (pri : Fin 17) : Statement (.writeResend pn pri) := fun _ _ _ he => nomatch he
theorem pollClassDue (cls : Fin 16) : Statement (.pollClassDue cls) := fun _ _ _ he => nomatch he
theorem livenessProbe (dv : Fin 4096) : Statement (.livenessProbe dv) := fun _ _ _ he => nomatch he
theorem deviceSilence (dv : Fin 4096) : Statement (.deviceSilence dv) := fun _ _ _ he => nomatch he
theorem silentProbe (dv : Fin 4096) : Statement (.silentProbe dv) := fun _ _ _ he => nomatch he
theorem unbindTimeout (dv : Fin 4096) : Statement (.unbindTimeout dv) := fun _ _ _ he => nomatch he
theorem seek (dv : Fin 4096) : Statement (.seek dv) := fun _ _ _ he => nomatch he
theorem discAgeTimeout (dv : Fin 4096) : Statement (.discAgeTimeout dv) := fun _ _ _ he => nomatch he
theorem covRenewal (pn : Fin 131072) : Statement (.covRenewal pn) := fun _ _ _ he => nomatch he
theorem loopDue (ln : Fin 8192) : Statement (.loopDue ln) := fun _ _ _ he => nomatch he
theorem loopScan (lane : Fin 4) (bufferUe : Bool) : Statement (.loopScan lane bufferUe) := fun _ _ _ he => nomatch he
theorem loopEnd (lane : Fin 4) : Statement (.loopEnd lane) := fun _ _ _ he => nomatch he
theorem ldp (lane : Fin 4) : Statement (.ldp lane) := fun _ _ _ he => nomatch he
theorem ldf (lane : Fin 4) : Statement (.ldf lane) := fun _ _ _ he => nomatch he
theorem ldk (lane : Fin 4) : Statement (.ldk lane) := fun _ _ _ he => nomatch he
theorem ldw (lane : Fin 4) : Statement (.ldw lane) := fun _ _ _ he => nomatch he
theorem stp (lane : Fin 4) : Statement (.stp lane) := fun _ _ _ he => nomatch he
theorem relp (lane : Fin 4) : Statement (.relp lane) := fun _ _ _ he => nomatch he
theorem mov (lane : Fin 4) : Statement (.mov lane) := fun _ _ _ he => nomatch he
theorem add (lane : Fin 4) : Statement (.add lane) := fun _ _ _ he => nomatch he
theorem sub (lane : Fin 4) : Statement (.sub lane) := fun _ _ _ he => nomatch he
theorem mul (lane : Fin 4) : Statement (.mul lane) := fun _ _ _ he => nomatch he
theorem div (lane : Fin 4) : Statement (.div lane) := fun _ _ _ he => nomatch he
theorem abs (lane : Fin 4) : Statement (.abs lane) := fun _ _ _ he => nomatch he
theorem min (lane : Fin 4) : Statement (.min lane) := fun _ _ _ he => nomatch he
theorem max (lane : Fin 4) : Statement (.max lane) := fun _ _ _ he => nomatch he
theorem lim (lane : Fin 4) : Statement (.lim lane) := fun _ _ _ he => nomatch he
theorem sel (lane : Fin 4) : Statement (.sel lane) := fun _ _ _ he => nomatch he
theorem cmp (lane : Fin 4) : Statement (.cmp lane) := fun _ _ _ he => nomatch he
theorem qnt (lane : Fin 4) : Statement (.qnt lane) := fun _ _ _ he => nomatch he
theorem and (lane : Fin 4) : Statement (.and lane) := fun _ _ _ he => nomatch he
theorem or (lane : Fin 4) : Statement (.or lane) := fun _ _ _ he => nomatch he
theorem xor (lane : Fin 4) : Statement (.xor lane) := fun _ _ _ he => nomatch he
theorem not (lane : Fin 4) : Statement (.not lane) := fun _ _ _ he => nomatch he
theorem loopJmp (lane : Fin 4) : Statement (.loopJmp lane) := fun _ _ _ he => nomatch he
theorem pid (lane : Fin 4) : Statement (.pid lane) := fun _ _ _ he => nomatch he
theorem ramp (lane : Fin 4) : Statement (.ramp lane) := fun _ _ _ he => nomatch he
theorem tpos (lane : Fin 4) : Statement (.tpos lane) := fun _ _ _ he => nomatch he
theorem seq (lane : Fin 4) : Statement (.seq lane) := fun _ _ _ he => nomatch he
theorem tab (lane : Fin 4) : Statement (.tab lane) := fun _ _ _ he => nomatch he
theorem don (lane : Fin 4) : Statement (.don lane) := fun _ _ _ he => nomatch he
theorem doff (lane : Fin 4) : Statement (.doff lane) := fun _ _ _ he => nomatch he
theorem laneWatchdog (lane : Fin 4) : Statement (.laneWatchdog lane) := fun _ _ _ he => nomatch he
theorem laneSelfCheck (lane : Fin 4) (pass : Bool) : Statement (.laneSelfCheck lane pass) := fun _ _ _ he => nomatch he
theorem laneTestEnd (lane : Fin 4) (pass : Bool) : Statement (.laneTestEnd lane pass) := fun _ _ _ he => nomatch he
theorem alertHoldExpiry (an : Fin 64) : Statement (.alertHoldExpiry an) := fun _ _ _ he => nomatch he
theorem testMaxExpiry (an : Fin 64) : Statement (.testMaxExpiry an) := fun _ _ _ he => nomatch he
theorem keyScan (k : KeyScan) : Statement (.keyScan k) := fun _ _ _ he => nomatch he
theorem stuckTimeout (key : Fin 512) : Statement (.stuckTimeout key) := fun _ _ _ he => nomatch he
theorem coilEventStart (ch : Fin 24) : Statement (.coilEventStart ch) := fun _ _ _ he => nomatch he
theorem csqEnd (ch : Fin 24) : Statement (.csqEnd ch) := fun _ _ _ he => nomatch he
theorem src (ch : Fin 24) : Statement (.src ch) := fun _ _ _ he => nomatch he
theorem lsw (ch : Fin 24) : Statement (.lsw ch) := fun _ _ _ he => nomatch he
theorem dcy (ch : Fin 24) : Statement (.dcy ch) := fun _ _ _ he => nomatch he
theorem wt (ch : Fin 24) : Statement (.wt ch) := fun _ _ _ he => nomatch he
theorem wi (ch : Fin 24) : Statement (.wi ch) := fun _ _ _ he => nomatch he
theorem chop (ch : Fin 24) : Statement (.chop ch) := fun _ _ _ he => nomatch he
theorem mark (ch : Fin 24) : Statement (.mark ch) := fun _ _ _ he => nomatch he
theorem dwin (ch : Fin 24) : Statement (.dwin ch) := fun _ _ _ he => nomatch he
theorem loop (ch : Fin 24) : Statement (.loop ch) := fun _ _ _ he => nomatch he
theorem csqJmp (ch : Fin 24) : Statement (.csqJmp ch) := fun _ _ _ he => nomatch he
theorem br (ch : Fin 24) : Statement (.br ch) := fun _ _ _ he => nomatch he
theorem scrb (ch : Fin 24) : Statement (.scrb ch) := fun _ _ _ he => nomatch he
theorem wtExpiry (ch : Fin 24) : Statement (.wtExpiry ch) := fun _ _ _ he => nomatch he
theorem comparatorCrossing (ch : Fin 24) (x : Comparator) (elapsed : Nat) : Statement (.comparatorCrossing ch x elapsed) :=
  fun _ _ _ he => nomatch he
theorem wiTimeout (ch : Fin 24) : Statement (.wiTimeout ch) := fun _ _ _ he => nomatch he
theorem chopEnd (ch : Fin 24) : Statement (.chopEnd ch) := fun _ _ _ he => nomatch he
theorem peakLimit (ch : Fin 24) : Statement (.peakLimit ch) := fun _ _ _ he => nomatch he
theorem boostMaxLimit (ch : Fin 24) : Statement (.boostMaxLimit ch) := fun _ _ _ he => nomatch he
theorem onTimeLimit (ch : Fin 24) : Statement (.onTimeLimit ch) := fun _ _ _ he => nomatch he
theorem slowDecayLimit (ch : Fin 24) : Statement (.slowDecayLimit ch) := fun _ _ _ he => nomatch he
theorem eventEnd (ch : Fin 24) : Statement (.eventEnd ch) := fun _ _ _ he => nomatch he
theorem dipConfirmed (ch : Fin 24) (m : Nat) : Statement (.dipConfirmed ch m) := fun _ _ _ he => nomatch he
theorem latenessAllowanceExpiry (ch : Fin 24) : Statement (.latenessAllowanceExpiry ch) := fun _ _ _ he => nomatch he
theorem lowSideTrip (ch : Fin 24) : Statement (.lowSideTrip ch) := fun _ _ _ he => nomatch he
theorem highSideTrip (bank : Fin 6) : Statement (.highSideTrip bank) := fun _ _ _ he => nomatch he
theorem riseTimeout (ch : Fin 24) : Statement (.riseTimeout ch) := fun _ _ _ he => nomatch he
theorem vgdUvlo : Statement .vgdUvlo := fun _ _ _ he => nomatch he
theorem vgdRelease : Statement .vgdRelease := fun _ _ _ he => nomatch he
theorem diagSequenceStart (bank : Fin 6) : Statement (.diagSequenceStart bank) := fun _ _ _ he => nomatch he
theorem diagStepA (bank : Fin 6) (hs : Window) (ld : List Window) : Statement (.diagStepA bank hs ld) :=
  fun _ _ _ he => nomatch he
theorem diagStepB (bank : Fin 6) (hs ld : Window) : Statement (.diagStepB bank hs ld) := fun _ _ _ he => nomatch he
theorem diagStarveTimeout (bank : Fin 6) : Statement (.diagStarveTimeout bank) := fun _ _ _ he => nomatch he
theorem cbRecordsTakeEffect (bank : Fin 6) : Statement (.cbRecordsTakeEffect bank) := fun _ _ _ he => nomatch he
theorem conversionEnd (conv : Fin 4) (raw : Int) (outside : Bool) (angle : U16) : Statement (.conversionEnd conv raw outside angle) :=
  fun _ _ _ he => nomatch he
theorem injectedSequenceEnd (conv : Fin 4) : Statement (.injectedSequenceEnd conv) := fun _ _ _ he => nomatch he
theorem refSettled (conv : Fin 4) : Statement (.refSettled conv) := fun _ _ _ he => nomatch he
theorem vrefExtWindow (inside : Bool) : Statement (.vrefExtWindow inside) := fun _ _ _ he => nomatch he
theorem jigDelayExpiry (conv : Fin 4) : Statement (.jigDelayExpiry conv) := fun _ _ _ he => nomatch he
theorem calibrationEnd (conv : Fin 4) (offset gain : Int) : Statement (.calibrationEnd conv offset gain) :=
  fun _ _ _ he => nomatch he
theorem tachEdge (fan : Fin 8) (interval : Nat) : Statement (.tachEdge fan interval) := fun _ _ _ he => nomatch he
theorem kickTimeout (fan : Fin 8) : Statement (.kickTimeout fan) := fun _ _ _ he => nomatch he
theorem backoffExpiry (fan : Fin 8) : Statement (.backoffExpiry fan) := fun _ _ _ he => nomatch he
theorem tachTimeout (fan : Fin 8) : Statement (.tachTimeout fan) := fun _ _ _ he => nomatch he
theorem curTrig (fan : Fin 8) : Statement (.curTrig fan) := fun _ _ _ he => nomatch he
theorem panelFrameEnd : Statement .panelFrameEnd := fun _ _ _ he => nomatch he
theorem pnlPwrGoodRise : Statement .pnlPwrGoodRise := fun _ _ _ he => nomatch he
theorem pwrToExpiry : Statement .pwrToExpiry := fun _ _ _ he => nomatch he
theorem loadMaxExpiry (region : Fin 16) : Statement (.loadMaxExpiry region) := fun _ _ _ he => nomatch he
theorem laneAlignment : Statement .laneAlignment := fun _ _ _ he => nomatch he
theorem trainTimeout : Statement .trainTimeout := fun _ _ _ he => nomatch he
theorem alignmentLost : Statement .alignmentLost := fun _ _ _ he => nomatch he
theorem helloFrame (h : PairHello) : Statement (.helloFrame h) := fun _ _ _ he => nomatch he
theorem helloRepeat : Statement .helloRepeat := fun _ _ _ he => nomatch he
theorem beat (b : PairBeat) : Statement (.beat b) := fun _ _ _ he => nomatch he
theorem beatDue : Statement .beatDue := fun _ _ _ he => nomatch he
theorem mirror (seq ack cycle : U32) (snapshot_ : Bool) (r : MirrorRec) (damaged : Bool) : Statement (.mirror seq ack cycle snapshot_ r damaged) :=
  fun _ _ _ he => nomatch he
theorem batchEnd (seq ack cycle : U32) : Statement (.batchEnd seq ack cycle) := fun _ _ _ he => nomatch he
theorem resyncReq (seq ack : U32) (cls : Nat) : Statement (.resyncReq seq ack cls) := fun _ _ _ he => nomatch he
theorem resyncDone (seq ack cycle : U32) : Statement (.resyncDone seq ack cycle) := fun _ _ _ he => nomatch he
theorem relinquish (seq ack : U32) (areas : List (Nat × Img)) (swap : Bool) : Statement (.relinquish seq ack areas swap) :=
  fun _ _ _ he => nomatch he
theorem relinquishResend : Statement .relinquishResend := fun _ _ _ he => nomatch he
theorem bond (key : List Byte) : Statement (.bond key) := fun _ _ _ he => nomatch he
theorem bondConfirm : Statement .bondConfirm := fun _ _ _ he => nomatch he
theorem bondTimeout : Statement .bondTimeout := fun _ _ _ he => nomatch he
theorem pairFrameRejected (why : PairReject) : Statement (.pairFrameRejected why) := fun _ _ _ he => nomatch he
theorem retransmitTimeout : Statement .retransmitTimeout := fun _ _ _ he => nomatch he
theorem linkSilence : Statement .linkSilence := fun _ _ _ he => nomatch he
theorem heartbeatToggle : Statement .heartbeatToggle := fun _ _ _ he => nomatch he
theorem prHbIEdge : Statement .prHbIEdge := fun _ _ _ he => nomatch he
theorem heartbeatLoss : Statement .heartbeatLoss := fun _ _ _ he => nomatch he
theorem activityToggle : Statement .activityToggle := fun _ _ _ he => nomatch he
theorem prActIEdge : Statement .prActIEdge := fun _ _ _ he => nomatch he
theorem activitySilence : Statement .activitySilence := fun _ _ _ he => nomatch he
theorem dovetailOutputEnable : Statement .dovetailOutputEnable := fun _ _ _ he => nomatch he
theorem journalCommit : Statement .journalCommit := fun _ _ _ he => nomatch he
theorem snapshot : Statement .snapshot := fun _ _ _ he => nomatch he
theorem sensorWindow (r : List Int) (counts : List Nat) : Statement (.sensorWindow r counts) := fun _ _ _ he => nomatch he
theorem throttleReport : Statement .throttleReport := fun _ _ _ he => nomatch he
theorem automaticRestart : Statement .automaticRestart := fun _ _ _ he => nomatch he
theorem sentinelTick (sup : List Nat) (wake : List Bool) (vaon : Nat) : Statement (.sentinelTick sup wake vaon) :=
  fun _ _ _ he => nomatch he
theorem senWakeEdge (n : Fin 4) (rising : Bool) : Statement (.senWakeEdge n rising) := fun _ _ _ he => nomatch he
theorem rtcAlarm : Statement .rtcAlarm := fun _ _ _ he => nomatch he
theorem crystalFail : Statement .crystalFail := fun _ _ _ he => nomatch he
theorem read (addr : BitVec 24) (n : Nat) : Statement (.read addr n) := fun _ _ _ he => nomatch he
theorem write (addr : BitVec 24) (data : List Byte) : Statement (.write addr data) := fun _ _ _ he => nomatch he
theorem readCrc (addr : BitVec 24) (len : U16) : Statement (.readCrc addr len) := fun _ _ _ he => nomatch he
theorem writeCrc (addr : BitVec 24) (len : U16) (data : List Byte) (crc : U16) : Statement (.writeCrc addr len data crc) :=
  fun _ _ _ he => nomatch he
theorem qread (addr : BitVec 24) (n : Nat) : Statement (.qread addr n) := fun _ _ _ he => nomatch he
theorem qwrite (addr : BitVec 24) (data : List Byte) : Statement (.qwrite addr data) := fun _ _ _ he => nomatch he
theorem qreadCrc (addr : BitVec 24) (len : U16) : Statement (.qreadCrc addr len) := fun _ _ _ he => nomatch he
theorem qwriteCrc (addr : BitVec 24) (len : U16) (data : List Byte) (crc : U16) : Statement (.qwriteCrc addr len data crc) :=
  fun _ _ _ he => nomatch he
theorem badInstruction (code : Byte) : Statement (.badInstruction code) := fun _ _ _ he => nomatch he
theorem registerWrite (addr : BitVec 24) (v : U32) : Statement (.registerWrite addr v) := fun _ _ _ he => nomatch he
theorem mailboxSlotWrite (slot : Fin 16) (off : Fin 1024) (data : List Byte) : Statement (.mailboxSlotWrite slot off data) :=
  fun _ _ _ he => nomatch he
theorem bulkWindowWrite (off : Fin 65536) (data : List Byte) : Statement (.bulkWindowWrite off data) := fun _ _ _ he => nomatch he
theorem doorbell (v : U32) : Statement (.doorbell v) := fun _ _ _ he => nomatch he
theorem hifDoneClear (v : U32) : Statement (.hifDoneClear v) := fun _ _ _ he => nomatch he
theorem irqStatClear (v : U32) : Statement (.irqStatClear v) := fun _ _ _ he => nomatch he
theorem evqPortRead (n : Nat) : Statement (.evqPortRead n) := fun _ _ _ he => nomatch he
theorem rewind : Statement .rewind := fun _ _ _ he => nomatch he
theorem releaseAll : Statement .releaseAll := fun _ _ _ he => nomatch he
theorem evqRelease (v : U32) : Statement (.evqRelease v) := fun _ _ _ he => nomatch he
theorem evqMarkSet : Statement .evqMarkSet := fun _ _ _ he => nomatch he
theorem evqWmarkWrite (v : U32) : Statement (.evqWmarkWrite v) := fun _ _ _ he => nomatch he
theorem unassignedOpcode (opcode : U16) (r : Req) : Statement (.unassignedOpcode opcode r) :=
  fun hw o q he => of_card _ _ (BitVec.isLt _) hw o q he
theorem hello (r : Req) : Statement (.hello r) := fun hw o q he => of_card _ _ (by decide) hw o q he
theorem sysIdentify (r : Req) : Statement (.sysIdentify r) := fun hw o q he => of_card _ _ (by decide) hw o q he
theorem sysReset (r : Req) : Statement (.sysReset r) := fun hw o q he => of_card _ _ (by decide) hw o q he
theorem sysTime (r : Req) : Statement (.sysTime r) := fun hw o q he => of_card _ _ (by decide) hw o q he
theorem cfgOpen (r : Req) : Statement (.cfgOpen r) := fun hw o q he => of_card _ _ (by decide) hw o q he
theorem cfgLoad (r : Req) : Statement (.cfgLoad r) := fun hw o q he => of_card _ _ (by decide) hw o q he
theorem cfgCommit (r : Req) : Statement (.cfgCommit r) := fun hw o q he => of_card _ _ (by decide) hw o q he
theorem cfgAbort (r : Req) : Statement (.cfgAbort r) := fun hw o q he => of_card _ _ (by decide) hw o q he
theorem cfgRead (r : Req) : Statement (.cfgRead r) := fun hw o q he => of_card _ _ (by decide) hw o q he
theorem cfgInfo (r : Req) : Statement (.cfgInfo r) := fun hw o q he => of_card _ _ (by decide) hw o q he
theorem sysGetStats (r : Req) : Statement (.sysGetStats r) := fun hw o q he => of_card _ _ (by decide) hw o q he
theorem statsClear (r : Req) : Statement (.statsClear r) := fun hw o q he => of_card _ _ (by decide) hw o q he
theorem mtSetCfg (r : Req) : Statement (.mtSetCfg r) := fun hw o q he => of_card _ _ (by decide) hw o q he
theorem mtGetStatus (r : Req) : Statement (.mtGetStatus r) := fun hw o q he => of_card _ _ (by decide) hw o q he
theorem mtTimed (r : Req) : Statement (.mtTimed r) := fun hw o q he => of_card _ _ (by decide) hw o q he
theorem mtCancel (r : Req) : Statement (.mtCancel r) := fun hw o q he => of_card _ _ (by decide) hw o q he
theorem ptRead (r : Req) : Statement (.ptRead r) := fun hw o q he => of_card _ _ (by decide) hw o q he
theorem ptWrite (r : Req) : Statement (.ptWrite r) := fun hw o q he => of_card _ _ (by decide) hw o q he
theorem paWrite (r : Req) : Statement (.paWrite r) := fun hw o q he => of_card _ _ (by decide) hw o q he
theorem paRead (r : Req) : Statement (.paRead r) := fun hw o q he => of_card _ _ (by decide) hw o q he
theorem paShadows (r : Req) : Statement (.paShadows r) := fun hw o q he => of_card _ _ (by decide) hw o q he
theorem flSetEth (r : Req) : Statement (.flSetEth r) := fun hw o q he => of_card _ _ (by decide) hw o q he
theorem flSetTrunk (r : Req) : Statement (.flSetTrunk r) := fun hw o q he => of_card _ _ (by decide) hw o q he
theorem flGetStatus (r : Req) : Statement (.flGetStatus r) := fun hw o q he => of_card _ _ (by decide) hw o q he
theorem flEthTx (r : Req) : Statement (.flEthTx r) := fun hw o q he => of_card _ _ (by decide) hw o q he
theorem flMdio (r : Req) : Statement (.flMdio r) := fun hw o q he => of_card _ _ (by decide) hw o q he
theorem flTrunkTx (r : Req) : Statement (.flTrunkTx r) := fun hw o q he => of_card _ _ (by decide) hw o q he
theorem paSetCfg (r : Req) : Statement (.paSetCfg r) := fun hw o q he => of_card _ _ (by decide) hw o q he
theorem paSetClass (r : Req) : Statement (.paSetClass r) := fun hw o q he => of_card _ _ (by decide) hw o q he
theorem paSetDev (r : Req) : Statement (.paSetDev r) := fun hw o q he => of_card _ _ (by decide) hw o q he
theorem paGetDev (r : Req) : Statement (.paGetDev r) := fun hw o q he => of_card _ _ (by decide) hw o q he
theorem paRebind (r : Req) : Statement (.paRebind r) := fun hw o q he => of_card _ _ (by decide) hw o q he
theorem paReadNow (r : Req) : Statement (.paReadNow r) := fun hw o q he => of_card _ _ (by decide) hw o q he
theorem lpSetLoop (r : Req) : Statement (.lpSetLoop r) := fun hw o q he => of_card _ _ (by decide) hw o q he
theorem lpGetLoop (r : Req) : Statement (.lpGetLoop r) := fun hw o q he => of_card _ _ (by decide) hw o q he
theorem lpEnable (r : Req) : Statement (.lpEnable r) := fun hw o q he => of_card _ _ (by decide) hw o q he
theorem lpSetReg (r : Req) : Statement (.lpSetReg r) := fun hw o q he => of_card _ _ (by decide) hw o q he
theorem lpLane (r : Req) : Statement (.lpLane r) := fun hw o q he => of_card _ _ (by decide) hw o q he
theorem lpGetStats (r : Req) : Statement (.lpGetStats r) := fun hw o q he => of_card _ _ (by decide) hw o q he
theorem lsSetArea (r : Req) : Statement (.lsSetArea r) := fun hw o q he => of_card _ _ (by decide) hw o q he
theorem lsSetTrig (r : Req) : Statement (.lsSetTrig r) := fun hw o q he => of_card _ _ (by decide) hw o q he
theorem lsSetResp (r : Req) : Statement (.lsSetResp r) := fun hw o q he => of_card _ _ (by decide) hw o q he
theorem lsSetVal (r : Req) : Statement (.lsSetVal r) := fun hw o q he => of_card _ _ (by decide) hw o q he
theorem lsSetIn (r : Req) : Statement (.lsSetIn r) := fun hw o q he => of_card _ _ (by decide) hw o q he
theorem lsMode (r : Req) : Statement (.lsMode r) := fun hw o q he => of_card _ _ (by decide) hw o q he
theorem cbSetBank (r : Req) : Statement (.cbSetBank r) := fun hw o q he => of_card _ _ (by decide) hw o q he
theorem cbGetDiag (r : Req) : Statement (.cbGetDiag r) := fun hw o q he => of_card _ _ (by decide) hw o q he
theorem cbRunDiag (r : Req) : Statement (.cbRunDiag r) := fun hw o q he => of_card _ _ (by decide) hw o q he
theorem cbClear (r : Req) : Statement (.cbClear r) := fun hw o q he => of_card _ _ (by decide) hw o q he
theorem csLoad (r : Req) : Statement (.csLoad r) := fun hw o q he => of_card _ _ (by decide) hw o q he
theorem csSetEntry (r : Req) : Statement (.csSetEntry r) := fun hw o q he => of_card _ _ (by decide) hw o q he
theorem csSetChan (r : Req) : Statement (.csSetChan r) := fun hw o q he => of_card _ _ (by decide) hw o q he
theorem csEvent (r : Req) : Statement (.csEvent r) := fun hw o q he => of_card _ _ (by decide) hw o q he
theorem csStop (r : Req) : Statement (.csStop r) := fun hw o q he => of_card _ _ (by decide) hw o q he
theorem csGetChan (r : Req) : Statement (.csGetChan r) := fun hw o q he => of_card _ _ (by decide) hw o q he
theorem adSetConv (r : Req) : Statement (.adSetConv r) := fun hw o q he => of_card _ _ (by decide) hw o q he
theorem adSetGroup (r : Req) : Statement (.adSetGroup r) := fun hw o q he => of_card _ _ (by decide) hw o q he
theorem adRead (r : Req) : Statement (.adRead r) := fun hw o q he => of_card _ _ (by decide) hw o q he
theorem adInject (r : Req) : Statement (.adInject r) := fun hw o q he => of_card _ _ (by decide) hw o q he
theorem adJig (r : Req) : Statement (.adJig r) := fun hw o q he => of_card _ _ (by decide) hw o q he
theorem adGetStats (r : Req) : Statement (.adGetStats r) := fun hw o q he => of_card _ _ (by decide) hw o q he
theorem fnSetChan (r : Req) : Statement (.fnSetChan r) := fun hw o q he => of_card _ _ (by decide) hw o q he
theorem fnGetStatus (r : Req) : Statement (.fnGetStatus r) := fun hw o q he => of_card _ _ (by decide) hw o q he
theorem fnClear (r : Req) : Statement (.fnClear r) := fun hw o q he => of_card _ _ (by decide) hw o q he
theorem kySetCfg (r : Req) : Statement (.kySetCfg r) := fun hw o q he => of_card _ _ (by decide) hw o q he
theorem kySetKeys (r : Req) : Statement (.kySetKeys r) := fun hw o q he => of_card _ _ (by decide) hw o q he
theorem kyGetState (r : Req) : Statement (.kyGetState r) := fun hw o q he => of_card _ _ (by decide) hw o q he
theorem pnSetCfg (r : Req) : Statement (.pnSetCfg r) := fun hw o q he => of_card _ _ (by decide) hw o q he
theorem pnLoadTable (r : Req) : Statement (.pnLoadTable r) := fun hw o q he => of_card _ _ (by decide) hw o q he
theorem pnOpen (r : Req) : Statement (.pnOpen r) := fun hw o q he => of_card _ _ (by decide) hw o q he
theorem pnLines (r : Req) : Statement (.pnLines r) := fun hw o q he => of_card _ _ (by decide) hw o q he
theorem pnStart (r : Req) : Statement (.pnStart r) := fun hw o q he => of_card _ _ (by decide) hw o q he
theorem pnDiscard (r : Req) : Statement (.pnDiscard r) := fun hw o q he => of_card _ _ (by decide) hw o q he
theorem pnGetStatus (r : Req) : Statement (.pnGetStatus r) := fun hw o q he => of_card _ _ (by decide) hw o q he
theorem prSetCfg (r : Req) : Statement (.prSetCfg r) := fun hw o q he => of_card _ _ (by decide) hw o q he
theorem prBond (r : Req) : Statement (.prBond r) := fun hw o q he => of_card _ _ (by decide) hw o q he
theorem prRole (r : Req) : Statement (.prRole r) := fun hw o q he => of_card _ _ (by decide) hw o q he
theorem prGetStatus (r : Req) : Statement (.prGetStatus r) := fun hw o q he => of_card _ _ (by decide) hw o q he
theorem nvGetStatus (r : Req) : Statement (.nvGetStatus r) := fun hw o q he => of_card _ _ (by decide) hw o q he
theorem nvSnapshot (r : Req) : Statement (.nvSnapshot r) := fun hw o q he => of_card _ _ (by decide) hw o q he
theorem nvFwWrite (r : Req) : Statement (.nvFwWrite r) := fun hw o q he => of_card _ _ (by decide) hw o q he
theorem nvFwActivate (r : Req) : Statement (.nvFwActivate r) := fun hw o q he => of_card _ _ (by decide) hw o q he
theorem nvFwConfirm (r : Req) : Statement (.nvFwConfirm r) := fun hw o q he => of_card _ _ (by decide) hw o q he
theorem thSetCfg (r : Req) : Statement (.thSetCfg r) := fun hw o q he => of_card _ _ (by decide) hw o q he
theorem thGetStatus (r : Req) : Statement (.thGetStatus r) := fun hw o q he => of_card _ _ (by decide) hw o q he
theorem snSetCfg (r : Req) : Statement (.snSetCfg r) := fun hw o q he => of_card _ _ (by decide) hw o q he
theorem snPower (r : Req) : Statement (.snPower r) := fun hw o q he => of_card _ _ (by decide) hw o q he
theorem snStatus (r : Req) : Statement (.snStatus r) := fun hw o q he => of_card _ _ (by decide) hw o q he
theorem snGetLog (r : Req) : Statement (.snGetLog r) := fun hw o q he => of_card _ _ (by decide) hw o q he
theorem snOut (r : Req) : Statement (.snOut r) := fun hw o q he => of_card _ _ (by decide) hw o q he
theorem evqSetCfg (r : Req) : Statement (.evqSetCfg r) := fun hw o q he => of_card _ _ (by decide) hw o q he
theorem evqGetStats (r : Req) : Statement (.evqGetStats r) := fun hw o q he => of_card _ _ (by decide) hw o q he
theorem bridgeBadFrames : Statement .bridgeBadFrames := fun _ _ _ he => nomatch he
theorem x32CrystalRetry (ok : Bool) : Statement (.x32CrystalRetry ok) := fun _ _ _ he => nomatch he
theorem sysResetExecute : Statement .sysResetExecute := fun _ _ _ he => nomatch he
theorem digestRecompute : Statement .digestRecompute := fun _ _ _ he => nomatch he
theorem mstpFrameAbort (trunk : Fin 8) : Statement (.mstpFrameAbort trunk) := fun _ _ _ he => nomatch he
theorem mstpSlotTimeout (trunk : Fin 8) : Statement (.mstpSlotTimeout trunk) := fun _ _ _ he => nomatch he
theorem rtuTimeoutSilence (trunk : Fin 8) : Statement (.rtuTimeoutSilence trunk) := fun _ _ _ he => nomatch he
theorem coreSupplyGateHold : Statement .coreSupplyGateHold := fun _ _ _ he => nomatch he
theorem coreSupplyGateRelease : Statement .coreSupplyGateRelease := fun _ _ _ he => nomatch he

end Sys2Proof.Laws.Request
end

