-- ==== Sys2Proof/Laws/Points.lean ====
section
/-!
SUPPORT. What an update of a point (R509) does to the point store: the priority arrays stay, and the point's VALUE is what the update gives.
-/

namespace Sys2Proof.Machine

open Sys2Proof

theorem raiseCov_pts (pn : Nat) (l : List EvF) (s : State) : (raiseCov pn l s).pts = s.pts := by
  unfold raiseCov
  dsimp only
  split
  · rfl
  · exact (writePacket_frame _ _ _ _ _).pts

theorem alarmEvent_pts (pn : Nat) (v : U32) (ev : Option (Bool × Nat)) (s : State) : (alarmEvent pn v ev s).pts = s.pts := by
  unfold alarmEvent
  split
  · exact (raise_frame _ _ _ _).pts
  · exact (raise_frame _ _ _ _).pts
  · rfl

/-- An alarm evaluation leaves VALUE. -/
theorem alarmEval_value (s : State) (pn : Nat) (p : Point) : (alarmEval s pn p).1.value = p.value := by
  unfold alarmEval
  dsimp only
  repeat' split
  all_goals rfl

theorem covReport_arr (pn : Nat) (o : Point) (s : State) : (covReport pn o s).pts.arr = s.pts.arr := by
  unfold covReport
  dsimp only
  split
  · rw [raiseCov_pts]
  · rfl

theorem alarmEval_fault (s : State) (pn : Nat) (p : Point) : (alarmEval s pn p).1.fault = p.fault := by
  unfold alarmEval
  dsimp only
  repeat' split
  all_goals rfl

/-- A COV report changes COV_REF alone. -/
theorem covReport_proj {α : Type} (f : Point → α) (hc : ∀ p v, f { p with covRef := v } = f p) (pn : Nat) (o : Point) (s : State) :
    f ((covReport pn o s).point pn) = f (s.point pn) := by
  unfold covReport
  dsimp only
  split
  · unfold State.point
    rw [raiseCov_pts]
    dsimp only
    rw [Tab.get_upd_self, hc]
  · rfl

theorem updatePoint_arr (pn : Nat) (quiet : Bool) (why : FaultWhy) (f : Point → Point) (s : State) :
    (updatePoint pn quiet why f s).pts.arr = s.pts.arr := by
  unfold updatePoint
  dsimp only
  split
  · rfl
  · split
    · rw [alarmEvent_pts]
      unfold when
      split
      · rw [(raise_frame _ _ _ _).pts]
      · rfl
    · rw [covReport_arr, alarmEvent_pts]
      unfold when
      split
      · rw [(raise_frame _ _ _ _).pts]
      · rfl

/-- What an update leaves of a point, for anything that the stamp, the alarm evaluation and the COV report do not touch. -/
theorem updatePoint_proj {α : Type} (g : Point → α) (hc : ∀ p v, g { p with covRef := v } = g p)
    (ha : ∀ s pn p, g (alarmEval s pn p).1 = g p) (ht : ∀ p c a, g { p with updC := c, updA := a } = g p)
    (pn : Nat) (quiet : Bool) (why : FaultWhy) (f : Point → Point) (s : State) :
    g ((updatePoint pn quiet why f s).point pn) = g (f (s.point pn)) := by
  have h : ∀ (c : Bool) (n : Point) (ev : Option (Bool × Nat)) (l : List EvF) (v : U32),
      g ((alarmEvent pn v ev (when c (raise 2 0x32 l) { s with pts := { s.pts with pt := s.pts.pt.set pn n } })).point pn) = g n := by
    intro c n ev l v
    unfold State.point
    rw [alarmEvent_pts]
    unfold when
    split
    · rw [(raise_frame _ _ _ _).pts]; dsimp only; rw [Tab.get_set_self]
    · dsimp only; rw [Tab.get_set_self]
  unfold updatePoint
  dsimp only
  split
  · unfold State.point
    dsimp only
    rw [Tab.get_set_self]
  · split
    · rw [h, ha, ht]
    · rw [covReport_proj g hc, h, ha, ht]

theorem updatePoint_value (pn : Nat) (quiet : Bool) (why : FaultWhy) (f : Point → Point) (s : State) :
    ((updatePoint pn quiet why f s).point pn).value = (f (s.point pn)).value :=
  updatePoint_proj Point.value (fun _ _ => rfl) alarmEval_value (fun _ _ _ => rfl) pn quiet why f s

theorem updatePoint_fault (pn : Nat) (quiet : Bool) (why : FaultWhy) (f : Point → Point) (s : State) :
    ((updatePoint pn quiet why f s).point pn).fault = (f (s.point pn)).fault :=
  updatePoint_proj Point.fault (fun _ _ => rfl) alarmEval_fault (fun _ _ _ => rfl) pn quiet why f s

end Sys2Proof.Machine
end

