-- ==== Sys2Proof/Laws/Settle.lean ====
section
/-!
SUPPORT. What follows a step: a device at rest stays as it is, and after every step of a powered device the eligible flag is honest.
-/

namespace Sys2Proof.Machine

open Sys2Proof

theorem forAll_id {α : Type} (l : List α) (f : α → State → State) (s : State) (h : ∀ x ∈ l, f x s = s) : forAll l f s = s := by
  unfold forAll
  induction l with
  | nil => rfl
  | cons a r ih =>
    simp only [List.foldl_cons, h a (by simp)]
    exact ih (fun x hx => h x (by simp [hx]))

theorem forRange_id (n : Nat) (f : Nat → State → State) (s : State) (h : ∀ x < n, f x s = s) : forRange n f s = s := by
  unfold forRange
  exact forAll_id _ _ _ (fun x hx => h x (by simpa using hx))

theorem prUpd_id (f : Pair → Pair) (s : State) (h : f s.pr = s.pr) : prUpd f s = s := by
  unfold prUpd; rw [h]

theorem updateEligible_id (s : State) (he : s.pr.eligible = eligibleNow s)
    (hg : s.pr.genMismatch = (s.pr.pHello && s.sys.restored && s.nv.gen != s.pr.pGen)) : updateEligible s = s := by
  unfold updateEligible when
  simp only [he, beq_self_eq_true, if_true]
  have hc : (s.pr.pHello && s.sys.restored && s.nv.gen != s.pr.pGen && !s.pr.genMismatch && s.sys.negotiated) = false := by
    rw [← hg]; cases s.pr.genMismatch <;> simp
  simp only [hc, Bool.false_eq_true, if_false]
  refine prUpd_id _ _ ?_
  rw [← hg]

theorem dispatchHeld_id (s : State) (h : s.mb.outst.all (fun o => o.wait != .held) = true) : dispatchHeld s = s := by
  unfold dispatchHeld
  refine forAll_id _ _ _ (fun o _ => ?_)
  unfold dispatchOne
  cases hf : s.mb.outst.find? (fun e => e.org == o.org) with
  | none => rfl
  | some e =>
    have hm := List.mem_of_find?_eq_some hf
    have he := (List.all_eq_true.mp h) e hm
    simp only [bne_iff_ne, ne_eq] at he
    simp [he]

theorem serveMailboxes_id (s : State) (hr : s.mb.rings.isEmpty = true) (h : s.mb.outst.all (fun o => o.wait != .held) = true) :
    serveMailboxes s = s := by
  unfold serveMailboxes
  rw [dispatchHeld_id s h]
  split
  · unfold takeRings
    rw [List.isEmpty_iff.mp hr]
  · rfl

theorem sendUrgent_id (s : State) (h : mirrorSent s = true) : sendUrgent s = s := by
  unfold sendUrgent
  split
  · rfl
  · rename_i hc
    unfold mirrorSent at h
    simp only [Bool.not_eq_true] at hc
    rw [Bool.or_assoc] at h
    have hb : (s.pr.link != .up || !s.duty) = false := hc
    rw [← Bool.or_assoc, hb, Bool.false_or, Bool.and_eq_true] at h
    have hf : forRange 24 (fun ch s =>
        let m := m1Of (s.coil ch)
        if m == s.pr.sentCoil.get ch then s
        else sendRec false (1, ch) (prUpd (fun p => { p with sentCoil := p.sentCoil.set ch m }) s)) s = s := by
      refine forRange_id _ _ _ (fun x hx => ?_)
      have := (List.all_eq_true.mp h.1) x (by simpa using hx)
      dsimp only
      rw [if_pos this]
    dsimp only at hf ⊢
    rw [hf]
    have hd : s.pr.dirty.filter (fun d => decide (d.1 ≤ 2)) = [] := by
      rw [List.filter_eq_nil_iff]
      intro a ha
      have := (List.all_eq_true.mp h.2) a ha
      simp only [decide_eq_true_eq] at this ⊢
      omega
    have hk : s.pr.dirty.filter (fun d => decide (2 < d.1)) = s.pr.dirty := List.filter_eq_self.mpr (List.all_eq_true.mp h.2)
    rw [hd]
    refine (forAll_id _ _ _ (by simp)).trans (prUpd_id _ _ ?_)
    simp only [hk]

theorem roleSettle_id (s : State) (he : s.pr.eligible = eligibleNow s)
    (hg : s.pr.genMismatch = (s.pr.pHello && s.sys.restored && s.nv.gen != s.pr.pGen)) (hr : roleStable s = true) :
    roleSettle s = s := by
  have ha : actLostCheck s = s := by
    unfold actLostCheck
    refine if_neg (fun h => ?_)
    unfold roleStable at hr
    rw [Bool.and_eq_true, Bool.and_eq_true, Bool.and_eq_true] at h
    obtain ⟨⟨⟨h1, h2⟩, h3⟩, h4⟩ := h
    rw [beq_iff_eq] at h1
    simp only [h1, h2, h4, Bool.true_and, Bool.and_true, Bool.and_eq_true] at hr
    have h5 := hr.2
    simp only [Bool.not_eq_true'] at h5
    exact absurd (h5.symm.trans h3) Bool.false_ne_true
  unfold roleSettle
  rw [updateEligible_id s he hg, ha]
  unfold roleStable at hr
  dsimp only at hr ⊢
  cases hrole : s.pr.role <;> simp only [hrole] at hr ⊢
  · by_cases h0 : (!s.sys.restored || s.sys.recovery) = true
    · rw [if_pos h0]
    · rw [if_neg h0]
      simp only [Bool.not_eq_true] at h0
      rw [h0, Bool.false_or, Bool.and_eq_true, Bool.and_eq_true] at hr
      obtain ⟨⟨h1, h2⟩, h3⟩ := hr
      simp only [h1, Bool.not_true, Bool.false_eq_true, if_false]
      simp only [h2, Bool.not_true, Bool.false_eq_true, if_false]
      split
      · rename_i hc
        rw [hc] at h3
        simp only [Bool.not_true, Bool.false_or, Bool.and_eq_true, Bool.not_eq_true'] at h3
        rw [if_pos h3.1, if_neg (by simp [h3.2])]
      · rfl
  · simp only [Bool.and_eq_true, Bool.not_eq_true'] at hr
    obtain ⟨⟨h1, h2⟩, h3⟩ := hr
    rw [if_neg (by simp [h1]), if_neg]
    rw [h2]
    revert h3
    unfold bne
    generalize (s.pr.link == .up) = x
    generalize s.pr.hbLost = y
    cases x <;> cases y <;> decide
  · simp only [Bool.and_eq_true, Bool.not_eq_true'] at hr
    rw [if_neg (by simp [hr.1]), if_neg (by rw [hr.2]; exact Bool.false_ne_true)]
  · simp only [Bool.and_eq_true, Bool.not_eq_true'] at hr
    rw [if_neg (by simp [hr.1]), if_neg (by simp [hr.1])]
  · rw [Bool.or_eq_true, Bool.not_eq_true', Bool.and_eq_true] at hr
    rcases hr with hr | ⟨h1, h2⟩
    · rw [if_neg (by simp [hr])]
    · simp [h1, h2]

/-- What a command does whose own effect led to `u`. -/
theorem done_after (s u : State) : done s u = .next (after s u) := by
  unfold after done
  rfl

theorem on_after (f : State → State) (s : State) (h : portOn s = true) : done s (whenOn f s) = .next (after s (f s)) := by
  rw [done_after]; unfold whenOn; rw [if_pos h]

theorem main_after (f : State → State) (s : State) (h : mainRuns s = true) : done s (whenMain f s) = .next (after s (f s)) := by
  rw [done_after]; unfold whenMain; rw [if_pos h]

theorem engine_after (f : State → State) (s : State) (h : enginesRun s = true) : done s (whenEngine f s) = .next (after s (f s)) := by
  rw [done_after]; unfold whenEngine; rw [if_pos h]

theorem after_pending (s u : State) : (after s u).pending = s.pending := by
  unfold after
  rfl

/-- A device at rest has nothing left to do. -/
theorem settle_rest (s : State) (h : rest s = true) : settle s = s := by
  unfold settle
  split
  · rename_i hp
    unfold rest at h
    rw [hp] at h
    simp only [Bool.not_true, Bool.false_or, Bool.and_eq_true, beq_iff_eq] at h
    obtain ⟨⟨⟨⟨⟨hr, ho⟩, he⟩, hg⟩, hs⟩, hm⟩ := h
    rw [roleSettle_id s he hg hs, serveMailboxes_id s hr ho, roleSettle_id s he hg hs, sendUrgent_id s hm, updateEligible_id s he hg]
  · rfl

/-- The state after a command whose own effect leaves a device at rest. -/
theorem after_rest (s u : State) (h : rest u = true) : after s u = { u with pending := s.pending } := by
  unfold after
  rw [settle_rest u h]

/-- What a command does whose own effect leaves a device at rest. -/
theorem done_rest (s t : State) (h : rest t = true) : done s t = .next { t with pending := s.pending } := by
  unfold done
  rw [settle_rest t h]

end Sys2Proof.Machine
end

