-- ==== Sys2Proof/Tests/Slice0.lean ====
section
/-!
SUPPORT. The model's own tests: small steps checked against values of the manual, ill-formed commands, and for each statement that has
hypotheses one theorem `wit_<statement>` whose parts meet the hypotheses of its clauses, at boundary values where a clause has a range.
Where a clause has a hypothesis on an opaque constant of Config, which nothing can decide, its part takes that one as a premise.
-/

namespace Sys2Proof.Tests

set_option Elab.async false

open Sys2Proof Sys2Proof.Machine

/-! ## Small states -/

/-- A device in RUN with duty, ready for commands at level 3 in epoch 0. -/
def rdy : State := { State.reset with
  sys := { State.reset.sys with ready := true, restored := true, negotiated := true, outputs := true }
  mt := { State.reset.mt with started := true, state := .lock, freq := 50000 }
  pr := { State.reset.pr with role := .simplex }
  mb := { State.reset.mb with epoch := some 0, level := 3 } }
/-- Another mode, tracker, pair state, or role. -/
def sysS (f : Sys → Sys) : State := sysUpd f rdy
def mtS (f : Tracker → Tracker) : State := { rdy with mt := f rdy.mt }
def prS (f : Pair → Pair) : State := prUpd f rdy
/-- A running event of channel 0. -/
def ctx0 (w : CtxWait) : Ctx := { ev := { ch := 0, entry := 0, start := {}, target := {} }, wait := w }
def ctxS (c : Ctx) : State := coilUpd 0 (fun k => { k with ctx := some c }) rdy
def bankS (f : Bank → Bank) : State := bankUpd 0 f rdy
/-- A record in force, and committed. -/
def liveS (k : Kind) (i : Nat) (x : Img) (s : State) : State := { s with live := s.live.set (recKey k i) (some x) }
def cfgS (k : Kind) (i : Nat) (x : Img) (s : State) : State := { s with nv := { s.nv with cfg := s.nv.cfg.set (recKey k i) (some x) } }
def both (k : Kind) (i : Nat) (x : Img) (s : State) : State := liveS k i x (cfgS k i x s)
/-- A timed command of UTC 0 that is pending. -/
def timedS (maxLate : Nat) (s : State) : State :=
  { s with cal := { s.cal with latched := 1, entries := [{ slot := 0, gen := 0, key := .utc 0, ord := 0, job := .timed maxLate 0x109 0 [] }] } }
/-- Microcode in force, an event of channel 0 that waits, channel 0 enabled with outputs on (`b` the bank's flags), a neighbour that runs on
boost. -/
def wordIn (w : Nat) (s : State) : State := liveS Kind.micro 0 w s
def wordS (w : Nat) (c : Ctx) : State := wordIn w (ctxS c)
def ev0 : CoilEvent := { ch := 0, entry := 0, start := {}, target := {} }
def queueS (e : CoilEvent) (s : State) : State := bankUpd 0 (fun b => { b with queue := [e] }) s
def onS (b : Nat) (s : State) : State := liveS Kind.bank 0 (b + 2 ^ 128) s
def boostUpS (s : State) : State :=
  coilUpd 1 (fun k => { k with ctx := some { ctx0 .wt with src := 2, pc := 1 } }) s
/-- A scan of loop 0 whose next word is `w`, and a state in which lane 0 runs it. -/
def runW (w : Nat) (regs : Tab U64) : ScanRun := { ln := 0, due := {}, image := 2 ^ 48 + w * 2 ^ 1152, regs := regs }
def laneS (r : ScanRun) : State := laneUpd 0 (fun k => { k with run := some r }) rdy
/-- Link 8 (port E0) or another in a state. -/
def linkS (l : Nat) (f : Link → Link) : State := linkUpd l f rdy
/-- An ARP frame to MAC 0. -/
def arpFrame : List Byte :=
  let b : List Byte := List.replicate 12 0 ++ [8, 6] ++ List.replicate 46 0
  b ++ leBytes 4 (crc32 b)
/-- Trunk 0 in a mode. -/
def trunkS (mode : Nat) (f : Link → Link) : State := liveS Kind.trunk 0 mode (linkS 0 f)
/-- An entry of the device table, with requests. -/
def devS (d : Dev) (l : List PntReq) : State := { rdy with pnt := { rdy.pnt with dev := [(0, d)], reqs := l } }
def req0 (k : ReqKind) : PntReq := { dv := 0, kind := k, id := some 0 }
/-- A device of a pair. -/
def pairS (f : Pair → Pair) : State := prUpd f (sysS (fun x => { x with straps := { x.straps with pairEn := true } }))
/-- An RTU frame with its CRC. -/
def aduOk : List Byte := [0, 0] ++ leBytes 2 (crcModbus [0, 0])
/-- Thermal hold, with the sensors cool enough for a restart. -/
def holdS : State := { rdy with th := { rdy.th with hold := true } }
/-- An open configuration session; a calendar without a free slot; port E0 configured. -/
def sesS : State := { rdy with ses := { rdy.ses with isOpen := true } }
def fullCal : State := { rdy with cal := { rdy.cal with
  entries := (List.range calSlots).map (fun n => { slot := n, gen := 0, key := .utc 0, ord := n, job := .inject 0 }) } }
def ethCfg : State := both Kind.eth 0 (resetImg Kind.eth 0 + 2 * 2 ^ 16) rdy
/-- An image of interface level 2 runs. -/
def il2S : State := { rdy with nv := { rdy.nv with slotA := { mem := [(9, 2)], written := true } } }
theorem calInsert_some (key : CalKey) (job : CalJob) (s : State) (n : Nat) (h : freeSlot s = some n) :
    calInsert key job s = some (CalEntry.handle { slot := n, gen := s.cal.gen.get n, key := key, ord := s.cal.ord, job := job },
      { s with cal := { s.cal with
        entries := s.cal.entries ++ [{ slot := n, gen := s.cal.gen.get n, key := key, ord := s.cal.ord, job := job }]
        gen := s.cal.gen.set n (nextGen n (s.cal.gen.get n)), hint := (n + 1) % calSlots, ord := s.cal.ord + 1 } }) := by
  unfold calInsert
  rw [h]
theorem freeSlot_first (s : State) (he : s.cal.entries = []) (hh : s.cal.hint = 0) : freeSlot s = some 0 := by
  unfold freeSlot
  rw [he, hh, show calSlots = 4095 + 1 from rfl, List.range_succ_eq_map, List.map_cons, List.find?_cons]
  rfl
theorem calInsert_none (key : CalKey) (job : CalJob) (s : State)
    (h : s.cal.entries = (List.range calSlots).map (fun n => { slot := n, gen := 0, key := .utc 0, ord := n, job := .inject 0 })) :
    calInsert key job s = none := by
  have : freeSlot s = none := by
    unfold freeSlot
    rw [List.find?_eq_none]
    intro x hx
    rw [List.mem_map] at hx
    obtain ⟨i, _, rfl⟩ := hx
    rw [h, Bool.not_eq_true', Bool.not_eq_false, List.any_eq_true]
    exact ⟨_, List.mem_map.mpr ⟨(i + s.cal.hint) % calSlots, List.mem_range.mpr (Nat.mod_lt _ (by decide)), rfl⟩, by simp⟩
  unfold calInsert
  rw [this]
theorem fullCal_none (key : CalKey) (job : CalJob) (op : Nat) (r : Req) : calInsert key job (taken op r fullCal) = none :=
  calInsert_none key job _ (by unfold taken fullCal; dsimp only)
/-- A waveform table of two states is staged; a region is being loaded. -/
def waveS : State :=
  let s := cfgS Kind.pn 0 (2 ^ 8) rdy
  { s with pn := { s.pn with
    stBody := some (2 + 2 ^ 64 + 2 * 2 ^ 2176 + 2 ^ 2240)
    stBand := some (2 ^ 128 + 2 ^ 135 + 2 ^ 144 + 2 ^ 152 + 2 ^ 160), stGamma := some 0 } }
def loadS : State :=
  { rdy with pn := { rdy.pn with region := [(0, { state := .loading, state4 := true, w := 8, h := 1 })] } }
/-- A fingerprint that is neither 0 nor the device's own. -/
def bondP : List Byte := leBytes 8 (if Config.ownFingerprint = 1 then 2 else 1)
theorem bondP_own : (BitVec.ofNat 64 (le bondP 0 8) != Config.ownFingerprint) = true := by
  unfold bondP
  by_cases h : Config.ownFingerprint = 1
  · rw [if_pos h, h]
    decide
  · rw [if_neg h]
    have : BitVec.ofNat 64 (le (leBytes 8 1) 0 8) = 1 := by decide
    rw [this]
    exact bne_iff_ne.mpr (Ne.symm h)
theorem bondP_zero : (BitVec.ofNat 64 (le bondP 0 8) == 0) = false := by
  unfold bondP
  by_cases h : Config.ownFingerprint = 1
  · rw [if_pos h]
    decide
  · rw [if_neg h]
    decide
/-- The request of a payload in slot 0. -/
def req (p : List Byte) : Req := { slot := 0, tag := 0, level := 3, byte5 := 0, len := u16 p.length, crc := u32 (crc32 p), payload := p }
theorem crcReflect_lt (poly n r : Nat) (hp : poly < 2 ^ 32) (hr : r < 2 ^ 32) : crcReflect poly n r < 2 ^ 32 := by
  induction n generalizing r with
  | zero => exact hr
  | succ n ih =>
    unfold crcReflect
    apply ih
    split
    · exact Nat.xor_lt_two_pow (by omega) hp
    · omega
theorem crc32_lt (p : List Byte) : crc32 p < 2 ^ 32 := by
  unfold crc32
  refine Nat.xor_lt_two_pow ?_ (by decide)
  have h : ∀ (l : List Byte) (r : Nat), r < 2 ^ 32 →
      List.foldl (fun r b => crcReflect 0xEDB88320 8 (r ^^^ b.toNat)) r l < 2 ^ 32 := by
    intro l
    induction l with
    | nil => exact fun r h => h
    | cons b l ih =>
      intro r h
      refine ih _ (crcReflect_lt _ _ _ (by decide) (Nat.xor_lt_two_pow h ?_))
      have := b.isLt
      omega
  exact h p _ (by decide)
/-- The same at level 1. -/
def req1 (p : List Byte) : Req := { req p with level := 1 }
/-- A device that would execute any request in slot 0 at once. -/
def mbServes (s : State) : Bool :=
  (s.sys.power == .run || s.sys.power == .park) && s.sys.ready && !(s.mb.slot.get 0).device &&
    !s.port.done.toNat.testBit 0 && s.mb.rings.isEmpty && s.mb.outst.isEmpty && s.mb.epoch == some 0 && s.mb.level == 3 &&
    s.sys.restored && s.sys.negotiated && !s.pr.adopt
def mbReady (s : State) : Bool := mbServes s && !s.sys.recovery
/-- Such a device takes a request of any payload that the card wants, at a level that it serves. -/
theorem takes_at (lv : Byte) (op : Nat) (p : List Byte) (s : State) (c : Card) {r : Req} (hr : r = { req p with level := lv })
    (hc : cardOf op = some c) (hs : mbServes s = true)
    (hn' : s.sys.recovery = false ∨ (recoveryCards.contains op = true ∧ r.level = 1))
    (hl : p.length ≤ 1008) (hn : c.need p.length p = p.length) (hv : 1 ≤ lv.toNat ∧ lv.toNat ≤ 3) (h3 : c.since ≤ lv.toNat) :
    Takes op r p s (taken op r s) := by
  simp only [mbServes, Bool.and_eq_true, Bool.or_eq_true, beq_iff_eq, Bool.not_eq_true', List.isEmpty_iff] at hs
  obtain ⟨⟨⟨⟨⟨⟨⟨⟨⟨⟨h1, h2⟩, h4⟩, h5⟩, h6⟩, h7⟩, h8⟩, h9⟩, h10⟩, h11⟩, h12⟩ := hs
  subst hr
  refine ⟨⟨c, ?_⟩, rfl, rfl⟩
  refine ⟨hc, h1, h2, hn', h4, h5, h6, hl, ?_, ?_, rfl, ?_, .inr ?_, .inr ?_, hn, .inl h10, .inl ⟨h11, h12⟩, ?_, .inr ?_⟩
  · show (u16 p.length).toNat = p.length
    unfold u16
    rw [BitVec.toNat_ofNat]
    exact Nat.mod_eq_of_lt (by omega)
  · show (u32 (crc32 p)).toNat = crc32 p
    unfold u32
    rw [BitVec.toNat_ofNat]
    exact Nat.mod_eq_of_lt (crc32_lt p)
  · simp [h7]
  · rw [h8]
    show some 0 = some (epochOf (0 : U16).toNat)
    rfl
  · rw [h9]
    exact ⟨hv.1, hv.2, h3⟩
  · simp [h7]
  · simp [h7]
/-- Outside RECOVERY mode, at level 3. -/
theorem takes_of (op : Nat) (p : List Byte) (s : State) (c : Card) (hc : cardOf op = some c) (hs : mbReady s = true)
    (hl : p.length ≤ 1008) (hn : c.need p.length p = p.length) (h3 : c.since ≤ 3) : Takes op (req p) p s (taken op (req p) s) := by
  rw [mbReady, Bool.and_eq_true, Bool.not_eq_true'] at hs
  exact takes_at 3 op p s c rfl hc hs.1 (.inl hs.2) hl hn (by decide) h3
theorem bondTake : Takes 0x0E01 (req bondP) bondP rdy (taken 0x0E01 (req bondP) rdy) :=
  takes_of _ _ _ _ rfl (by decide +kernel) (by unfold bondP; split <;> decide) (by unfold bondP; split <;> decide) (by decide +kernel)
/-- A kerf of 10 µs after an event of channel 0 that ended now; a chop in SLOW decay. -/
def kerfS (s : State) : State := coilUpd 0 (fun k => { k with kerf := some 0 }) (liveS Kind.bank 0 (2 ^ 144) s)
def slowC : Ctx := { ctx0 .wt with slow := true }
/-- The entry of the timed command of `timedS`. -/
def timedE (maxLate : Nat) : CalEntry := { slot := 0, gen := 0, key := .utc 0, ord := 0, job := .timed maxLate 0x109 0 [] }
/-- A device table without a free entry. -/
def fullDevs : State := { rdy with pnt := { rdy.pnt with dev := (List.range 4096).map (fun n => (n, { state := .bound })) } }
theorem get_same {α : Type} [Inhabited α] (d : α) (l : List Nat) (i : Nat) (h : i ∈ l) :
    Tab.get (l.map (fun n => (n, d))) i = d := by
  induction l with
  | nil => cases h
  | cons a l ih =>
    rw [List.map_cons]
    unfold Tab.get
    split
    · rfl
    · rename_i h1
      exact ih ((List.mem_cons.mp h).resolve_left h1)
theorem fullDevs_free : freeDv fullDevs = none := by
  unfold freeDv
  rw [List.find?_eq_none]
  intro x hx
  have h : (fullDevs.dev x).state = .bound := by
    unfold State.dev fullDevs
    dsimp only
    rw [get_same _ _ _ (List.mem_range.mpr (Nat.lt_of_lt_of_le (List.mem_range.mp hx) (Nat.min_le_left _ _)))]
  rw [h]
  decide
/-- A reply frame of server 0 to a Modbus read, and the request in flight on trunk 0. -/
def rtuFrame (server : Byte) : List Byte := [server, 3, 2, 0, 0] ++ leBytes 2 (crcModbus [server, 3, 2, 0, 0])
def rtuS : State :=
  linkUpd 0 (fun l => { l with rtu := some (0, 0) })
    { trunkS 2 (fun l => { l with state := .up }) with
      pnt := { rdy.pnt with reqs := [{ req0 (.probe false) with body := some (.mb { fn := 3, addr := 0, count := 1 }) }] } }
/-- Point 0 of a kind on link 8, which is up; a pending resend of priority 1 or 2. -/
def covS : State :=
  linkUpd 8 (fun l => { l with state := .up })
    (liveS Kind.point 0 (2 ^ 42 + 3 * 2 ^ 96) (liveS Kind.dev 0 (8 * 2 ^ 4) (devS { state := .bound } [])))
def resendS (pri : Nat) (shadow : Tab Shadow) : State :=
  { rdy with pnt := { rdy.pnt with resend := [(pri, some (true, 0))] }, pts := { rdy.pts with shadow := shadow } }
/-- A whole image without a code (its hash is that of no bytes) in slot B, in RECOVERY mode or not. -/
def badImg : ImgSlot :=
  { written := true, mem := Tab.setMany [] 0 ([0x36, 0x39, 0x58, 0x42] ++ List.replicate 12 0 ++
      [0xe3, 0xb0, 0xc4, 0x42, 0x98, 0xfc, 0x1c, 0x14, 0x9a, 0xfb, 0xf4, 0xc8, 0x99, 0x6f, 0xb9, 0x24,
       0x27, 0xae, 0x41, 0xe4, 0x64, 0x9b, 0x93, 0x4c, 0xa4, 0x95, 0x99, 0x1b, 0x78, 0x52, 0xb8, 0x55] : List Byte) }
def imgS (rec : Bool) : State :=
  { rdy with nv := { rdy.nv with slotB := badImg }, sys := { rdy.sys with recovery := rec }, mb := { rdy.mb with level := 3 } }
theorem takes_rec : Takes 0x0F03 (req1 [1, 0, 0, 0]) [1, 0, 0, 0] (imgS true) (taken 0x0F03 (req1 [1, 0, 0, 0]) (imgS true)) :=
  takes_at 1 0x0F03 [1, 0, 0, 0] (imgS true) _ rfl rfl (by decide +kernel) (.inr ⟨rfl, rfl⟩) (by decide) (by decide) (by decide) (by decide)
theorem imageSigned_bad : imageSigned badImg = Config.vendorSigned (leNat (badImg.mem.getMany 0 64)) (leNat (badImg.mem.getMany 64 64)) := rfl

/-! ## Tests -/

/-- Ill-formed commands, one for each check of WellFormed.lean. -/
theorem test_ill_formed :
    [Instr.crossing 0 500000 257 0 {}, .crossing 0 500000 256 0 { amp3 := 257 }, .crossing 0 500000 256 0 { amp2 := 257 },
     .cycleBoundary { amp1 := 257 }, .keyScan {}, .iAm 0 { dlen := 7 } 0 480 3, .iAm 0 {} (2 ^ 22) 480 3,
     .covNotification 8 { dadr := 1 } 0 0 none none, .diagStepA 0 .l [], .mirror 0 0 0 false (.m2Sup []) false,
     .mirror 0 0 0 false (.m5Start 0 0 0 8 1 0 0 0 []) false, .mirror 0 0 0 false (.m5Done 0 0 0 8 1 [] [] []) false, .bond [],
     .sensorWindow [] [], .sentinelTick [] [] 3300, .ethFrameRx 0 (List.replicate 1523 0),
     .trunkFrameRx 0 { data := List.replicate 1498 0 }, .rtuFrameRx 0 (List.replicate 257 0) true,
     .mailboxSlotWrite 0 1023 [0, 0], .bulkWindowWrite 65535 [0, 0], .hello (req (List.replicate 1009 0))].all
      (fun i => !i.wf) = true := by decide +kernel

/-- Well-formed ones at the same bounds. -/
theorem test_well_formed :
    [Instr.crossing 0 500000 256 0 {}, .cycleBoundary {}, .iAm 0 {} (2 ^ 22 - 1) 480 3, .ethFrameRx 0 (List.replicate 1522 0),
     .mailboxSlotWrite 0 1023 [0], .bulkWindowWrite 65535 [0], .hello (req (List.replicate 1008 0)), .beatDue].all
      (fun i => i.wf) = true := by decide +kernel

/-- The check value of R409. -/
theorem test_crc16_check : crc16 [0x31, 0x32, 0x33, 0x34, 0x35, 0x36, 0x37, 0x38, 0x39] = 0x29B1 := by decide +kernel

/-- The example of an MT difference across a wrap of the cycle count (00_scope.md). -/
theorem test_mt_difference_wraps : ({ c := 3, a := 16384 } : MT).diff { c := 4294967290, a := 49152 } = 557056 := by decide +kernel

/-- The example of a generator changeover (02_mains_time.md): the eighth crossing at angle 40,000 leaves a pending seam of +25,536. -/
theorem test_generator_seam :
    (match exec (.crossing 0 500000 256 40000 {})
        (mtS (fun m => { m with state := .ride, now := { c := 80357, a := 40000 }, run := List.replicate 7 500000 })) with
      | .next t => t.mt.seam == some 25536 && t.mt.state == .lock
      | _ => false) = true := by decide +kernel

/-- The example of a pull-in profile (09_coil_sequencer.md) passes the checks of an entry; without its END it does not. -/
def pullIn (a : Nat) : Nat :=
  [0x0C808900, 0x40000001, 0x10000001, 0x2A012C00, 0x40000000, 0x0A003630, 0x30000000, 0].getD (a - 0x40) 0
theorem test_pull_in_profile : codeOk pullIn (0x40 + 2 ^ 11 + 8 * 2 ^ 12 + 3000 * 2 ^ 32 + 200 * 2 ^ 48) = true ∧
    codeOk pullIn (0x40 + 2 ^ 11 + 7 * 2 ^ 12 + 3000 * 2 ^ 32 + 200 * 2 ^ 48) = false := by decide +kernel

/-- Its first word drives BOOST with FAST decay to IH 137. -/
theorem test_src_word :
    (match exec (.src 0) (onS 3 (wordS 0x0C808900 (ctx0 .ready))) with
      | .next t => (t.coil 0).ctx.any (fun c => c.src == 2 && c.ih == 137 && c.il == 0 && c.decay == 1)
      | _ => false) = true := by decide +kernel

/-- SHA-256 of no bytes begins with E3B0_C442 (FIPS 180-4). -/
theorem test_sha256_empty : (sha256 []).head? = some 0xE3B0C442 := by decide +kernel

/-! ## Witnesses -/

/-- The hypotheses of EligibleStaysHonest can be met. -/
theorem wit_EligibleStaysHonest :
    (∃ (s : State) (t : State), EligibleHonest s ∧ step s = .next t) :=
  ⟨State.reset, _, fun _ => rfl, rfl⟩

/-- The hypotheses of UnpoweredIsInert can be met. -/
theorem wit_UnpoweredIsInert :
    (∃ (i : Instr) (s : State), portOn s = false ∧ reachesAlwaysOn i = false) :=
  ⟨.beatDue, sysS (fun x => { x with power := .standby }), by decide +kernel, by decide +kernel⟩

/-- The hypotheses of HaltedEnginesAreInert can be met. -/
theorem wit_HaltedEnginesAreInert :
    (∃ (i : Instr) (s : State), ((portOn s = false ∨ s.sys.power = .nap ∨ s.th.hold = true ∨ s.sys.recovery = true)) ∧
      engineCommand i = true) :=
  ⟨.beatDue, sysS (fun x => { x with power := .nap }), .inr (.inl rfl), by decide +kernel⟩

/-- The hypotheses of RefusalsAtTheTake can be met. -/
theorem wit_RefusalsAtTheTake :
    (∃ (i : Instr) (op : Nat) (r : Req) (s : State) (st : Nat) (d : Nat), i.call = some (op, r) ∧ op < 2 ^ 16 ∧ r.payload.length ≤ 1008 ∧
      ((s.sys.power = .run ∨ s.sys.power = .park)) ∧ s.sys.ready = true ∧ s.sys.recovery = false ∧
      (s.mb.slot.get r.slot.val).device = false ∧ s.port.done.toNat.testBit r.slot.val = false ∧ s.mb.rings = [] ∧ op ≠ 0x0001 ∧
      (((1008 < r.len.toNat ∧ st = St.badLen ∧ d = 1008) ∨ (r.len.toNat = r.payload.length ∧ ((crc32 r.payload ≠ r.crc.toNat ∧
      st = St.badCrc ∧ d = 0) ∨ (crc32 r.payload = r.crc.toNat ∧ ((r.byte5 ≠ 0 ∧ st = St.range ∧ d = 0xFFFF) ∨ (r.byte5 = 0 ∧ ((∃ n,
      s.mb.outst.find? (fun o => o.isSlot && o.tag == r.tag.toNat) = some n ∧ n.org = .slot d ∧ st = St.tagBusy) ∨
      (s.mb.outst.find? (fun o => o.isSlot && o.tag == r.tag.toNat) = none ∧ ((s.mb.epoch = none ∧ st = St.badLevel ∧
      d = ((cardOf op).map (·.since)).getD 0) ∨ ((∃ e, s.mb.epoch = some e ∧ e ≠ epochOf r.tag.toNat) ∧ st = St.staleEpoch ∧ d = 0) ∨
      (s.mb.epoch = some (epochOf r.tag.toNat) ∧ ((cardOf op = none ∧ st = St.badOpcode ∧ d = 0) ∨ (∃ c, cardOf op = some c ∧
      ((¬ (1 ≤ r.level.toNat ∧ r.level.toNat ≤ s.mb.level ∧ c.since ≤ r.level.toNat) ∧ st = St.badLevel ∧
      d = c.since + 16 * s.mb.level) ∨ (1 ≤ r.level.toNat ∧ r.level.toNat ≤ s.mb.level ∧ c.since ≤ r.level.toNat ∧
      c.need r.payload.length r.payload ≠ r.payload.length ∧ st = St.badLen ∧
      d = min (c.need r.payload.length r.payload) 0xFFFF)))))))))))))))) :=
  ⟨.sysGetStats { req [] with byte5 := 1 }, 0x109, { req [] with byte5 := 1 }, rdy, St.range, 0xFFFF, by decide +kernel,
    by decide +kernel, by decide +kernel, .inl rfl, by decide +kernel, by decide +kernel, by decide +kernel, by decide +kernel,
    by decide +kernel, by decide +kernel, .inr ⟨rfl, .inr ⟨rfl, .inl ⟨by decide, rfl, rfl⟩⟩⟩⟩

/-- The hypotheses of MainsTimeouts can be met. -/
theorem wit_MainsTimeouts :
    (∃ (s : State), mainRuns s = true ∧ s.mt.state = .lock) ∧
    (∃ (s : State), mainRuns s = true ∧ s.mt.state ≠ .lock) ∧
    (∃ (s : State), mainRuns s = true ∧ s.mt.state = .acquire ∧ 2 ≤ s.mt.last8.length) ∧
    (∃ (s : State), mainRuns s = true ∧ s.mt.state = .acquire ∧ s.mt.last8.length < 2) ∧
    (∃ (s : State), mainRuns s = true ∧ s.mt.state ≠ .acquire) ∧
    (∃ (s : State), mainRuns s = true ∧ s.mt.state = .ride) ∧
    (∃ (s : State), mainRuns s = true ∧ s.mt.state ≠ .ride) :=
  ⟨⟨rdy, by decide +kernel, by decide +kernel⟩,
    ⟨mtS (fun m => { m with state := .synth }), by decide +kernel, by decide +kernel⟩,
    ⟨mtS (fun m => { m with state := .acquire, last8 := [1, 1] }), by decide +kernel, by decide +kernel, by decide +kernel⟩,
    ⟨mtS (fun m => { m with state := .acquire }), by decide +kernel, by decide +kernel, by decide +kernel⟩,
    ⟨mtS (fun m => { m with state := .synth }), by decide +kernel, by decide +kernel⟩,
    ⟨mtS (fun m => { m with state := .ride }), by decide +kernel, by decide +kernel⟩,
    ⟨mtS (fun m => { m with state := .synth }), by decide +kernel, by decide +kernel⟩⟩

/-- The hypotheses of CrossingLocks can be met. -/
theorem wit_CrossingLocks :
    (∃ (phase : Fin 3) (s : State), portOn s = true ∧ s.sys.recovery = false ∧ phase.val ≠ mtRef s) ∧
    (∃ (phase : Fin 3) (interval : Nat) (amp : Nat) (s : State), portOn s = true ∧ s.sys.recovery = false ∧ phase.val = mtRef s ∧
      s.mt.state = .acquire ∧ s.mt.started = false ∧ validCrossing s interval amp = false) ∧
    (∃ (phase : Fin 3) (interval : Nat) (amp : Nat) (s : State), portOn s = true ∧ s.sys.recovery = false ∧ phase.val = mtRef s ∧
      s.mt.state = .acquire ∧ s.mt.started = false ∧ validCrossing s interval amp = true ∧
      consistent s ((interval :: s.mt.run).take 32) = false) ∧
    (∃ (phase : Fin 3) (interval : Nat) (amp : Nat) (s : State), portOn s = true ∧ s.sys.recovery = false ∧ phase.val = mtRef s ∧
      s.mt.state = .acquire ∧ s.mt.started = false ∧ validCrossing s interval amp = true ∧
      consistent s ((interval :: s.mt.run).take 32) = true) ∧
    (∃ (phase : Fin 3) (interval : Nat) (amp : Nat) (angle : U16) (s : State) (b : _), portOn s = true ∧ s.sys.recovery = false ∧
      phase.val = mtRef s ∧ s.mt.state = .lock ∧ b = reachAngle angle s ∧ validCrossing b interval amp = false) ∧
    (∃ (phase : Fin 3) (interval : Nat) (amp : Nat) (angle : U16) (s : State) (b : _), portOn s = true ∧ s.sys.recovery = false ∧
      phase.val = mtRef s ∧ s.mt.state = .lock ∧ b = reachAngle angle s ∧ validCrossing b interval amp = true ∧ b.mt.newRef = false ∧
      inGate b angle = false) ∧
    (∃ (phase : Fin 3) (interval : Nat) (amp : Nat) (angle : U16) (s : State) (b : _), portOn s = true ∧ s.sys.recovery = false ∧
      phase.val = mtRef s ∧ s.mt.state = .lock ∧ b = reachAngle angle s ∧ validCrossing b interval amp = true ∧ b.mt.newRef = false ∧
      inGate b angle = true ∧ b.mt.seam = none) ∧
    (∃ (phase : Fin 3) (interval : Nat) (amp : Nat) (angle : U16) (s : State) (b : _), portOn s = true ∧ s.sys.recovery = false ∧
      phase.val = mtRef s ∧ s.mt.state = .lock ∧ b = reachAngle angle s ∧ validCrossing b interval amp = true ∧ b.mt.newRef = false ∧
      inGate b angle = true ∧ b.mt.seam.isSome = true) ∧
    (∃ (phase : Fin 3) (interval : Nat) (amp : Nat) (angle : U16) (s : State) (b : _), portOn s = true ∧ s.sys.recovery = false ∧
      phase.val = mtRef s ∧ s.mt.state = .ride ∧ b = reachAngle angle s ∧ validCrossing b interval amp = false) ∧
    (∃ (phase : Fin 3) (interval : Nat) (amp : Nat) (angle : U16) (s : State) (b : _), portOn s = true ∧ s.sys.recovery = false ∧
      phase.val = mtRef s ∧ s.mt.state = .ride ∧ b = reachAngle angle s ∧ validCrossing b interval amp = true ∧
      consistent (noteCrossing interval angle b) (longerRun interval b) = true) :=
  ⟨⟨1, mtS (fun m => { m with started := false, state := .acquire }), by decide +kernel, by decide +kernel, by decide +kernel⟩,
    ⟨0, 357141, 256, mtS (fun m => { m with started := false, state := .acquire }), by decide +kernel, by decide +kernel,
      by decide +kernel, by decide +kernel, by decide +kernel, by decide +kernel⟩,
    ⟨0, 500000, 256, mtS (fun m => { m with started := false, state := .acquire }), by decide +kernel, by decide +kernel,
      by decide +kernel, by decide +kernel, by decide +kernel, by decide +kernel, by decide +kernel⟩,
    ⟨0, 500000, 256, mtS (fun m => { m with started := false, state := .acquire, run := List.replicate 31 500000 }), by decide +kernel,
      by decide +kernel, by decide +kernel, by decide +kernel, by decide +kernel, by decide +kernel, by decide +kernel⟩,
    ⟨0, 357141, 256, 0, rdy, _, by decide +kernel, by decide +kernel, by decide +kernel, by decide +kernel, rfl, by decide +kernel⟩,
    ⟨0, 500000, 256, 0x8000, rdy, _, by decide +kernel, by decide +kernel, by decide +kernel, by decide +kernel, rfl, by decide +kernel,
      by decide +kernel, by decide +kernel⟩,
    ⟨0, 500000, 256, 0, rdy, _, by decide +kernel, by decide +kernel, by decide +kernel, by decide +kernel, rfl, by decide +kernel,
      by decide +kernel, by decide +kernel, by decide +kernel⟩,
    ⟨0, 500000, 256, 0, mtS (fun m => { m with seam := some 0 }), _, by decide +kernel, by decide +kernel, by decide +kernel,
      by decide +kernel, rfl, by decide +kernel, by decide +kernel, by decide +kernel, by decide +kernel⟩,
    ⟨0, 357141, 256, 0, mtS (fun m => { m with state := .ride }), _, by decide +kernel, by decide +kernel, by decide +kernel,
      by decide +kernel, rfl, by decide +kernel⟩,
    ⟨0, 500000, 256, 0, mtS (fun m => { m with state := .ride, run := List.replicate 31 500000 }), _, by decide +kernel,
      by decide +kernel, by decide +kernel, by decide +kernel, rfl, by decide +kernel, by decide +kernel⟩⟩

/-- The hypotheses of BoundarySteps can be met. -/
theorem wit_BoundarySteps :
    (∃ (m : MainsMeas) (s : State) (b : State), mtRuns s = true ∧ b = forRange 3 (phaseWatch m) (cycleStart (reachCycle s)) ∧
      b.sys.power ≠ .nap ∧ b.sys.restored = false) ∧
    (∃ (m : MainsMeas) (s : State) (b : State), mtRuns s = true ∧ b = forRange 3 (phaseWatch m) (cycleStart (reachCycle s)) ∧
      b.sys.power = .nap) ∧
    (∃ (m : MainsMeas) (s : State) (b : State), mtRuns s = true ∧ b = forRange 3 (phaseWatch m) (cycleStart (reachCycle s)) ∧
      b.sys.power ≠ .nap ∧ b.sys.restored = true ∧ (cycleOutputs b).pr.swapDue = true) ∧
    (∃ (m : MainsMeas) (s : State) (b : State), mtRuns s = true ∧ b = forRange 3 (phaseWatch m) (cycleStart (reachCycle s)) ∧
      b.sys.power ≠ .nap ∧ b.sys.restored = true ∧ (cycleOutputs b).pr.swapDue = false) ∧
    (∃ (s : State), mtRuns s = true ∧ s.sys.power ≠ .nap ∧ s.sys.restored = true) ∧
    (∃ (s : State), mtRuns s = true ∧ s.sys.power ≠ .nap ∧ s.sys.restored = false) ∧
    (∃ (s : State), mtRuns s = true ∧ s.sys.power = .nap) ∧
    (∃ (s : State), mtRuns s = true ∧ s.sys.power = .run) :=
  ⟨⟨{}, sysS (fun x => { x with restored := false }), _, by decide +kernel, rfl, by decide +kernel, by decide +kernel⟩,
    ⟨{}, sysS (fun x => { x with power := .nap }), _, by decide +kernel, rfl, by decide +kernel⟩,
    ⟨{}, prS (fun p => { p with swapDue := true }), _, by decide +kernel, rfl, by decide +kernel, by decide +kernel, by decide +kernel⟩,
    ⟨{}, rdy, _, by decide +kernel, rfl, by decide +kernel, by decide +kernel, by decide +kernel⟩,
    ⟨rdy, by decide +kernel, by decide +kernel, by decide +kernel⟩,
    ⟨sysS (fun x => { x with restored := false }), by decide +kernel, by decide +kernel, by decide +kernel⟩,
    ⟨sysS (fun x => { x with power := .nap }), by decide +kernel, by decide +kernel⟩,
    ⟨rdy, by decide +kernel, by decide +kernel⟩⟩

/-- The hypotheses of CalendarRows can be met. -/
theorem wit_CalendarRows :
    (∃ (angle : U16) (s : State), mtRuns s = true ∧ dueEntry (reachAngle angle s) = none) ∧
    (∃ (angle : U16) (s : State), mtRuns s = true ∧ dueEntry (reachAngle angle s) ≠ none) ∧
    (∃ (s : State), mtRuns s = true ∧ dueTimed s = none) ∧
    (∃ (s : State) (e : CalEntry) (u : Nat) (maxLate : Nat) (op : Nat) (b5 : Nat) (p : List Byte), mtRuns s = true ∧ s.sys.power ≠ .nap ∧
      dueTimed s = some (e, u) ∧ e.job = .timed maxLate op b5 p ∧ s.duty = false) ∧
    (∃ (s : State) (e : CalEntry) (u : Nat) (maxLate : Nat) (op : Nat) (b5 : Nat) (p : List Byte), mtRuns s = true ∧ s.sys.power ≠ .nap ∧
      dueTimed s = some (e, u) ∧ e.job = .timed maxLate op b5 p ∧ s.duty = true ∧ maxLate ≠ 0 ∧ maxLate * 32768 < s.rtc.corrUtc - u) ∧
    (∃ (s : State) (e : CalEntry) (u : Nat) (maxLate : Nat) (op : Nat) (b5 : Nat) (p : List Byte), mtRuns s = true ∧ s.sys.power ≠ .nap ∧
      dueTimed s = some (e, u) ∧ e.job = .timed maxLate op b5 p ∧ s.duty = true ∧ (¬ (maxLate ≠ 0 ∧
      maxLate * 32768 < s.rtc.corrUtc - u)) ∧ (s.rtc.corrUtc - u) * s.nomFreq ≤ 65536000) :=
  ⟨⟨0, rdy, by decide +kernel, by decide +kernel⟩,
    ⟨0, { rdy with cal := { rdy.cal with entries := [{ slot := 0, gen := 0, key := .mt {}, ord := 0, job := .inject 1 }] } },
      by decide +kernel, by decide +kernel⟩,
    ⟨rdy, by decide +kernel, by decide +kernel⟩,
    ⟨timedS 0 { rdy with pr := { rdy.pr with role := .isolated } }, timedE 0, 0, 0, 0x109, 0, [], by decide +kernel, by decide +kernel,
      by decide +kernel, by decide +kernel, by decide +kernel⟩,
    ⟨timedS 10 { rdy with rtc := { rdy.rtc with corrUtc := 327681 } }, timedE 10, 0, 10, 0x109, 0, [], by decide +kernel,
      by decide +kernel, by decide +kernel, by decide +kernel, by decide +kernel, by decide +kernel, by decide +kernel⟩,
    ⟨timedS 10 { rdy with rtc := { rdy.rtc with corrUtc := 10 } }, timedE 10, 0, 10, 0x109, 0, [], by decide +kernel, by decide +kernel,
      by decide +kernel, by decide +kernel, by decide +kernel, by decide +kernel, by decide +kernel⟩⟩

/-- The hypotheses of CsqInstructions can be met. -/
theorem wit_CsqInstructions :
    (∃ (ch : Fin 24) (s : State) (u : State) (c : Ctx) (w : Nat), enginesRun s = true ∧ (s.coil ch.val).ctx = some c ∧
      turn s ch.val = true ∧ microWord s c.pc = w ∧ u = bankUpd (ch.val / 4) (fun k => { k with issued := ch.val % 4 }) s ∧
      fld w 27 5 = 0x00) ∧
    (∃ (ch : Fin 24) (s : State) (u : State) (c : Ctx) (w : Nat), enginesRun s = true ∧ (s.coil ch.val).ctx = some c ∧
      turn s ch.val = true ∧ microWord s c.pc = w ∧ u = bankUpd (ch.val / 4) (fun k => { k with issued := ch.val % 4 }) s ∧
      fld w 27 5 = 0x01 ∧ fld w 25 2 ≠ 2) ∧
    (∃ (ch : Fin 24) (s : State) (u : State) (c : Ctx) (w : Nat), enginesRun s = true ∧ (s.coil ch.val).ctx = some c ∧
      turn s ch.val = true ∧ microWord s c.pc = w ∧ u = bankUpd (ch.val / 4) (fun k => { k with issued := ch.val % 4 }) s ∧
      fld w 27 5 = 0x01 ∧ fld w 25 2 = 2 ∧ boostFit s (ch.val / 4) = false) ∧
    (∃ (ch : Fin 24) (s : State) (u : State) (c : Ctx) (w : Nat), enginesRun s = true ∧ (s.coil ch.val).ctx = some c ∧
      turn s ch.val = true ∧ microWord s c.pc = w ∧ u = bankUpd (ch.val / 4) (fun k => { k with issued := ch.val % 4 }) s ∧
      fld w 27 5 = 0x01 ∧ fld w 25 2 = 2 ∧ boostFit s (ch.val / 4) = true ∧ ((c.pc = entFld s c.ev.entry 0 11 ∨
      obstructions u ch.val = []))) ∧
    (∃ (ch : Fin 24) (s : State) (u : State) (c : Ctx) (w : Nat), enginesRun s = true ∧ (s.coil ch.val).ctx = some c ∧
      turn s ch.val = true ∧ microWord s c.pc = w ∧ u = bankUpd (ch.val / 4) (fun k => { k with issued := ch.val % 4 }) s ∧
      fld w 27 5 = 0x01 ∧ fld w 25 2 = 2 ∧ boostFit s (ch.val / 4) = true ∧ c.pc ≠ entFld s c.ev.entry 0 11 ∧
      obstructions u ch.val ≠ []) ∧
    (∃ (ch : Fin 24) (s : State) (u : State) (c : Ctx) (w : Nat), enginesRun s = true ∧ (s.coil ch.val).ctx = some c ∧
      turn s ch.val = true ∧ microWord s c.pc = w ∧ u = bankUpd (ch.val / 4) (fun k => { k with issued := ch.val % 4 }) s ∧
      fld w 27 5 = 0x02 ∧ (w.testBit 0 && kerfRuns s ch.val) = false) ∧
    (∃ (ch : Fin 24) (s : State) (u : State) (c : Ctx) (w : Nat), enginesRun s = true ∧ (s.coil ch.val).ctx = some c ∧
      turn s ch.val = true ∧ microWord s c.pc = w ∧ u = bankUpd (ch.val / 4) (fun k => { k with issued := ch.val % 4 }) s ∧
      fld w 27 5 = 0x02 ∧ (w.testBit 0 && kerfRuns s ch.val) = true) ∧
    (∃ (ch : Fin 24) (s : State) (u : State) (c : Ctx) (w : Nat), enginesRun s = true ∧ (s.coil ch.val).ctx = some c ∧
      turn s ch.val = true ∧ microWord s c.pc = w ∧ u = bankUpd (ch.val / 4) (fun k => { k with issued := ch.val % 4 }) s ∧
      fld w 27 5 = 0x03) ∧
    (∃ (ch : Fin 24) (s : State) (u : State) (c : Ctx) (w : Nat), enginesRun s = true ∧ (s.coil ch.val).ctx = some c ∧
      turn s ch.val = true ∧ microWord s c.pc = w ∧ u = bankUpd (ch.val / 4) (fun k => { k with issued := ch.val % 4 }) s ∧
      fld w 27 5 = 0x04) ∧
    (∃ (ch : Fin 24) (s : State) (u : State) (c : Ctx) (w : Nat), enginesRun s = true ∧ (s.coil ch.val).ctx = some c ∧
      turn s ch.val = true ∧ microWord s c.pc = w ∧ u = bankUpd (ch.val / 4) (fun k => { k with issued := ch.val % 4 }) s ∧
      fld w 27 5 = 0x05) ∧
    (∃ (ch : Fin 24) (s : State) (u : State) (c : Ctx) (w : Nat), enginesRun s = true ∧ (s.coil ch.val).ctx = some c ∧
      turn s ch.val = true ∧ microWord s c.pc = w ∧ u = bankUpd (ch.val / 4) (fun k => { k with issued := ch.val % 4 }) s ∧
      fld w 27 5 = 0x06 ∧ kerfRuns s ch.val = false) ∧
    (∃ (ch : Fin 24) (s : State) (u : State) (c : Ctx) (w : Nat), enginesRun s = true ∧ (s.coil ch.val).ctx = some c ∧
      turn s ch.val = true ∧ microWord s c.pc = w ∧ u = bankUpd (ch.val / 4) (fun k => { k with issued := ch.val % 4 }) s ∧
      fld w 27 5 = 0x06 ∧ kerfRuns s ch.val = true) ∧
    (∃ (ch : Fin 24) (s : State) (u : State) (c : Ctx) (w : Nat), enginesRun s = true ∧ (s.coil ch.val).ctx = some c ∧
      turn s ch.val = true ∧ microWord s c.pc = w ∧ u = bankUpd (ch.val / 4) (fun k => { k with issued := ch.val % 4 }) s ∧
      fld w 27 5 = 0x07 ∧ w.testBit 26 = true) ∧
    (∃ (ch : Fin 24) (s : State) (u : State) (c : Ctx) (w : Nat), enginesRun s = true ∧ (s.coil ch.val).ctx = some c ∧
      turn s ch.val = true ∧ microWord s c.pc = w ∧ u = bankUpd (ch.val / 4) (fun k => { k with issued := ch.val % 4 }) s ∧
      fld w 27 5 = 0x07 ∧ w.testBit 26 = false) ∧
    (∃ (ch : Fin 24) (s : State) (u : State) (c : Ctx) (w : Nat), enginesRun s = true ∧ (s.coil ch.val).ctx = some c ∧
      turn s ch.val = true ∧ microWord s c.pc = w ∧ u = bankUpd (ch.val / 4) (fun k => { k with issued := ch.val % 4 }) s ∧
      fld w 27 5 = 0x08 ∧ w.testBit 0 = true) ∧
    (∃ (ch : Fin 24) (s : State) (u : State) (c : Ctx) (w : Nat), enginesRun s = true ∧ (s.coil ch.val).ctx = some c ∧
      turn s ch.val = true ∧ microWord s c.pc = w ∧ u = bankUpd (ch.val / 4) (fun k => { k with issued := ch.val % 4 }) s ∧
      fld w 27 5 = 0x08 ∧ w.testBit 0 = false) ∧
    (∃ (ch : Fin 24) (s : State) (u : State) (c : Ctx) (w : Nat), enginesRun s = true ∧ (s.coil ch.val).ctx = some c ∧
      turn s ch.val = true ∧ microWord s c.pc = w ∧ u = bankUpd (ch.val / 4) (fun k => { k with issued := ch.val % 4 }) s ∧
      fld w 27 5 = 0x09) ∧
    (∃ (ch : Fin 24) (s : State) (u : State) (c : Ctx) (w : Nat), enginesRun s = true ∧ (s.coil ch.val).ctx = some c ∧
      turn s ch.val = true ∧ microWord s c.pc = w ∧ u = bankUpd (ch.val / 4) (fun k => { k with issued := ch.val % 4 }) s ∧
      fld w 27 5 = 0x0A) ∧
    (∃ (ch : Fin 24) (s : State) (u : State) (c : Ctx) (w : Nat), enginesRun s = true ∧ (s.coil ch.val).ctx = some c ∧
      turn s ch.val = true ∧ microWord s c.pc = w ∧ u = bankUpd (ch.val / 4) (fun k => { k with issued := ch.val % 4 }) s ∧
      fld w 27 5 = 0x0B) ∧
    (∃ (ch : Fin 24) (s : State) (u : State) (c : Ctx) (w : Nat), enginesRun s = true ∧ (s.coil ch.val).ctx = some c ∧
      turn s ch.val = true ∧ microWord s c.pc = w ∧ u = bankUpd (ch.val / 4) (fun k => { k with issued := ch.val % 4 }) s ∧
      fld w 27 5 = 0x0C ∧ w.testBit 0 = true) ∧
    (∃ (ch : Fin 24) (s : State) (u : State) (c : Ctx) (w : Nat), enginesRun s = true ∧ (s.coil ch.val).ctx = some c ∧
      turn s ch.val = true ∧ microWord s c.pc = w ∧ u = bankUpd (ch.val / 4) (fun k => { k with issued := ch.val % 4 }) s ∧
      fld w 27 5 = 0x0C ∧ w.testBit 0 = false) :=
  ⟨⟨0, wordS 0 (ctx0 .ready), _, ctx0 .ready, _, by decide +kernel, by decide +kernel, by decide +kernel, rfl, rfl, by decide +kernel⟩,
    ⟨0, wordS 0x0A000000 (ctx0 .ready), _, ctx0 .ready, _, by decide +kernel, by decide +kernel, by decide +kernel, rfl, rfl,
      by decide +kernel, by decide +kernel⟩,
    ⟨0, wordS 0x0C000000 (ctx0 .ready), _, ctx0 .ready, _, by decide +kernel, by decide +kernel, by decide +kernel, rfl, rfl,
      by decide +kernel, by decide +kernel, by decide +kernel⟩,
    ⟨0, liveS Kind.bank 0 2 (wordS 0x0C000000 (ctx0 .ready)), _, ctx0 .ready, _, by decide +kernel, by decide +kernel, by decide +kernel,
      rfl, rfl, by decide +kernel, by decide +kernel, by decide +kernel, by decide +kernel⟩,
    ⟨0, liveS Kind.bank 0 3 (boostUpS (wordS (0x0C000000 * 2 ^ 32) { ctx0 .ready with pc := 1 })), _, { ctx0 .ready with pc := 1 }, _,
      by decide +kernel, by decide +kernel, by decide +kernel, rfl, rfl, by decide +kernel, by decide +kernel, by decide +kernel,
      by decide +kernel, by decide +kernel⟩,
    ⟨0, wordS 0x10000000 (ctx0 .ready), _, ctx0 .ready, _, by decide +kernel, by decide +kernel, by decide +kernel, rfl, rfl,
      by decide +kernel, by decide +kernel⟩,
    ⟨0, kerfS (wordS 0x10000001 (ctx0 .ready)), _, ctx0 .ready, _, by decide +kernel, by decide +kernel, by decide +kernel, rfl, rfl,
      by decide +kernel, by decide +kernel⟩,
    ⟨0, wordS 0x18000000 (ctx0 .ready), _, ctx0 .ready, _, by decide +kernel, by decide +kernel, by decide +kernel, rfl, rfl,
      by decide +kernel⟩,
    ⟨0, wordS 0x20000000 (ctx0 .ready), _, ctx0 .ready, _, by decide +kernel, by decide +kernel, by decide +kernel, rfl, rfl,
      by decide +kernel⟩,
    ⟨0, wordS 0x28000000 (ctx0 .ready), _, ctx0 .ready, _, by decide +kernel, by decide +kernel, by decide +kernel, rfl, rfl,
      by decide +kernel⟩,
    ⟨0, wordS 0x30000000 (ctx0 .ready), _, ctx0 .ready, _, by decide +kernel, by decide +kernel, by decide +kernel, rfl, rfl,
      by decide +kernel, by decide +kernel⟩,
    ⟨0, kerfS (wordS 0x30000000 (ctx0 .ready)), _, ctx0 .ready, _, by decide +kernel, by decide +kernel, by decide +kernel, rfl, rfl,
      by decide +kernel, by decide +kernel⟩,
    ⟨0, wordS 0x3C000000 (ctx0 .ready), _, ctx0 .ready, _, by decide +kernel, by decide +kernel, by decide +kernel, rfl, rfl,
      by decide +kernel, by decide +kernel⟩,
    ⟨0, wordS 0x38000000 (ctx0 .ready), _, ctx0 .ready, _, by decide +kernel, by decide +kernel, by decide +kernel, rfl, rfl,
      by decide +kernel, by decide +kernel⟩,
    ⟨0, wordS 0x40000001 (ctx0 .ready), _, ctx0 .ready, _, by decide +kernel, by decide +kernel, by decide +kernel, rfl, rfl,
      by decide +kernel, by decide +kernel⟩,
    ⟨0, wordS 0x40000000 (ctx0 .ready), _, ctx0 .ready, _, by decide +kernel, by decide +kernel, by decide +kernel, rfl, rfl,
      by decide +kernel, by decide +kernel⟩,
    ⟨0, wordS 0x48000000 (ctx0 .ready), _, ctx0 .ready, _, by decide +kernel, by decide +kernel, by decide +kernel, rfl, rfl,
      by decide +kernel⟩,
    ⟨0, wordS 0x50000000 (ctx0 .ready), _, ctx0 .ready, _, by decide +kernel, by decide +kernel, by decide +kernel, rfl, rfl,
      by decide +kernel⟩,
    ⟨0, wordS 0x58000000 (ctx0 .ready), _, ctx0 .ready, _, by decide +kernel, by decide +kernel, by decide +kernel, rfl, rfl,
      by decide +kernel⟩,
    ⟨0, wordS 0x60000001 (ctx0 .ready), _, ctx0 .ready, _, by decide +kernel, by decide +kernel, by decide +kernel, rfl, rfl,
      by decide +kernel, by decide +kernel⟩,
    ⟨0, wordS 0x60000000 (ctx0 .ready), _, ctx0 .ready, _, by decide +kernel, by decide +kernel, by decide +kernel, rfl, rfl,
      by decide +kernel, by decide +kernel⟩⟩

/-- The hypotheses of CsqWaits can be met. -/
theorem wit_CsqWaits :
    (∃ (ch : Fin 24) (s : State) (c : Ctx), enginesRun s = true ∧ (s.coil ch.val).ctx = some c) ∧
    (∃ (ch : Fin 24) (s : State) (c : Ctx) (low : _), enginesRun s = true ∧ (s.coil ch.val).ctx = some c ∧ c.wait = .wi low) ∧
    (∃ (ch : Fin 24) (s : State) (c : Ctx) (on : _), enginesRun s = true ∧ (s.coil ch.val).ctx = some c ∧ c.wait = .chop on false) ∧
    (∃ (ch : Fin 24) (s : State) (c : Ctx) (low : _), enginesRun s = true ∧ (s.coil ch.val).ctx = some c ∧ c.wait = .wi low ∧ c.src = 2 ∧
      c.noBoost = false) ∧
    (∃ (ch : Fin 24) (s : State) (c : Ctx), enginesRun s = true ∧ (s.coil ch.val).ctx = some c ∧ c.wait ≠ .ending ∧ ((∀ low,
      c.wait ≠ .wi low)) ∧ c.src = 2 ∧ c.noBoost = false) ∧
    (∃ (ch : Fin 24) (s : State) (c : Ctx), enginesRun s = true ∧ (s.coil ch.val).ctx = some c ∧ c.boosts = true) ∧
    (∃ (ch : Fin 24) (s : State) (c : Ctx), enginesRun s = true ∧ (s.coil ch.val).ctx = some c ∧ c.slow = true) ∧
    (∃ (ch : Fin 24) (s : State) (c : Ctx) (x : Comparator), enginesRun s = true ∧ (s.coil ch.val).ctx = some c ∧ c.dwin = false ∧ ((∀ q,
      x ≠ .current q))) ∧
    (∃ (ch : Fin 24) (s : State) (c : Ctx), enginesRun s = true ∧ (s.coil ch.val).ctx = some c ∧ c.dwin = false) ∧
    (∃ (ch : Fin 24) (s : State) (c : Ctx), enginesRun s = true ∧ (s.coil ch.val).ctx = some c ∧ c.wait = .wi false ∧ c.steal = false) ∧
    (∃ (ch : Fin 24) (s : State) (c : Ctx), enginesRun s = true ∧ (s.coil ch.val).ctx = some c ∧ c.wait = .wi true ∧ c.stealOff = false) ∧
    (∃ (ch : Fin 24) (s : State) (c : Ctx) (u : _), enginesRun s = true ∧ (s.coil ch.val).ctx = some c ∧ c.wait = .chop true u) ∧
    (∃ (ch : Fin 24) (s : State) (c : Ctx) (u : _), enginesRun s = true ∧ (s.coil ch.val).ctx = some c ∧ c.wait = .chop false u) ∧
    (∃ (ch : Fin 24) (s : State) (c : Ctx), enginesRun s = true ∧ (s.coil ch.val).ctx = some c ∧ c.wait = .wt ∧ c.steal = true ∧
      c.stealOff = false) ∧
    (∃ (ch : Fin 24) (s : State) (c : Ctx), enginesRun s = true ∧ (s.coil ch.val).ctx = some c ∧ c.wait = .wt ∧ c.stealOff = true) ∧
    (∃ (ch : Fin 24) (s : State) (c : Ctx), enginesRun s = true ∧ (s.coil ch.val).ctx = some c ∧ c.slow = true) ∧
    (∃ (ch : Fin 24) (s : State) (c : Ctx), enginesRun s = true ∧ (s.coil ch.val).ctx = some c ∧ c.wait ≠ .ending ∧
      ((chFld s ch.val 48 16 ≠ 0 ∨ qualifies s ch.val c = false))) ∧
    (∃ (ch : Fin 24) (s : State) (c : Ctx), enginesRun s = true ∧ (s.coil ch.val).ctx = some c ∧ c.wait ≠ .ending ∧
      chFld s ch.val 48 16 = 0 ∧ qualifies s ch.val c = true) ∧
    (∃ (ch : Fin 24) (s : State) (c : Ctx), enginesRun s = true ∧ (s.coil ch.val).ctx = some c ∧ c.dwin = true ∧ c.crossed = false ∧
      chDiagOn s ch.val = true ∧ chFld s ch.val 128 16 ≠ 0) ∧
    (∃ (ch : Fin 24) (s : State) (c : Ctx), enginesRun s = true ∧ (s.coil ch.val).ctx = some c ∧ ((c.crossed = true ∨
      chDiagOn s ch.val = false ∨ chFld s ch.val 128 16 = 0))) :=
  ⟨⟨0, ctxS (ctx0 .wt), ctx0 .wt, by decide +kernel, by decide +kernel⟩,
    ⟨0, ctxS (ctx0 (.wi false)), ctx0 (.wi false), false, by decide +kernel, by decide +kernel, by decide +kernel⟩,
    ⟨0, ctxS (ctx0 (.chop true false)), ctx0 (.chop true false), true, by decide +kernel, by decide +kernel, by decide +kernel⟩,
    ⟨0, ctxS { ctx0 (.wi false) with src := 2 }, { ctx0 (.wi false) with src := 2 }, false, by decide +kernel, by decide +kernel,
      by decide +kernel, by decide +kernel, by decide +kernel⟩,
    ⟨0, ctxS { ctx0 .wt with src := 2 }, { ctx0 .wt with src := 2 }, by decide +kernel, by decide +kernel, by decide +kernel,
      fun _ h => (by cases h), by decide +kernel, by decide +kernel⟩,
    ⟨0, ctxS { ctx0 .wt with src := 2 }, { ctx0 .wt with src := 2 }, by decide +kernel, by decide +kernel, by decide +kernel⟩,
    ⟨0, ctxS slowC, slowC, by decide +kernel, by decide +kernel, by decide +kernel⟩,
    ⟨0, ctxS (ctx0 .wt), ctx0 .wt, .reachedIH, by decide +kernel, by decide +kernel, by decide +kernel, fun _ h => (by cases h)⟩,
    ⟨0, ctxS (ctx0 .wt), ctx0 .wt, by decide +kernel, by decide +kernel, by decide +kernel⟩,
    ⟨0, ctxS (ctx0 (.wi false)), ctx0 (.wi false), by decide +kernel, by decide +kernel, by decide +kernel, by decide +kernel⟩,
    ⟨0, ctxS (ctx0 (.wi true)), ctx0 (.wi true), by decide +kernel, by decide +kernel, by decide +kernel, by decide +kernel⟩,
    ⟨0, ctxS (ctx0 (.chop true true)), ctx0 (.chop true true), true, by decide +kernel, by decide +kernel, by decide +kernel⟩,
    ⟨0, ctxS (ctx0 (.chop false true)), ctx0 (.chop false true), true, by decide +kernel, by decide +kernel, by decide +kernel⟩,
    ⟨0, ctxS { ctx0 .wt with steal := true }, { ctx0 .wt with steal := true }, by decide +kernel, by decide +kernel, by decide +kernel,
      by decide +kernel, by decide +kernel⟩,
    ⟨0, ctxS { ctx0 .wt with steal := true, stealOff := true }, { ctx0 .wt with steal := true, stealOff := true }, by decide +kernel,
      by decide +kernel, by decide +kernel, by decide +kernel⟩,
    ⟨0, ctxS slowC, slowC, by decide +kernel, by decide +kernel, by decide +kernel⟩,
    ⟨0, ctxS (ctx0 .wt), ctx0 .wt, by decide +kernel, by decide +kernel, by decide +kernel, .inr (by decide)⟩,
    ⟨0, liveS Kind.bank 0 (2 ^ 208) (ctxS { ctx0 (.chop true true) with src := 1, ih := 1 }),
      { ctx0 (.chop true true) with src := 1, ih := 1 }, by decide +kernel, by decide +kernel, by decide +kernel, by decide +kernel,
      by decide +kernel⟩,
    ⟨0, liveS Kind.bank 0 (2 ^ 132 + 2 ^ 256) (ctxS { ctx0 .wt with dwin := true }), { ctx0 .wt with dwin := true }, by decide +kernel,
      by decide +kernel, by decide +kernel, by decide +kernel, by decide +kernel, by decide +kernel⟩,
    ⟨0, liveS Kind.bank 0 0 (ctxS (ctx0 .wt)), ctx0 .wt, by decide +kernel, by decide +kernel, .inr (.inl (by decide +kernel))⟩⟩

/-- The hypotheses of CoilEventStart can be met. -/
theorem wit_CoilEventStart :
    (∃ (ch : Fin 24) (s0 : State) (s : State), enginesRun s0 = true ∧
      s = (if boostDue s0 ch.val then forAll ((bankChans (ch.val / 4)).filter (fun d => decide (d < ch.val) &&
      boostDue s0 d)) startChannel s0 else s0)) ∧
    (∃ (ch : Fin 24) (s0 : State) (s : State) (e : _), enginesRun s0 = true ∧
      s = (if boostDue s0 ch.val then forAll ((bankChans (ch.val / 4)).filter (fun d => decide (d < ch.val) &&
      boostDue s0 d)) startChannel s0 else s0) ∧ nextStart s ch.val = some e ∧ reached s e = false) ∧
    (∃ (ch : Fin 24) (s0 : State) (s : State) (e : _) (c : _), enginesRun s0 = true ∧
      s = (if boostDue s0 ch.val then forAll ((bankChans (ch.val / 4)).filter (fun d => decide (d < ch.val) &&
      boostDue s0 d)) startChannel s0 else s0) ∧ nextStart s ch.val = some e ∧ reached s e = true ∧
      standingCause s ch.val e.entry = some c) ∧
    (∃ (ch : Fin 24) (s0 : State) (s : State) (e : _), enginesRun s0 = true ∧
      s = (if boostDue s0 ch.val then forAll ((bankChans (ch.val / 4)).filter (fun d => decide (d < ch.val) &&
      boostDue s0 d)) startChannel s0 else s0) ∧ nextStart s ch.val = some e ∧ reached s e = true ∧
      standingCause s ch.val e.entry = none ∧ heldBack s ch.val e = true) ∧
    (∃ (ch : Fin 24) (s0 : State) (s : State) (e : _), enginesRun s0 = true ∧
      s = (if boostDue s0 ch.val then forAll ((bankChans (ch.val / 4)).filter (fun d => decide (d < ch.val) &&
      boostDue s0 d)) startChannel s0 else s0) ∧ nextStart s ch.val = some e ∧ reached s e = true ∧
      standingCause s ch.val e.entry = none ∧ heldBack s ch.val e = false ∧ firstIsBoost s (ch.val / 4) e.entry = false) ∧
    (∃ (ch : Fin 24) (s0 : State) (s : State) (e : _), enginesRun s0 = true ∧
      s = (if boostDue s0 ch.val then forAll ((bankChans (ch.val / 4)).filter (fun d => decide (d < ch.val) &&
      boostDue s0 d)) startChannel s0 else s0) ∧ nextStart s ch.val = some e ∧ reached s e = true ∧
      standingCause s ch.val e.entry = none ∧ heldBack s ch.val e = false ∧ firstIsBoost s (ch.val / 4) e.entry = true ∧
      obstructions s ch.val = []) ∧
    (∃ (ch : Fin 24) (s0 : State) (s : State) (e : _), enginesRun s0 = true ∧
      s = (if boostDue s0 ch.val then forAll ((bankChans (ch.val / 4)).filter (fun d => decide (d < ch.val) &&
      boostDue s0 d)) startChannel s0 else s0) ∧ nextStart s ch.val = some e ∧ reached s e = true ∧
      standingCause s ch.val e.entry = none ∧ heldBack s ch.val e = false ∧ firstIsBoost s (ch.val / 4) e.entry = true ∧
      obstructions s ch.val ≠ [] ∧ ((e.allow = 0xFFFF ∨ ∃ x, worstOf s ch.val = some x ∧ latenessNow s e + x ≤ e.allow * 1000)) ∧
      e.waited = true) ∧
    (∃ (ch : Fin 24) (s0 : State) (s : State) (e : _), enginesRun s0 = true ∧
      s = (if boostDue s0 ch.val then forAll ((bankChans (ch.val / 4)).filter (fun d => decide (d < ch.val) &&
      boostDue s0 d)) startChannel s0 else s0) ∧ nextStart s ch.val = some e ∧ reached s e = true ∧
      standingCause s ch.val e.entry = none ∧ heldBack s ch.val e = false ∧ firstIsBoost s (ch.val / 4) e.entry = true ∧
      obstructions s ch.val ≠ [] ∧ ((e.allow = 0xFFFF ∨ ∃ x, worstOf s ch.val = some x ∧ latenessNow s e + x ≤ e.allow * 1000)) ∧
      e.waited = false) ∧
    (∃ (ch : Fin 24) (s0 : State) (s : State) (e : _), enginesRun s0 = true ∧
      s = (if boostDue s0 ch.val then forAll ((bankChans (ch.val / 4)).filter (fun d => decide (d < ch.val) &&
      boostDue s0 d)) startChannel s0 else s0) ∧ nextStart s ch.val = some e ∧ reached s e = true ∧
      standingCause s ch.val e.entry = none ∧ heldBack s ch.val e = false ∧ firstIsBoost s (ch.val / 4) e.entry = true ∧
      obstructions s ch.val ≠ [] ∧ e.allow ≠ 0xFFFF ∧ ((∀ x, worstOf s ch.val = some x → e.allow * 1000 < latenessNow s e + x))) ∧
    (∃ (ch : Fin 24) (s0 : State) (s : State), enginesRun s0 = true ∧
      s = (if boostDue s0 ch.val then forAll ((bankChans (ch.val / 4)).filter (fun d => decide (d < ch.val) &&
      boostDue s0 d)) startChannel s0 else s0) ∧ (s.coil ch.val).ctx = none) ∧
    (∃ (ch : Fin 24) (s0 : State) (s : State) (c : _), enginesRun s0 = true ∧
      s = (if boostDue s0 ch.val then forAll ((bankChans (ch.val / 4)).filter (fun d => decide (d < ch.val) &&
      boostDue s0 d)) startChannel s0 else s0) ∧ (s.coil ch.val).ctx = some c) :=
  ⟨⟨0, rdy, _, by decide +kernel, rfl⟩,
    ⟨0, queueS { ev0 with start := { c := 1 } } rdy, _, { ev0 with start := { c := 1 } }, by decide +kernel, rfl, by decide +kernel,
      by decide +kernel⟩,
    ⟨0, queueS ev0 rdy, _, ev0, 9, by decide +kernel, rfl, by decide +kernel, by decide +kernel, by decide +kernel⟩,
    ⟨0, queueS ev0 (coilUpd 0 (fun k => { k with kerf := some 0 }) (onS (1 + 2 ^ 144) rdy)), _, ev0, by decide +kernel, rfl,
      by decide +kernel, by decide +kernel, by decide +kernel, by decide +kernel⟩,
    ⟨0, queueS ev0 (onS 1 rdy), _, ev0, by decide +kernel, rfl, by decide +kernel, by decide +kernel, by decide +kernel,
      by decide +kernel, by decide +kernel⟩,
    ⟨0, queueS ev0 (wordIn 0x0C000000 (onS 3 rdy)), _, ev0, by decide +kernel, rfl, by decide +kernel, by decide +kernel,
      by decide +kernel, by decide +kernel, by decide +kernel, by decide +kernel⟩,
    ⟨0, queueS { ev0 with waited := true } (wordIn 0x0C000000 (boostUpS (onS 3 rdy))), _, { ev0 with waited := true }, by decide +kernel,
      rfl, by decide +kernel, by decide +kernel, by decide +kernel, by decide +kernel, by decide +kernel, by decide +kernel, .inl rfl,
      by decide +kernel⟩,
    ⟨0, queueS ev0 (wordIn 0x0C000000 (boostUpS (onS 3 rdy))), _, ev0, by decide +kernel, rfl, by decide +kernel, by decide +kernel,
      by decide +kernel, by decide +kernel, by decide +kernel, by decide +kernel, .inl rfl, by decide +kernel⟩,
    ⟨0, queueS { ev0 with allow := 0 } (liveS Kind.entry 0 (2 ^ 32) (wordIn 0x0C000000 (boostUpS (onS (3 + 2 ^ 416) rdy)))), _,
      { ev0 with allow := 0 }, by decide +kernel, rfl, by decide +kernel, by decide +kernel, by decide +kernel, by decide +kernel,
      by decide +kernel, by decide +kernel, by decide +kernel,
      fun x h => by (have h2 : some 1000 = some x := Eq.trans (by decide +kernel) h); cases h2; decide +kernel⟩,
    ⟨0, rdy, _, by decide +kernel, rfl, by decide +kernel⟩,
    ⟨0, ctxS (ctx0 .wt), _, ctx0 .wt, by decide +kernel, rfl, by decide +kernel⟩⟩

/-- The hypotheses of CoilEventEnds can be met. -/
theorem wit_CoilEventEnds :
    (∃ (ch : Fin 24) (s : State) (c : _) (t : _) (u : _), enginesRun s = true ∧ (s.coil ch.val).ctx = some c ∧ c.wait = .ending ∧
      (s.coil ch.val).ls = false ∧ t = eventMiss ch.val s ∧
      (u = coilUpd ch.val (fun k => { k with ctx := none, kerf := some (time10ns t), flow := false, oldRange := none, trips := if c.ends = 4 ∧ k.lastOn = 7 then k.trips else 0 }) t) ∧ ((c.finding = true ∨ (u.coil ch.val).kept = false))) ∧
    (∃ (ch : Fin 24) (s : State) (c : _) (t : _) (u : _), enginesRun s = true ∧ (s.coil ch.val).ctx = some c ∧ c.wait = .ending ∧
      (s.coil ch.val).ls = false ∧ t = eventMiss ch.val s ∧
      (u = coilUpd ch.val (fun k => { k with ctx := none, kerf := some (time10ns t), flow := false, oldRange := none, trips := if c.ends = 4 ∧ k.lastOn = 7 then k.trips else 0 }) t) ∧ c.finding = false ∧ (u.coil ch.val).kept = true) ∧
    (∃ (ch : Fin 24) (s : State) (c : _), enginesRun s = true ∧ (s.coil ch.val).ctx = some c ∧ ((c.wait ≠ .ending ∨
      (s.coil ch.val).ls = true))) ∧
    (∃ (ch : Fin 24) (s : State), enginesRun s = true ∧ (s.coil ch.val).ctx = none) ∧
    (∃ (ch : Fin 24) (s : State), enginesRun s = true ∧ (s.coil ch.val).ctx = none) ∧
    (∃ (ch : Fin 24) (s : State) (c : _), enginesRun s = true ∧ (s.coil ch.val).ctx = some c ∧ ((c.armed = false ∨ c.confirmed = false ∨
      c.measured = true))) ∧
    (∃ (ch : Fin 24) (s : State) (c : _) (m : _), enginesRun s = true ∧ (s.coil ch.val).ctx = some c ∧ c.armed = true ∧
      c.confirmed = true ∧ c.measured = false ∧ ((csFld s ch.val 80 16 = 0 ∨ m < csFld s ch.val 64 16 * 1000 ∨
      csFld s ch.val 80 16 * 1000 < m))) ∧
    (∃ (ch : Fin 24) (s : State) (c : _) (m : _), enginesRun s = true ∧ (s.coil ch.val).ctx = some c ∧ c.armed = true ∧
      c.confirmed = true ∧ c.measured = false ∧ csFld s ch.val 80 16 ≠ 0 ∧ csFld s ch.val 64 16 * 1000 ≤ m ∧
      m ≤ csFld s ch.val 80 16 * 1000) ∧
    (∃ (s : State), enginesRun s = true) ∧
    (∃ (s : State) (old : _) (m : _), enginesRun s = true ∧ 0 < old ∧ old < 2 ^ 32 ∧ m < 2 ^ 32) ∧
    (∃ (ch : Fin 24) (s : State) (e : _), enginesRun s = true ∧ (chanQueue s ch.val).find? (allowanceGone s) = some e) ∧
    (∃ (ch : Fin 24) (s : State), enginesRun s = true ∧ (chanQueue s ch.val).find? (allowanceGone s) = none) ∧
    (∃ (ch : Fin 24) (s : State), enginesRun s = true ∧ (s.coil ch.val).ctx = none) ∧
    (∃ (ch : Fin 24) (s : State) (c : _), enginesRun s = true ∧ (s.coil ch.val).ctx = some c ∧ c.dwin = false) :=
  ⟨⟨0, ctxS (ctx0 .ending), ctx0 .ending, _, _, by decide +kernel, by decide +kernel, by decide +kernel, by decide +kernel, rfl, rfl,
    by decide +kernel⟩,
    ⟨0, coilUpd 0 (fun k => { k with kept := true }) (ctxS (ctx0 .ending)), ctx0 .ending, _, _, by decide +kernel, by decide +kernel,
      by decide +kernel, by decide +kernel, rfl, rfl, by decide +kernel, by decide +kernel⟩,
    ⟨0, ctxS (ctx0 .wt), ctx0 .wt, by decide +kernel, by decide +kernel, by decide +kernel⟩,
    ⟨0, rdy, by decide +kernel, by decide +kernel⟩,
    ⟨0, rdy, by decide +kernel, by decide +kernel⟩,
    ⟨0, ctxS (ctx0 .wt), ctx0 .wt, by decide +kernel, by decide +kernel, by decide +kernel⟩,
    ⟨0, ctxS { ctx0 .wt with armed := true, confirmed := true }, { ctx0 .wt with armed := true, confirmed := true }, 0,
      by decide +kernel, by decide +kernel, by decide +kernel, by decide +kernel, by decide +kernel, by decide +kernel⟩,
    ⟨0, liveS Kind.chan 0 (2 ^ 80) (ctxS { ctx0 .wt with armed := true, confirmed := true }),
      { ctx0 .wt with armed := true, confirmed := true }, 1000, by decide +kernel, by decide +kernel, by decide +kernel,
      by decide +kernel, by decide +kernel, by decide +kernel, by decide +kernel, by decide +kernel⟩,
    ⟨rdy, by decide +kernel⟩,
    ⟨rdy, 1, 1, by decide +kernel, by decide +kernel, by decide +kernel, by decide +kernel⟩,
    ⟨0, queueS { ev0 with allow := 0 } rdy, _, by decide +kernel, rfl⟩,
    ⟨0, queueS ev0 rdy, by decide +kernel, by decide +kernel⟩,
    ⟨0, rdy, by decide +kernel, by decide +kernel⟩,
    ⟨0, ctxS (ctx0 .wt), ctx0 .wt, by decide +kernel, by decide +kernel, by decide +kernel⟩⟩

/-- The hypotheses of CoilTrips can be met. -/
theorem wit_CoilTrips :
    (∃ (ch : Fin 24) (s : State), portOn s = true ∧ (s.coil ch.val).ctx = none) ∧
    (∃ (ch : Fin 24) (s : State) (c : _), portOn s = true ∧ (s.coil ch.val).ctx = some c ∧ c.wait = .ending ∧ c.ends = 4) ∧
    (∃ (ch : Fin 24) (s : State) (c : _) (t : State), portOn s = true ∧ (s.coil ch.val).ctx = some c ∧ (¬ (c.wait = .ending ∧
      c.ends = 4)) ∧
      t = coilUpd ch.val (fun k => { k with trips := min (k.trips + 1) 255 }) (ctxUpd ch.val (fun c => { c with ends := 4 }) (endFast ch.val 4 (onFinding ch.val 7 s))) ∧ (chFld t ch.val 5 3 + 1 ≤ (t.coil ch.val).trips ∧ (t.coil ch.val).latched = false)) ∧
    (∃ (ch : Fin 24) (s : State) (c : _) (t : State), portOn s = true ∧ (s.coil ch.val).ctx = some c ∧ (¬ (c.wait = .ending ∧
      c.ends = 4)) ∧
      t = coilUpd ch.val (fun k => { k with trips := min (k.trips + 1) 255 }) (ctxUpd ch.val (fun c => { c with ends := 4 }) (endFast ch.val 4 (onFinding ch.val 7 s))) ∧ (¬ (chFld t ch.val 5 3 + 1 ≤ (t.coil ch.val).trips ∧ (t.coil ch.val).latched = false))) ∧
    (∃ (b : Fin 6) (s : State), portOn s = true ∧ (s.bank b.val).hs = 0) ∧
    (∃ (b : Fin 6) (s : State) (t : State) (recent : _), portOn s = true ∧ (s.bank b.val).hs ≠ 0 ∧
      t = forAll (bankChans b.val) (endFast · 4) (forAll ((bankChans b.val).filter (chEnabled s)) (fun ch s => onFinding ch 9 s) s) ∧
      recent = ((t.bank b.val).tripAt.filter (fun x => t.rtc.up < x + 60 * 32768)) ++ [t.rtc.up] ∧ (¬ (3 ≤ recent.length ∧
      ((bankUpd b.val (fun k => { k with hsTrips := min (k.hsTrips + 1) 65535, tripAt := recent }) t).bank b.val).latched = false))) ∧
    (∃ (b : Fin 6) (s : State) (t : State) (recent : _), portOn s = true ∧ (s.bank b.val).hs ≠ 0 ∧
      t = forAll (bankChans b.val) (endFast · 4) (forAll ((bankChans b.val).filter (chEnabled s)) (fun ch s => onFinding ch 9 s) s) ∧
      recent = ((t.bank b.val).tripAt.filter (fun x => t.rtc.up < x + 60 * 32768)) ++ [t.rtc.up] ∧ (3 ≤ recent.length ∧
      ((bankUpd b.val (fun k => { k with hsTrips := min (k.hsTrips + 1) 65535, tripAt := recent }) t).bank b.val).latched = false)) :=
  ⟨⟨0, rdy, by decide +kernel, by decide +kernel⟩,
    ⟨0, ctxS { ctx0 .ending with ends := 4 }, { ctx0 .ending with ends := 4 }, by decide +kernel, by decide +kernel, by decide +kernel,
      by decide +kernel⟩,
    ⟨0, liveS Kind.bank 0 0 (ctxS (ctx0 .wt)), ctx0 .wt, _, by decide +kernel, by decide +kernel, by decide +kernel, rfl,
      by decide +kernel⟩,
    ⟨0, ctxS (ctx0 .wt), ctx0 .wt, _, by decide +kernel, by decide +kernel, by decide +kernel, rfl, by decide +kernel⟩,
    ⟨0, rdy, by decide +kernel, by decide +kernel⟩,
    ⟨0, bankS (fun b => { b with hs := 1 }), _, _, by decide +kernel, by decide +kernel, rfl, rfl, by decide +kernel⟩,
    ⟨0, { bankS (fun b => { b with hs := 1, tripAt := [0, 0] }) with rtc := { rdy.rtc with up := 1 } }, _, _, by decide +kernel,
      by decide +kernel, rfl, rfl, by decide +kernel⟩⟩

/-- The hypotheses of CoilSafeState can be met. -/
theorem wit_CoilSafeState :
    (∃ (s : State), portOn s = true ∧ s.sys.uvlo = false) ∧
    (∃ (s : State), portOn s = true ∧ s.sys.uvlo = true) ∧
    (∃ (s : State), portOn s = true) ∧
    (∃ (s : State), portOn s = true ∧ s.sys.gateHold = false) ∧
    (∃ (s : State), portOn s = true ∧ s.sys.gateHold = true) ∧
    (∃ (s : State), portOn s = true) :=
  ⟨⟨rdy, by decide +kernel, by decide +kernel⟩,
    ⟨sysS (fun x => { x with uvlo := true }), by decide +kernel, by decide +kernel⟩,
    ⟨rdy, by decide +kernel⟩,
    ⟨rdy, by decide +kernel, by decide +kernel⟩,
    ⟨sysS (fun x => { x with gateHold := true }), by decide +kernel, by decide +kernel⟩,
    ⟨rdy, by decide +kernel⟩⟩

/-- The hypotheses of CoilDiagnostics can be met. -/
theorem wit_CoilDiagnostics :
    (∃ (b : Fin 6) (s : State), enginesRun s = true ∧ (((s.bank b.val).diagDue = true ∧ diagNeeded s b.val = true ∨
      (s.bank b.val).diagAsk.isSome = true ∧ tested s b.val ≠ [])) ∧ (bankChans b.val).all (fun ch => (s.coil ch).ctx.isNone &&
      !kerfRuns s ch) = true ∧ (s.bank b.val).hs = 0 ∧ ((∀ e ∈ (s.bank b.val).queue,
      seqLength s b.val + 100000 < auTo10ns s (e.start.diff s.now))) ∧ gatesOk s = true ∧ (s.bank b.val).diag = none) ∧
    (∃ (b : Fin 6) (s : State), enginesRun s = true ∧ (((s.bank b.val).diagAsk = none ∧ (s.bank b.val).diagDue = false ∨
      (s.bank b.val).hs ≠ 0 ∨ gatesOk s = false ∨ (s.bank b.val).diag ≠ none ∨ (∃ e ∈ (s.bank b.val).queue,
      auTo10ns s (e.start.diff s.now) ≤ seqLength s b.val + 100000) ∨ (∃ ch ∈ bankChans b.val, (s.coil ch).ctx ≠ none ∨
      kerfRuns s ch = true)))) ∧
    (∃ (b : Fin 6) (s : State) (hs : Window) (ld : List Window) (found : _) (t : _), enginesRun s = true ∧
      (s.bank b.val).diag = some { stepB := none, found := found } ∧
      t = forAll (tested s b.val) (fun ch s => coilUpd ch (fun k => { k with windows := hs.code + 4 * (ld.getD (ch % 4) .l).code }) s) s ∧ hs = .h) ∧
    (∃ (b : Fin 6) (s : State) (hs : Window) (ld : List Window) (found : _) (t : _), enginesRun s = true ∧
      (s.bank b.val).diag = some { stepB := none, found := found } ∧
      t = forAll (tested s b.val) (fun ch s => coilUpd ch (fun k => { k with windows := hs.code + 4 * (ld.getD (ch % 4) .l).code }) s) s ∧ hs = .l) ∧
    (∃ (b : Fin 6) (s : State) (hs : Window) (ld : List Window) (found : _) (t : _), enginesRun s = true ∧
      (s.bank b.val).diag = some { stepB := none, found := found } ∧
      t = forAll (tested s b.val) (fun ch s => coilUpd ch (fun k => { k with windows := hs.code + 4 * (ld.getD (ch % 4) .l).code }) s) s ∧ hs = .m ∧ ((tested s b.val).filter (fun ch => ld.getD (ch % 4) .l == .l)).length ≠ 1) ∧
    (∃ (b : Fin 6) (s : State) (hs : Window) (ld : List Window) (found : _) (t : _), enginesRun s = true ∧
      (s.bank b.val).diag = some { stepB := none, found := found } ∧
      t = forAll (tested s b.val) (fun ch s => coilUpd ch (fun k => { k with windows := hs.code + 4 * (ld.getD (ch % 4) .l).code }) s) s ∧ hs = .m ∧ ((tested s b.val).filter (fun ch => ld.getD (ch % 4) .l == .l)).length = 1) ∧
    (∃ (b : Fin 6) (s : State) (hs : Window) (ld : List Window) (found : _) (t : _), enginesRun s = true ∧
      (s.bank b.val).diag = some { stepB := none, found := found } ∧
      t = forAll (tested s b.val) (fun ch s => coilUpd ch (fun k => { k with windows := hs.code + 4 * (ld.getD (ch % 4) .l).code }) s) s ∧ hs = .n ∧ tested s b.val = []) ∧
    (∃ (b : Fin 6) (s : State) (hs : Window) (ld : List Window) (found : _) (t : _), enginesRun s = true ∧
      (s.bank b.val).diag = some { stepB := none, found := found } ∧
      t = forAll (tested s b.val) (fun ch s => coilUpd ch (fun k => { k with windows := hs.code + 4 * (ld.getD (ch % 4) .l).code }) s) s ∧ hs = .n ∧ tested s b.val ≠ []) ∧
    (∃ (b : Fin 6) (s : State) (ld : Window) (ch : _) (ch2 : _) (rest : _) (found : _) (t : _), enginesRun s = true ∧
      (s.bank b.val).diag = some { stepB := some (ch :: ch2 :: rest), found := found } ∧
      t = coilUpd ch (fun k => { k with windows := k.windows % 16 + 16 * ld.code }) s ∧ combines (s.coil ch).code = true) ∧
    (∃ (b : Fin 6) (s : State) (ld : Window) (ch : _) (ch2 : _) (rest : _) (found : _) (t : _), enginesRun s = true ∧
      (s.bank b.val).diag = some { stepB := some (ch :: ch2 :: rest), found := found } ∧
      t = coilUpd ch (fun k => { k with windows := k.windows % 16 + 16 * ld.code }) s ∧ combines (s.coil ch).code = false) ∧
    (∃ (b : Fin 6) (s : State), enginesRun s = true ∧ (s.bank b.val).diag = none) ∧
    (∃ (b : Fin 6) (s : State), enginesRun s = true ∧ (s.bank b.val).diag = none) ∧
    (∃ (b : Fin 6) (s : State), enginesRun s = true ∧ (s.bank b.val).diagDue = true ∧ (s.bank b.val).starved = false ∧
      4 * bankFld s b.val 16 16 ≤ (s.bank b.val).dueCycles) ∧
    (∃ (b : Fin 6) (s : State), enginesRun s = true ∧ (((s.bank b.val).diagDue = false ∨ (s.bank b.val).starved = true ∨
      (s.bank b.val).dueCycles < 4 * bankFld s b.val 16 16))) ∧
    (∃ (b : Fin 6) (s : State) (t : _), portOn s = true ∧ (s.bank b.val).pendAt = some t ∧
      (((bankChans b.val).all (fun ch => (s.coil ch).ctx.isNone) = true ∨ (t + 32768 ≤ s.rtc.up ∧
      (bankChans b.val).all (fun ch => ((s.coil ch).ctx).all (fun c => !c.inBoost && !endDecay s ch c && !c.dwin)) = true)))) ∧
    (∃ (b : Fin 6) (s : State) (t : _), portOn s = true ∧ (s.bank b.val).pendAt = some t ∧
      (bankChans b.val).all (fun ch => (s.coil ch).ctx.isNone) = false ∧ ((s.rtc.up < t + 32768 ∨
      (bankChans b.val).all (fun ch => ((s.coil ch).ctx).all (fun c => !c.inBoost && !endDecay s ch c && !c.dwin)) = false))) ∧
    (∃ (b : Fin 6) (s : State), portOn s = true ∧ (s.bank b.val).pendAt = none) :=
  ⟨⟨0, onS (1 + 2 ^ 131) (bankS (fun b => { b with diagAsk := some 0 })), by decide +kernel, by decide +kernel, by decide +kernel,
    by decide +kernel, by decide +kernel, by decide +kernel, by decide +kernel⟩,
    ⟨0, rdy, by decide +kernel, .inl (by decide)⟩,
    ⟨0, bankS (fun b => { b with diag := some {} }), .h, [], [], _, by decide +kernel, by decide +kernel, rfl, by decide +kernel⟩,
    ⟨0, bankS (fun b => { b with diag := some {} }), .l, [], [], _, by decide +kernel, by decide +kernel, rfl, by decide +kernel⟩,
    ⟨0, bankS (fun b => { b with diag := some {} }), .m, [], [], _, by decide +kernel, by decide +kernel, rfl, by decide +kernel,
      by decide +kernel⟩,
    ⟨0, onS (1 + 2 ^ 131) (bankS (fun b => { b with diag := some {} })), .m, [], [], _, by decide +kernel, by decide +kernel, rfl,
      by decide +kernel, by decide +kernel⟩,
    ⟨0, bankS (fun b => { b with diag := some {} }), .n, [], [], _, by decide +kernel, by decide +kernel, rfl, by decide +kernel,
      by decide +kernel⟩,
    ⟨0, onS (1 + 2 ^ 131) (bankS (fun b => { b with diag := some {} })), .n, [], [], _, by decide +kernel, by decide +kernel, rfl,
      by decide +kernel, by decide +kernel⟩,
    ⟨0, coilUpd 0 (fun k => { k with code := 6 }) (bankS (fun b => { b with diag := some { stepB := some [0, 1] } })), .l, 0, 1, [], [],
      _, by decide +kernel, by decide +kernel, rfl, by decide +kernel⟩,
    ⟨0, bankS (fun b => { b with diag := some { stepB := some [0, 1] } }), .l, 0, 1, [], [], _, by decide +kernel, by decide +kernel,
      rfl, by decide +kernel⟩,
    ⟨0, rdy, by decide +kernel, by decide +kernel⟩,
    ⟨0, rdy, by decide +kernel, by decide +kernel⟩,
    ⟨0, bankS (fun b => { b with diagDue := true, dueCycles := 2 ^ 20 }), by decide +kernel, by decide +kernel, by decide +kernel,
      by decide +kernel⟩,
    ⟨0, rdy, by decide +kernel, by decide +kernel⟩,
    ⟨0, bankS (fun b => { b with pendAt := some 0 }), _, by decide +kernel, rfl, by decide +kernel⟩,
    ⟨0, bankUpd 0 (fun b => { b with pendAt := some 0 }) (ctxS (ctx0 .wt)), _, by decide +kernel, rfl, by decide +kernel,
      by decide +kernel⟩,
    ⟨0, rdy, by decide +kernel, by decide +kernel⟩⟩

/-- The hypotheses of LaneMoves can be met. -/
theorem wit_LaneMoves :
    (∃ (l : Fin 4) (s : State) (r : ScanRun) (w : Nat), enginesRun s = true ∧ (s.lane l.val).run = some r ∧ r.pc < lpLength r.image ∧
      w = lpWord r.image r.pc ∧ opOpc w = 0x01) ∧
    (∃ (l : Fin 4) (s : State) (r : ScanRun) (w : Nat), enginesRun s = true ∧ (s.lane l.val).run = some r ∧ r.pc < lpLength r.image ∧
      w = lpWord r.image r.pc ∧ opOpc w = 0x02) ∧
    (∃ (l : Fin 4) (s : State) (r : ScanRun) (w : Nat), enginesRun s = true ∧ (s.lane l.val).run = some r ∧ r.pc < lpLength r.image ∧
      w = lpWord r.image r.pc ∧ opOpc w = 0x03) ∧
    (∃ (l : Fin 4) (s : State) (r : ScanRun) (w : Nat), enginesRun s = true ∧ (s.lane l.val).run = some r ∧ r.pc < lpLength r.image ∧
      w = lpWord r.image r.pc ∧ opOpc w = 0x04) ∧
    (∃ (l : Fin 4) (s : State) (r : ScanRun) (w : Nat), enginesRun s = true ∧ (s.lane l.val).run = some r ∧ r.pc < lpLength r.image ∧
      w = lpWord r.image r.pc ∧ opOpc w = 0x05) ∧
    (∃ (l : Fin 4) (s : State) (r : ScanRun) (w : Nat), enginesRun s = true ∧ (s.lane l.val).run = some r ∧ r.pc < lpLength r.image ∧
      w = lpWord r.image r.pc ∧ opOpc w = 0x06) ∧
    (∃ (l : Fin 4) (s : State) (r : ScanRun) (w : Nat), enginesRun s = true ∧ (s.lane l.val).run = some r ∧ r.pc < lpLength r.image ∧
      w = lpWord r.image r.pc ∧ opOpc w = 0x07) ∧
    (∃ (l : Fin 4) (s : State) (r : ScanRun) (w : Nat), enginesRun s = true ∧ (s.lane l.val).run = some r ∧ r.pc < lpLength r.image ∧
      w = lpWord r.image r.pc ∧ opOpc w = 0x10 ∧ isTrue (r.v (opC w)) = true) ∧
    (∃ (l : Fin 4) (s : State) (r : ScanRun) (w : Nat), enginesRun s = true ∧ (s.lane l.val).run = some r ∧ r.pc < lpLength r.image ∧
      w = lpWord r.image r.pc ∧ opOpc w = 0x10 ∧ isTrue (r.v (opC w)) = false) :=
  ⟨⟨0, laneS (runW 0x1 []), runW 0x1 [], _, by decide +kernel, by decide +kernel, by decide +kernel, rfl, by decide +kernel⟩,
    ⟨0, laneS (runW 0x2 []), runW 0x2 [], _, by decide +kernel, by decide +kernel, by decide +kernel, rfl, by decide +kernel⟩,
    ⟨0, laneS (runW 0x3 []), runW 0x3 [], _, by decide +kernel, by decide +kernel, by decide +kernel, rfl, by decide +kernel⟩,
    ⟨0, laneS (runW 0x4 []), runW 0x4 [], _, by decide +kernel, by decide +kernel, by decide +kernel, rfl, by decide +kernel⟩,
    ⟨0, laneS (runW 0x5 []), runW 0x5 [], _, by decide +kernel, by decide +kernel, by decide +kernel, rfl, by decide +kernel⟩,
    ⟨0, laneS (runW 0x6 []), runW 0x6 [], _, by decide +kernel, by decide +kernel, by decide +kernel, rfl, by decide +kernel⟩,
    ⟨0, laneS (runW 0x7 []), runW 0x7 [], _, by decide +kernel, by decide +kernel, by decide +kernel, rfl, by decide +kernel⟩,
    ⟨0, laneS (runW 0x100010 [(1, 0x3F800000)]), runW 0x100010 [(1, 0x3F800000)], _, by decide +kernel, by decide +kernel,
      by decide +kernel, rfl, by decide +kernel, by decide +kernel⟩,
    ⟨0, laneS (runW 0x10 []), runW 0x10 [], _, by decide +kernel, by decide +kernel, by decide +kernel, rfl, by decide +kernel,
      by decide +kernel⟩⟩

/-- The hypotheses of LaneArithmetic can be met. -/
theorem wit_LaneArithmetic :
    (∃ (l : Fin 4) (s : State) (r : ScanRun) (w : Nat), enginesRun s = true ∧ (s.lane l.val).run = some r ∧ r.pc < lpLength r.image ∧
      w = lpWord r.image r.pc ∧ opOpc w = 0x08) ∧
    (∃ (l : Fin 4) (s : State) (r : ScanRun) (w : Nat), enginesRun s = true ∧ (s.lane l.val).run = some r ∧ r.pc < lpLength r.image ∧
      w = lpWord r.image r.pc ∧ opOpc w = 0x09) ∧
    (∃ (l : Fin 4) (s : State) (r : ScanRun) (w : Nat), enginesRun s = true ∧ (s.lane l.val).run = some r ∧ r.pc < lpLength r.image ∧
      w = lpWord r.image r.pc ∧ opOpc w = 0x0A) ∧
    (∃ (l : Fin 4) (s : State) (r : ScanRun) (w : Nat), enginesRun s = true ∧ (s.lane l.val).run = some r ∧ r.pc < lpLength r.image ∧
      w = lpWord r.image r.pc ∧ opOpc w = 0x0B) ∧
    (∃ (l : Fin 4) (s : State) (r : ScanRun) (w : Nat), enginesRun s = true ∧ (s.lane l.val).run = some r ∧ r.pc < lpLength r.image ∧
      w = lpWord r.image r.pc ∧ opOpc w = 0x0C) ∧
    (∃ (l : Fin 4) (s : State) (r : ScanRun) (w : Nat), enginesRun s = true ∧ (s.lane l.val).run = some r ∧ r.pc < lpLength r.image ∧
      w = lpWord r.image r.pc ∧ opOpc w = 0x0D) ∧
    (∃ (l : Fin 4) (s : State) (r : ScanRun) (w : Nat), enginesRun s = true ∧ (s.lane l.val).run = some r ∧ r.pc < lpLength r.image ∧
      w = lpWord r.image r.pc ∧ opOpc w = 0x0E) ∧
    (∃ (l : Fin 4) (s : State) (r : ScanRun) (w : Nat), enginesRun s = true ∧ (s.lane l.val).run = some r ∧ r.pc < lpLength r.image ∧
      w = lpWord r.image r.pc ∧ opOpc w = 0x0F) ∧
    (∃ (l : Fin 4) (s : State) (r : ScanRun) (w : Nat), enginesRun s = true ∧ (s.lane l.val).run = some r ∧ r.pc < lpLength r.image ∧
      w = lpWord r.image r.pc ∧ opOpc w = 0x11) ∧
    (∃ (l : Fin 4) (s : State) (r : ScanRun) (w : Nat), enginesRun s = true ∧ (s.lane l.val).run = some r ∧ r.pc < lpLength r.image ∧
      w = lpWord r.image r.pc ∧ opOpc w = 0x12 ∧ fle (r.v (opB w)) 0 = true) ∧
    (∃ (l : Fin 4) (s : State) (r : ScanRun) (w : Nat) (i : _), enginesRun s = true ∧ (s.lane l.val).run = some r ∧
      r.pc < lpLength r.image ∧ w = lpWord r.image r.pc ∧ opOpc w = 0x12 ∧ fle (r.v (opB w)) 0 = false ∧
      froundAway (fdiv (r.v (opA w)) (r.v (opB w))) = some i) ∧
    (∃ (l : Fin 4) (s : State) (r : ScanRun) (w : Nat), enginesRun s = true ∧ (s.lane l.val).run = some r ∧ r.pc < lpLength r.image ∧
      w = lpWord r.image r.pc ∧ opOpc w = 0x13) ∧
    (∃ (l : Fin 4) (s : State) (r : ScanRun) (w : Nat), enginesRun s = true ∧ (s.lane l.val).run = some r ∧ r.pc < lpLength r.image ∧
      w = lpWord r.image r.pc ∧ opOpc w = 0x14) ∧
    (∃ (l : Fin 4) (s : State) (r : ScanRun) (w : Nat), enginesRun s = true ∧ (s.lane l.val).run = some r ∧ r.pc < lpLength r.image ∧
      w = lpWord r.image r.pc ∧ opOpc w = 0x15) ∧
    (∃ (l : Fin 4) (s : State) (r : ScanRun) (w : Nat), enginesRun s = true ∧ (s.lane l.val).run = some r ∧ r.pc < lpLength r.image ∧
      w = lpWord r.image r.pc ∧ opOpc w = 0x16) :=
  ⟨⟨0, laneS (runW 0x8 []), runW 0x8 [], _, by decide +kernel, by decide +kernel, by decide +kernel, rfl, by decide +kernel⟩,
    ⟨0, laneS (runW 0x9 []), runW 0x9 [], _, by decide +kernel, by decide +kernel, by decide +kernel, rfl, by decide +kernel⟩,
    ⟨0, laneS (runW 0xa []), runW 0xa [], _, by decide +kernel, by decide +kernel, by decide +kernel, rfl, by decide +kernel⟩,
    ⟨0, laneS (runW 0xb []), runW 0xb [], _, by decide +kernel, by decide +kernel, by decide +kernel, rfl, by decide +kernel⟩,
    ⟨0, laneS (runW 0xc []), runW 0xc [], _, by decide +kernel, by decide +kernel, by decide +kernel, rfl, by decide +kernel⟩,
    ⟨0, laneS (runW 0xd []), runW 0xd [], _, by decide +kernel, by decide +kernel, by decide +kernel, rfl, by decide +kernel⟩,
    ⟨0, laneS (runW 0xe []), runW 0xe [], _, by decide +kernel, by decide +kernel, by decide +kernel, rfl, by decide +kernel⟩,
    ⟨0, laneS (runW 0xf []), runW 0xf [], _, by decide +kernel, by decide +kernel, by decide +kernel, rfl, by decide +kernel⟩,
    ⟨0, laneS (runW 0x11 []), runW 0x11 [], _, by decide +kernel, by decide +kernel, by decide +kernel, rfl, by decide +kernel⟩,
    ⟨0, laneS (runW 0x12 []), runW 0x12 [], _, by decide +kernel, by decide +kernel, by decide +kernel, rfl, by decide +kernel,
      by decide +kernel⟩,
    ⟨0, laneS (runW 0x10012 [(1, 0x3F800000)]), runW 0x10012 [(1, 0x3F800000)], _, 0, by decide +kernel, by decide +kernel,
      by decide +kernel, rfl, by decide +kernel, by decide +kernel, by decide +kernel⟩,
    ⟨0, laneS (runW 0x13 []), runW 0x13 [], _, by decide +kernel, by decide +kernel, by decide +kernel, rfl, by decide +kernel⟩,
    ⟨0, laneS (runW 0x14 []), runW 0x14 [], _, by decide +kernel, by decide +kernel, by decide +kernel, rfl, by decide +kernel⟩,
    ⟨0, laneS (runW 0x15 []), runW 0x15 [], _, by decide +kernel, by decide +kernel, by decide +kernel, rfl, by decide +kernel⟩,
    ⟨0, laneS (runW 0x16 []), runW 0x16 [], _, by decide +kernel, by decide +kernel, by decide +kernel, rfl, by decide +kernel⟩⟩

/-- The hypotheses of LaneControl can be met. -/
theorem wit_LaneControl :
    (∃ (l : Fin 4) (s : State) (r : ScanRun) (w : Nat), enginesRun s = true ∧ (s.lane l.val).run = some r ∧ r.pc < lpLength r.image ∧
      w = lpWord r.image r.pc ∧ opOpc w = 0x20 ∧ (isNaN (r.v (opA w)) || isNaN (r.v (opB w))) = true) ∧
    (∃ (l : Fin 4) (s : State) (r : ScanRun) (w : Nat) (p : _) (i : _), enginesRun s = true ∧ (s.lane l.val).run = some r ∧
      r.pc < lpLength r.image ∧ w = lpWord r.image r.pc ∧ opOpc w = 0x20 ∧ (isNaN (r.v (opA w)) || isNaN (r.v (opB w))) = false ∧
      opMod w % 2 = 0 ∧ r.init = false ∧ feq (r.v (opC w + 1)) 0 = true ∧ (r.w (opC w)).toNat = 0 ∧
      p = fmul (r.v (opC w)) (fsub (r.v (opB w)) (r.v (opA w))) ∧
      i = fmax (fmin (r.v (opC w + 3)) (fsub (fsub (r.w (opC w + 2)) p) 0)) (fsub (fsub (r.v (opC w + 2)) p) 0)) ∧
    (∃ (l : Fin 4) (s : State) (r : ScanRun) (w : Nat), enginesRun s = true ∧ (s.lane l.val).run = some r ∧ r.pc < lpLength r.image ∧
      w = lpWord r.image r.pc ∧ opOpc w = 0x21 ∧ r.init = false ∧ (isNaN (r.v (opA w)) || isNaN (r.v (opB w)) ||
      flt (r.v (opB w)) 0) = false ∧ (isInf (r.v (opB w)) ||
      fle (fabs (fsub (r.v (opA w)) (r.v (opD w)))) (fmul (r.v (opB w)) (realOfNat r.dt))) = true) ∧
    (∃ (l : Fin 4) (s : State) (r : ScanRun) (w : Nat), enginesRun s = true ∧ (s.lane l.val).run = some r ∧ r.pc < lpLength r.image ∧
      w = lpWord r.image r.pc ∧ opOpc w = 0x21 ∧ r.init = false ∧ (isNaN (r.v (opA w)) || isNaN (r.v (opB w)) ||
      flt (r.v (opB w)) 0) = false ∧ (isInf (r.v (opB w)) ||
      fle (fabs (fsub (r.v (opA w)) (r.v (opD w)))) (fmul (r.v (opB w)) (realOfNat r.dt))) = false ∧
      flt (r.v (opD w)) (r.v (opA w)) = true) ∧
    (∃ (l : Fin 4) (s : State) (r : ScanRun) (w : Nat), enginesRun s = true ∧ (s.lane l.val).run = some r ∧ r.pc < lpLength r.image ∧
      w = lpWord r.image r.pc ∧ opOpc w = 0x22 ∧ isNaN (r.v (opA w)) = true) ∧
    (∃ (l : Fin 4) (s : State) (r : ScanRun) (w : Nat), enginesRun s = true ∧ (s.lane l.val).run = some r ∧ r.pc < lpLength r.image ∧
      w = lpWord r.image r.pc ∧ opOpc w = 0x22 ∧ isNaN (r.v (opA w)) = false ∧ opMod w % 2 = 0 ∧ fle (r.v (opB w)) (r.v (opA w)) = true) ∧
    (∃ (l : Fin 4) (s : State) (r : ScanRun) (w : Nat), enginesRun s = true ∧ (s.lane l.val).run = some r ∧ r.pc < lpLength r.image ∧
      w = lpWord r.image r.pc ∧ opOpc w = 0x22 ∧ isNaN (r.v (opA w)) = false ∧ opMod w % 2 = 0 ∧
      fle (r.v (opB w)) (r.v (opA w)) = false ∧ fle (r.v (opA w)) (fsub (r.v (opB w)) (r.v (opC w))) = true) ∧
    (∃ (l : Fin 4) (s : State) (r : ScanRun) (w : Nat), enginesRun s = true ∧ (s.lane l.val).run = some r ∧ r.pc < lpLength r.image ∧
      w = lpWord r.image r.pc ∧ opOpc w = 0x23 ∧ isNaN (r.v (opD w)) = true ∧ fld w 48 16 ≤ (r.w (opD w)).toNat ∧ 0 < fld w 32 4 ∧
      fle (fadd (fmul (realOfInt 0) (fdiv (realOfNat 100) (realOfNat (fld w 32 4)))) (r.v (opB w))) (r.v (opA w)) = true) ∧
    (∃ (l : Fin 4) (s : State) (r : ScanRun) (w : Nat), enginesRun s = true ∧ (s.lane l.val).run = some r ∧ r.pc < lpLength r.image ∧
      w = lpWord r.image r.pc ∧ opOpc w = 0x24 ∧ isNaN (r.v (opA w)) = false) ∧
    (∃ (l : Fin 4) (s : State) (r : ScanRun) (w : Nat), enginesRun s = true ∧ (s.lane l.val).run = some r ∧ r.pc < lpLength r.image ∧
      w = lpWord r.image r.pc ∧ opOpc w = 0x25 ∧ isTrue (r.v (opA w)) = true) ∧
    (∃ (l : Fin 4) (s : State) (r : ScanRun) (w : Nat), enginesRun s = true ∧ (s.lane l.val).run = some r ∧ r.pc < lpLength r.image ∧
      w = lpWord r.image r.pc ∧ opOpc w = 0x25 ∧ isTrue (r.v (opA w)) = false) ∧
    (∃ (l : Fin 4) (s : State) (r : ScanRun) (w : Nat), enginesRun s = true ∧ (s.lane l.val).run = some r ∧ r.pc < lpLength r.image ∧
      w = lpWord r.image r.pc ∧ opOpc w = 0x26 ∧ isTrue (r.v (opA w)) = true) ∧
    (∃ (l : Fin 4) (s : State) (r : ScanRun) (w : Nat), enginesRun s = true ∧ (s.lane l.val).run = some r ∧ r.pc < lpLength r.image ∧
      w = lpWord r.image r.pc ∧ opOpc w = 0x26 ∧ isTrue (r.v (opA w)) = false) ∧
    (∃ (l : Fin 4) (s : State) (r : ScanRun) (w : Nat), enginesRun s = true ∧ (s.lane l.val).run = some r ∧ r.pc < lpLength r.image ∧
      w = lpWord r.image r.pc ∧ opOpc w = 0x18 ∧ jmpTaken w r = true) ∧
    (∃ (l : Fin 4) (s : State) (r : ScanRun) (w : Nat), enginesRun s = true ∧ (s.lane l.val).run = some r ∧ r.pc < lpLength r.image ∧
      w = lpWord r.image r.pc ∧ opOpc w = 0x18 ∧ jmpTaken w r = false) ∧
    (∃ (l : Fin 4) (s : State) (r : ScanRun) (w : Nat), enginesRun s = true ∧ (s.lane l.val).run = some r ∧ r.pc < lpLength r.image ∧
      w = lpWord r.image r.pc ∧ opOpc w = 0) :=
  ⟨⟨0, laneS (runW 0x20 [(0, 0x7FC00000)]), runW 0x20 [(0, 0x7FC00000)], _, by decide +kernel, by decide +kernel, by decide +kernel, rfl,
    by decide +kernel, by decide +kernel⟩,
    ⟨0, laneS (runW 0x20 []), runW 0x20 [], _, _, _, by decide +kernel, by decide +kernel, by decide +kernel, rfl, by decide +kernel,
      by decide +kernel, by decide +kernel, by decide +kernel, by decide +kernel, by decide +kernel, rfl, rfl⟩,
    ⟨0, laneS (runW 0x21 []), runW 0x21 [], _, by decide +kernel, by decide +kernel, by decide +kernel, rfl, by decide +kernel,
      by decide +kernel, by decide +kernel, by decide +kernel⟩,
    ⟨0, laneS (runW 0x1021 [(1, 0x3F800000)]), runW 0x1021 [(1, 0x3F800000)], _, by decide +kernel, by decide +kernel, by decide +kernel,
      rfl, by decide +kernel, by decide +kernel, by decide +kernel, by decide +kernel, by decide +kernel⟩,
    ⟨0, laneS (runW 0x22 [(0, 0x7FC00000)]), runW 0x22 [(0, 0x7FC00000)], _, by decide +kernel, by decide +kernel, by decide +kernel,
      rfl, by decide +kernel, by decide +kernel⟩,
    ⟨0, laneS (runW 0x22 []), runW 0x22 [], _, by decide +kernel, by decide +kernel, by decide +kernel, rfl, by decide +kernel,
      by decide +kernel, by decide +kernel, by decide +kernel⟩,
    ⟨0, laneS (runW 0x10022 [(1, 0x3F800000)]), runW 0x10022 [(1, 0x3F800000)], _, by decide +kernel, by decide +kernel,
      by decide +kernel, rfl, by decide +kernel, by decide +kernel, by decide +kernel, by decide +kernel, by decide +kernel⟩,
    ⟨0, laneS (runW 0x100000223 [(2, 0x7FC00000)]), runW 0x100000223 [(2, 0x7FC00000)], _, by decide +kernel, by decide +kernel,
      by decide +kernel, rfl, by decide +kernel, by decide +kernel, by decide +kernel, by decide +kernel, by decide +kernel⟩,
    ⟨0, laneS (runW 0x24 []), runW 0x24 [], _, by decide +kernel, by decide +kernel, by decide +kernel, rfl, by decide +kernel,
      by decide +kernel⟩,
    ⟨0, laneS (runW 0x1025 [(1, 0x3F800000)]), runW 0x1025 [(1, 0x3F800000)], _, by decide +kernel, by decide +kernel, by decide +kernel,
      rfl, by decide +kernel, by decide +kernel⟩,
    ⟨0, laneS (runW 0x25 []), runW 0x25 [], _, by decide +kernel, by decide +kernel, by decide +kernel, rfl, by decide +kernel,
      by decide +kernel⟩,
    ⟨0, laneS (runW 0x1026 [(1, 0x3F800000)]), runW 0x1026 [(1, 0x3F800000)], _, by decide +kernel, by decide +kernel, by decide +kernel,
      rfl, by decide +kernel, by decide +kernel⟩,
    ⟨0, laneS (runW 0x26 []), runW 0x26 [], _, by decide +kernel, by decide +kernel, by decide +kernel, rfl, by decide +kernel,
      by decide +kernel⟩,
    ⟨0, laneS (runW 0x18 []), runW 0x18 [], _, by decide +kernel, by decide +kernel, by decide +kernel, rfl, by decide +kernel,
      by decide +kernel⟩,
    ⟨0, laneS (runW 0x2000018 []), runW 0x2000018 [], _, by decide +kernel, by decide +kernel, by decide +kernel, rfl, by decide +kernel,
      by decide +kernel⟩,
    ⟨0, laneS (runW 0x0 []), runW 0x0 [], _, by decide +kernel, by decide +kernel, by decide +kernel, rfl, by decide +kernel⟩⟩

/-- The hypotheses of LaneScheduling can be met. -/
theorem wit_LaneScheduling :
    (∃ (ln : Fin 8192) (s : State), enginesRun s = true ∧ s.now.c.toNat % max 1 (lpPeriod (liveImg s Kind.loop ln.val)) = 0) ∧
    (∃ (ln : Fin 8192) (s : State), enginesRun s = true ∧ s.now.c.toNat % max 1 (lpPeriod (liveImg s Kind.loop ln.val)) ≠ 0) ∧
    (∃ (l : Fin 4) (s : State), enginesRun s = true ∧ (((s.lane l.val).state ≠ .inService ∨ (s.lane l.val).run ≠ none ∨
      (s.lane l.val).waitRebalance = true ∨ lanesRun s = false ∨ (∀ q ∈ (s.lane l.val).queue, scanning s q.ln = true)))) ∧
    (∃ (l : Fin 4) (s : State) (q : _) (u : _), enginesRun s = true ∧ (s.lane l.val).state = .inService ∧ (s.lane l.val).run = none ∧
      (s.lane l.val).waitRebalance = false ∧ lanesRun s = true ∧
      nextScan s ((s.lane l.val).queue.filter (fun q => !scanning s q.ln)) = some q ∧
      u = laneUpd l.val (fun k => { k with queue := k.queue.filter (· != q) }) s ∧ (((s.loop q.ln).quarantined = true ∨
      lpEnable (liveImg s Kind.loop q.ln) = false))) ∧
    (∃ (l : Fin 4) (s : State) (q : _) (u : _), enginesRun s = true ∧ (s.lane l.val).state = .inService ∧ (s.lane l.val).run = none ∧
      (s.lane l.val).waitRebalance = false ∧ lanesRun s = true ∧
      nextScan s ((s.lane l.val).queue.filter (fun q => !scanning s q.ln)) = some q ∧
      u = laneUpd l.val (fun k => { k with queue := k.queue.filter (· != q) }) s ∧ (s.loop q.ln).quarantined = false ∧
      lpEnable (liveImg s Kind.loop q.ln) = true ∧ (s.loop q.ln).init = false) ∧
    (∃ (l : Fin 4) (s : State) (q : _) (u : _) (regs : Tab U64), enginesRun s = true ∧ (s.lane l.val).state = .inService ∧
      (s.lane l.val).run = none ∧ (s.lane l.val).waitRebalance = false ∧ lanesRun s = true ∧
      nextScan s ((s.lane l.val).queue.filter (fun q => !scanning s q.ln)) = some q ∧
      u = laneUpd l.val (fun k => { k with queue := k.queue.filter (· != q) }) s ∧ (s.loop q.ln).quarantined = false ∧
      lpEnable (liveImg s Kind.loop q.ln) = true ∧ (s.loop q.ln).init = true ∧
      regs = (List.range 16).foldl (fun (t : Tab U64) r => t.set r (lpReg (liveImg s Kind.loop q.ln) r)) []) ∧
    (∃ (l : Fin 4) (s : State), enginesRun s = true ∧ (s.lane l.val).state = .inService) ∧
    (∃ (l : Fin 4) (s : State), enginesRun s = true ∧ (s.lane l.val).state = .inService ∧ (s.lane l.val).run ≠ none) ∧
    (∃ (l : Fin 4) (s : State) (t : _), enginesRun s = true ∧ (s.lane l.val).state = .testing ∧ t = faultLane l.val 1 s) ∧
    (∃ (l : Fin 4) (s : State) (t : _), enginesRun s = true ∧ (s.lane l.val).state = .testing ∧ t = faultLane l.val 2 s) ∧
    (∃ (l : Fin 4) (s : State), enginesRun s = true ∧ (s.lane l.val).state = .inService ∧ (s.lane l.val).run = none) ∧
    (∃ (l : Fin 4) (s : State), enginesRun s = true ∧ (s.lane l.val).state = .inService) ∧
    (∃ (s : State), enginesRun s = true) ∧
    (∃ (l : Fin 4) (s : State), enginesRun s = true ∧ (s.lane l.val).state ≠ .testing) ∧
    (∃ (l : Fin 4) (s : State) (t : _), enginesRun s = true ∧ (s.lane l.val).state = .testing ∧
      t = raise 2 0x61 [ef 1 l.val] { laneUpd l.val (fun k => { k with state := .inService, waitRebalance := true }) s with lp := { (laneUpd l.val (fun k => { k with state := .inService, waitRebalance := true }) s).lp with rehome := true } }) ∧
    (∃ (l : Fin 4) (s : State) (t : _), enginesRun s = true ∧ (s.lane l.val).state = .testing ∧ t = faultLane l.val 3 s) :=
  ⟨⟨0, rdy, by decide +kernel, by decide +kernel⟩,
    ⟨0, liveS Kind.loop 0 0x200 (mtS (fun m => { m with now := { c := 1 } })), by decide +kernel, by decide +kernel⟩,
    ⟨0, laneS (runW 0 []), by decide +kernel, .inr (.inl (by decide +kernel))⟩,
    ⟨0, laneUpd 0 (fun k => { k with queue := [{ ln := 0, due := {} }] }) rdy, { ln := 0, due := {} }, _, by decide +kernel,
      by decide +kernel, by decide +kernel, by decide +kernel, by decide +kernel, by decide +kernel, rfl, by decide +kernel⟩,
    ⟨0, liveS Kind.loop 0 1 (laneUpd 0 (fun k => { k with queue := [{ ln := 0, due := {} }] }) rdy), { ln := 0, due := {} }, _,
      by decide +kernel, by decide +kernel, by decide +kernel, by decide +kernel, by decide +kernel, by decide +kernel, rfl,
      by decide +kernel, by decide +kernel, by decide +kernel⟩,
    ⟨0, loopUpd 0 (fun k => { k with init := true }) (liveS Kind.loop 0 1 (laneUpd 0 (fun k => { k with queue := [{ ln := 0, due := {} }] }) rdy)), { ln := 0, due := {} }, _, _, by decide +kernel, by decide +kernel, by decide +kernel, by decide +kernel, by decide +kernel, by decide +kernel, rfl, by decide +kernel, by decide +kernel, by decide +kernel, rfl⟩,
    ⟨0, rdy, by decide +kernel, by decide +kernel⟩,
    ⟨0, laneS (runW 0 []), by decide +kernel, by decide +kernel, by decide +kernel⟩,
    ⟨0, laneUpd 0 (fun k => { k with state := .testing }) rdy, _, by decide +kernel, by decide +kernel, rfl⟩,
    ⟨0, laneUpd 0 (fun k => { k with state := .testing }) rdy, _, by decide +kernel, by decide +kernel, rfl⟩,
    ⟨0, rdy, by decide +kernel, by decide +kernel, by decide +kernel⟩,
    ⟨0, rdy, by decide +kernel, by decide +kernel⟩,
    ⟨rdy, by decide +kernel⟩,
    ⟨0, rdy, by decide +kernel, by decide +kernel⟩,
    ⟨0, laneUpd 0 (fun k => { k with state := .testing }) rdy, _, by decide +kernel, by decide +kernel, rfl⟩,
    ⟨0, laneUpd 0 (fun k => { k with state := .testing }) rdy, _, by decide +kernel, by decide +kernel, rfl⟩⟩

/-- The hypotheses of EthernetRows can be met. -/
theorem wit_EthernetRows :
    (∃ (p : Fin 2) (s : State), enginesRun s = true ∧ (s.link (8 + p.val)).state = .off) ∧
    (∃ (p : Fin 2) (s : State) (f : _), enginesRun s = true ∧ (s.link (8 + p.val)).state ≠ .off ∧ ((f.length < 64 ∨ 1518 < f.length ∨
      fcsOk f = false))) ∧
    (∃ (p : Fin 2) (s : State) (f : _), enginesRun s = true ∧ (s.link (8 + p.val)).state ≠ .off ∧ 64 ≤ f.length ∧ f.length ≤ 1518 ∧
      fcsOk f = true ∧ le (f.take (f.length - 4)) 0 6 = portMac s p.val ∧ portMac s p.val % 2 = 0 ∧
      be (f.take (f.length - 4)) 12 2 = 0x0806) ∧
    (∃ (p : Fin 2) (s : State) (y : PhyStatus), enginesRun s = true ∧ (s.link (8 + p.val)).state ≠ .off ∧ y.up = true ∧
      liveFld s Kind.eth p.val 3 2 = 0) ∧
    (∃ (p : Fin 2) (s : State) (y : PhyStatus), enginesRun s = true ∧ (s.link (8 + p.val)).state ≠ .off ∧ y.up = false) ∧
    (∃ (s : State), enginesRun s = true ∧ liveBit s Kind.eth 0 10 = false ∧ liveBit s Kind.eth 1 10 = false) ∧
    (∃ (s : State), enginesRun s = true ∧ ((liveBit s Kind.eth 0 10 = true ∨ liveBit s Kind.eth 1 10 = true))) ∧
    (∃ (p : Fin 2) (s : State), enginesRun s = true ∧ (boundDevs s (8 + p.val)).isEmpty = true) ∧
    (∃ (p : Fin 2) (s : State), enginesRun s = true ∧ (boundDevs s (8 + p.val)).isEmpty = false) ∧
    (∃ (p : Fin 2) (s : State), enginesRun s = true ∧ (s.link (8 + p.val)).state = .fault ∧ (s.link (8 + p.val)).phyUp = true ∧
      (s.link (8 + p.val)).probeOk = true) ∧
    (∃ (p : Fin 2) (s : State), enginesRun s = true ∧ (s.link (8 + p.val)).state ≠ .fault) ∧
    (∃ (s : State), enginesRun s = true) :=
  ⟨⟨0, rdy, by decide +kernel, by decide +kernel⟩,
    ⟨0, linkS 8 (fun l => { l with state := .up }), [], by decide +kernel, by decide +kernel, .inl (by decide)⟩,
    ⟨0, linkS 8 (fun l => { l with state := .up }), arpFrame, by decide +kernel, by decide +kernel, by decide +kernel, by decide +kernel,
      by decide +kernel, by decide +kernel, by decide +kernel, by decide +kernel⟩,
    ⟨0, liveS Kind.eth 0 0 (linkS 8 (fun l => { l with state := .up })), { up := true }, by decide +kernel, by decide +kernel,
      by decide +kernel, by decide +kernel⟩,
    ⟨0, linkS 8 (fun l => { l with state := .up }), { up := false }, by decide +kernel, by decide +kernel, by decide +kernel⟩,
    ⟨rdy, by decide +kernel, by decide +kernel, by decide +kernel⟩,
    ⟨liveS Kind.eth 0 (2 ^ 10) rdy, by decide +kernel, .inl (by decide +kernel)⟩,
    ⟨0, linkS 8 (fun l => { l with state := .up }), by decide +kernel, by decide +kernel⟩,
    ⟨0, liveS Kind.dev 0 (8 * 2 ^ 4) { rdy with pnt := { rdy.pnt with dev := [(0, { state := .bound })] } }, by decide +kernel,
      by decide +kernel⟩,
    ⟨0, linkS 8 (fun l => { l with state := .fault, phyUp := true, probeOk := true }), by decide +kernel, by decide +kernel,
      by decide +kernel, by decide +kernel⟩,
    ⟨0, linkS 8 (fun l => { l with state := .up }), by decide +kernel, by decide +kernel⟩,
    ⟨linkS 8 (fun l => { l with state := .up }), by decide +kernel⟩⟩

/-- The hypotheses of TcpRows can be met. -/
theorem wit_TcpRows :
    (∃ (s : State) (u : _), enginesRun s = true ∧ u = forAll [8, 9] (fun l s => if (s.link l).garpDue &&
      linksActive s then enqueue l .arpGratuitous (linkUpd l (fun k => { k with garpDue := false }) s) else s) s) ∧
    (∃ (s : State) (i : Fin 128), enginesRun s = true ∧ (s.links.conn.get i.val).used = false) ∧
    (∃ (s : State) (i : Fin 128) (c : _), enginesRun s = true ∧ c = s.links.conn.get i.val ∧ c.used = true ∧
      liveFld s Kind.eth c.port 202 4 ≤ c.retries) ∧
    (∃ (s : State) (i : Fin 128) (c : _), enginesRun s = true ∧ c = s.links.conn.get i.val ∧ c.used = true ∧
      c.retries < liveFld s Kind.eth c.port 202 4) ∧
    (∃ (s : State) (i : Fin 128) (c : _), enginesRun s = true ∧ c = s.links.conn.get i.val ∧ c.used = true ∧ c.established = true ∧
      liveFld s Kind.eth c.port 176 16 ≠ 0 ∧ (inFlight s c.dv).isEmpty = true) ∧
    (∃ (s : State) (i : Fin 128) (c : _), enginesRun s = true ∧ c = s.links.conn.get i.val ∧ ((c.used = false ∨ c.established = false ∨
      liveFld s Kind.eth c.port 176 16 = 0 ∨ (inFlight s c.dv).isEmpty = false))) :=
  ⟨⟨rdy, _, by decide +kernel, rfl⟩,
    ⟨rdy, 0, by decide +kernel, by decide +kernel⟩,
    ⟨{ rdy with links := { rdy.links with conn := [(0, { used := true, retries := 3 })] } }, 0, _, by decide +kernel, rfl,
      by decide +kernel, by decide +kernel⟩,
    ⟨{ rdy with links := { rdy.links with conn := [(0, { used := true })] } }, 0, _, by decide +kernel, rfl, by decide +kernel,
      by decide +kernel⟩,
    ⟨{ rdy with links := { rdy.links with conn := [(0, { used := true, established := true })] } }, 0, _, by decide +kernel, rfl,
      by decide +kernel, by decide +kernel, by decide +kernel, by decide +kernel⟩,
    ⟨rdy, 0, _, by decide +kernel, rfl, .inl rfl⟩⟩

/-- The hypotheses of TrunkFrames can be met. -/
theorem wit_TrunkFrames :
    (∃ (t : Fin 8) (s : State), enginesRun s = true ∧ (((s.link t.val).state = .off ∨ trunkMode s t.val ≠ 1))) ∧
    (∃ (t : Fin 8) (s : State) (f : MstpFrame), enginesRun s = true ∧ (s.link t.val).state ≠ .off ∧ trunkMode s t.val = 1 ∧
      ((f.hdrOk = false ∨ f.dataOk = false))) ∧
    (∃ (t : Fin 8) (s : State) (f : MstpFrame), enginesRun s = true ∧ (s.link t.val).state ≠ .off ∧ trunkMode s t.val = 1 ∧
      f.hdrOk = true ∧ f.dataOk = true ∧ f.src.toNat = trunkMac s t.val ∧ (s.link t.val).wire = [] ∧ s.duty = true) ∧
    (∃ (t : Fin 8) (s : State) (f : MstpFrame) (v : _), enginesRun s = true ∧ (s.link t.val).state ≠ .off ∧ trunkMode s t.val = 1 ∧
      f.hdrOk = true ∧ f.dataOk = true ∧ ((f.src.toNat ≠ trunkMac s t.val ∨ (s.link t.val).wire ≠ [] ∨ s.duty = false)) ∧
      v = mstpReceived t.val f.typ.toNat f.src.toNat f.dst.toNat (heardFrom t.val { station := f.src } (linkRx t.val s)) ∧
      ((f.typ.toNat ≤ 2 ∨ f.typ.toNat = 7))) ∧
    (∃ (t : Fin 8) (s : State) (f : MstpFrame) (v : _), enginesRun s = true ∧ (s.link t.val).state ≠ .off ∧ trunkMode s t.val = 1 ∧
      f.hdrOk = true ∧ f.dataOk = true ∧ ((f.src.toNat ≠ trunkMac s t.val ∨ (s.link t.val).wire ≠ [] ∨ s.duty = false)) ∧
      v = mstpReceived t.val f.typ.toNat f.src.toNat f.dst.toNat (heardFrom t.val { station := f.src } (linkRx t.val s)) ∧ f.typ = 3 ∧
      mstpRuns v t.val = true ∧ f.dst.toNat = trunkMac v t.val) ∧
    (∃ (t : Fin 8) (s : State) (f : MstpFrame) (v : _), enginesRun s = true ∧ (s.link t.val).state ≠ .off ∧ trunkMode s t.val = 1 ∧
      f.hdrOk = true ∧ f.dataOk = true ∧ ((f.src.toNat ≠ trunkMac s t.val ∨ (s.link t.val).wire ≠ [] ∨ s.duty = false)) ∧
      v = mstpReceived t.val f.typ.toNat f.src.toNat f.dst.toNat (heardFrom t.val { station := f.src } (linkRx t.val s)) ∧ f.typ = 3 ∧
      ((mstpRuns v t.val = false ∨ f.dst.toNat ≠ trunkMac v t.val))) ∧
    (∃ (t : Fin 8) (s : State) (f : MstpFrame) (v : _), enginesRun s = true ∧ (s.link t.val).state ≠ .off ∧ trunkMode s t.val = 1 ∧
      f.hdrOk = true ∧ f.dataOk = true ∧ ((f.src.toNat ≠ trunkMac s t.val ∨ (s.link t.val).wire ≠ [] ∨ s.duty = false)) ∧
      v = mstpReceived t.val f.typ.toNat f.src.toNat f.dst.toNat (heardFrom t.val { station := f.src } (linkRx t.val s)) ∧ ((f.typ = 5 ∨
      f.typ = 6)) ∧ ((f.dst.toNat = trunkMac v t.val ∨ f.dst = 255 ∧ f.typ = 6)) ∧ f.data.length ≤ 501) ∧
    (∃ (t : Fin 8) (s : State) (f : MstpFrame) (v : _), enginesRun s = true ∧ (s.link t.val).state ≠ .off ∧ trunkMode s t.val = 1 ∧
      f.hdrOk = true ∧ f.dataOk = true ∧ ((f.src.toNat ≠ trunkMac s t.val ∨ (s.link t.val).wire ≠ [] ∨ s.duty = false)) ∧
      v = mstpReceived t.val f.typ.toNat f.src.toNat f.dst.toNat (heardFrom t.val { station := f.src } (linkRx t.val s)) ∧ ((f.typ = 5 ∨
      f.typ = 6)) ∧ ((f.dst.toNat = trunkMac v t.val ∨ f.dst = 255 ∧ f.typ = 6)) ∧ 501 < f.data.length) ∧
    (∃ (t : Fin 8) (s : State) (f : MstpFrame) (v : _), enginesRun s = true ∧ (s.link t.val).state ≠ .off ∧ trunkMode s t.val = 1 ∧
      f.hdrOk = true ∧ f.dataOk = true ∧ ((f.src.toNat ≠ trunkMac s t.val ∨ (s.link t.val).wire ≠ [] ∨ s.duty = false)) ∧
      v = mstpReceived t.val f.typ.toNat f.src.toNat f.dst.toNat (heardFrom t.val { station := f.src } (linkRx t.val s)) ∧ ((f.typ = 5 ∨
      f.typ = 6)) ∧ f.dst.toNat ≠ trunkMac v t.val ∧ (¬ (f.dst = 255 ∧ f.typ = 6))) ∧
    (∃ (t : Fin 8) (s : State) (f : MstpFrame) (v : _), enginesRun s = true ∧ (s.link t.val).state ≠ .off ∧ trunkMode s t.val = 1 ∧
      f.hdrOk = true ∧ f.dataOk = true ∧ ((f.src.toNat ≠ trunkMac s t.val ∨ (s.link t.val).wire ≠ [] ∨ s.duty = false)) ∧
      v = mstpReceived t.val f.typ.toNat f.src.toNat f.dst.toNat (heardFrom t.val { station := f.src } (linkRx t.val s)) ∧
      8 ≤ f.typ.toNat) ∧
    (∃ (t : Fin 8) (s : State), enginesRun s = true ∧ (s.link t.val).wire = []) ∧
    (∃ (t : Fin 8) (s : State) (f : Frame) (r : _), enginesRun s = true ∧ (s.link t.val).wire = f :: r ∧ trunkMode s t.val = 1) ∧
    (∃ (t : Fin 8) (s : State), enginesRun s = true ∧ mstpRuns s t.val = true ∧ (((s.link t.val).mstp = .idle ∨
      (s.link t.val).mstp = .noToken ∨ (s.link t.val).mstp = .start))) ∧
    (∃ (t : Fin 8) (s : State), enginesRun s = true ∧ mstpRuns s t.val = true ∧ (s.link t.val).mstp = .waitForReply) ∧
    (∃ (t : Fin 8) (s : State), enginesRun s = true ∧ mstpRuns s t.val = true ∧ (s.link t.val).mstp = .passToken ∧
      (s.link t.val).retries = 0) ∧
    (∃ (t : Fin 8) (s : State), enginesRun s = true ∧ mstpRuns s t.val = true ∧ (s.link t.val).mstp = .passToken ∧
      1 ≤ (s.link t.val).retries) ∧
    (∃ (t : Fin 8) (s : State), enginesRun s = true ∧ mstpRuns s t.val = true ∧ (s.link t.val).mstp = .pollForMaster ∧
      (s.link t.val).sole = true) ∧
    (∃ (t : Fin 8) (s : State), enginesRun s = true ∧ mstpRuns s t.val = true ∧ (s.link t.val).mstp = .pollForMaster ∧
      (s.link t.val).sole = false ∧ (s.link t.val).ns ≠ trunkMac s t.val) ∧
    (∃ (t : Fin 8) (s : State), enginesRun s = true ∧ trunkMode s t.val = 1 ∧ (s.link t.val).state ≠ .off) :=
  ⟨⟨0, rdy, by decide +kernel, .inl rfl⟩,
    ⟨0, trunkS 1 (fun l => { l with state := .up }), { hdrOk := false }, by decide +kernel, by decide +kernel, by decide +kernel,
      .inl rfl⟩,
    ⟨0, trunkS 1 (fun l => { l with state := .up }), {}, by decide +kernel, by decide +kernel, by decide +kernel, by decide +kernel,
      by decide +kernel, by decide +kernel, by decide +kernel, by decide +kernel⟩,
    ⟨0, trunkS 1 (fun l => { l with state := .up }), { src := 1 }, _, by decide +kernel, by decide +kernel, by decide +kernel,
      by decide +kernel, by decide +kernel, by decide +kernel, rfl, by decide +kernel⟩,
    ⟨0, trunkS 1 (fun l => { l with state := .up }), { src := 1, typ := 3 }, _, by decide +kernel, by decide +kernel, by decide +kernel,
      by decide +kernel, by decide +kernel, by decide +kernel, rfl, by decide +kernel, by decide +kernel, by decide +kernel⟩,
    ⟨0, trunkS 1 (fun l => { l with state := .up }), { src := 1, typ := 3, dst := 1 }, _, by decide +kernel, by decide +kernel,
      by decide +kernel, by decide +kernel, by decide +kernel, by decide +kernel, rfl, by decide +kernel, by decide +kernel⟩,
    ⟨0, trunkS 1 (fun l => { l with state := .up }), { src := 1, typ := 5 }, _, by decide +kernel, by decide +kernel, by decide +kernel,
      by decide +kernel, by decide +kernel, by decide +kernel, rfl, by decide +kernel, by decide +kernel, by decide +kernel⟩,
    ⟨0, trunkS 1 (fun l => { l with state := .up }), { src := 1, typ := 5, data := List.replicate 502 0 }, _, by decide +kernel,
      by decide +kernel, by decide +kernel, by decide +kernel, by decide +kernel, by decide +kernel, rfl, by decide +kernel,
      by decide +kernel, by decide +kernel⟩,
    ⟨0, trunkS 1 (fun l => { l with state := .up }), { src := 1, typ := 5, dst := 1 }, _, by decide +kernel, by decide +kernel,
      by decide +kernel, by decide +kernel, by decide +kernel, by decide +kernel, rfl, by decide +kernel, by decide +kernel,
      by decide +kernel⟩,
    ⟨0, trunkS 1 (fun l => { l with state := .up }), { src := 1, typ := 8 }, _, by decide +kernel, by decide +kernel, by decide +kernel,
      by decide +kernel, by decide +kernel, by decide +kernel, rfl, by decide +kernel⟩,
    ⟨0, rdy, by decide +kernel, by decide +kernel⟩,
    ⟨0, trunkS 1 (fun l => { l with wire := [.arpGratuitous] }), .arpGratuitous, [], by decide +kernel, by decide +kernel,
      by decide +kernel⟩,
    ⟨0, trunkS 1 (fun l => { l with state := .up }), by decide +kernel, by decide +kernel, by decide +kernel⟩,
    ⟨0, trunkS 1 (fun l => { l with state := .up, mstp := .waitForReply }), by decide +kernel, by decide +kernel, by decide +kernel⟩,
    ⟨0, trunkS 1 (fun l => { l with state := .up, mstp := .passToken }), by decide +kernel, by decide +kernel, by decide +kernel,
      by decide +kernel⟩,
    ⟨0, trunkS 1 (fun l => { l with state := .up, mstp := .passToken, retries := 1 }), by decide +kernel, by decide +kernel,
      by decide +kernel, by decide +kernel⟩,
    ⟨0, trunkS 1 (fun l => { l with state := .up, mstp := .pollForMaster, sole := true }), by decide +kernel, by decide +kernel,
      by decide +kernel, by decide +kernel⟩,
    ⟨0, trunkS 1 (fun l => { l with state := .up, mstp := .pollForMaster, ns := 1 }), by decide +kernel, by decide +kernel,
      by decide +kernel, by decide +kernel, by decide +kernel⟩,
    ⟨0, trunkS 1 (fun l => { l with state := .up }), by decide +kernel, by decide +kernel, by decide +kernel⟩⟩

/-- The hypotheses of RtuAndTrunkFaults can be met. -/
theorem wit_RtuAndTrunkFaults :
    (∃ (t : Fin 8) (s : State), enginesRun s = true ∧ (((s.link t.val).state = .off ∨ trunkMode s t.val ≠ 2))) ∧
    (∃ (t : Fin 8) (s : State), enginesRun s = true ∧ (s.link t.val).state ≠ .off ∧ trunkMode s t.val = 2) ∧
    (∃ (t : Fin 8) (s : State) (adu : _), enginesRun s = true ∧ (s.link t.val).state ≠ .off ∧ trunkMode s t.val = 2 ∧ ((adu.length < 4 ∨
      256 < adu.length ∨ le adu (adu.length - 2) 2 ≠ crcModbus (adu.take (adu.length - 2))))) ∧
    (∃ (t : Fin 8) (s : State) (adu : _) (dv : _) (id : _) (q : _), enginesRun s = true ∧ (s.link t.val).state ≠ .off ∧
      trunkMode s t.val = 2 ∧ 4 ≤ adu.length ∧ adu.length ≤ 256 ∧ le adu (adu.length - 2) 2 = crcModbus (adu.take (adu.length - 2)) ∧
      (s.link t.val).rtuWait = false ∧ (s.link t.val).rtu = some (dv, id) ∧ (findReq s dv id).bind (·.body) = some (.mb q) ∧
      be adu 0 1 = (s.dev dv).station ∧ rtuAnswers q adu = true) ∧
    (∃ (t : Fin 8) (s : State) (adu : _) (dv : _) (id : _) (q : _), enginesRun s = true ∧ (s.link t.val).state ≠ .off ∧
      trunkMode s t.val = 2 ∧ 4 ≤ adu.length ∧ adu.length ≤ 256 ∧ le adu (adu.length - 2) 2 = crcModbus (adu.take (adu.length - 2)) ∧
      (s.link t.val).rtuWait = false ∧ (s.link t.val).rtu = some (dv, id) ∧ (findReq s dv id).bind (·.body) = some (.mb q) ∧
      ((be adu 0 1 ≠ (s.dev dv).station ∨ rtuAnswers q adu = false))) ∧
    (∃ (t : Fin 8) (s : State) (adu : _), enginesRun s = true ∧ (s.link t.val).state ≠ .off ∧ trunkMode s t.val = 2 ∧ 4 ≤ adu.length ∧
      adu.length ≤ 256 ∧ le adu (adu.length - 2) 2 = crcModbus (adu.take (adu.length - 2)) ∧ (s.link t.val).rtuWait = false ∧
      (s.link t.val).rtu = none) ∧
    (∃ (t : Fin 8) (s : State), enginesRun s = true ∧ (s.link t.val).rtu = none) ∧
    (∃ (t : Fin 8) (s : State) (dv : _) (id : _), enginesRun s = true ∧ (s.link t.val).rtu = some (dv, id) ∧
      (s.link t.val).rtuBad + 1 < 16) ∧
    (∃ (t : Fin 8) (s : State) (dv : _) (id : _), enginesRun s = true ∧ (s.link t.val).rtu = some (dv, id) ∧
      16 ≤ (s.link t.val).rtuBad + 1) ∧
    (∃ (t : Fin 8) (s : State), enginesRun s = true ∧ (s.link t.val).rtuWait = true) ∧
    (∃ (t : Fin 8) (s : State), enginesRun s = true ∧ trunkMode s t.val ≠ 0) ∧
    (∃ (t : Fin 8) (s : State), enginesRun s = true ∧ trunkMode s t.val = 0) ∧
    (∃ (t : Fin 8) (s : State), enginesRun s = true ∧ trunkMode s t.val ≠ 0 ∧ 20 ≤ (s.link t.val).winRx ∧
      liveFld s Kind.trunk t.val 96 7 * (s.link t.val).winRx < 100 * (s.link t.val).winErr) ∧
    (∃ (t : Fin 8) (s : State), enginesRun s = true ∧ (s.link t.val).winRx < 20) ∧
    (∃ (t : Fin 8) (s : State), enginesRun s = true ∧ trunkMode s t.val = 1 ∧ (boundDevs s t.val).isEmpty = false) ∧
    (∃ (t : Fin 8) (s : State), enginesRun s = true ∧ trunkMode s t.val = 1 ∧ (boundDevs s t.val).isEmpty = true) ∧
    (∃ (s : State) (l : Fin 10), enginesRun s = true ∧ (((s.link l.val).state ≠ .fault ∨ (s.link l.val).cause = 4 ∨
      boundDevs s l.val = []))) ∧
    (∃ (s : State) (l : Fin 10) (d : _) (ds : _), enginesRun s = true ∧ (s.link l.val).state = .fault ∧ (s.link l.val).cause ≠ 4 ∧
      boundDevs s l.val = d :: ds) ∧
    (∃ (t : Fin 8) (s : State), enginesRun s = true ∧ (s.link t.val).state = .fault ∧ (((s.link t.val).probeOk = true ∨
      (s.link t.val).cause = 4))) ∧
    (∃ (t : Fin 8) (s : State), enginesRun s = true ∧ (((s.link t.val).state ≠ .fault ∨ (s.link t.val).probeOk = false ∧
      (s.link t.val).cause ≠ 4))) :=
  ⟨⟨0, rdy, by decide +kernel, .inl rfl⟩,
    ⟨0, trunkS 2 (fun l => { l with state := .up }), by decide +kernel, by decide +kernel, by decide +kernel⟩,
    ⟨0, trunkS 2 (fun l => { l with state := .up }), [], by decide +kernel, by decide +kernel, by decide +kernel, by decide +kernel⟩,
    ⟨0, rtuS, rtuFrame 0, 0, 0, { fn := 3, addr := 0, count := 1 }, by decide +kernel, by decide +kernel, by decide +kernel,
      by decide +kernel, by decide +kernel, by decide +kernel, by decide +kernel, by decide +kernel, by decide +kernel,
      by decide +kernel, by decide +kernel⟩,
    ⟨0, rtuS, rtuFrame 1, 0, 0, { fn := 3, addr := 0, count := 1 }, by decide +kernel, by decide +kernel, by decide +kernel,
      by decide +kernel, by decide +kernel, by decide +kernel, by decide +kernel, by decide +kernel, by decide +kernel,
      by decide +kernel⟩,
    ⟨0, trunkS 2 (fun l => { l with state := .up }), aduOk, by decide +kernel, by decide +kernel, by decide +kernel, by decide +kernel,
      by decide +kernel, by decide +kernel, by decide +kernel, by decide +kernel⟩,
    ⟨0, trunkS 2 (fun l => { l with state := .up }), by decide +kernel, by decide +kernel⟩,
    ⟨0, trunkS 2 (fun l => { l with state := .up, rtu := some (0, 0) }), 0, 0, by decide +kernel, by decide +kernel, by decide +kernel⟩,
    ⟨0, trunkS 2 (fun l => { l with state := .up, rtu := some (0, 0), rtuBad := 15 }), 0, 0, by decide +kernel, by decide +kernel,
      by decide +kernel⟩,
    ⟨0, trunkS 2 (fun l => { l with state := .up, rtuWait := true }), by decide +kernel, by decide +kernel⟩,
    ⟨0, trunkS 2 (fun l => { l with state := .up }), by decide +kernel, by decide +kernel⟩,
    ⟨0, rdy, by decide +kernel, by decide +kernel⟩,
    ⟨0, trunkS 2 (fun l => { l with state := .up, winRx := 20, winErr := 20 }), by decide +kernel, by decide +kernel, by decide +kernel,
      by decide +kernel⟩,
    ⟨0, trunkS 2 (fun l => { l with state := .up }), by decide +kernel, by decide +kernel⟩,
    ⟨0, liveS Kind.trunk 0 1 (devS { state := .bound } []), by decide +kernel, by decide +kernel, by decide +kernel⟩,
    ⟨0, liveS Kind.trunk 0 1 rdy, by decide +kernel, by decide +kernel, by decide +kernel⟩,
    ⟨rdy, 0, by decide +kernel, .inl (by decide)⟩,
    ⟨linkUpd 0 (fun l => { l with state := .fault, cause := 1 }) (devS { state := .bound } []), 0, 0, [], by decide +kernel,
      by decide +kernel, by decide +kernel, by decide +kernel⟩,
    ⟨0, linkS 0 (fun l => { l with state := .fault, cause := 4 }), by decide +kernel, by decide +kernel, .inr rfl⟩,
    ⟨0, rdy, by decide +kernel, by decide +kernel⟩⟩

/-- The hypotheses of PointDiscovery can be met. -/
theorem wit_PointDiscovery :
    (∃ (s : State) (dv : Fin 4096), enginesRun s = true ∧ (s.dev dv.val).state = .seeking ∧ linksActive s = true) ∧
    (∃ (s : State) (dv : Fin 4096), enginesRun s = true ∧ (s.dev dv.val).state ≠ .seeking) ∧
    (∃ (s : State) (dv : Fin 4096), enginesRun s = true ∧ (s.dev dv.val).state ≠ .bound) ∧
    (∃ (s : State) (dv : Fin 4096) (t : _), enginesRun s = true ∧ (s.dev dv.val).state = .bound ∧
      t = devUpd dv.val (fun d => { d with state := .silent, staleDue := true }) (abandonReqs dv.val true s)) ∧
    (∃ (s : State) (dv : Fin 4096), enginesRun s = true ∧ (s.dev dv.val).state = .bound ∧ (inFlight s dv.val).isEmpty = true ∧
      linksActive s = true) ∧
    (∃ (s : State) (dv : Fin 4096) (t : _), enginesRun s = true ∧ (s.dev dv.val).state = .silent ∧ linksActive s = true ∧
      t = probeDev dv.val s ∧ byWhoIs t dv.val = false) ∧
    (∃ (s : State) (dv : Fin 4096) (t : _), enginesRun s = true ∧ (s.dev dv.val).state = .silent ∧ linksActive s = true ∧
      t = probeDev dv.val s ∧ byWhoIs t dv.val = true) ∧
    (∃ (s : State) (dv : Fin 4096), enginesRun s = true ∧ (s.dev dv.val).state ≠ .silent) ∧
    (∃ (s : State) (dv : Fin 4096), enginesRun s = true ∧ (s.dev dv.val).state = .silent ∧ devStatic s dv.val = false) ∧
    (∃ (s : State) (dv : Fin 4096), enginesRun s = true ∧ (s.dev dv.val).state = .discovered) ∧
    (∃ (s : State) (dv : Fin 4096), enginesRun s = true ∧ (s.dev dv.val).state ≠ .discovered) ∧
    (∃ (s : State) (pn : Fin 131072), enginesRun s = true ∧ s.pnt.sub.get pn.val = true ∧ linksActive s = true) ∧
    (∃ (s : State) (pn : Fin 131072), enginesRun s = true ∧ s.pnt.sub.get pn.val = false) ∧
    (∃ (s : State), enginesRun s = true ∧ linksActive s = false) ∧
    (∃ (s : State) (inst : Nat), enginesRun s = true ∧ linksActive s = true ∧ iAmHolder s inst = none ∧ liveBit s Kind.pa 0 0 = false) ∧
    (∃ (s : State) (inst : Nat) (dv : _), enginesRun s = true ∧ linksActive s = true ∧ iAmHolder s inst = none ∧
      liveBit s Kind.pa 0 0 = true ∧ freeDv s = some dv) ∧
    (∃ (s : State) (inst : Nat), enginesRun s = true ∧ linksActive s = true ∧ iAmHolder s inst = none ∧ liveBit s Kind.pa 0 0 = true ∧
      freeDv s = none) ∧
    (∃ (s : State) (link : Fin 10) (inst : Nat) (dv : _) (d : Dev), enginesRun s = true ∧ linksActive s = true ∧
      iAmHolder s inst = some (dv, d) ∧ d.state = .seeking ∧ devLink s dv = link.val ∧ devStatic s dv = false) ∧
    (∃ (s : State) (link : Fin 10) (inst : Nat) (dv : _) (d : Dev), enginesRun s = true ∧ linksActive s = true ∧
      iAmHolder s inst = some (dv, d) ∧ d.state = .seeking ∧ devLink s dv = link.val ∧ devStatic s dv = true) ∧
    (∃ (s : State) (link : Fin 10) (inst : Nat) (dv : _) (d : Dev), enginesRun s = true ∧ linksActive s = true ∧
      iAmHolder s inst = some (dv, d) ∧ d.state = .seeking ∧ devLink s dv ≠ link.val) ∧
    (∃ (s : State) (link : Fin 10) (inst : Nat) (dv : _) (d : Dev), enginesRun s = true ∧ linksActive s = true ∧
      iAmHolder s inst = some (dv, d) ∧ d.state = .discovered ∧ devLink s dv = link.val) ∧
    (∃ (s : State) (link : Fin 10) (inst : Nat) (dv : _) (d : Dev), enginesRun s = true ∧ linksActive s = true ∧
      iAmHolder s inst = some (dv, d) ∧ d.state = .bound ∧ devLink s dv ≠ link.val ∧ s.every d.dupAt 60 = true) ∧
    (∃ (s : State) (link : Fin 10) (inst : Nat) (dv : _) (d : Dev), enginesRun s = true ∧ linksActive s = true ∧
      iAmHolder s inst = some (dv, d) ∧ d.state = .bound ∧ devLink s dv ≠ link.val ∧ s.every d.dupAt 60 = false) :=
  ⟨⟨devS { state := .seeking } [], 0, by decide +kernel, by decide +kernel, by decide +kernel⟩,
    ⟨rdy, 0, by decide +kernel, by decide +kernel⟩,
    ⟨rdy, 0, by decide +kernel, by decide +kernel⟩,
    ⟨devS { state := .bound } [], 0, _, by decide +kernel, by decide +kernel, rfl⟩,
    ⟨devS { state := .bound } [], 0, by decide +kernel, by decide +kernel, by decide +kernel, by decide +kernel⟩,
    ⟨liveS Kind.dev 0 4 (devS { state := .silent } []), 0, _, by decide +kernel, by decide +kernel, by decide +kernel, rfl,
      by decide +kernel⟩,
    ⟨liveS Kind.dev 0 1 (devS { state := .silent } []), 0, _, by decide +kernel, by decide +kernel, by decide +kernel, rfl,
      by decide +kernel⟩,
    ⟨rdy, 0, by decide +kernel, by decide +kernel⟩,
    ⟨devS { state := .silent } [], 0, by decide +kernel, by decide +kernel, by decide +kernel⟩,
    ⟨devS { state := .discovered } [], 0, by decide +kernel, by decide +kernel⟩,
    ⟨rdy, 0, by decide +kernel, by decide +kernel⟩,
    ⟨{ rdy with pnt := { rdy.pnt with sub := [(0, true)] } }, 0, by decide +kernel, by decide +kernel, by decide +kernel⟩,
    ⟨rdy, 0, by decide +kernel, by decide +kernel⟩,
    ⟨prS (fun p => { p with role := .isolated }), by decide +kernel, by decide +kernel⟩,
    ⟨rdy, 0, by decide +kernel, by decide +kernel, by decide +kernel, by decide +kernel⟩,
    ⟨liveS Kind.pa 0 1 rdy, 0, 0, by decide +kernel, by decide +kernel, by decide +kernel, by decide +kernel, by decide +kernel⟩,
    ⟨liveS Kind.pa 0 1 fullDevs, 0, by decide +kernel, by decide +kernel, by decide +kernel, by decide +kernel, fullDevs_free⟩,
    ⟨liveS Kind.dev 0 1 (devS { state := .seeking } []), 0, 0, 0, { state := .seeking }, by decide +kernel, by decide +kernel,
      by decide +kernel, by decide +kernel, by decide +kernel, by decide +kernel⟩,
    ⟨liveS Kind.dev 0 5 (devS { state := .seeking } []), 0, 0, 0, { state := .seeking }, by decide +kernel, by decide +kernel,
      by decide +kernel, by decide +kernel, by decide +kernel, by decide +kernel⟩,
    ⟨liveS Kind.dev 0 1 (devS { state := .seeking } []), 1, 0, 0, { state := .seeking }, by decide +kernel, by decide +kernel,
      by decide +kernel, by decide +kernel, by decide +kernel⟩,
    ⟨devS { state := .discovered } [], 0, 0, 0, { state := .discovered }, by decide +kernel, by decide +kernel, by decide +kernel,
      by decide +kernel, by decide +kernel⟩,
    ⟨liveS Kind.dev 0 1 (devS { state := .bound } []), 1, 0, 0, { state := .bound }, by decide +kernel, by decide +kernel,
      by decide +kernel, by decide +kernel, by decide +kernel, by decide +kernel⟩,
    ⟨liveS Kind.dev 0 1 (devS { state := .bound, dupAt := some 0 } []), 1, 0, 0, { state := .bound, dupAt := some 0 }, by decide +kernel,
      by decide +kernel, by decide +kernel, by decide +kernel, by decide +kernel, by decide +kernel⟩⟩

/-- The hypotheses of PointReplies can be met. -/
theorem wit_PointReplies :
    (∃ (s : State) (dv : Fin 4096) (id : U16), enginesRun s = true ∧ (s.dev dv.val).quarantine.contains id.toNat = true) ∧
    (∃ (s : State) (dv : Fin 4096) (id : U16), enginesRun s = true ∧ (s.dev dv.val).quarantine.contains id.toNat = true) ∧
    (∃ (s : State) (dv : Fin 4096) (id : U16), enginesRun s = true ∧ (s.dev dv.val).quarantine.contains id.toNat = false ∧
      findReq s dv.val id.toNat = none ∧ (s.dev dv.val).issued ≤ id.toNat) ∧
    (∃ (s : State) (dv : Fin 4096) (id : U16) (r : PntReq) (pns : _) (cls : _), enginesRun s = true ∧
      (s.dev dv.val).quarantine.contains id.toNat = false ∧ findReq s dv.val id.toNat = some r ∧ r.kind = .read pns cls) ∧
    (∃ (s : State) (dv : Fin 4096) (id : U16) (r : PntReq) (rt : _) (t : State), enginesRun s = true ∧
      (s.dev dv.val).quarantine.contains id.toNat = false ∧ findReq s dv.val id.toNat = some r ∧ r.kind = .probe rt ∧
      t = validReply dv.val (rtuAnswered dv.val id.toNat (dropReq dv.val id.toNat s))) ∧
    (∃ (s : State) (dv : Fin 4096) (id : U16) (r : PntReq) (pn : _) (pri : _) (null : _) (v : _) (t : State), enginesRun s = true ∧
      (s.dev dv.val).quarantine.contains id.toNat = false ∧ findReq s dv.val id.toNat = some r ∧ r.kind = .write pn pri null v ∧
      t = validReply dv.val (dropReq dv.val id.toNat (rtuAnswered dv.val id.toNat s)) ∧ ((null = false ∨ shadowOf t pn pri = none ∨ (∃ i,
      shadowOf t pn pri = some i ∧ (t.pts.shadow.get i).relinq = false)))) ∧
    (∃ (s : State) (dv : Fin 4096) (id : U16) (r : PntReq) (pn : _) (pri : _) (null : _) (v : _) (t : State) (i : _) (u : State),
      enginesRun s = true ∧ (s.dev dv.val).quarantine.contains id.toNat = false ∧ findReq s dv.val id.toNat = some r ∧
      r.kind = .write pn pri null v ∧ t = validReply dv.val (dropReq dv.val id.toNat (rtuAnswered dv.val id.toNat s)) ∧ null = true ∧
      shadowOf t pn pri = some i ∧ (t.pts.shadow.get i).relinq = true ∧ u = freeShadowOf pn pri t) ∧
    (∃ (s : State) (dv : Fin 4096) (id : U16) (r : PntReq) (pn : _) (pri : _) (null : _) (v : _) (t : State) (c : U16) (e : U16) (u : State), enginesRun s = true ∧ (s.dev dv.val).quarantine.contains id.toNat = false ∧ findReq s dv.val id.toNat = some r ∧ r.kind = .write pn pri null v ∧ t = validReply dv.val (dropReq dv.val id.toNat (rtuAnswered dv.val id.toNat s)) ∧ u = writeFailed pn pri 0 c.toNat e.toNat t) ∧
    (∃ (s : State) (dv : Fin 4096) (id : U16) (r : PntReq) (pn : _) (pri : _) (null : _) (v : _) (c : Byte), enginesRun s = true ∧
      (s.dev dv.val).quarantine.contains id.toNat = false ∧ findReq s dv.val id.toNat = some r ∧ r.kind = .write pn pri null v ∧
      ((c.toNat = 5 ∨ c.toNat = 6)) ∧ r.tries < devRetries (rtuAnswered dv.val id.toNat s) dv.val) ∧
    (∃ (s : State) (dv : Fin 4096) (id : U16) (r : PntReq) (pn : _) (t : State), enginesRun s = true ∧
      (s.dev dv.val).quarantine.contains id.toNat = false ∧ findReq s dv.val id.toNat = some r ∧ r.kind = .subscribe pn ∧
      t = validReply dv.val (dropReq dv.val id.toNat s)) ∧
    (∃ (s : State) (link : Fin 10), enginesRun s = true ∧ ((linksActive s = false ∨ (s.link link.val).state ≠ .up))) ∧
    (∃ (s : State) (id : U16) (link : Fin 10) (src : DevAddr) (pid : Nat) (obj : U32) (item : Option FieldRead) (cf : Option Byte) (t : State) (d : _) (v : _), enginesRun s = true ∧ linksActive s = true ∧ (s.link link.val).state = .up ∧ t = (match cf with | some id => sendCovAck link.val (destOfAddr link.val src) id.toNat (heardFrom link.val src s) | none => heardFrom link.val src s) ∧ devOfAddr t link.val src = some d ∧ isFieldPoint t d pid = true ∧ ptKind t pid = 3 ∧ ptRef t pid = obj.toNat ∧ pid < 131072 ∧ item = some v) ∧
    (∃ (s : State) (id : U16) (link : Fin 10) (src : DevAddr) (pid : Nat) (obj : U32) (cf : Option Byte) (t : State) (u : State) (d : _),
      enginesRun s = true ∧ linksActive s = true ∧ (s.link link.val).state = .up ∧
      t = (match cf with | some id => sendCovAck link.val (destOfAddr link.val src) id.toNat (heardFrom link.val src s) | none => heardFrom link.val src s) ∧ u = { t with pnt := { t.pnt with stray := sat32 t.pnt.stray } } ∧ devOfAddr t link.val src = some d ∧ ((isFieldPoint t d pid = false ∨ ptKind t pid ≠ 3 ∨ ptRef t pid ≠ obj.toNat ∨ 131072 ≤ pid))) ∧
    (∃ (s : State) (id : U16) (link : Fin 10) (src : DevAddr) (cf : Option Byte) (t : State) (u : State), enginesRun s = true ∧
      linksActive s = true ∧ (s.link link.val).state = .up ∧
      t = (match cf with | some id => sendCovAck link.val (destOfAddr link.val src) id.toNat (heardFrom link.val src s) | none => heardFrom link.val src s) ∧ u = { t with pnt := { t.pnt with stray := sat32 t.pnt.stray } } ∧ devOfAddr t link.val src = none) :=
  ⟨⟨devS { quarantine := [0] } [], 0, 0, by decide +kernel, by decide +kernel⟩,
    ⟨devS { quarantine := [0] } [], 0, 0, by decide +kernel, by decide +kernel⟩,
    ⟨devS {} [], 0, 0, by decide +kernel, by decide +kernel, by decide +kernel, by decide +kernel⟩,
    ⟨devS {} [req0 (.read [] none)], 0, 0, req0 (.read [] none), [], none, by decide +kernel, by decide +kernel, by decide +kernel,
      by decide +kernel⟩,
    ⟨devS {} [req0 (.probe false)], 0, 0, req0 (.probe false), false, _, by decide +kernel, by decide +kernel, by decide +kernel,
      by decide +kernel, rfl⟩,
    ⟨devS {} [req0 (.write 0 8 false 0)], 0, 0, req0 (.write 0 8 false 0), 0, 8, false, 0, _, by decide +kernel, by decide +kernel,
      by decide +kernel, by decide +kernel, rfl, by decide +kernel⟩,
    ⟨{ devS {} [req0 (.write 0 8 true 0)] with pts := { rdy.pts with shadow := [(0, { valid := true, pri := 8, relinq := true })] } }, 0,
      0, req0 (.write 0 8 true 0), 0, 8, true, 0, _, 0, _, by decide +kernel, by decide +kernel, by decide +kernel, by decide +kernel,
      rfl, by decide +kernel, by decide +kernel, by decide +kernel, rfl⟩,
    ⟨devS {} [req0 (.write 0 8 false 0)], 0, 0, req0 (.write 0 8 false 0), 0, 8, false, 0, _, 0, 0, _, by decide +kernel,
      by decide +kernel, by decide +kernel, by decide +kernel, rfl, rfl⟩,
    ⟨devS {} [req0 (.write 0 8 false 0)], 0, 0, req0 (.write 0 8 false 0), 0, 8, false, 0, 5, by decide +kernel, by decide +kernel,
      by decide +kernel, by decide +kernel, .inl rfl, by decide +kernel⟩,
    ⟨devS {} [req0 (.subscribe 0)], 0, 0, req0 (.subscribe 0), 0, _, by decide +kernel, by decide +kernel, by decide +kernel,
      by decide +kernel, rfl⟩,
    ⟨rdy, 8, by decide +kernel, by decide +kernel⟩,
    ⟨covS, 0, 8, {}, 0, 0, some {}, none, _, 0, {}, by decide +kernel, by decide +kernel, by decide +kernel, rfl, by decide +kernel,
      by decide +kernel, by decide +kernel, by decide +kernel, by decide +kernel, by decide +kernel⟩,
    ⟨covS, 0, 8, {}, 1, 0, none, _, _, 0, by decide +kernel, by decide +kernel, by decide +kernel, rfl, rfl, by decide +kernel,
      by decide +kernel⟩,
    ⟨linkUpd 8 (fun l => { l with state := .up }) rdy, 0, 8, {}, none, _, _, by decide +kernel, by decide +kernel, by decide +kernel,
      rfl, rfl, by decide +kernel⟩⟩

/-- The hypotheses of PointTimers can be met. -/
theorem wit_PointTimers :
    (∃ (s : State) (dv : Fin 4096) (id : U16), enginesRun s = true ∧ findReq s dv.val id.toNat = none) ∧
    (∃ (s : State) (dv : Fin 4096) (id : U16) (r : PntReq), enginesRun s = true ∧ findReq s dv.val id.toNat = some r ∧
      r.tries < devRetries s dv.val) ∧
    (∃ (s : State) (dv : Fin 4096) (id : U16) (r : PntReq), enginesRun s = true ∧ findReq s dv.val id.toNat = some r ∧
      devRetries s dv.val ≤ r.tries) ∧
    (∃ (s : State), enginesRun s = true) ∧
    (∃ (s : State) (dv : Fin 4096) (id : U16) (r : PntReq), enginesRun s = true ∧ findReq s dv.val id.toNat = some r ∧
      r.tries < devRetries s dv.val) ∧
    (∃ (s : State) (pn : Fin 131072) (pri : Fin 17), enginesRun s = true ∧ s.pnt.resend.get (pn.val * 32 + pri.val) = none) ∧
    (∃ (s : State) (pn : Fin 131072) (pri : Fin 17) (null : _) (v : _), enginesRun s = true ∧
      s.pnt.resend.get (pn.val * 32 + pri.val) = some (null, v) ∧ standsOut s pn.val pri.val = false) ∧
    (∃ (s : State) (pn : Fin 131072) (pri : Fin 17) (null : _) (v : _) (i : _), enginesRun s = true ∧
      s.pnt.resend.get (pn.val * 32 + pri.val) = some (null, v) ∧ standsOut s pn.val pri.val = true ∧
      shadowOf s pn.val pri.val = some i) ∧
    (∃ (s : State) (pn : Fin 131072) (pri : Fin 17) (null : _) (v : _), enginesRun s = true ∧
      s.pnt.resend.get (pn.val * 32 + pri.val) = some (null, v) ∧ standsOut s pn.val pri.val = true ∧ shadowOf s pn.val pri.val = none) ∧
    (∃ (s : State) (cls : Fin 16), enginesRun s = true ∧ ((flag (liveImg s Kind.cls cls.val) 36 = false ∨
      s.now.c.toNat % (max 1 (fld (liveImg s Kind.cls cls.val) 0 16)) ≠ 0 ∨ s.pnt.roundC.get cls.val = some s.now.c))) ∧
    (∃ (s : State) (cls : Fin 16) (t : _), enginesRun s = true ∧ flag (liveImg s Kind.cls cls.val) 36 = true ∧
      s.now.c.toNat % (max 1 (fld (liveImg s Kind.cls cls.val) 0 16)) = 0 ∧ s.pnt.roundC.get cls.val ≠ some s.now.c ∧
      t = reachAngle (u16 (liveFld s Kind.cls cls.val 16 16)) s ∧ pollDueIn t cls.val s.now.c = true ∧ linksActive t = true ∧
      t.pnt.reqs = []) ∧
    (∃ (s : State) (cls : Fin 16) (t : _), enginesRun s = true ∧ flag (liveImg s Kind.cls cls.val) 36 = true ∧
      s.now.c.toNat % (max 1 (fld (liveImg s Kind.cls cls.val) 0 16)) = 0 ∧ s.pnt.roundC.get cls.val ≠ some s.now.c ∧
      t = reachAngle (u16 (liveFld s Kind.cls cls.val 16 16)) s ∧ linksActive t = false) :=
  ⟨⟨rdy, 0, 0, by decide +kernel, by decide +kernel⟩,
    ⟨devS {} [req0 (.probe false)], 0, 0, req0 (.probe false), by decide +kernel, by decide +kernel, by decide +kernel⟩,
    ⟨devS {} [{ req0 (.probe false) with tries := 3 }], 0, 0, { req0 (.probe false) with tries := 3 }, by decide +kernel,
      by decide +kernel, by decide +kernel⟩,
    ⟨devS {} [req0 (.probe false)], by decide +kernel⟩,
    ⟨devS {} [req0 (.probe false)], 0, 0, req0 (.probe false), by decide +kernel, by decide +kernel, by decide +kernel⟩,
    ⟨rdy, 0, 1, by decide +kernel, by decide +kernel⟩,
    ⟨liveS Kind.point 0 (2 ^ 42 + 4 * 2 ^ 96) (resendS 2 [(0, { valid := true, pri := 1 })]), 0, 2, true, 0, by decide +kernel,
      by decide +kernel, by decide +kernel⟩,
    ⟨resendS 1 [(0, { valid := true, pri := 1 })], 0, 1, true, 0, 0, by decide +kernel, by decide +kernel, by decide +kernel,
      by decide +kernel⟩,
    ⟨resendS 1 [], 0, 1, true, 0, by decide +kernel, by decide +kernel, by decide +kernel, by decide +kernel⟩,
    ⟨rdy, 0, by decide +kernel, .inl rfl⟩,
    ⟨liveS Kind.cls 0 (2 ^ 36) rdy, 0, _, by decide +kernel, by decide +kernel, by decide +kernel, by decide +kernel, rfl,
      by decide +kernel, by decide +kernel, by decide +kernel⟩,
    ⟨prUpd (fun p => { p with role := .isolated }) (liveS Kind.cls 0 (2 ^ 36) rdy), 0, _, by decide +kernel, by decide +kernel,
      by decide +kernel, by decide +kernel, rfl, by decide +kernel⟩⟩

/-- The hypotheses of PairLink can be met. -/
theorem wit_PairLink :
    (∃ (s : State), enginesRun s = true ∧ s.pr.link = .train ∧ pairEn s = true) ∧
    (∃ (s : State), enginesRun s = true ∧ s.pr.link ≠ .train) ∧
    (∃ (s : State), enginesRun s = true ∧ s.pr.link = .train) ∧
    (∃ (s : State), enginesRun s = true ∧ s.pr.link ≠ .train) ∧
    (∃ (s : State), enginesRun s = true ∧ s.pr.link = .up) ∧
    (∃ (s : State), enginesRun s = true ∧ s.pr.link ≠ .up) ∧
    (∃ (s : State), enginesRun s = true ∧ s.pr.link = .up) ∧
    (∃ (s : State), enginesRun s = true ∧ s.pr.link ≠ .up) ∧
    (∃ (s : State) (t : _), enginesRun s = true ∧ s.pr.link = .hello ∧ t = prUpd (fun p => { p with nonce := p.nonce + 1 }) s) ∧
    (∃ (s : State), enginesRun s = true ∧ s.pr.link ≠ .hello) ∧
    (∃ (s : State), enginesRun s = true ∧ pairEn s = false) ∧
    (∃ (s : State) (g : PairHello), enginesRun s = true ∧ pairEn s = true ∧ s.pr.link = .hello ∧ s.pr.bond ≠ some g.fp ∧
      s.pr.unbonded = some g.fp ∧ g.pairId ≠ pairId s) ∧
    (∃ (s : State) (g : PairHello), enginesRun s = true ∧ pairEn s = true ∧ s.pr.link = .hello ∧ s.pr.bond = some g.fp ∧
      g.pairId ≠ pairId s ∧ g.plMin ≤ min (ownPlMax s) g.plMax ∧ min (ownPlMax s) g.plMax ≠ 0) ∧
    (∃ (s : State), enginesRun s = true ∧ pairEn s = true) ∧
    (∃ (s : State), enginesRun s = true ∧ pairEn s = false) ∧
    (∃ (s : State), enginesRun s = true ∧ s.pr.link = .up) ∧
    (∃ (s : State), enginesRun s = true ∧ s.pr.link ≠ .up) ∧
    (∃ (s : State) (g : PairHello), enginesRun s = true ∧ pairEn s = true ∧ s.pr.link = .up ∧ s.pr.bond = some g.fp ∧
      g.pairId ≠ pairId s ∧ g.plMin ≤ min (ownPlMax s) g.plMax ∧ min (ownPlMax s) g.plMax ≠ 0 ∧ s.pr.txSeq < 0x80000000) ∧
    (∃ (s : State), enginesRun s = true ∧ s.pr.txIdle = false ∧ s.pr.link = .up ∧ s.pr.window.length < 64) ∧
    (∃ (s : State), enginesRun s = true ∧ s.pr.txIdle = false ∧ s.pr.link = .up ∧ 64 ≤ s.pr.window.length) ∧
    (∃ (s : State), enginesRun s = true ∧ ((s.pr.txIdle = true ∨ s.pr.link ≠ .up))) :=
  ⟨⟨pairS (fun p => { p with link := .train }), by decide +kernel, by decide +kernel, by decide +kernel⟩,
    ⟨rdy, by decide +kernel, by decide +kernel⟩,
    ⟨pairS (fun p => { p with link := .train }), by decide +kernel, by decide +kernel⟩,
    ⟨rdy, by decide +kernel, by decide +kernel⟩,
    ⟨pairS (fun p => { p with link := .up }), by decide +kernel, by decide +kernel⟩,
    ⟨rdy, by decide +kernel, by decide +kernel⟩,
    ⟨pairS (fun p => { p with link := .up }), by decide +kernel, by decide +kernel⟩,
    ⟨rdy, by decide +kernel, by decide +kernel⟩,
    ⟨pairS (fun p => { p with link := .hello }), _, by decide +kernel, by decide +kernel, rfl⟩,
    ⟨rdy, by decide +kernel, by decide +kernel⟩,
    ⟨rdy, by decide +kernel, by decide +kernel⟩,
    ⟨pairS (fun p => { p with link := .hello, unbonded := some 0 }), { pairId := true }, by decide +kernel, by decide +kernel,
      by decide +kernel, by decide +kernel, by decide +kernel, by decide +kernel⟩,
    ⟨pairS (fun p => { p with link := .hello, bond := some 0 }), { pairId := true }, by decide +kernel, by decide +kernel,
      by decide +kernel, by decide +kernel, by decide +kernel, by decide +kernel, by decide +kernel⟩,
    ⟨pairS id, by decide +kernel, by decide +kernel⟩,
    ⟨rdy, by decide +kernel, by decide +kernel⟩,
    ⟨pairS (fun p => { p with link := .up }), by decide +kernel, by decide +kernel⟩,
    ⟨rdy, by decide +kernel, by decide +kernel⟩,
    ⟨pairS (fun p => { p with link := .up, bond := some 0 }), { pairId := true }, by decide +kernel, by decide +kernel,
      by decide +kernel, by decide +kernel, by decide +kernel, by decide +kernel, by decide +kernel, by decide +kernel⟩,
    ⟨pairS (fun p => { p with link := .up }), by decide +kernel, by decide +kernel, by decide +kernel, by decide +kernel⟩,
    ⟨pairS (fun p => { p with link := .up, window := List.replicate 64 .bond }), by decide +kernel, by decide +kernel, by decide +kernel,
      by decide +kernel⟩,
    ⟨rdy, by decide +kernel, by decide +kernel⟩⟩

/-- The hypotheses of PairMirroring can be met. -/
theorem wit_PairMirroring :
    (∃ (s : State), enginesRun s = true ∧ ((s.pr.link ≠ .up ∨ pairEn s = false))) ∧
    (∃ (s : State), enginesRun s = true ∧ ((s.pr.link ≠ .up ∨ pairEn s = false))) ∧
    (∃ (s : State), enginesRun s = true ∧ ((s.pr.link ≠ .up ∨ pairEn s = false))) ∧
    (∃ (s : State), enginesRun s = true ∧ ((s.pr.link ≠ .up ∨ pairEn s = false))) ∧
    (∃ (s : State), enginesRun s = true ∧ ((s.pr.link ≠ .up ∨ pairEn s = false))) ∧
    (∃ (s : State), enginesRun s = true ∧ ((s.pr.link ≠ .up ∨ pairEn s = false))) ∧
    (∃ (s : State) (seq : U32) (t : _), enginesRun s = true ∧ s.pr.link = .up ∧ pairEn s = true ∧ seq.toNat ≠ s.pr.rxSeq ∧
      t = prUpd (fun p => { p with discarded := sat32 p.discarded }) s) ∧
    (∃ (s : State) (seq : U32) (t : _), enginesRun s = true ∧ s.pr.link = .up ∧ pairEn s = true ∧ seq.toNat ≠ s.pr.rxSeq ∧
      t = prUpd (fun p => { p with discarded := sat32 p.discarded }) s) ∧
    (∃ (s : State) (seq : U32) (t : _), enginesRun s = true ∧ s.pr.link = .up ∧ pairEn s = true ∧ seq.toNat ≠ s.pr.rxSeq ∧
      t = prUpd (fun p => { p with discarded := sat32 p.discarded }) s) ∧
    (∃ (s : State) (seq : U32) (t : _), enginesRun s = true ∧ s.pr.link = .up ∧ pairEn s = true ∧ seq.toNat ≠ s.pr.rxSeq ∧
      t = prUpd (fun p => { p with discarded := sat32 p.discarded }) s) ∧
    (∃ (s : State) (seq : U32) (t : _), enginesRun s = true ∧ s.pr.link = .up ∧ pairEn s = true ∧ seq.toNat ≠ s.pr.rxSeq ∧
      t = prUpd (fun p => { p with discarded := sat32 p.discarded }) s) ∧
    (∃ (s : State) (seq : U32) (t : _) (b : PairBeat), enginesRun s = true ∧ s.pr.link = .up ∧ pairEn s = true ∧ seq.toNat ≠ s.pr.rxSeq ∧
      t = prUpd (fun p => { p with discarded := sat32 p.discarded }) s ∧ b.seq = seq) ∧
    (∃ (s : State) (seq : U32) (ack : U32) (u : _) (t : _), enginesRun s = true ∧ s.pr.link = .up ∧ pairEn s = true ∧
      seq.toNat = s.pr.rxSeq ∧ u = pairAck ack.toNat (prUpd (fun p => { p with rxSeq := p.rxSeq + 1 }) s) ∧ t = (if u.pr.relWait &&
      !relinquishOut u then finishSwap u else u) ∧ t.pr.role = .standby) ∧
    (∃ (s : State) (seq : U32) (ack : U32) (u : _) (t : _) (r : MirrorRec), enginesRun s = true ∧ s.pr.link = .up ∧ pairEn s = true ∧
      seq.toNat = s.pr.rxSeq ∧ u = pairAck ack.toNat (prUpd (fun p => { p with rxSeq := p.rxSeq + 1 }) s) ∧ t = (if u.pr.relWait &&
      !relinquishOut u then finishSwap u else u) ∧ t.pr.role = .standby ∧ recClass r ≤ 2) ∧
    (∃ (s : State) (seq : U32) (ack : U32) (u : _) (t : _) (r : MirrorRec), enginesRun s = true ∧ s.pr.link = .up ∧ pairEn s = true ∧
      seq.toNat = s.pr.rxSeq ∧ u = pairAck ack.toNat (prUpd (fun p => { p with rxSeq := p.rxSeq + 1 }) s) ∧ t = (if u.pr.relWait &&
      !relinquishOut u then finishSwap u else u) ∧ t.pr.role = .standby ∧ 2 < recClass r) ∧
    (∃ (s : State) (seq : U32) (ack : U32) (u : _) (t : _) (r : MirrorRec), enginesRun s = true ∧ s.pr.link = .up ∧ pairEn s = true ∧
      seq.toNat = s.pr.rxSeq ∧ u = pairAck ack.toNat (prUpd (fun p => { p with rxSeq := p.rxSeq + 1 }) s) ∧ t = (if u.pr.relWait &&
      !relinquishOut u then finishSwap u else u) ∧ t.pr.role = .standby ∧ 2 < recClass r ∧ recClass r ≠ 5) ∧
    (∃ (s : State) (seq : U32) (ack : U32) (u : _) (t : _), enginesRun s = true ∧ s.pr.link = .up ∧ pairEn s = true ∧
      seq.toNat = s.pr.rxSeq ∧ u = pairAck ack.toNat (prUpd (fun p => { p with rxSeq := p.rxSeq + 1 }) s) ∧ t = (if u.pr.relWait &&
      !relinquishOut u then finishSwap u else u) ∧ t.pr.role ≠ .standby) ∧
    (∃ (s : State) (seq : U32) (ack : U32) (u : _) (t : _), enginesRun s = true ∧ s.pr.link = .up ∧ pairEn s = true ∧
      seq.toNat = s.pr.rxSeq ∧ u = pairAck ack.toNat (prUpd (fun p => { p with rxSeq := p.rxSeq + 1 }) s) ∧ t = (if u.pr.relWait &&
      !relinquishOut u then finishSwap u else u) ∧ t.pr.role = .standby ∧ t.pr.resync = false) ∧
    (∃ (s : State) (seq : U32) (ack : U32) (u : _) (t : _), enginesRun s = true ∧ s.pr.link = .up ∧ pairEn s = true ∧
      seq.toNat = s.pr.rxSeq ∧ u = pairAck ack.toNat (prUpd (fun p => { p with rxSeq := p.rxSeq + 1 }) s) ∧ t = (if u.pr.relWait &&
      !relinquishOut u then finishSwap u else u) ∧ t.pr.role = .standby ∧ t.pr.resync = true) ∧
    (∃ (s : State) (seq : U32) (ack : U32) (u : _) (t : _) (cls : _), enginesRun s = true ∧ s.pr.link = .up ∧ pairEn s = true ∧
      seq.toNat = s.pr.rxSeq ∧ u = pairAck ack.toNat (prUpd (fun p => { p with rxSeq := p.rxSeq + 1 }) s) ∧ t = (if u.pr.relWait &&
      !relinquishOut u then finishSwap u else u) ∧ t.duty = true ∧ 2 < cls) ∧
    (∃ (s : State) (seq : U32) (ack : U32) (u : _) (t : _) (v : _) (w : _), enginesRun s = true ∧ s.pr.link = .up ∧ pairEn s = true ∧
      seq.toNat = s.pr.rxSeq ∧ u = pairAck ack.toNat (prUpd (fun p => { p with rxSeq := p.rxSeq + 1 }) s) ∧ t = (if u.pr.relWait &&
      !relinquishOut u then finishSwap u else u) ∧ t.pr.role = .standby ∧ t.pr.resync = true ∧
      v = prUpd (fun p => { p with resync := false, stale := 0, mirror := { p.mirror with snap := [], ended := [] } }) t ∧
      w = forAll t.pr.mirror.snap applyRec (beforeSnapshot t.pr.stale t.pr.mirror.snap v) ∧ t.pr.mirror.ended = []) ∧
    (∃ (s : State) (seq : U32) (ack : U32) (u : _) (t : _) (b : PairBeat) (v : _), enginesRun s = true ∧ s.pr.link = .up ∧
      pairEn s = true ∧ seq.toNat = s.pr.rxSeq ∧ u = pairAck ack.toNat (prUpd (fun p => { p with rxSeq := p.rxSeq + 1 }) s) ∧
      t = (if u.pr.relWait && !relinquishOut u then finishSwap u else u) ∧ b.seq = seq ∧ b.ack = ack ∧
      v = prUpd (fun p => { p with pRole := b.role, pEligible := b.eligible, pGen := b.gen, pCycle := b.cycle, pAngle := b.angle }) t ∧
      roleDuty b.role = false ∧ v.pr.dual = none) ∧
    (∃ (s : State) (seq : U32) (ack : U32) (u : _) (t : _) (b : PairBeat) (v : _), enginesRun s = true ∧ s.pr.link = .up ∧
      pairEn s = true ∧ seq.toNat = s.pr.rxSeq ∧ u = pairAck ack.toNat (prUpd (fun p => { p with rxSeq := p.rxSeq + 1 }) s) ∧
      t = (if u.pr.relWait && !relinquishOut u then finishSwap u else u) ∧ b.seq = seq ∧ b.ack = ack ∧
      v = prUpd (fun p => { p with pRole := b.role, pEligible := b.eligible, pGen := b.gen, pCycle := b.cycle, pAngle := b.angle }) t ∧
      roleDuty b.role = true) ∧
    (∃ (s : State) (seq : U32) (ack : U32) (u : _) (t : _), enginesRun s = true ∧ s.pr.link = .up ∧ pairEn s = true ∧
      seq.toNat = s.pr.rxSeq ∧ u = pairAck ack.toNat (prUpd (fun p => { p with rxSeq := p.rxSeq + 1 }) s) ∧ t = (if u.pr.relWait &&
      !relinquishOut u then finishSwap u else u) ∧ t.duty = false ∧ t.pr.role = .standby ∧ eligibleNow t = true) ∧
    (∃ (s : State) (seq : U32) (ack : U32) (u : _) (t : _), enginesRun s = true ∧ s.pr.link = .up ∧ pairEn s = true ∧
      seq.toNat = s.pr.rxSeq ∧ u = pairAck ack.toNat (prUpd (fun p => { p with rxSeq := p.rxSeq + 1 }) s) ∧ t = (if u.pr.relWait &&
      !relinquishOut u then finishSwap u else u) ∧ t.duty = false ∧ ((t.pr.role ≠ .standby ∨ eligibleNow t = false))) ∧
    (∃ (s : State) (seq : U32) (ack : U32) (u : _) (t : _), enginesRun s = true ∧ s.pr.link = .up ∧ pairEn s = true ∧
      seq.toNat = s.pr.rxSeq ∧ u = pairAck ack.toNat (prUpd (fun p => { p with rxSeq := p.rxSeq + 1 }) s) ∧ t = (if u.pr.relWait &&
      !relinquishOut u then finishSwap u else u) ∧ t.duty = true ∧ ((pairId t = true ∨ t.pr.dove = 1 ∨ t.pr.dove = 2))) :=
  ⟨⟨rdy, by decide +kernel, by decide +kernel⟩,
    ⟨rdy, by decide +kernel, by decide +kernel⟩,
    ⟨rdy, by decide +kernel, by decide +kernel⟩,
    ⟨rdy, by decide +kernel, by decide +kernel⟩,
    ⟨rdy, by decide +kernel, by decide +kernel⟩,
    ⟨rdy, by decide +kernel, by decide +kernel⟩,
    ⟨pairS (fun p => { p with link := .up, role := .standby }), 1, _, by decide +kernel, by decide +kernel, by decide +kernel,
      by decide +kernel, rfl⟩,
    ⟨pairS (fun p => { p with link := .up, role := .standby }), 1, _, by decide +kernel, by decide +kernel, by decide +kernel,
      by decide +kernel, rfl⟩,
    ⟨pairS (fun p => { p with link := .up, role := .standby }), 1, _, by decide +kernel, by decide +kernel, by decide +kernel,
      by decide +kernel, rfl⟩,
    ⟨pairS (fun p => { p with link := .up, role := .standby }), 1, _, by decide +kernel, by decide +kernel, by decide +kernel,
      by decide +kernel, rfl⟩,
    ⟨pairS (fun p => { p with link := .up, role := .standby }), 1, _, by decide +kernel, by decide +kernel, by decide +kernel,
      by decide +kernel, rfl⟩,
    ⟨pairS (fun p => { p with link := .up, role := .standby }), 1, _, { seq := 1 }, by decide +kernel, by decide +kernel,
      by decide +kernel, by decide +kernel, rfl, by decide +kernel⟩,
    ⟨pairS (fun p => { p with link := .up, role := .standby }), 0, 0, _, _, by decide +kernel, by decide +kernel, by decide +kernel,
      by decide +kernel, rfl, rfl, by decide +kernel⟩,
    ⟨pairS (fun p => { p with link := .up, role := .standby }), 0, 0, _, _, .m1Gpio 0 false, by decide +kernel, by decide +kernel,
      by decide +kernel, by decide +kernel, rfl, rfl, by decide +kernel, by decide +kernel⟩,
    ⟨pairS (fun p => { p with link := .up, role := .standby }), 0, 0, _, _, .m7Seq [] 0, by decide +kernel, by decide +kernel,
      by decide +kernel, by decide +kernel, rfl, rfl, by decide +kernel, by decide +kernel⟩,
    ⟨pairS (fun p => { p with link := .up, role := .standby }), 0, 0, _, _, .m7Seq [] 0, by decide +kernel, by decide +kernel,
      by decide +kernel, by decide +kernel, rfl, rfl, by decide +kernel, by decide +kernel, by decide +kernel⟩,
    ⟨pairS (fun p => { p with link := .up, role := .active }), 0, 0, _, _, by decide +kernel, by decide +kernel, by decide +kernel,
      by decide +kernel, rfl, rfl, by decide +kernel⟩,
    ⟨pairS (fun p => { p with link := .up, role := .standby }), 0, 0, _, _, by decide +kernel, by decide +kernel, by decide +kernel,
      by decide +kernel, rfl, rfl, by decide +kernel, by decide +kernel⟩,
    ⟨pairS (fun p => { p with link := .up, role := .standby, resync := true }), 0, 0, _, _, by decide +kernel, by decide +kernel,
      by decide +kernel, by decide +kernel, rfl, rfl, by decide +kernel, by decide +kernel⟩,
    ⟨pairS (fun p => { p with link := .up, role := .active }), 0, 0, _, _, 3, by decide +kernel, by decide +kernel, by decide +kernel,
      by decide +kernel, rfl, rfl, by decide +kernel, by decide +kernel⟩,
    ⟨pairS (fun p => { p with link := .up, role := .standby, resync := true }), 0, 0, _, _, _, _, by decide +kernel, by decide +kernel,
      by decide +kernel, by decide +kernel, rfl, rfl, by decide +kernel, by decide +kernel, rfl, rfl, by decide +kernel⟩,
    ⟨pairS (fun p => { p with link := .up, role := .standby }), 0, 0, _, _, {}, _, by decide +kernel, by decide +kernel,
      by decide +kernel, by decide +kernel, rfl, rfl, by decide +kernel, by decide +kernel, rfl, by decide +kernel, by decide +kernel⟩,
    ⟨pairS (fun p => { p with link := .up, role := .standby }), 0, 0, _, _, { role := .active }, _, by decide +kernel, by decide +kernel,
      by decide +kernel, by decide +kernel, rfl, rfl, by decide +kernel, by decide +kernel, rfl, by decide +kernel⟩,
    ⟨pairS (fun p => { p with link := .up, role := .standby, bond := some 0, pHello := true }), 0, 0, _, _, by decide +kernel,
      by decide +kernel, by decide +kernel, by decide +kernel, rfl, rfl, by decide +kernel, by decide +kernel, by decide +kernel⟩,
    ⟨pairS (fun p => { p with link := .up, role := .standby }), 0, 0, _, _, by decide +kernel, by decide +kernel, by decide +kernel,
      by decide +kernel, rfl, rfl, by decide +kernel, by decide +kernel⟩,
    ⟨pairS (fun p => { p with link := .up, role := .active, dove := 1 }), 0, 0, _, _, by decide +kernel, by decide +kernel,
      by decide +kernel, by decide +kernel, rfl, rfl, by decide +kernel, by decide +kernel⟩⟩

/-- The hypotheses of PairLiveness can be met. -/
theorem wit_PairLiveness :
    (∃ (s : State), enginesRun s = true ∧ pairEn s = true ∧ s.sys.power = .run ∧ s.pr.hbHold = false) ∧
    (∃ (s : State), enginesRun s = true ∧ pairEn s = false) ∧
    (∃ (s : State), enginesRun s = true ∧ pairEn s = true ∧ s.duty = true) ∧
    (∃ (s : State), enginesRun s = true ∧ pairEn s = true ∧ s.duty = false) ∧
    (∃ (s : State), enginesRun s = true ∧ pairEn s = true ∧ s.pr.hbLost = false) ∧
    (∃ (s : State), enginesRun s = true ∧ pairEn s = true ∧ s.pr.hbLost = true) ∧
    (∃ (s : State), enginesRun s = true ∧ pairEn s = true ∧ s.pr.hbLost = false) ∧
    (∃ (s : State), enginesRun s = true ∧ s.pr.hbLost = true) ∧
    (∃ (s : State), enginesRun s = true ∧ pairEn s = true ∧ s.pr.actLost = false) ∧
    (∃ (s : State) (t : State) (u : State), enginesRun s = true ∧ pairEn s = true ∧
      t = ({ s with out := { s.out with safeHold := false } } : State) ∧
      u = disableOutputs (prUpd (fun p => { p with actI := true, actQuiet := false, actLost := false, actEv := false }) t) ∧
      u.pr.dove = 1) ∧
    (∃ (s : State) (t : State) (u : State), enginesRun s = true ∧ pairEn s = true ∧
      t = ({ s with out := { s.out with safeHold := false } } : State) ∧
      u = disableOutputs (prUpd (fun p => { p with actI := true, actQuiet := false, actLost := false, actEv := false }) t) ∧
      u.pr.dove ≠ 1) ∧
    (∃ (s : State) (key : _), enginesRun s = true ∧ ((s.pr.link = .up ∨ s.pr.link = .hello)) ∧ key.length = 65 ∧
      s.pr.bondPend = some (sha64 key)) ∧
    (∃ (s : State) (key : List Byte), enginesRun s = true ∧ ((s.pr.bondPend = none ∨ key.length ≠ 65))) ∧
    (∃ (s : State), enginesRun s = true ∧ s.pr.link = .up ∧ s.pr.bondPend.isSome = true ∧ s.pr.bondKey ≠ []) ∧
    (∃ (s : State), enginesRun s = true ∧ s.pr.bondPend = none) ∧
    (∃ (s : State), enginesRun s = true ∧ s.pr.bondPend.isSome = true) ∧
    (∃ (s : State), enginesRun s = true ∧ s.pr.bondPend = none) ∧
    (∃ (s : State), enginesRun s = true ∧ s.pr.relWait = true ∧ s.pr.relSends < 3 ∧ s.pr.link = .up) ∧
    (∃ (s : State), enginesRun s = true ∧ relinquishOut s = false ∧ s.pr.relWait = false) ∧
    (∃ (s : State), enginesRun s = true ∧ pairEn s = true) :=
  ⟨⟨pairS id, by decide +kernel, by decide +kernel, by decide +kernel, by decide +kernel⟩,
    ⟨rdy, by decide +kernel, by decide +kernel⟩,
    ⟨pairS id, by decide +kernel, by decide +kernel, by decide +kernel⟩,
    ⟨pairS (fun p => { p with role := .standby }), by decide +kernel, by decide +kernel, by decide +kernel⟩,
    ⟨pairS id, by decide +kernel, by decide +kernel, by decide +kernel⟩,
    ⟨pairS (fun p => { p with hbLost := true }), by decide +kernel, by decide +kernel, by decide +kernel⟩,
    ⟨pairS id, by decide +kernel, by decide +kernel, by decide +kernel⟩,
    ⟨pairS (fun p => { p with hbLost := true }), by decide +kernel, by decide +kernel⟩,
    ⟨pairS (fun p => { p with actLost := false }), by decide +kernel, by decide +kernel, by decide +kernel⟩,
    ⟨pairS (fun p => { p with dove := 1 }), _, _, by decide +kernel, by decide +kernel, rfl, rfl, by decide +kernel⟩,
    ⟨pairS id, _, _, by decide +kernel, by decide +kernel, rfl, rfl, by decide +kernel⟩,
    ⟨pairS (fun p => { p with link := .up, bondPend := some (sha64 (List.replicate 65 0)) }), List.replicate 65 0, by decide +kernel,
      by decide +kernel, by decide +kernel, rfl⟩,
    ⟨pairS id, [], by decide +kernel, .inl rfl⟩,
    ⟨pairS (fun p => { p with link := .up, bondPend := some 0, bondKey := [0] }), by decide +kernel, by decide +kernel,
      by decide +kernel, by decide +kernel⟩,
    ⟨pairS id, by decide +kernel, by decide +kernel⟩,
    ⟨pairS (fun p => { p with bondPend := some 0 }), by decide +kernel, by decide +kernel⟩,
    ⟨pairS id, by decide +kernel, by decide +kernel⟩,
    ⟨pairS (fun p => { p with link := .up, relWait := true }), by decide +kernel, by decide +kernel, by decide +kernel,
      by decide +kernel⟩,
    ⟨pairS id, by decide +kernel, by decide +kernel, by decide +kernel⟩,
    ⟨pairS id, by decide +kernel, by decide +kernel⟩⟩

/-- The hypotheses of ConverterRows can be met. -/
theorem wit_ConverterRows :
    (∃ (c : Fin 4) (s : State), portOn s = true ∧ (((s.conv c.val).state ≠ .run ∧ (s.conv c.val).state ≠ .jig ∨ s.sys.power = .nap ∧
      (c.val ≠ 0 ∨ s.sys.straps.pairEn = true)))) ∧
    (∃ (c : Fin 4) (s : State), portOn s = true ∧ (s.conv c.val).state = .run ∧ (s.conv c.val).busy = .idle) ∧
    (∃ (c : Fin 4) (s : State) (raw : Int) (a : U16) (e : Nat) (t : State), portOn s = true ∧ ((s.sys.power ≠ .nap ∨ c.val = 0 ∧
      s.sys.straps.pairEn = false)) ∧ (s.conv c.val).state = .run ∧ (s.conv c.val).busy = .regular e ∧
      entDiff (regEntry s c.val e) = false ∧ entRec (regEntry s c.val e) = false ∧ 0 ≤ raw ∧ raw ≤ 65535 ∧
      t = convUpd c.val (fun k => { k with suspectNext := false, conversions := sat32 k.conversions, suspects := if (s.conv c.val).suspectNext || (s.conv c.val).calFail then sat32 k.suspects else k.suspects }) (landResult c.val e (regEntry s c.val e) raw ({ code := code16 raw, ovr := false, suspect := (s.conv c.val).suspectNext || (s.conv c.val).calFail, unsettled := !(s.conv c.val).refRdy, late := decide (32 ≤ e) && ((s.conv c.val).inj.map (·.late)).getD false, valid := true, n := 1, angle := a } : ConvReg) s) ∧ supOwns (liveImg t Kind.lsIn 0) c.val e = false) ∧
    (∃ (c : Fin 4) (s : State) (raw : Int) (a : U16) (e : Nat) (t : State), portOn s = true ∧ ((s.sys.power ≠ .nap ∨ c.val = 0 ∧
      s.sys.straps.pairEn = false)) ∧ (s.conv c.val).state = .run ∧ (s.conv c.val).busy = .regular e ∧
      entDiff (regEntry s c.val e) = false ∧ entRec (regEntry s c.val e) = false ∧ 0 ≤ raw ∧ raw ≤ 65535 ∧
      t = convUpd c.val (fun k => { k with suspectNext := false, conversions := sat32 k.conversions, suspects := if (s.conv c.val).suspectNext || (s.conv c.val).calFail then sat32 k.suspects else k.suspects }) (landResult c.val e (regEntry s c.val e) raw ({ code := code16 raw, ovr := false, suspect := (s.conv c.val).suspectNext || (s.conv c.val).calFail, unsettled := !(s.conv c.val).refRdy, late := decide (32 ≤ e) && ((s.conv c.val).inj.map (·.late)).getD false, valid := true, n := 1, angle := a } : ConvReg) s) ∧ supOwns (liveImg t Kind.lsIn 0) c.val e = true) ∧
    (∃ (c : Fin 4) (s : State) (raw : Int) (a : U16) (e : Nat) (t : State), portOn s = true ∧ ((s.sys.power ≠ .nap ∨ c.val = 0 ∧
      s.sys.straps.pairEn = false)) ∧ (s.conv c.val).state = .run ∧ (s.conv c.val).busy = .regular e ∧
      entDiff (regEntry s c.val e) = false ∧ entRec (regEntry s c.val e) = false ∧ 65535 < raw ∧
      t = overRange c.val e 65535 (convUpd c.val (fun k => { k with suspectNext := true, conversions := sat32 k.conversions, ovrs := sat32 k.ovrs, suspects := if (s.conv c.val).suspectNext || (s.conv c.val).calFail then sat32 k.suspects else k.suspects }) (landResult c.val e (regEntry s c.val e) 65535 ({ code := 65535, ovr := true, suspect := (s.conv c.val).suspectNext || (s.conv c.val).calFail, unsettled := !(s.conv c.val).refRdy, late := decide (32 ≤ e) && ((s.conv c.val).inj.map (·.late)).getD false, valid := true, n := 1, angle := a } : ConvReg) s)) ∧ supOwns (liveImg t Kind.lsIn 0) c.val e = false) ∧
    (∃ (c : Fin 4) (s : State), portOn s = true ∧ ((s.sys.power ≠ .nap ∨ c.val = 0 ∧ s.sys.straps.pairEn = false)) ∧
      (s.conv c.val).state = .jig ∧ (s.conv c.val).jigDelay = false) ∧
    (∃ (c : Fin 4) (s : State), portOn s = true ∧ (s.conv c.val).state = .jig ∧ (s.conv c.val).jigDelay = true) ∧
    (∃ (c : Fin 4) (s : State), portOn s = true ∧ (s.conv c.val).inj = none) ∧
    (∃ (c : Fin 4) (s : State) (i : Inject) (t : State), portOn s = true ∧ (s.conv c.val).state = .run ∧ (s.conv c.val).inj = some i ∧
      (s.conv c.val).busy = .idle ∧ (s.conv c.val).afterRec = none ∧
      t = convUpd c.val (fun k => { k with inj := none, injAt := none, oldImg := none }) (injDone c.val s) ∧
      ((((resumePending t).conv c.val).inj = none ∧ ((resumePending t).conv c.val).pend = none))) ∧
    (∃ (c : Fin 4) (s : State), portOn s = true ∧ convRef (liveImg s Kind.conv c.val) ≠ 1) ∧
    (∃ (c : Fin 4) (s : State), portOn s = true ∧ convRef (liveImg s Kind.conv c.val) = 1 ∧ s.ad.extOut = true) ∧
    (∃ (s : State), portOn s = true) ∧
    (∃ (s : State) (t : State), portOn s = true ∧
      t = ({ s with ad := { s.ad with extOut := true, extBad := 0, extGood := 0 } } : State)) ∧
    (∃ (c : Fin 4) (s : State), portOn s = true ∧ (s.conv c.val).state = .jig ∧ (s.conv c.val).jigDelay = true) ∧
    (∃ (c : Fin 4) (s : State), portOn s = true ∧ (s.conv c.val).jigDelay = false) ∧
    (∃ (c : Fin 4) (s : State), portOn s = true ∧ (s.conv c.val).state ≠ .cal) ∧
    (∃ (c : Fin 4) (s : State) (o : Int) (g : Int) (t : State), portOn s = true ∧ (s.conv c.val).state = .cal ∧ o.natAbs ≤ 64 ∧
      g.natAbs ≤ 100 ∧ s.sys.restored = false ∧ t = convUpd c.val (fun k => { k with calFail := false, offset := o, gain := g }) s) :=
  ⟨⟨0, rdy, by decide +kernel, by decide +kernel⟩,
    ⟨0, convUpd 0 (fun k => { k with state := .run }) rdy, by decide +kernel, by decide +kernel, by decide +kernel⟩,
    ⟨0, convUpd 0 (fun k => { k with state := .run, busy := .regular 0 }) rdy, 0, 0, 0, _, by decide +kernel, by decide +kernel,
      by decide +kernel, by decide +kernel, by decide +kernel, by decide +kernel, by decide +kernel, by decide +kernel, rfl,
      by decide +kernel⟩,
    ⟨0, liveS Kind.lsIn 0 1 (convUpd 0 (fun k => { k with state := .run, busy := .regular 24 }) rdy), 0, 0, 24, _, by decide +kernel,
      by decide +kernel, by decide +kernel, by decide +kernel, by decide +kernel, by decide +kernel, by decide +kernel,
      by decide +kernel, rfl, by decide +kernel⟩,
    ⟨0, convUpd 0 (fun k => { k with state := .run, busy := .regular 0 }) rdy, 65536, 0, 0, _, by decide +kernel, by decide +kernel,
      by decide +kernel, by decide +kernel, by decide +kernel, by decide +kernel, by decide +kernel, rfl, by decide +kernel⟩,
    ⟨0, convUpd 0 (fun k => { k with state := .jig }) rdy, by decide +kernel, by decide +kernel, by decide +kernel, by decide +kernel⟩,
    ⟨0, convUpd 0 (fun k => { k with state := .jig, jigDelay := true }) rdy, by decide +kernel, by decide +kernel, by decide +kernel⟩,
    ⟨0, rdy, by decide +kernel, by decide +kernel⟩,
    ⟨0, convUpd 0 (fun k => { k with state := .run, inj := some {} }) rdy, {}, _, by decide +kernel, by decide +kernel,
      by decide +kernel, by decide +kernel, by decide +kernel, rfl, by decide +kernel⟩,
    ⟨0, rdy, by decide +kernel, by decide +kernel⟩,
    ⟨0, liveS Kind.conv 0 2 { rdy with ad := { rdy.ad with extOut := true } }, by decide +kernel, by decide +kernel, by decide +kernel⟩,
    ⟨rdy, by decide +kernel⟩,
    ⟨rdy, _, by decide +kernel, rfl⟩,
    ⟨0, convUpd 0 (fun k => { k with state := .jig, jigDelay := true }) rdy, by decide +kernel, by decide +kernel, by decide +kernel⟩,
    ⟨0, rdy, by decide +kernel, by decide +kernel⟩,
    ⟨0, rdy, by decide +kernel, by decide +kernel⟩,
    ⟨0, convUpd 0 (fun k => { k with state := .cal }) (sysS (fun x => { x with restored := false })), 0, 0, _, by decide +kernel,
      by decide +kernel, by decide +kernel, by decide +kernel, by decide +kernel, rfl⟩⟩

/-- The hypotheses of FanRows can be met. -/
theorem wit_FanRows :
    (∃ (s : State), portOn s = true) ∧
    (∃ (s : State) (iv : Nat), portOn s = true ∧ iv ≠ 0) ∧
    (∃ (n : Fin 8) (s : State), portOn s = true ∧ (((s.fan n.val).state ≠ .kick ∨ 2 ≤ (s.fan n.val).edges))) ∧
    (∃ (n : Fin 8) (s : State), portOn s = true ∧ (s.fan n.val).state = .kick ∧ (s.fan n.val).edges < 2 ∧
      (s.fan n.val).attempts ≤ fnFld s n.val 216 3) ∧
    (∃ (n : Fin 8) (s : State), portOn s = true ∧ (s.fan n.val).state = .kick ∧ (s.fan n.val).edges < 2 ∧
      fnFld s n.val 216 3 < (s.fan n.val).attempts) ∧
    (∃ (n : Fin 8) (s : State), portOn s = true ∧ (s.fan n.val).state = .backoff) ∧
    (∃ (n : Fin 8) (s : State), portOn s = true ∧ (s.fan n.val).state ≠ .backoff) ∧
    (∃ (n : Fin 8) (s : State) (t : State), portOn s = true ∧
      t = fanUpd n.val (fun f => { f with lastIval := none, edges := if f.state = .kick then f.edges else 0 }) s ∧
      (t.fan n.val).state ≠ .run) ∧
    (∃ (n : Fin 8) (s : State) (t : State), portOn s = true ∧
      t = fanUpd n.val (fun f => { f with lastIval := none, edges := if f.state = .kick then f.edges else 0 }) s ∧
      (t.fan n.val).state = .run ∧ currentOf t n.val = none) ∧
    (∃ (n : Fin 8) (s : State), portOn s = true ∧ fnEnabled s n.val = true ∧ fnFld s n.val 5 1 = 1 ∧ s.sys.outputs = true) ∧
    (∃ (n : Fin 8) (s : State), portOn s = true ∧ fnEnabled s n.val = false) :=
  ⟨⟨rdy, by decide +kernel⟩,
    ⟨rdy, 1, by decide +kernel, by decide +kernel⟩,
    ⟨0, rdy, by decide +kernel, .inl (by decide)⟩,
    ⟨0, fanUpd 0 (fun f => { f with state := .kick }) rdy, by decide +kernel, by decide +kernel, by decide +kernel, by decide +kernel⟩,
    ⟨0, fanUpd 0 (fun f => { f with state := .kick, attempts := 4 }) rdy, by decide +kernel, by decide +kernel, by decide +kernel,
      by decide +kernel⟩,
    ⟨0, fanUpd 0 (fun f => { f with state := .backoff }) rdy, by decide +kernel, by decide +kernel⟩,
    ⟨0, rdy, by decide +kernel, by decide +kernel⟩,
    ⟨0, rdy, _, by decide +kernel, rfl, by decide +kernel⟩,
    ⟨0, fanUpd 0 (fun f => { f with state := .run }) rdy, _, by decide +kernel, rfl, by decide +kernel, by decide +kernel⟩,
    ⟨0, liveS Kind.fan 0 33 rdy, by decide +kernel, by decide +kernel, by decide +kernel, by decide +kernel⟩,
    ⟨0, rdy, by decide +kernel, by decide +kernel⟩⟩

/-- The hypotheses of KeysAndAreas can be met. -/
theorem wit_KeysAndAreas :
    (∃ (s : State), portOn s = true ∧ (((keysTakeEffect s).duty = false ∨ (keysTakeEffect s).sys.outputs = false ∨
      kyEnable (keysTakeEffect s) = false))) ∧
    (∃ (s : State) (t : State), portOn s = true ∧ (keysTakeEffect s).duty = true ∧ (keysTakeEffect s).sys.outputs = true ∧
      kyEnable (keysTakeEffect s) = true ∧ t = kyUpd (fun y => { y with scans := sat32 y.scans }) (keysTakeEffect s) ∧
      t.ky.discard = true) ∧
    (∃ (s : State) (k : KeyScan) (t : State) (u : State), portOn s = true ∧ (keysTakeEffect s).duty = true ∧
      (keysTakeEffect s).sys.outputs = true ∧ kyEnable (keysTakeEffect s) = true ∧
      t = kyUpd (fun y => { y with scans := sat32 y.scans }) (keysTakeEffect s) ∧ t.ky.discard = false ∧
      u = forRange (kyCols t) (fun c s => scanColumn (k.nul.getD c 0) c s) t) ∧
    (∃ (s : State) (k : Fin 512), portOn s = true ∧ s.duty = true ∧ (s.ky.key.get k.val).pressed = true ∧
      (s.ky.key.get k.val).stuck = false ∧ liveFld s Kind.key k.val 32 8 ≠ 0) ∧
    (∃ (s : State) (k : Fin 512), portOn s = true ∧ (((s.ky.key.get k.val).pressed = false ∨ (s.ky.key.get k.val).stuck = true ∨
      liveFld s Kind.key k.val 32 8 = 0))) ∧
    (∃ (s : State) (an : Fin 64), portOn s = true ∧ (s.area an.val).alertHold = true ∧
      (actingTrigs s an.val).any (fun t => trigMode s t == 1) = false ∧ s.duty = true) ∧
    (∃ (s : State) (an : Fin 64), portOn s = true ∧ (s.area an.val).alertHold = false) ∧
    (∃ (s : State) (an : Fin 64), portOn s = true ∧ (s.area an.val).testing = true ∧ s.duty = true) ∧
    (∃ (s : State) (an : Fin 64), portOn s = true ∧ (s.area an.val).testing = false) :=
  ⟨⟨rdy, by decide +kernel, .inr (.inr rfl)⟩,
    ⟨liveS Kind.ky 0 1 { rdy with ky := { rdy.ky with discard := true } }, _, by decide +kernel, by decide +kernel, by decide +kernel,
      by decide +kernel, rfl, by decide +kernel⟩,
    ⟨liveS Kind.ky 0 1 rdy, {}, _, _, by decide +kernel, by decide +kernel, by decide +kernel, by decide +kernel, rfl, by decide +kernel,
      rfl⟩,
    ⟨{ rdy with ky := { rdy.ky with key := [(0, { pressed := true })] } }, 0, by decide +kernel, by decide +kernel, by decide +kernel,
      by decide +kernel, by decide +kernel⟩,
    ⟨rdy, 0, by decide +kernel, .inl rfl⟩,
    ⟨areaUpd 0 (fun a => { a with alertHold := true }) rdy, 0, by decide +kernel, by decide +kernel, by decide +kernel,
      by decide +kernel⟩,
    ⟨liveS Kind.ky 0 1 rdy, 0, by decide +kernel, by decide +kernel⟩,
    ⟨areaUpd 0 (fun a => { a with testing := true }) rdy, 0, by decide +kernel, by decide +kernel, by decide +kernel⟩,
    ⟨liveS Kind.ky 0 1 rdy, 0, by decide +kernel, by decide +kernel⟩⟩

/-- The hypotheses of PanelRows can be met. -/
theorem wit_PanelRows :
    (∃ (s : State), enginesRun s = true ∧ s.pn.inFrame = false) ∧
    (∃ (s : State) (t : State), enginesRun s = true ∧ s.pn.inFrame = true ∧ s.pn.update = false ∧
      t = pnUpd (fun p => { p with inFrame := false, update := false }) s ∧ ((pnFld t 3 1 ≠ 0 ∨ panelNeeded t = true))) ∧
    (∃ (s : State) (t : State), enginesRun s = true ∧ s.pn.inFrame = true ∧ s.pn.update = false ∧
      t = pnUpd (fun p => { p with inFrame := false, update := false }) s ∧ pnFld t 3 1 = 0 ∧ panelNeeded t = false ∧ t.pn.pwrEn = true) ∧
    (∃ (s : State) (t : State), enginesRun s = true ∧ s.pn.inFrame = true ∧ s.pn.update = false ∧
      t = pnUpd (fun p => { p with inFrame := false, update := false }) s ∧ pnFld t 3 1 = 0 ∧ panelNeeded t = false ∧
      t.pn.pwrEn = false) ∧
    (∃ (s : State) (t : State), enginesRun s = true ∧ s.pn.inFrame = true ∧ s.pn.update = true ∧
      t = frameUpdate (pnUpd (fun p => { p with inFrame := false, update := false }) s) ∧ ((pnFld t 3 1 ≠ 0 ∨ panelNeeded t = true))) ∧
    (∃ (s : State), enginesRun s = true ∧ s.pn.pwrEn = true ∧ s.pn.pwrGood = false) ∧
    (∃ (s : State), enginesRun s = true ∧ ((s.pn.pwrEn = false ∨ s.pn.pwrGood = true))) ∧
    (∃ (s : State), enginesRun s = true ∧ s.pn.pwrEn = true ∧ s.pn.pwrGood = false) ∧
    (∃ (s : State), enginesRun s = true ∧ ((s.pn.pwrEn = false ∨ s.pn.pwrGood = true))) ∧
    (∃ (s : State) (r : Fin 16), enginesRun s = true ∧ (s.region r.val).state = .loading) ∧
    (∃ (s : State) (r : Fin 16), enginesRun s = true ∧ (s.region r.val).state ≠ .loading) :=
  ⟨⟨rdy, by decide +kernel, by decide +kernel⟩,
    ⟨liveS Kind.pn 0 8 { rdy with pn := { rdy.pn with inFrame := true } }, _, by decide +kernel, by decide +kernel, by decide +kernel,
      rfl, .inl (by decide +kernel)⟩,
    ⟨liveS Kind.pn 0 (2 ^ 50) { rdy with pn := { rdy.pn with inFrame := true, pwrEn := true } }, _, by decide +kernel, by decide +kernel,
      by decide +kernel, rfl, by decide +kernel, by decide +kernel, by decide +kernel⟩,
    ⟨liveS Kind.pn 0 (2 ^ 50) { rdy with pn := { rdy.pn with inFrame := true } }, _, by decide +kernel, by decide +kernel,
      by decide +kernel, rfl, by decide +kernel, by decide +kernel, by decide +kernel⟩,
    ⟨liveS Kind.pn 0 8 { rdy with pn := { rdy.pn with inFrame := true, update := true } }, _, by decide +kernel, by decide +kernel,
      by decide +kernel, rfl, .inl (by decide +kernel)⟩,
    ⟨{ rdy with pn := { rdy.pn with pwrEn := true } }, by decide +kernel, by decide +kernel, by decide +kernel⟩,
    ⟨rdy, by decide +kernel, by decide +kernel⟩,
    ⟨{ rdy with pn := { rdy.pn with pwrEn := true } }, by decide +kernel, by decide +kernel, by decide +kernel⟩,
    ⟨{ rdy with pn := { rdy.pn with pwrGood := true } }, by decide +kernel, by decide +kernel⟩,
    ⟨{ rdy with pn := { rdy.pn with region := [(0, { state := .loading })] } }, 0, by decide +kernel, by decide +kernel⟩,
    ⟨rdy, 0, by decide +kernel, by decide +kernel⟩⟩

/-- The hypotheses of ResetRows can be met. -/
theorem wit_ResetRows :
    (∃ (s : State), s.sys.power = .off) ∧
    (∃ (s : State), s.sys.power = .standby) ∧
    (∃ (s : State), s.sys.power ≠ .off ∧ s.sys.power ≠ .standby) ∧
    (∃ (s : State), ((s.sys.power = .off ∨ s.sys.power = .standby))) ∧
    (∃ (s : State), s.sys.power ≠ .off ∧ s.sys.power ≠ .standby) ∧
    (∃ (s : State), portOn s = true ∧ s.sys.resetDue = none) ∧
    (∃ (s : State), portOn s = true ∧ relinquishOut s = true) ∧
    (∃ (s : State), portOn s = true ∧ s.sys.resetDue = some 0 ∧ relinquishOut s = false) ∧
    (∃ (s : State), portOn s = true ∧ s.sys.resetDue = some 1 ∧ relinquishOut s = false) ∧
    (∃ (s : State), portOn s = true ∧ s.sys.resetDue = some 2 ∧ relinquishOut s = false) ∧
    (∃ (s : State), portOn s = true ∧ restartAllowed s = false) ∧
    (∃ (s : State), portOn s = true ∧ restartAllowed s = true) :=
  ⟨⟨sysS (fun x => { x with power := .off }), by decide +kernel⟩,
    ⟨sysS (fun x => { x with power := .standby }), by decide +kernel⟩,
    ⟨rdy, by decide +kernel, by decide +kernel⟩,
    ⟨sysS (fun x => { x with power := .off }), .inl rfl⟩,
    ⟨rdy, by decide +kernel, by decide +kernel⟩,
    ⟨rdy, by decide +kernel, by decide +kernel⟩,
    ⟨prS (fun p => { p with sendQ := [.relinquish 0 [] false] }), by decide +kernel, by decide +kernel⟩,
    ⟨sysS (fun x => { x with resetDue := some 0 }), by decide +kernel, by decide +kernel, by decide +kernel⟩,
    ⟨sysS (fun x => { x with resetDue := some 1 }), by decide +kernel, by decide +kernel, by decide +kernel⟩,
    ⟨sysS (fun x => { x with resetDue := some 2 }), by decide +kernel, by decide +kernel, by decide +kernel⟩,
    ⟨rdy, by decide +kernel, by decide +kernel⟩,
    ⟨holdS, by decide +kernel, by decide +kernel⟩⟩

/-- The hypotheses of StartUpRows can be met. -/
theorem wit_StartUpRows :
    (∃ (s : State), portOn s = true ∧ s.sys.ready = true) ∧
    (∃ (s : State) (t : State), portOn s = true ∧ s.sys.ready = false ∧ s.sys.recovery = false ∧ t = selectImage s ∧
      t.sys.recovery = false ∧ t.th.hold = false) ∧
    (∃ (s : State), portOn s = true ∧ s.sys.ready = false ∧ s.sys.recovery = true) ∧
    (∃ (s : State), portOn s = true ∧ ((s.sys.ready = false ∨ s.sys.recovery = true ∨ s.fenced = true ∨ s.sys.restored = true))) ∧
    (∃ (s : State) (bad : List CfgKey) (t : State), portOn s = true ∧ s.sys.ready = true ∧ s.sys.recovery = false ∧ s.fenced = false ∧
      s.sys.restored = false ∧ s.th.hold = false ∧
      t = heldEvents (sysUpd (fun y => { y with restored := true }) (restoreAreas (adjustThr (landHanded (restoreRecords (loadConfig bad (replayJournal s))))))) ∧ pairEn t = false) ∧
    (∃ (s : State), portOn s = true ∧ s.pr.role = .negotiate ∧ s.sys.restored = true ∧ s.pr.actI = false ∧ s.sys.recovery = false ∧
      ownFault s = false) ∧
    (∃ (s : State), portOn s = true ∧ s.pr.role = .negotiate ∧ s.sys.restored = true ∧ s.pr.actI = false ∧ s.sys.recovery = false ∧
      ownFault s = true) ∧
    (∃ (s : State), portOn s = true ∧ s.pr.role ≠ .negotiate) :=
  ⟨⟨rdy, by decide +kernel, by decide +kernel⟩,
    ⟨sysS (fun x => { x with ready := false, restored := false }), _, by decide +kernel, by decide +kernel, by decide +kernel, rfl,
      by decide +kernel, by decide +kernel⟩,
    ⟨sysS (fun x => { x with ready := false, recovery := true }), by decide +kernel, by decide +kernel, by decide +kernel⟩,
    ⟨sysS (fun x => { x with ready := false, restored := false }), by decide +kernel, .inl rfl⟩,
    ⟨sysS (fun x => { x with restored := false }), [], _, by decide +kernel, by decide +kernel, by decide +kernel, by decide +kernel,
      by decide +kernel, by decide +kernel, rfl, by decide +kernel⟩,
    ⟨prS (fun p => { p with role := .negotiate }), by decide +kernel, by decide +kernel, by decide +kernel, by decide +kernel,
      by decide +kernel, by decide +kernel⟩,
    ⟨prUpd (fun p => { p with role := .negotiate }) (sysS (fun x => { x with bridgeLost := true })), by decide +kernel,
      by decide +kernel, by decide +kernel, by decide +kernel, by decide +kernel, by decide +kernel⟩,
    ⟨rdy, by decide +kernel, by decide +kernel⟩⟩

/-- The hypotheses of PowerRows can be met. -/
theorem wit_PowerRows :
    (∃ (s : State), portOn s = true) ∧
    (∃ (s : State), portOn s = true ∧ s.sys.pfailLow = true) ∧
    (∃ (s : State), portOn s = true ∧ s.sys.pfailLow = false) ∧
    (∃ (s : State), portOn s = true ∧ s.sys.pfailLow = true) ∧
    (∃ (s : State), portOn s = true) ∧
    (∃ (s : State), portOn s = false) ∧
    (∃ (s : State) (t : State), s.sys.power ≠ .off ∧ t = coldState (retentionLost s)) ∧
    (∃ (s : State), s.sys.power = .off) ∧
    (∃ (s : State), s.sys.power ≠ .off) :=
  ⟨⟨rdy, by decide +kernel⟩,
    ⟨sysS (fun x => { x with pfailLow := true }), by decide +kernel, by decide +kernel⟩,
    ⟨rdy, by decide +kernel, by decide +kernel⟩,
    ⟨sysS (fun x => { x with pfailLow := true }), by decide +kernel, by decide +kernel⟩,
    ⟨rdy, by decide +kernel⟩,
    ⟨sysS (fun x => { x with power := .off }), by decide +kernel⟩,
    ⟨rdy, _, by decide +kernel, rfl⟩,
    ⟨sysS (fun x => { x with power := .off }), by decide +kernel⟩,
    ⟨rdy, by decide +kernel⟩⟩

/-- The hypotheses of StoreRows can be met. -/
theorem wit_StoreRows :
    (∃ (s : State), portOn s = true ∧ s.fenced = true ∧ s.sys.cutDue = false) ∧
    (∃ (s : State), portOn s = true ∧ s.fenced = false ∧ (commitRecord s).sys.cutDue = false) ∧
    (∃ (s : State), portOn s = true ∧ s.fenced = false ∧ (commitRecord s).sys.cutDue = true) ∧
    (∃ (s : State), portOn s = true ∧ ((s.fenced = true ∨ s.sys.restored = false))) ∧
    (∃ (s : State), portOn s = true ∧ s.fenced = false ∧ s.sys.restored = true) ∧
    (∃ (s : State), portOn s = true ∧ s.nv.digestValid = true) ∧
    (∃ (s : State), portOn s = true ∧ s.nv.digestValid = false) ∧
    (∃ (s : State), portOn s = true ∧ s.sys.bridgeLost = false) ∧
    (∃ (s : State), portOn s = true ∧ s.sys.bridgeLost = true) ∧
    (∃ (s : State), scrubs s = false) ∧
    (∃ (s : State), scrubs s = true) ∧
    (∃ (s : State) (r : Nat), portOn s = true ∧ r ≠ 17) :=
  ⟨⟨{ rdy with nv := { rdy.nv with fence := some 0 } }, by decide +kernel, by decide +kernel, by decide +kernel⟩,
    ⟨rdy, by decide +kernel, by decide +kernel, by decide +kernel⟩,
    ⟨{ sysS (fun x => { x with cutDue := true }) with nv := { rdy.nv with queue := [{}] } }, by decide +kernel, by decide +kernel,
      by decide +kernel⟩,
    ⟨{ rdy with nv := { rdy.nv with fence := some 0 } }, by decide +kernel, .inl rfl⟩,
    ⟨rdy, by decide +kernel, by decide +kernel, by decide +kernel⟩,
    ⟨{ rdy with nv := { rdy.nv with digestValid := true } }, by decide +kernel, by decide +kernel⟩,
    ⟨rdy, by decide +kernel, by decide +kernel⟩,
    ⟨rdy, by decide +kernel, by decide +kernel⟩,
    ⟨sysS (fun x => { x with bridgeLost := true }), by decide +kernel, by decide +kernel⟩,
    ⟨sysS (fun x => { x with power := .nap }), by decide +kernel⟩,
    ⟨rdy, by decide +kernel⟩,
    ⟨rdy, 0, by decide +kernel, by decide +kernel⟩⟩

/-- The hypotheses of ThermalRows can be met. -/
theorem wit_ThermalRows :
    (∃ (r : List Int) (n : List Nat) (s : State) (t : State), portOn s = true ∧
      t = thUpd (fun t => { t with sinceRep := min (t.sinceRep + 1) 64 }) (forRange 3 judgeSensor (forRange 3 (fun i s => newReading i (r.getD i 0) (n.getD i 0) s) (newThCfg s))) ∧ hottest t = none ∧ t.th.level = 0) ∧
    (∃ (r : List Int) (n : List Nat) (s : State) (t : State) (i : _) (x : _), portOn s = true ∧
      t = thUpd (fun t => { t with sinceRep := min (t.sinceRep + 1) 64 }) (forRange 3 judgeSensor (forRange 3 (fun i s => newReading i (r.getD i 0) (n.getD i 0) s) (newThCfg s))) ∧ hottest t = some (i, x) ∧ (throttle x t).th.level = 0) ∧
    (∃ (r : List Int) (n : List Nat) (s : State) (t : State) (i : _) (x : _), portOn s = true ∧
      t = thUpd (fun t => { t with sinceRep := min (t.sinceRep + 1) 64 }) (forRange 3 judgeSensor (forRange 3 (fun i s => newReading i (r.getD i 0) (n.getD i 0) s) (newThCfg s))) ∧ hottest t = some (i, x) ∧ 0 < (throttle x t).th.level) ∧
    (∃ (s : State), portOn s = true ∧ s.th.unreported = true ∧ 64 ≤ s.th.sinceRep) ∧
    (∃ (s : State), portOn s = true ∧ ((s.th.unreported = false ∨ s.th.sinceRep < 64))) :=
  ⟨⟨[], [], { rdy with th := { rdy.th with sensor := [(0, { failed := true }), (1, { failed := true }), (2, { failed := true })] } }, _,
    by decide +kernel, rfl, by decide +kernel, by decide +kernel⟩,
    ⟨[400, 400, 400], [1, 1, 1], rdy, _, _, _, by decide +kernel, rfl, rfl, by decide +kernel⟩,
    ⟨[480, 480, 480], [1, 1, 1], { rdy with th := { rdy.th with tHist := [480, 480, 480] } }, _, _, _, by decide +kernel, rfl, rfl,
      by decide +kernel⟩,
    ⟨{ rdy with th := { rdy.th with unreported := true } }, by decide +kernel, by decide +kernel, by decide +kernel⟩,
    ⟨rdy, by decide +kernel, by decide +kernel⟩⟩

/-- The hypotheses of SentinelRows can be met. -/
theorem wit_SentinelRows :
    (∃ (s : State), s.sys.power = .off) ∧
    (∃ (s : State), s.sys.power ≠ .off ∧ senEnable (takeDue [Kind.sn] s) = false) ∧
    (∃ (s : State) (sup : List Nat) (wk : List Bool) (mv : Nat) (t : State) (l : State) (u : State), s.sys.power ≠ .off ∧
      t = takeDue [Kind.sn] s ∧ senEnable t = true ∧ l = latchOuts t ∧
      u = tickVaon mv (logEdges (forRange 4 (fun i s => if chanFld s (4 + i) 0 1 == 1 &&
      chanFld s (4 + i) 2 1 == 0 then tickChan (4 + i) (if wk.getD i false != (chanFld s (4 + i) 1 1 == 1) then 255 else 0) s else s) (forRange 4 (fun n s => if (l.sys.power == .standby && liveBit l Kind.sn 0 1 && !l.sn.pairEn) && chanFld s n 0 1 == 1 then tickChan n (sup.getD n 0 / 4) s else s) l))) ∧ wakeChannel l u = none) ∧
    (∃ (s : State) (sup : List Nat) (wk : List Bool) (mv : Nat) (t : State) (l : State) (u : State) (n : _), s.sys.power ≠ .off ∧
      t = takeDue [Kind.sn] s ∧ senEnable t = true ∧ l = latchOuts t ∧
      u = tickVaon mv (logEdges (forRange 4 (fun i s => if chanFld s (4 + i) 0 1 == 1 &&
      chanFld s (4 + i) 2 1 == 0 then tickChan (4 + i) (if wk.getD i false != (chanFld s (4 + i) 1 1 == 1) then 255 else 0) s else s) (forRange 4 (fun n s => if (l.sys.power == .standby && liveBit l Kind.sn 0 1 && !l.sn.pairEn) && chanFld s n 0 1 == 1 then tickChan n (sup.getD n 0 / 4) s else s) l))) ∧ wakeChannel l u = some n) ∧
    (∃ (s : State) (i : Fin 4) (r : Bool), s.sys.power ≠ .off ∧ chanFld s (4 + i.val) 0 1 = 1 ∧ chanFld s (4 + i.val) 2 1 = 1 ∧
      (r != (chanFld s (4 + i.val) 1 1 == 1)) = true) ∧
    (∃ (s : State) (i : Fin 4), ((chanFld s (4 + i.val) 0 1 ≠ 1 ∨ chanFld s (4 + i.val) 2 1 ≠ 1))) ∧
    (∃ (s : State) (u : Nat), s.rtc.alarm = some u ∧ u ≤ s.rtc.utc) ∧
    (∃ (s : State), ((s.rtc.alarm = none ∨ (∃ u, s.rtc.alarm = some u ∧ s.rtc.utc < u)))) ∧
    (∃ (s : State), s.rtc.xtalFail = false ∧ s.sys.power ≠ .off) ∧
    (∃ (s : State), s.rtc.xtalFail = true) :=
  ⟨⟨sysS (fun x => { x with power := .off }), by decide +kernel⟩,
    ⟨rdy, by decide +kernel, by decide +kernel⟩,
    ⟨liveS Kind.sn 0 (1 + 100 * 2 ^ 40) rdy, [], [], 3300, _, _, _, by decide +kernel, rfl, by decide +kernel, rfl, rfl,
      by decide +kernel⟩,
    ⟨liveS Kind.sn 0 (1 + 2 ^ 192 + 2 ^ 197 + 100 * 2 ^ 40) rdy, [], [], 3300, _, _, _, 4, by decide +kernel, rfl, by decide +kernel,
      rfl, rfl, by decide +kernel⟩,
    ⟨liveS Kind.sn 0 (5 * 2 ^ 192) rdy, 0, true, by decide +kernel, by decide +kernel, by decide +kernel, by decide +kernel⟩,
    ⟨rdy, 0, by decide +kernel⟩,
    ⟨{ rdy with rtc := { rdy.rtc with alarm := some 0 } }, 0, by decide +kernel, by decide +kernel⟩,
    ⟨rdy, by decide +kernel⟩,
    ⟨rdy, by decide +kernel, by decide +kernel⟩,
    ⟨{ rdy with rtc := { rdy.rtc with xtalFail := true } }, by decide +kernel⟩⟩

/-- The hypotheses of HostReads can be met. -/
theorem wit_HostReads :
    (∃ (s : State), (portOn s && s.sys.ready) = false) ∧
    (∃ (a : BitVec 24) (s : State), portOn s = true ∧ s.sys.ready = true ∧ a.toNat ≠ 0x800) ∧
    (∃ (a : BitVec 24) (s : State) (n : Nat), portOn s = true ∧ s.sys.ready = true ∧ a.toNat = 0x800 ∧ 1 ≤ n ∧ n < 8) ∧
    (∃ (a : BitVec 24) (s : State), portOn s = true ∧ s.sys.ready = true ∧ a.toNat = 0x800) ∧
    (∃ (s : State) (len : U16), portOn s = true ∧ s.sys.ready = true ∧ lenOk len.toNat = false) ∧
    (∃ (a : BitVec 24) (s : State) (len : U16) (d : _), portOn s = true ∧ s.sys.ready = true ∧ lenOk len.toNat = true ∧ a.toNat ≠ 0x800 ∧
      d = (List.range len.toNat).map (fun i => byteAt a.toNat (a.toNat + i) s)) :=
  ⟨⟨State.reset, by decide +kernel⟩,
    ⟨0, rdy, by decide +kernel, by decide +kernel, by decide +kernel⟩,
    ⟨0x800, rdy, 1, by decide +kernel, by decide +kernel, by decide +kernel, by decide +kernel, by decide +kernel⟩,
    ⟨0x800, rdy, by decide +kernel, by decide +kernel, by decide +kernel⟩,
    ⟨rdy, 3, by decide +kernel, by decide +kernel, by decide +kernel⟩,
    ⟨0, rdy, 1024, _, by decide +kernel, by decide +kernel, by decide +kernel, by decide +kernel, rfl⟩⟩

/-- The hypotheses of HostWrites can be met. -/
theorem wit_HostWrites :
    (∃ (s : State), portOn s = false) ∧
    (∃ (a : BitVec 24) (s : State), portOn s = true ∧ a.toNat < 0x800 ∧ a.toNat % 4 = 0) ∧
    (∃ (a : BitVec 24) (s : State), portOn s = true ∧ a.toNat < 0x800 ∧ a.toNat % 4 = 0) ∧
    (∃ (s : State) (len : U16) (d : List Byte), portOn s = true ∧ ((lenOk len.toNat = false ∨ d.length ≠ len.toNat))) ∧
    (∃ (a : BitVec 24) (s : State) (len : U16) (d : List Byte) (c : U16), portOn s = true ∧ lenOk len.toNat = true ∧
      d.length = len.toNat ∧ crc16 (crcHead 0x12 a.toNat len.toNat ++ d) ≠ c.toNat) ∧
    (∃ (a : BitVec 24) (s : State) (len : U16) (d : List Byte) (c : U16), portOn s = true ∧ lenOk len.toNat = true ∧
      d.length = len.toNat ∧ crc16 (crcHead 0x12 a.toNat len.toNat ++ d) = c.toNat) ∧
    (∃ (a : BitVec 24) (s : State) (len : U16) (d : List Byte) (c : U16), portOn s = true ∧ lenOk len.toNat = true ∧
      d.length = len.toNat ∧ crc16 (crcHead 0x3E a.toNat len.toNat ++ d) = c.toNat) ∧
    (∃ (s : State) (c : Byte), portOn s = true ∧ [0x0B, 0x02, 0x1B, 0x12, 0xEB, 0x38, 0xEC, 0x3E].contains c.toNat = false) :=
  ⟨⟨sysS (fun x => { x with power := .off }), by decide +kernel⟩,
    ⟨0x7FC, rdy, by decide +kernel, by decide +kernel, by decide +kernel⟩,
    ⟨0, rdy, by decide +kernel, by decide +kernel, by decide +kernel⟩,
    ⟨rdy, 3, [0, 0, 0, 0], by decide +kernel, .inl rfl⟩,
    ⟨0, rdy, 4, [0, 0, 0, 0], 0, by decide +kernel, by decide +kernel, by decide +kernel, by decide +kernel⟩,
    ⟨0, rdy, 4, [0, 0, 0, 0], u16 (crc16 (crcHead 0x12 0 4 ++ [0, 0, 0, 0])), by decide +kernel, by decide +kernel, by decide +kernel,
      by decide +kernel⟩,
    ⟨0, rdy, 4, [0, 0, 0, 0], u16 (crc16 (crcHead 0x3E 0 4 ++ [0, 0, 0, 0])), by decide +kernel, by decide +kernel, by decide +kernel,
      by decide +kernel⟩,
    ⟨rdy, 0, by decide +kernel, by decide +kernel⟩⟩

/-- The hypotheses of HostRegisters can be met. -/
theorem wit_HostRegisters :
    (∃ (s : State), portOn s = true) ∧
    (∃ (v : U32) (s : State), portOn s = true ∧ v.toNat % 4 = 1) ∧
    (∃ (v : U32) (s : State), portOn s = true ∧ v.toNat % 4 = 2) ∧
    (∃ (s : State), portOn s = true) ∧
    (∃ (v : U32) (s : State), portOn s = true ∧ v.toNat % 2 = 1) ∧
    (∃ (s : State), portOn s = true) :=
  ⟨⟨rdy, by decide +kernel⟩,
    ⟨1, rdy, by decide +kernel, by decide +kernel⟩,
    ⟨2, rdy, by decide +kernel, by decide +kernel⟩,
    ⟨rdy, by decide +kernel⟩,
    ⟨1, rdy, by decide +kernel, by decide +kernel⟩,
    ⟨rdy, by decide +kernel⟩⟩

/-- The hypotheses of HostMemories can be met. -/
theorem wit_HostMemories :
    (∃ (s : State) (n : Fin 16) (off : Fin 1024) (d : List Byte), portOn s = true ∧ d ≠ [] ∧ off.val + d.length ≤ 1024 ∧
      (s.mb.slot.get n.val).device = true) ∧
    (∃ (s : State) (n : Fin 16) (off : Fin 1024) (d : List Byte), portOn s = true ∧ d ≠ [] ∧ off.val + d.length ≤ 1024 ∧
      (s.mb.slot.get n.val).device = false) ∧
    (∃ (s : State), portOn s = true ∧ bulkLocked s = false) ∧
    (∃ (s : State), portOn s = true ∧ bulkLocked s = true) ∧
    (∃ (s : State), portOn s = true ∧ s.sys.ready = true) ∧
    (∃ (s : State), portOn s = true ∧ s.sys.ready = false) :=
  ⟨⟨{ rdy with mb := { rdy.mb with slot := [(0, { device := true })] } }, 0, 1023, [0], by decide +kernel, by decide +kernel,
    by decide +kernel, by decide +kernel⟩,
    ⟨rdy, 0, 1023, [0], by decide +kernel, by decide +kernel, by decide +kernel, by decide +kernel⟩,
    ⟨rdy, by decide +kernel, by decide +kernel⟩,
    ⟨{ rdy with mb := { rdy.mb with outst := [{ org := .slot 0, opcode := 0x0F02 }] } }, by decide +kernel, by decide +kernel⟩,
    ⟨rdy, by decide +kernel, by decide +kernel⟩,
    ⟨State.reset, by decide +kernel, by decide +kernel⟩⟩

/-- The hypotheses of SessionCards can be met. -/
theorem wit_SessionCards :
    (∃ (r : Req) (p : List Byte) (s : State) (t : State), Takes 0x0103 r p s t ∧ le p 0 1 ≤ 1 ∧ zeroed p 1 3 = true ∧ (t.ses.isOpen &&
      le p 0 1 == 0) = false) ∧
    (∃ (r : Req) (p : List Byte) (s : State) (t : State), Takes 0x0103 r p s t ∧ le p 0 1 = 0 ∧ zeroed p 1 3 = true ∧
      t.ses.isOpen = true) ∧
    (∃ (r : Req) (p : List Byte) (s : State) (t : State) (k : _) (recs : _) (staged : _), Takes 0x0104 r p s t ∧ k = le p 0 1 ∧
      recs = (List.range (le p 8 2)).map (fun i => (i, le p (16 + imgBytes (tableKind k) * i) (imgBytes (tableKind k)))) ∧
      staged = recs.foldl (fun m q => Tab.set m (recKey (tableKind k) (le p 4 4 + q.1)) (some (cleanImg (tableFields k) q.2))) t.ses.staged ∧ (1 ≤ k ∧ k ≤ 7) ∧ allOk (rangeChecks p) = true ∧ zeroed p 1 3 = true ∧ zeroed p 10 6 = true ∧ recs.all (fun q => allOk (loadChecks k (16 + imgBytes (tableKind k) * q.1) q.2)) = true ∧ t.ses.isOpen = true ∧ staged.length ≤ 8192 ∧ cfgUsed t.nv.cfg staged ≤ 0x400000) ∧
    (∃ (r : Req) (p : List Byte) (s : State) (t : State) (k : _) (recs : _), Takes 0x0104 r p s t ∧ k = le p 0 1 ∧
      recs = (List.range (le p 8 2)).map (fun i => (i, le p (16 + imgBytes (tableKind k) * i) (imgBytes (tableKind k)))) ∧ (1 ≤ k ∧
      k ≤ 7) ∧ allOk (rangeChecks p) = true ∧ zeroed p 1 3 = true ∧ zeroed p 10 6 = true ∧
      recs.all (fun q => allOk (loadChecks k (16 + imgBytes (tableKind k) * q.1) q.2)) = true ∧ t.ses.isOpen = false) ∧
    (∃ (r : Req) (p : List Byte) (s : State) (t : State) (fl : _) (ws : _), Takes 0x0105 r p s t ∧ fl = le p 0 1 ∧ ws = stagedWrites t ∧
      fl ≤ 3 ∧ zeroed p 1 3 = true ∧ t.ses.isOpen = true ∧ (fl / 2 % 2 == 1 && t.nv.gen.toNat != le p 8 4) = false ∧ allNormal t = true ∧
      reported t (stepThree t) = none ∧ cfgUsed (standing t) [] ≤ 0x400000 ∧ t.fenced = false) ∧
    (∃ (r : Req) (p : List Byte) (s : State) (t : State) (fl : _), Takes 0x0105 r p s t ∧ fl = le p 0 1 ∧ fl ≤ 3 ∧ zeroed p 1 3 = true ∧
      t.ses.isOpen = false) ∧
    (∃ (r : Req) (p : List Byte) (s : State) (t : State) (fl : _), Takes 0x0105 r p s t ∧ fl = le p 0 1 ∧ fl ≤ 3 ∧ zeroed p 1 3 = true ∧
      t.ses.isOpen = true ∧ (fl / 2 % 2 == 1 && t.nv.gen.toNat != le p 8 4) = true) ∧
    (∃ (r : Req) (p : List Byte) (s : State) (t : State) (fl : _), Takes 0x0105 r p s t ∧ fl = le p 0 1 ∧ fl ≤ 3 ∧ zeroed p 1 3 = true ∧
      t.ses.isOpen = true ∧ (fl / 2 % 2 == 1 && t.nv.gen.toNat != le p 8 4) = false ∧ allNormal t = false) ∧
    (∃ (r : Req) (p : List Byte) (s : State) (t : State), Takes 0x0106 r p s t ∧ t.ses.isOpen = true) ∧
    (∃ (r : Req) (p : List Byte) (s : State) (t : State), Takes 0x0106 r p s t ∧ t.ses.isOpen = false) ∧
    (∃ (r : Req) (p : List Byte) (s : State) (t : State) (k : _) (first : _) (n : _), Takes 0x0107 r p s t ∧ k = le p 0 1 ∧
      first = le p 4 4 ∧ n = le p 8 2 ∧ allOk (rangeChecks p) = true ∧ le p 1 1 = 0 ∧ zeroed p 2 2 = true) ∧
    (∃ (r : Req) (p : List Byte) (s : State) (t : State) (k : _) (first : _) (n : _), Takes 0x0107 r p s t ∧ k = le p 0 1 ∧
      first = le p 4 4 ∧ n = le p 8 2 ∧ allOk (rangeChecks p) = true ∧ le p 1 1 = 1 ∧ zeroed p 2 2 = true ∧ t.ses.isOpen = true) ∧
    (∃ (r : Req) (p : List Byte) (s : State) (t : State), Takes 0x0108 r p s t) :=
  ⟨⟨_, [0, 0, 0, 0], rdy, _, takes_of _ _ _ _ rfl (by decide +kernel) (by decide +kernel) (by decide +kernel) (by decide +kernel),
    by decide +kernel, by decide +kernel, by decide +kernel⟩,
    ⟨_, [0, 0, 0, 0], sesS, _, takes_of _ _ _ _ rfl (by decide +kernel) (by decide +kernel) (by decide +kernel) (by decide +kernel),
      by decide +kernel, by decide +kernel, by decide +kernel⟩,
    ⟨_, [2, 0, 0, 0, 0, 0, 0, 0, 1, 0] ++ List.replicate (6 + imgBytes (tableKind 2)) 0, sesS, _, _, _, _,
      takes_of _ _ _ _ rfl (by decide +kernel) (by decide +kernel) (by decide +kernel) (by decide +kernel), rfl, rfl, rfl,
      by decide +kernel, by decide +kernel, by decide +kernel, by decide +kernel, by decide +kernel, by decide +kernel,
      by decide +kernel, by decide +kernel⟩,
    ⟨_, [2, 0, 0, 0, 0, 0, 0, 0, 1, 0] ++ List.replicate (6 + imgBytes (tableKind 2)) 0, rdy, _, _, _,
      takes_of _ _ _ _ rfl (by decide +kernel) (by decide +kernel) (by decide +kernel) (by decide +kernel), rfl, rfl, by decide +kernel,
      by decide +kernel, by decide +kernel, by decide +kernel, by decide +kernel, by decide +kernel⟩,
    ⟨_, List.replicate 12 0, sesS, _, _, _,
      takes_of _ _ _ _ rfl (by decide +kernel) (by decide +kernel) (by decide +kernel) (by decide +kernel), rfl, rfl, by decide +kernel,
      by decide +kernel, by decide +kernel, by decide +kernel, by decide +kernel, by decide +kernel, by decide +kernel,
      by decide +kernel⟩,
    ⟨_, List.replicate 12 0, rdy, _, _,
      takes_of _ _ _ _ rfl (by decide +kernel) (by decide +kernel) (by decide +kernel) (by decide +kernel), rfl, by decide +kernel,
      by decide +kernel, by decide +kernel⟩,
    ⟨_, [2, 0, 0, 0, 0, 0, 0, 0, 1, 0, 0, 0], sesS, _, _,
      takes_of _ _ _ _ rfl (by decide +kernel) (by decide +kernel) (by decide +kernel) (by decide +kernel), rfl, by decide +kernel,
      by decide +kernel, by decide +kernel, by decide +kernel⟩,
    ⟨_, List.replicate 12 0, areaUpd 0 (fun a => { a with mode := 1 }) sesS, _, _,
      takes_of _ _ _ _ rfl (by decide +kernel) (by decide +kernel) (by decide +kernel) (by decide +kernel), rfl, by decide +kernel,
      by decide +kernel, by decide +kernel, by decide +kernel, by decide +kernel⟩,
    ⟨_, [], sesS, _, takes_of _ _ _ _ rfl (by decide +kernel) (by decide +kernel) (by decide +kernel) (by decide +kernel),
      by decide +kernel⟩,
    ⟨_, [], rdy, _, takes_of _ _ _ _ rfl (by decide +kernel) (by decide +kernel) (by decide +kernel) (by decide +kernel),
      by decide +kernel⟩,
    ⟨_, [1, 0, 0, 0, 0, 0, 0, 0, 1, 0], rdy, _, _, _, _,
      takes_of _ _ _ _ rfl (by decide +kernel) (by decide +kernel) (by decide +kernel) (by decide +kernel), rfl, rfl, rfl,
      by decide +kernel, by decide +kernel, by decide +kernel⟩,
    ⟨_, [1, 1, 0, 0, 0xFF, 0xFF, 1, 0, 1, 0], sesS, _, _, _, _,
      takes_of _ _ _ _ rfl (by decide +kernel) (by decide +kernel) (by decide +kernel) (by decide +kernel), rfl, rfl, rfl,
      by decide +kernel, by decide +kernel, by decide +kernel, by decide +kernel⟩,
    ⟨_, [], rdy, _, takes_of _ _ _ _ rfl (by decide +kernel) (by decide +kernel) (by decide +kernel) (by decide +kernel)⟩⟩

/-- The hypotheses of SystemCards can be met. -/
theorem wit_SystemCards :
    (∃ (r : Req) (p : List Byte) (s : State) (t : State) (lo : _) (hi : _) (ep : _) (others : _) (gone : _) (m : _),
      Takes 0x0001 r p s t ∧ lo = le p 0 1 ∧ hi = le p 1 1 ∧ ep = epochOf r.tag.toNat ∧
      others = t.mb.outst.filter (fun o => o.org != .slot r.slot.val && o.isSlot) ∧
      gone = (if t.mb.epoch = some ep then [] else others.filter (fun o => epochOf o.tag != ep && !o.late)) ∧
      m = imgSlot t t.nv.running ∧ (lo != 0) = true ∧ hi ≤ 3 ∧ lo ≤ hi ∧ zeroed p 2 2 = true ∧ lo ≤ min hi (ilMax t)) ∧
    (∃ (r : Req) (p : List Byte) (s : State) (t : State) (lo : _) (hi : _), Takes 0x0001 r p s t ∧ lo = le p 0 1 ∧ hi = le p 1 1 ∧
      (lo != 0) = true ∧ hi ≤ 3 ∧ lo ≤ hi ∧ zeroed p 2 2 = true ∧ t.sys.recovery = false ∧ min hi (ilMax t) < lo) ∧
    (∃ (r : Req) (p : List Byte) (s : State) (t : State) (m : _), Takes 0x0100 r p s t ∧ m = imgSlot t t.nv.running) ∧
    (∃ (r : Req) (p : List Byte) (s : State) (t : State) (act : _) (force : _), Takes 0x0101 r p s t ∧ act = le p 0 1 ∧
      force = le p 1 1 ∧ act ≤ 1 ∧ force ≤ 1 ∧ zeroed p 2 2 = true ∧ (t.pr.role == .simplex && !(force == 1) && !allNormal t) = false ∧
      t.duty = false) ∧
    (∃ (r : Req) (p : List Byte) (s : State) (t : State) (act : _) (force : _), Takes 0x0101 r p s t ∧ act = le p 0 1 ∧
      force = le p 1 1 ∧ act ≤ 1 ∧ force ≤ 1 ∧ zeroed p 2 2 = true ∧ (t.pr.role == .simplex && !(force == 1) && !allNormal t) = false ∧
      t.duty = true) ∧
    (∃ (r : Req) (p : List Byte) (s : State) (t : State) (act : _) (force : _), Takes 0x0101 r p s t ∧ act = le p 0 1 ∧
      force = le p 1 1 ∧ act ≤ 1 ∧ force ≤ 1 ∧ zeroed p 2 2 = true ∧ (t.pr.role == .simplex && !(force == 1) && !allNormal t) = true) ∧
    (∃ (r : Req) (p : List Byte) (s : State) (t : State), Takes 0x0102 r p s t ∧ le p 0 1 = 0 ∧ zeroed p 1 7 = true ∧ le p 8 8 = 0) ∧
    (∃ (r : Req) (p : List Byte) (s : State) (t : State) (utc : _), Takes 0x0102 r p s t ∧ utc = le p 8 8 ∧ le p 0 1 = 1 ∧
      zeroed p 1 7 = true ∧ utc2020 ≤ utc) ∧
    (∃ (r : Req) (p : List Byte) (s : State) (t : State) (fl : _), Takes 0x0109 r p s t ∧ fl = le p 0 1 ∧
      fl ≤ (if r.level.toNat ≥ 3 then 1 else 0) ∧ zeroed p 1 3 = true) ∧
    (∃ (r : Req) (p : List Byte) (s : State) (t : State), Takes 0x010A r p s t ∧ zeroed p 2 2 = true) ∧
    (∃ (r : Req) (p : List Byte) (s : State) (t : State) (x : _), Takes 0x1200 r p s t ∧ x = le p 0 8 ∧ keeps evqFields x = true ∧
      room [wr Kind.evq 0 x] t) ∧
    (∃ (r : Req) (p : List Byte) (s : State) (t : State), Takes 0x1201 r p s t) :=
  ⟨⟨_, [1, 3, 0, 0], rdy, _, _, _, _, _, _, _,
    takes_of _ _ _ _ rfl (by decide +kernel) (by decide +kernel) (by decide +kernel) (by decide +kernel), rfl, rfl, rfl, rfl, rfl, rfl,
    by decide +kernel, by decide +kernel, by decide +kernel, by decide +kernel, by decide +kernel⟩,
    ⟨_, [3, 3, 0, 0], il2S, _, _, _,
      takes_of _ _ _ _ rfl (by decide +kernel) (by decide +kernel) (by decide +kernel) (by decide +kernel), rfl, rfl, by decide +kernel,
      by decide +kernel, by decide +kernel, by decide +kernel, by decide +kernel, by decide +kernel⟩,
    ⟨_, [], rdy, _, _, takes_of _ _ _ _ rfl (by decide +kernel) (by decide +kernel) (by decide +kernel) (by decide +kernel), rfl⟩,
    ⟨_, [0, 0, 0, 0], prS (fun p => { p with role := .standby }), _, _, _,
      takes_of _ _ _ _ rfl (by decide +kernel) (by decide +kernel) (by decide +kernel) (by decide +kernel), rfl, rfl, by decide +kernel,
      by decide +kernel, by decide +kernel, by decide +kernel, by decide +kernel⟩,
    ⟨_, [0, 0, 0, 0], rdy, _, _, _, takes_of _ _ _ _ rfl (by decide +kernel) (by decide +kernel) (by decide +kernel) (by decide +kernel),
      rfl, rfl, by decide +kernel, by decide +kernel, by decide +kernel, by decide +kernel, by decide +kernel⟩,
    ⟨_, [0, 0, 0, 0], areaUpd 0 (fun a => { a with mode := 1 }) rdy, _, _, _,
      takes_of _ _ _ _ rfl (by decide +kernel) (by decide +kernel) (by decide +kernel) (by decide +kernel), rfl, rfl, by decide +kernel,
      by decide +kernel, by decide +kernel, by decide +kernel⟩,
    ⟨_, List.replicate 16 0, rdy, _,
      takes_of _ _ _ _ rfl (by decide +kernel) (by decide +kernel) (by decide +kernel) (by decide +kernel), by decide +kernel,
      by decide +kernel, by decide +kernel⟩,
    ⟨_, [1, 0, 0, 0, 0, 0, 0, 0] ++ leBytes 8 utc2020, rdy, _, _,
      takes_of _ _ _ _ rfl (by decide +kernel) (by decide +kernel) (by decide +kernel) (by decide +kernel), rfl, by decide +kernel,
      by decide +kernel, by decide +kernel⟩,
    ⟨_, [1, 0, 0, 0], rdy, _, _, takes_of _ _ _ _ rfl (by decide +kernel) (by decide +kernel) (by decide +kernel) (by decide +kernel),
      rfl, by decide +kernel, by decide +kernel⟩,
    ⟨_, [0, 0, 0, 0], rdy, _, takes_of _ _ _ _ rfl (by decide +kernel) (by decide +kernel) (by decide +kernel) (by decide +kernel),
      by decide +kernel⟩,
    ⟨_, leBytes 8 0x44040404, rdy, _, _,
      takes_of _ _ _ _ rfl (by decide +kernel) (by decide +kernel) (by decide +kernel) (by decide +kernel), rfl, by decide +kernel,
      by decide +kernel⟩,
    ⟨_, [], rdy, _, takes_of _ _ _ _ rfl (by decide +kernel) (by decide +kernel) (by decide +kernel) (by decide +kernel)⟩⟩

/-- The hypotheses of MainsAndPointCards can be met. -/
theorem wit_MainsAndPointCards :
    (∃ (r : Req) (p : List Byte) (s : State) (t : State) (x : _), Takes 0x0200 r p s t ∧ x = le p 0 16 ∧ keeps mtFields x = true ∧
      flag x (5 + fld x 2 2) = true ∧ (fld x 0 4 != fld (cfgImg t Kind.mt 0) 0 4 && !allNormal t) = false ∧ room [wr Kind.mt 0 x] t) ∧
    (∃ (r : Req) (p : List Byte) (s : State) (t : State) (x : _), Takes 0x0200 r p s t ∧ x = le p 0 16 ∧ keeps mtFields x = true ∧
      flag x (5 + fld x 2 2) = true ∧ (fld x 0 4 != fld (cfgImg t Kind.mt 0) 0 4 && !allNormal t) = true) ∧
    (∃ (r : Req) (p : List Byte) (s : State) (t : State) (m : _), Takes 0x0201 r p s t ∧ m = t.mt) ∧
    (∃ (r : Req) (p : List Byte) (s : State) (t : State) (utc : _) (op : _) (body : _) (h : Nat) (u : State), Takes 0x0202 r p s t ∧
      utc = le p 0 8 ∧ op = le p 12 2 ∧ body = p.drop 28 ∧ le p 18 2 = body.length ∧ body.length ≤ 980 ∧ le p 24 4 = crc32 body ∧
      embeddable op = true ∧ utc ≤ t.rtc.utc + 400 * 86400 * 32768 ∧ zeroed p 10 2 = true ∧
      calInsert (.utc utc) (.timed (le p 8 2) op (le p 17 1) body) t = some (h, u)) ∧
    (∃ (r : Req) (p : List Byte) (s : State) (t : State) (utc : _) (op : _) (body : _), Takes 0x0202 r p s t ∧ utc = le p 0 8 ∧
      op = le p 12 2 ∧ body = p.drop 28 ∧ le p 18 2 = body.length ∧ body.length ≤ 980 ∧ le p 24 4 = crc32 body ∧ embeddable op = true ∧
      utc ≤ t.rtc.utc + 400 * 86400 * 32768 ∧ zeroed p 10 2 = true ∧
      calInsert (.utc utc) (.timed (le p 8 2) op (le p 17 1) body) t = none) ∧
    (∃ (r : Req) (p : List Byte) (s : State) (t : State) (e : _), Takes 0x0203 r p s t ∧ calFind t (le p 0 2) = some e) ∧
    (∃ (r : Req) (p : List Byte) (s : State) (t : State), Takes 0x0203 r p s t ∧ calFind t (le p 0 2) = none) ∧
    (∃ (r : Req) (p : List Byte) (s : State) (t : State) (first : _) (count : _), Takes 0x0300 r p s t ∧ first = le p 0 4 ∧
      count = le p 4 2 ∧ first ≤ 131071 ∧ (1 ≤ count ∧ count ≤ 62) ∧ first + count ≤ 131072 ∧ zeroed p 6 2 = true) ∧
    (∃ (r : Req) (p : List Byte) (s : State) (t : State) (pn : _) (v : _), Takes 0x0301 r p s t ∧ pn = le p 0 4 ∧ v = u32 (le p 4 4) ∧
      pn ≤ 131071 ∧ le p 8 1 = 0 ∧ zeroed p 9 3 = true ∧ t.duty = true ∧ ptConfigured t pn = true ∧ (ptKind t pn == 0 &&
      !ptCommandable t pn) = true ∧ (t.point pn).quarantined = false ∧ fitsFormat (ptFormat t pn) v = true) ∧
    (∃ (r : Req) (p : List Byte) (s : State) (t : State) (pn : _), Takes 0x0301 r p s t ∧ pn = le p 0 4 ∧ pn ≤ 131071 ∧ le p 8 1 = 1 ∧
      zeroed p 9 3 = true ∧ t.duty = true ∧ ptConfigured t pn = true ∧ (t.point pn).quarantined = false) ∧
    (∃ (r : Req) (p : List Byte) (s : State) (t : State) (pn : _), Takes 0x0301 r p s t ∧ pn = le p 0 4 ∧ pn ≤ 131071 ∧ le p 8 1 = 2 ∧
      zeroed p 9 3 = true ∧ t.duty = true ∧ ptConfigured t pn = true ∧ (t.point pn).quarantined = false) ∧
    (∃ (r : Req) (p : List Byte) (s : State) (t : State) (pn : _) (v : _), Takes 0x0301 r p s t ∧ pn = le p 0 4 ∧ v = u32 (le p 4 4) ∧
      pn ≤ 131071 ∧ le p 8 1 = 3 ∧ zeroed p 9 3 = true ∧ t.duty = true ∧ ptConfigured t pn = true ∧ (t.point pn).oos = true ∧
      (t.point pn).quarantined = false ∧ fitsFormat (ptFormat t pn) v = true) ∧
    (∃ (r : Req) (p : List Byte) (s : State) (t : State), Takes 0x0301 r p s t ∧ le p 0 4 ≤ 131071 ∧ le p 8 1 ≤ 3 ∧ zeroed p 9 3 = true ∧
      t.duty = false) ∧
    (∃ (r : Req) (p : List Byte) (s : State) (t : State) (pn : _) (v : _) (pri : _) (fl : _) (cls : _), Takes 0x0302 r p s t ∧
      pn = le p 0 4 ∧ v = u32 (le p 4 4) ∧ pri = le p 8 1 ∧ fl = le p 9 1 ∧
      cls = (if fl / 2 % 2 = 1 then WClass.network else WClass.host) ∧ pn ≤ 131071 ∧ (1 ≤ pri ∧ pri ≤ 16) ∧ fl ≤ 3 ∧
      zeroed p 10 2 = true ∧ t.duty = true ∧ (ptConfigured t pn && ptCommandable t pn) = true ∧ ptRemote t pn = false ∧
      (t.pts.arr.get (ptArray t pn)).quarantined = false ∧ mayWrite cls false pri = true ∧ (!(fl % 2 == 1) &&
      !fitsFormat (ptFormat t pn) v) = false) ∧
    (∃ (r : Req) (p : List Byte) (s : State) (t : State) (pn : _) (v : _) (pri : _) (fl : _) (cls : _), Takes 0x0302 r p s t ∧
      pn = le p 0 4 ∧ v = u32 (le p 4 4) ∧ pri = le p 8 1 ∧ fl = le p 9 1 ∧
      cls = (if fl / 2 % 2 = 1 then WClass.network else WClass.host) ∧ pn ≤ 131071 ∧ (1 ≤ pri ∧ pri ≤ 16) ∧ fl ≤ 3 ∧
      zeroed p 10 2 = true ∧ t.duty = true ∧ (ptConfigured t pn && ptCommandable t pn) = true ∧ ptRemote t pn = true ∧
      mayWrite cls false pri = true ∧ (!(fl % 2 == 1) && !fitsFormat (ptFormat t pn) v) = false) ∧
    (∃ (r : Req) (p : List Byte) (s : State) (t : State) (pn : _) (pri : _) (fl : _), Takes 0x0302 r p s t ∧ pn = le p 0 4 ∧
      pri = le p 8 1 ∧ fl = le p 9 1 ∧ pn ≤ 131071 ∧ (1 ≤ pri ∧ pri ≤ 16) ∧ fl ≤ 3 ∧ zeroed p 10 2 = true ∧ t.duty = true ∧
      (ptConfigured t pn && ptCommandable t pn) = false) ∧
    (∃ (r : Req) (p : List Byte) (s : State) (t : State) (pn : _) (pri : _) (fl : _) (cls : _), Takes 0x0302 r p s t ∧ pn = le p 0 4 ∧
      pri = le p 8 1 ∧ fl = le p 9 1 ∧ cls = (if fl / 2 % 2 = 1 then WClass.network else WClass.host) ∧ pn ≤ 131071 ∧ (1 ≤ pri ∧
      pri ≤ 16) ∧ fl ≤ 3 ∧ zeroed p 10 2 = true ∧ t.duty = true ∧ (ptConfigured t pn && ptCommandable t pn) = true ∧ (!ptRemote t pn &&
      (t.pts.arr.get (ptArray t pn)).quarantined) = false ∧ mayWrite cls false pri = false) ∧
    (∃ (r : Req) (p : List Byte) (s : State) (t : State) (pn : _), Takes 0x0303 r p s t ∧ pn = le p 0 4 ∧ pn ≤ 131071 ∧
      ptLocalCmd t pn = true ∧ (t.pts.arr.get (ptArray t pn)).quarantined = false) ∧
    (∃ (r : Req) (p : List Byte) (s : State) (t : State) (first : _) (count : _), Takes 0x0304 r p s t ∧ first = le p 0 2 ∧
      count = le p 2 2 ∧ first ≤ 8191 ∧ (1 ≤ count ∧ count ≤ 62) ∧ first + count ≤ 8192) :=
  ⟨⟨_, leBytes 16 (resetImg Kind.mt 0), rdy, _, _,
    takes_of _ _ _ _ rfl (by decide +kernel) (by decide +kernel) (by decide +kernel) (by decide +kernel), rfl, by decide +kernel,
    by decide +kernel, by decide +kernel, by decide +kernel⟩,
    ⟨_, leBytes 16 (resetImg Kind.mt 0 + 4), areaUpd 0 (fun a => { a with mode := 1 }) rdy, _, _,
      takes_of _ _ _ _ rfl (by decide +kernel) (by decide +kernel) (by decide +kernel) (by decide +kernel), rfl, by decide +kernel,
      by decide +kernel, by decide +kernel⟩,
    ⟨_, [], rdy, _, _, takes_of _ _ _ _ rfl (by decide +kernel) (by decide +kernel) (by decide +kernel) (by decide +kernel), rfl⟩,
    ⟨_, List.replicate 13 0 ++ [1] ++ List.replicate 14 0, rdy, _, _, _, _, _, _,
      takes_of _ _ _ _ rfl (by decide +kernel) (by decide +kernel) (by decide +kernel) (by decide +kernel), rfl, rfl, rfl,
      by decide +kernel, by decide +kernel, by decide +kernel, by decide +kernel, by decide +kernel, by decide +kernel,
      calInsert_some _ _ _ 0 (freeSlot_first _ rfl rfl)⟩,
    ⟨_, List.replicate 13 0 ++ [1] ++ List.replicate 14 0, fullCal, _, _, _, _,
      takes_of _ _ _ _ rfl (by decide +kernel) (by decide +kernel) (by decide +kernel) (by decide +kernel), rfl, rfl, rfl,
      by decide +kernel, by decide +kernel, by decide +kernel, by decide +kernel, by decide +kernel, by decide +kernel,
      fullCal_none _ _ _ _⟩,
    ⟨_, [0, 0], timedS 0 rdy, _, _, takes_of _ _ _ _ rfl (by decide +kernel) (by decide +kernel) (by decide +kernel) (by decide +kernel),
      rfl⟩,
    ⟨_, [0, 0], rdy, _, takes_of _ _ _ _ rfl (by decide +kernel) (by decide +kernel) (by decide +kernel) (by decide +kernel),
      by decide +kernel⟩,
    ⟨_, [0xFF, 0xFF, 1, 0, 1, 0, 0, 0], rdy, _, _, _,
      takes_of _ _ _ _ rfl (by decide +kernel) (by decide +kernel) (by decide +kernel) (by decide +kernel), rfl, rfl, by decide +kernel,
      by decide +kernel, by decide +kernel, by decide +kernel⟩,
    ⟨_, List.replicate 12 0, both Kind.point 0 (2 ^ 42) rdy, _, _, _,
      takes_of _ _ _ _ rfl (by decide +kernel) (by decide +kernel) (by decide +kernel) (by decide +kernel), rfl, rfl, by decide +kernel,
      by decide +kernel, by decide +kernel, by decide +kernel, by decide +kernel, by decide +kernel, by decide +kernel,
      by decide +kernel⟩,
    ⟨_, [0, 0, 0, 0, 0, 0, 0, 0, 1, 0, 0, 0], both Kind.point 0 (2 ^ 42) rdy, _, _,
      takes_of _ _ _ _ rfl (by decide +kernel) (by decide +kernel) (by decide +kernel) (by decide +kernel), rfl, by decide +kernel,
      by decide +kernel, by decide +kernel, by decide +kernel, by decide +kernel, by decide +kernel⟩,
    ⟨_, [0, 0, 0, 0, 0, 0, 0, 0, 2, 0, 0, 0], both Kind.point 0 (2 ^ 42) rdy, _, _,
      takes_of _ _ _ _ rfl (by decide +kernel) (by decide +kernel) (by decide +kernel) (by decide +kernel), rfl, by decide +kernel,
      by decide +kernel, by decide +kernel, by decide +kernel, by decide +kernel, by decide +kernel⟩,
    ⟨_, [0, 0, 0, 0, 0, 0, 0, 0, 3, 0, 0, 0],
      { both Kind.point 0 (2 ^ 42) rdy with pts := { rdy.pts with pt := [(0, { oos := true })] } }, _, _, _,
      takes_of _ _ _ _ rfl (by decide +kernel) (by decide +kernel) (by decide +kernel) (by decide +kernel), rfl, rfl, by decide +kernel,
      by decide +kernel, by decide +kernel, by decide +kernel, by decide +kernel, by decide +kernel, by decide +kernel,
      by decide +kernel⟩,
    ⟨_, List.replicate 12 0, prS (fun p => { p with role := .standby }), _,
      takes_of _ _ _ _ rfl (by decide +kernel) (by decide +kernel) (by decide +kernel) (by decide +kernel), by decide +kernel,
      by decide +kernel, by decide +kernel, by decide +kernel⟩,
    ⟨_, [0, 0, 0, 0, 0, 0, 0, 0, 3, 0, 0, 0], both Kind.point 0 (2 ^ 42 + 2 ^ 43) rdy, _, _, _, _, _, _,
      takes_of _ _ _ _ rfl (by decide +kernel) (by decide +kernel) (by decide +kernel) (by decide +kernel), rfl, rfl, rfl, rfl, rfl,
      by decide +kernel, by decide +kernel, by decide +kernel, by decide +kernel, by decide +kernel, by decide +kernel,
      by decide +kernel, by decide +kernel, by decide +kernel, by decide +kernel⟩,
    ⟨_, [0, 0, 0, 0, 0, 0, 0, 0, 16, 0, 0, 0], both Kind.point 0 (2 ^ 42 + 2 ^ 43 + 2 ^ 44) rdy, _, _, _, _, _, _,
      takes_of _ _ _ _ rfl (by decide +kernel) (by decide +kernel) (by decide +kernel) (by decide +kernel), rfl, rfl, rfl, rfl, rfl,
      by decide +kernel, by decide +kernel, by decide +kernel, by decide +kernel, by decide +kernel, by decide +kernel,
      by decide +kernel, by decide +kernel, by decide +kernel⟩,
    ⟨_, [0, 0, 0, 0, 0, 0, 0, 0, 1, 0, 0, 0], rdy, _, _, _, _,
      takes_of _ _ _ _ rfl (by decide +kernel) (by decide +kernel) (by decide +kernel) (by decide +kernel), rfl, rfl, rfl,
      by decide +kernel, by decide +kernel, by decide +kernel, by decide +kernel, by decide +kernel, by decide +kernel⟩,
    ⟨_, [0, 0, 0, 0, 0, 0, 0, 0, 2, 0, 0, 0], both Kind.point 0 (2 ^ 42 + 2 ^ 43) rdy, _, _, _, _, _,
      takes_of _ _ _ _ rfl (by decide +kernel) (by decide +kernel) (by decide +kernel) (by decide +kernel), rfl, rfl, rfl, rfl,
      by decide +kernel, by decide +kernel, by decide +kernel, by decide +kernel, by decide +kernel, by decide +kernel,
      by decide +kernel, by decide +kernel⟩,
    ⟨_, [0, 0, 0, 0], both Kind.point 0 (2 ^ 42 + 2 ^ 43) rdy, _, _,
      takes_of _ _ _ _ rfl (by decide +kernel) (by decide +kernel) (by decide +kernel) (by decide +kernel), rfl, by decide +kernel,
      by decide +kernel, by decide +kernel⟩,
    ⟨_, [0xFF, 0x1F, 1, 0], rdy, _, _, _,
      takes_of _ _ _ _ rfl (by decide +kernel) (by decide +kernel) (by decide +kernel) (by decide +kernel), rfl, rfl, by decide +kernel,
      by decide +kernel, by decide +kernel⟩⟩

/-- The hypotheses of FieldCards can be met. -/
theorem wit_FieldCards :
    (∃ (r : Req) (p : List Byte) (s : State) (t : State) (port : _) (x : _) (other : _), Takes 0x0400 r p s t ∧ port = le p 0 1 ∧
      x = le p 4 32 ∧ other = t.nv.cfg.get (recKey Kind.eth (1 - port)) ∧ port ≤ 1 ∧ zeroed p 1 3 = true ∧ (fld x 16 48 % 2 == 0 &&
      fld x 16 48 != 0) = true ∧
      (match other with | some y => netOf (fld x 64 32) (min (fld x 96 8) (fld y 96 8)) == netOf (fld y 64 32) (min (fld x 96 8) (fld y 96 8)) | none => false) = false ∧ keeps ethFields x = true ∧ (fld x 128 32 == 0 || netOf (fld x 128 32) (fld x 96 8) == netOf (fld x 64 32) (fld x 96 8)) = true ∧ other.any (fun y => fld y 5 5 == fld x 5 5) = false ∧ allNormal t = true ∧ room [wr Kind.eth port x] t) ∧
    (∃ (r : Req) (p : List Byte) (s : State) (t : State) (k : _) (x : _), Takes 0x0401 r p s t ∧ k = le p 0 1 ∧ x = le p 4 16 ∧ k ≤ 7 ∧
      zeroed p 1 3 = true ∧ keeps trunkFields x = true ∧ allOk (trunkUnused x) = true ∧ (fld x 0 2 != 1 ||
      decide (fld x 16 7 ≤ fld x 24 7)) = true ∧ allNormal t = true ∧ room [wr Kind.trunk k x] t) ∧
    (∃ (r : Req) (p : List Byte) (s : State) (t : State) (k : _) (x : _), Takes 0x0401 r p s t ∧ k = le p 0 1 ∧ x = le p 4 16 ∧ k ≤ 7 ∧
      zeroed p 1 3 = true ∧ keeps trunkFields x = true ∧ allOk (trunkUnused x) = true ∧ (fld x 0 2 != 1 ||
      decide (fld x 16 7 ≤ fld x 24 7)) = true ∧ allNormal t = false) ∧
    (∃ (r : Req) (p : List Byte) (s : State) (t : State) (l : _) (k : _), Takes 0x0402 r p s t ∧ l = le p 0 1 ∧ k = t.link l ∧ l ≤ 9) ∧
    (∃ (r : Req) (p : List Byte) (s : State) (t : State) (port : _) (n : _) (k : _), Takes 0x0403 r p s t ∧ port = le p 0 1 ∧
      n = le p 2 2 ∧ k = t.link (8 + port) ∧ port ≤ 1 ∧ le p 1 1 ≤ 1 ∧ (60 ≤ n ∧ n ≤ 1514) ∧ (!(le p 1 1 == 1) ||
      decide (le p 4 4 + n ≤ 65536)) = true ∧ t.duty = true ∧ k.state = .up ∧ k.qHost.length < 32) ∧
    (∃ (r : Req) (p : List Byte) (s : State) (t : State) (n : _), Takes 0x0403 r p s t ∧ n = le p 2 2 ∧ le p 0 1 ≤ 1 ∧ le p 1 1 ≤ 1 ∧
      (n < 60 ∨ 1514 < n)) ∧
    (∃ (r : Req) (p : List Byte) (s : State) (t : State) (phy : _) (reg : _), Takes 0x0404 r p s t ∧ phy = le p 0 1 ∧ reg = le p 1 1 ∧
      phy ≤ 31 ∧ reg ≤ 31 ∧ le p 2 1 = 1 ∧ zeroed p 3 1 = true) ∧
    ((Config.mdioAnswers 31 31 0 = true) → (∃ (r : Req) (p : List Byte) (s : State) (t : State) (phy : _) (reg : _) (n : _) (d : _),
      Takes 0x0404 r p s t ∧ phy = le p 0 1 ∧ reg = le p 1 1 ∧ n = t.sys.free ∧ d = (Config.mdioData phy reg n).toNat ∧ phy ≤ 31 ∧
      reg ≤ 31 ∧ le p 2 1 = 0 ∧ zeroed p 3 1 = true ∧ Config.mdioAnswers phy reg n = true)) ∧
    ((Config.mdioAnswers 31 31 0 = false) → (∃ (r : Req) (p : List Byte) (s : State) (t : State) (phy : _) (reg : _) (n : _),
      Takes 0x0404 r p s t ∧ phy = le p 0 1 ∧ reg = le p 1 1 ∧ n = t.sys.free ∧ phy ≤ 31 ∧ reg ≤ 31 ∧ le p 2 1 = 0 ∧
      zeroed p 3 1 = true ∧ Config.mdioAnswers phy reg n = false)) ∧
    (∃ (r : Req) (p : List Byte) (s : State) (t : State) (k : _) (n : _), Takes 0x0405 r p s t ∧ k = le p 0 1 ∧ n = le p 4 2 ∧ k ≤ 7 ∧
      (trunkMode t k != 2) = true ∧ (5 ≤ le p 1 1 ∧ le p 1 1 ≤ 7) ∧ zeroed p 3 1 = true ∧ n ≤ 501 ∧ t.duty = true ∧
      (t.link k).state = .up ∧ (t.link k).qHost.length < 16) ∧
    (∃ (r : Req) (p : List Byte) (s : State) (t : State) (x : _), Takes 0x0500 r p s t ∧ x = le p 0 16 ∧ keeps paFields x = true ∧
      room [wr Kind.pa 0 x] t) ∧
    (∃ (r : Req) (p : List Byte) (s : State) (t : State) (x : _), Takes 0x0501 r p s t ∧ x = le p 8 8 ∧ le p 0 1 ≤ 15 ∧
      zeroed p 1 7 = true ∧ keeps clsFields x = true ∧ allNormal t = true ∧ room [wr Kind.cls (le p 0 1) x] t) ∧
    (∃ (r : Req) (p : List Byte) (s : State) (t : State) (dv : _) (x : _), Takes 0x0502 r p s t ∧ dv = le p 0 2 ∧ x = le p 4 128 ∧
      dv ≤ 4095 ∧ zeroed p 2 2 = true ∧ (fld x 0 2 == 0) = false ∧ keeps devFields x = true ∧ allOk (devJoint t x) = true ∧
      devClash t dv x = none ∧ allNormal t = true ∧ room [{ kind := Kind.dev, idx := dv, image := some (cleanImg devFields x) }] t) ∧
    (∃ (r : Req) (p : List Byte) (s : State) (t : State) (dv : _) (x : _), Takes 0x0502 r p s t ∧ dv = le p 0 2 ∧ x = le p 4 128 ∧
      dv ≤ 4095 ∧ zeroed p 2 2 = true ∧ (fld x 0 2 == 0) = true ∧ keeps (devFields.filter (fun f => f.kind == .rsv)) x = true ∧
      (devPoints t dv).isEmpty = true ∧ allNormal t = true ∧ room [{ kind := Kind.dev, idx := dv, image := none }] t) ∧
    (∃ (r : Req) (p : List Byte) (s : State) (t : State) (dv : _) (x : _) (o : _), Takes 0x0502 r p s t ∧ dv = le p 0 2 ∧
      x = le p 4 128 ∧ dv ≤ 4095 ∧ zeroed p 2 2 = true ∧ (fld x 0 2 == 0) = false ∧ keeps devFields x = true ∧
      allOk (devJoint t x) = true ∧ devClash t dv x = some o) ∧
    (∃ (r : Req) (p : List Byte) (s : State) (t : State), Takes 0x0503 r p s t ∧ le p 0 2 ≤ 4095) ∧
    (∃ (r : Req) (p : List Byte) (s : State) (t : State) (dv : _), Takes 0x0504 r p s t ∧ dv = le p 0 2 ∧ dv ≤ 4095 ∧ t.duty = true) ∧
    (∃ (r : Req) (p : List Byte) (s : State) (t : State), Takes 0x0504 r p s t ∧ le p 0 2 = 0xFFFF ∧ t.duty = true) ∧
    (∃ (r : Req) (p : List Byte) (s : State) (t : State) (pn : _), Takes 0x0505 r p s t ∧ pn = le p 0 4 ∧ pn < 131072 ∧ t.duty = true ∧
      (ptConfigured t pn && (ptKind t pn == 3 || ptKind t pn == 4)) = true ∧ (t.dev (ptDv t pn)).state = .bound) ∧
    (∃ (r : Req) (p : List Byte) (s : State) (t : State) (pn : _), Takes 0x0505 r p s t ∧ pn = le p 0 4 ∧ pn < 131072 ∧ t.duty = true ∧
      (ptConfigured t pn && (ptKind t pn == 3 || ptKind t pn == 4)) = true ∧ ((t.dev (ptDv t pn)).state != .bound) = true) :=
  ⟨⟨_, [0, 0, 0, 0] ++ leBytes 32 (resetImg Kind.eth 0 + 2 * 2 ^ 16 + 0x01020A0A * 2 ^ 64), rdy, _, _, _, _,
    takes_of _ _ _ _ rfl (by decide +kernel) (by decide +kernel) (by decide +kernel) (by decide +kernel), rfl, rfl, rfl,
    by decide +kernel, by decide +kernel, by decide +kernel, by decide +kernel, by decide +kernel, by decide +kernel, by decide +kernel,
    by decide +kernel, by decide +kernel⟩,
    ⟨_, [0, 0, 0, 0] ++ leBytes 16 (resetImg Kind.trunk 0), rdy, _, _, _,
      takes_of _ _ _ _ rfl (by decide +kernel) (by decide +kernel) (by decide +kernel) (by decide +kernel), rfl, rfl, by decide +kernel,
      by decide +kernel, by decide +kernel, by decide +kernel, by decide +kernel, by decide +kernel, by decide +kernel⟩,
    ⟨_, [0, 0, 0, 0] ++ leBytes 16 (resetImg Kind.trunk 0), areaUpd 0 (fun a => { a with mode := 1 }) rdy, _, _, _,
      takes_of _ _ _ _ rfl (by decide +kernel) (by decide +kernel) (by decide +kernel) (by decide +kernel), rfl, rfl, by decide +kernel,
      by decide +kernel, by decide +kernel, by decide +kernel, by decide +kernel, by decide +kernel⟩,
    ⟨_, [9], rdy, _, _, _, takes_of _ _ _ _ rfl (by decide +kernel) (by decide +kernel) (by decide +kernel) (by decide +kernel), rfl,
      rfl, by decide +kernel⟩,
    ⟨_, [0, 0, 60, 0] ++ List.replicate 60 0, linkS 8 (fun l => { l with state := .up }), _, _, _, _,
      takes_of _ _ _ _ rfl (by decide +kernel) (by decide +kernel) (by decide +kernel) (by decide +kernel), rfl, rfl, rfl,
      by decide +kernel, by decide +kernel, by decide +kernel, by decide +kernel, by decide +kernel, by decide +kernel,
      by decide +kernel⟩,
    ⟨_, [0, 1, 59, 0, 0, 0, 0, 0], rdy, _, _,
      takes_of _ _ _ _ rfl (by decide +kernel) (by decide +kernel) (by decide +kernel) (by decide +kernel), rfl, by decide +kernel,
      by decide +kernel, .inl (by decide +kernel)⟩,
    ⟨_, [31, 31, 1, 0, 0, 0], rdy, _, _, _,
      takes_of _ _ _ _ rfl (by decide +kernel) (by decide +kernel) (by decide +kernel) (by decide +kernel), rfl, rfl, by decide +kernel,
      by decide +kernel, by decide +kernel, by decide +kernel⟩,
    fun hyp => ⟨_, [31, 31, 0, 0, 0, 0], rdy, _, _, _, _, _,
      takes_of _ _ _ _ rfl (by decide +kernel) (by decide +kernel) (by decide +kernel) (by decide +kernel), rfl, rfl, rfl, rfl,
      by decide +kernel, by decide +kernel, by decide +kernel, by decide +kernel, hyp⟩,
    fun hyp => ⟨_, [31, 31, 0, 0, 0, 0], rdy, _, _, _, _,
      takes_of _ _ _ _ rfl (by decide +kernel) (by decide +kernel) (by decide +kernel) (by decide +kernel), rfl, rfl, rfl,
      by decide +kernel, by decide +kernel, by decide +kernel, by decide +kernel, hyp⟩,
    ⟨_, [0, 7, 0, 0, 0, 0], linkS 0 (fun l => { l with state := .up }), _, _, _,
      takes_of _ _ _ _ rfl (by decide +kernel) (by decide +kernel) (by decide +kernel) (by decide +kernel), rfl, rfl, by decide +kernel,
      by decide +kernel, by decide +kernel, by decide +kernel, by decide +kernel, by decide +kernel, by decide +kernel,
      by decide +kernel⟩,
    ⟨_, leBytes 16 (resetImg Kind.pa 0), rdy, _, _,
      takes_of _ _ _ _ rfl (by decide +kernel) (by decide +kernel) (by decide +kernel) (by decide +kernel), rfl, by decide +kernel,
      by decide +kernel⟩,
    ⟨_, [15, 0, 0, 0, 0, 0, 0, 0] ++ leBytes 8 (resetImg Kind.cls 0), rdy, _, _,
      takes_of _ _ _ _ rfl (by decide +kernel) (by decide +kernel) (by decide +kernel) (by decide +kernel), rfl, by decide +kernel,
      by decide +kernel, by decide +kernel, by decide +kernel, by decide +kernel⟩,
    ⟨_, [0, 0, 0, 0] ++ leBytes 128 (resetImg Kind.dev 0 + 1 + 8 * 2 ^ 4), ethCfg, _, _, _,
      takes_of _ _ _ _ rfl (by decide +kernel) (by decide +kernel) (by decide +kernel) (by decide +kernel), rfl, rfl, by decide +kernel,
      by decide +kernel, by decide +kernel, by decide +kernel, by decide +kernel, by decide +kernel, by decide +kernel,
      by decide +kernel⟩,
    ⟨_, [0xFF, 0x0F, 0, 0] ++ List.replicate 128 0, rdy, _, _, _,
      takes_of _ _ _ _ rfl (by decide +kernel) (by decide +kernel) (by decide +kernel) (by decide +kernel), rfl, rfl, by decide +kernel,
      by decide +kernel, by decide +kernel, by decide +kernel, by decide +kernel, by decide +kernel, by decide +kernel⟩,
    ⟨_, [0, 0, 0, 0] ++ leBytes 128 (resetImg Kind.dev 0 + 1 + 8 * 2 ^ 4), cfgS Kind.dev 1 (resetImg Kind.dev 0 + 1 + 8 * 2 ^ 4) ethCfg,
      _, _, _, 1, takes_of _ _ _ _ rfl (by decide +kernel) (by decide +kernel) (by decide +kernel) (by decide +kernel), rfl, rfl,
      by decide +kernel, by decide +kernel, by decide +kernel, by decide +kernel, by decide +kernel, by decide +kernel⟩,
    ⟨_, [0, 0], rdy, _, takes_of _ _ _ _ rfl (by decide +kernel) (by decide +kernel) (by decide +kernel) (by decide +kernel),
      by decide +kernel⟩,
    ⟨_, [0, 0], rdy, _, _, takes_of _ _ _ _ rfl (by decide +kernel) (by decide +kernel) (by decide +kernel) (by decide +kernel), rfl,
      by decide +kernel, by decide +kernel⟩,
    ⟨_, [0xFF, 0xFF], rdy, _, takes_of _ _ _ _ rfl (by decide +kernel) (by decide +kernel) (by decide +kernel) (by decide +kernel),
      by decide +kernel, by decide +kernel⟩,
    ⟨_, [0, 0, 0, 0], both Kind.point 0 (2 ^ 42 + 3 * 2 ^ 96) (devS { state := .bound } []), _, _,
      takes_of _ _ _ _ rfl (by decide +kernel) (by decide +kernel) (by decide +kernel) (by decide +kernel), rfl, by decide +kernel,
      by decide +kernel, by decide +kernel, by decide +kernel⟩,
    ⟨_, [0, 0, 0, 0], both Kind.point 0 (2 ^ 42 + 4 * 2 ^ 96) rdy, _, _,
      takes_of _ _ _ _ rfl (by decide +kernel) (by decide +kernel) (by decide +kernel) (by decide +kernel), rfl, by decide +kernel,
      by decide +kernel, by decide +kernel, by decide +kernel⟩⟩

/-- The hypotheses of LoopAndLifeCards can be met. -/
theorem wit_LoopAndLifeCards :
    (∃ (r : Req) (p : List Byte) (s : State) (t : State) (ln : _) (desc : _) (x : _), Takes 0x0600 r p s t ∧ ln = le p 0 2 ∧
      desc = cleanImg loopFields (le p 4 16) ∧ x = loopRecord p ∧ ln ≤ 8191 ∧ le p 2 1 ≤ 1 ∧ zeroed p 3 1 = true ∧
      keeps loopFields (le p 4 16) = true ∧ (lpLife desc || decide (3 ≤ lpDefPri desc)) = true ∧ (loopWords x).all (wordOk x) = true ∧
      loopCost x ≤ 700 ∧ targetsFault (cfgImg t Kind.point) ln x = none ∧ (lifeTargets x).find? (isMember t) = none ∧ (lpMirror x &&
      decide (2048 ≤ mirrorLoops t ln)) = false ∧ (!allNormal t && (lpLife x || (loopConfigured t ln &&
      lpLife (cfgImg t Kind.loop ln)))) = false ∧ room [wr Kind.loop ln x] t) ∧
    (∃ (r : Req) (p : List Byte) (s : State) (t : State) (ln : _) (desc : _) (x : _), Takes 0x0600 r p s t ∧ ln = le p 0 2 ∧
      desc = cleanImg loopFields (le p 4 16) ∧ x = loopRecord p ∧ ln ≤ 8191 ∧ le p 2 1 ≤ 1 ∧ zeroed p 3 1 = true ∧
      keeps loopFields (le p 4 16) = true ∧ (lpLife desc || decide (3 ≤ lpDefPri desc)) = true ∧ (loopWords x).all (wordOk x) = false) ∧
    (∃ (r : Req) (p : List Byte) (s : State) (t : State) (ln : _) (desc : _) (x : _), Takes 0x0600 r p s t ∧ ln = le p 0 2 ∧
      desc = cleanImg loopFields (le p 4 16) ∧ x = loopRecord p ∧ ln ≤ 8191 ∧ le p 2 1 ≤ 1 ∧ zeroed p 3 1 = true ∧
      keeps loopFields (le p 4 16) = true ∧ (lpLife desc || decide (3 ≤ lpDefPri desc)) = true ∧ (loopWords x).all (wordOk x) = true ∧
      700 < loopCost x) ∧
    (∃ (r : Req) (p : List Byte) (s : State) (t : State) (ln : _) (x : _) (k : _), Takes 0x0601 r p s t ∧ ln = le p 0 2 ∧
      x = liveImg t Kind.loop ln ∧ k = t.loop ln ∧ ln ≤ 8191) ∧
    (∃ (r : Req) (p : List Byte) (s : State) (t : State) (first : _) (n : _) (act : _) (lns : _), Takes 0x0602 r p s t ∧
      first = le p 0 2 ∧ n = le p 2 2 ∧ act = le p 4 1 ∧ (lns = (t.nv.cfg.filter (fun e => e.1 / 0x40000 == Kind.loop &&
      e.2.isSome)).filterMap (fun e => if first ≤ e.1 % 0x40000 ∧ e.1 % 0x40000 < first + n then some (e.1 % 0x40000) else none)) ∧
      first ≤ 8191 ∧ (1 ≤ n ∧ n ≤ 8192 ∧ first + n ≤ 8192) ∧ act ≤ 2 ∧ zeroed p 5 3 = true ∧ (!allNormal t &&
      lns.any (fun ln => lpLife (cfgImg t Kind.loop ln))) = false ∧
      room (lns.map (fun ln => wr Kind.loop ln (setFld (cfgImg t Kind.loop ln) 0 1 (bit (act == 1))))) t) ∧
    (∃ (r : Req) (p : List Byte) (s : State) (t : State) (ln : _) (first : _) (n : _) (vals : _), Takes 0x0603 r p s t ∧ ln = le p 0 2 ∧
      first = le p 2 1 ∧ n = le p 3 1 ∧ vals = (List.range n).map (fun i => (first + i, BitVec.ofNat 64 (le p (8 + 8 * i) 8))) ∧
      ln ≤ 8191 ∧ loopConfigured t ln = true ∧ first ≤ 15 ∧ (1 ≤ n ∧ n ≤ 16 ∧ first + n ≤ 16) ∧ le p 4 1 = 1 ∧ zeroed p 5 3 = true ∧
      room [wr Kind.loop ln (vals.foldl (fun x v => setFld x (128 + 64 * v.1) 64 v.2.toNat) (cfgImg t Kind.loop ln))] t) ∧
    (∃ (r : Req) (p : List Byte) (s : State) (t : State) (ln : _) (first : _) (n : _) (vals : _), Takes 0x0603 r p s t ∧ ln = le p 0 2 ∧
      first = le p 2 1 ∧ n = le p 3 1 ∧ vals = (List.range n).map (fun i => (first + i, BitVec.ofNat 64 (le p (8 + 8 * i) 8))) ∧
      ln ≤ 8191 ∧ loopConfigured t ln = true ∧ first ≤ 15 ∧ (1 ≤ n ∧ n ≤ 16 ∧ first + n ≤ 16) ∧ le p 4 1 = 2 ∧ zeroed p 5 3 = true ∧
      t.duty = true) ∧
    (∃ (r : Req) (p : List Byte) (s : State) (t : State), Takes 0x0604 r p s t ∧ le p 0 1 ≤ 3 ∧ le p 1 1 = 0 ∧ zeroed p 2 2 = true) ∧
    (∃ (r : Req) (p : List Byte) (s : State) (t : State) (l : _) (u : _), Takes 0x0604 r p s t ∧ l = le p 0 1 ∧
      u = { laneUpd l (fun k => { k with state := .out }) t with lp := { (laneUpd l (fun k => { k with state := .out }) t).lp with outDue := t.lp.outDue ++ [l] } } ∧ l ≤ 3 ∧ le p 1 1 = 1 ∧ zeroed p 2 2 = true ∧ (!t.duty || t.th.hold) = false ∧ ((t.lane l).state == .inService && decide ((serviceLanes t).length > 1)) = true) ∧
    (∃ (r : Req) (p : List Byte) (s : State) (t : State) (l : _), Takes 0x0604 r p s t ∧ l = le p 0 1 ∧ l ≤ 3 ∧ le p 1 1 = 2 ∧
      zeroed p 2 2 = true ∧ (!t.duty || t.th.hold) = false ∧ ((t.lane l).state == .faulted || (t.lane l).state == .out) = true) ∧
    (∃ (r : Req) (p : List Byte) (s : State) (t : State), Takes 0x0604 r p s t ∧ le p 0 1 ≤ 3 ∧ (1 ≤ le p 1 1 ∧ le p 1 1 ≤ 2) ∧
      zeroed p 2 2 = true ∧ (!t.duty || t.th.hold) = true) ∧
    (∃ (r : Req) (p : List Byte) (s : State) (t : State) (load : _), Takes 0x0605 r p s t ∧
      load = (fun l => (homedOn t l).foldl (fun a ln => fracAdd a (loopLoad t ln)) (0, 1))) ∧
    (∃ (r : Req) (p : List Byte) (s : State) (t : State) (an : _) (x : _), Takes 0x0700 r p s t ∧ an = le p 0 1 ∧ x = le p 4 48 ∧
      an ≤ 63 ∧ zeroed p 1 3 = true ∧ keeps lsAreaFields x = true ∧ areaBusy t an = false ∧
      room [wr Kind.lsArea an (cleanImg lsAreaFields x)] t) ∧
    (∃ (r : Req) (p : List Byte) (s : State) (t : State) (an : _) (x : _), Takes 0x0700 r p s t ∧ an = le p 0 1 ∧ x = le p 4 48 ∧
      an ≤ 63 ∧ zeroed p 1 3 = true ∧ keeps lsAreaFields x = true ∧ areaBusy t an = true) ∧
    (∃ (r : Req) (p : List Byte) (s : State) (t : State) (first : _) (n : _) (touches : _), Takes 0x0701 r p s t ∧ first = le p 0 1 ∧
      n = le p 1 1 ∧ touches = (fun x => fld x 0 2 != 0 && areaBusy t (fld x 8 6)) ∧ (1 ≤ n ∧ n ≤ 125 ∧ first + n ≤ 256) ∧
      zeroed p 2 6 = true ∧ (List.range n).all (fun i => allOk (trigChecks t (8 + 8 * i) (le p (8 + 8 * i) 8))) = true ∧
      (List.range n).any (fun i => touches (le p (8 + 8 * i) 8) || touches (cfgImg t Kind.trig (first + i))) = false ∧
      room ((List.range n).map (fun i => wr Kind.trig (first + i) (le p (8 + 8 * i) 8))) t) ∧
    (∃ (r : Req) (p : List Byte) (s : State) (t : State) (first : _) (n : _), Takes 0x0702 r p s t ∧ first = le p 0 2 ∧ n = le p 2 2 ∧
      first ≤ 16383 ∧ (1 ≤ n ∧ n ≤ 120 ∧ first + n ≤ 16384) ∧ zeroed p 4 4 = true ∧
      (List.range n).all (fun i => keeps respFields (le p (8 + 8 * i) 8)) = true ∧
      (List.range n).all (fun i => (respIndexes (le p (8 + 8 * i) 8)).all (fun v => fitsMember t (first + i) (cfgImg t Kind.val v))) = true ∧ (List.range n).any (fun i => (areasOfEntry t (first + i)).any (areaBusy t)) = false ∧ room ((List.range n).map (fun i => wr Kind.resp (first + i) (le p (8 + 8 * i) 8))) t) ∧
    (∃ (r : Req) (p : List Byte) (s : State) (t : State) (first : _) (n : _) (named : _), Takes 0x0703 r p s t ∧ first = le p 0 2 ∧
      n = le p 2 2 ∧ (named = (committed t Kind.resp).flatMap (fun e => ((respIndexes e.2).filter (fun v => decide (first ≤ v ∧
      v < first + n))).map (fun v => (e.1, v)))) ∧ first ≤ 4094 ∧ (1 ≤ n ∧ n ≤ 240 ∧ first + n ≤ 4095) ∧ zeroed p 4 4 = true ∧
      named.all (fun ev => fitsMember t ev.1 (le p (8 + 4 * (ev.2 - first)) 4)) = true ∧
      named.any (fun ev => (areasOfEntry t ev.1).any (areaBusy t)) = false ∧
      room ((List.range n).map (fun i => wr Kind.val (first + i) (le p (8 + 4 * i) 4))) t) ∧
    (∃ (r : Req) (p : List Byte) (s : State) (t : State) (x : _) (old : _) (conv : _), Takes 0x0704 r p s t ∧ x = le p 0 32 ∧
      old = cfgImg t Kind.lsIn 0 ∧ conv = cfgImg t Kind.conv 0 ∧
      (List.range 8).all (fun n => allOk (lsInChecks n (fld x (32 * n) 32))) = true ∧ (anySup x && (decide (24 < convRegLen conv) ||
      convRef conv != 0)) = false ∧ (committed t Kind.trig).any (fun e => fld e.2 0 2 == 1 &&
      fld old (32 * fld e.2 4 3) 32 != fld x (32 * fld e.2 4 3) 32 && areaBusy t (fld e.2 8 6)) = false ∧ room [wr Kind.lsIn 0 x] t) ∧
    (∃ (r : Req) (p : List Byte) (s : State) (t : State) (x : _) (conv : _), Takes 0x0704 r p s t ∧ x = le p 0 32 ∧
      conv = cfgImg t Kind.conv 0 ∧ (List.range 8).all (fun n => allOk (lsInChecks n (fld x (32 * n) 32))) = true ∧ (anySup x &&
      (decide (24 < convRegLen conv) || convRef conv != 0)) = true) ∧
    (∃ (r : Req) (p : List Byte) (s : State) (t : State) (an : _) (act : _) (arg : _), Takes 0x0705 r p s t ∧ an = le p 0 1 ∧
      act = le p 1 1 ∧ arg = le p 2 1 ∧ an ≤ 63 ∧ act ≤ 4 ∧ ((if act = 0 ∨ act = 2 then decide (1 ≤ arg ∧
      arg ≤ 4) else if act = 4 then decide (arg ≤ 5) else true) = true) ∧ zeroed p 3 1 = true ∧ t.duty = true ∧ ((act = 4 →
      areaHostFfp t an = true))) ∧
    (∃ (r : Req) (p : List Byte) (s : State) (t : State), Takes 0x0705 r p s t ∧ le p 0 1 = 0xFF ∧ zeroed p 3 1 = true ∧ t.duty = true) ∧
    (∃ (r : Req) (p : List Byte) (s : State) (t : State) (an : _) (arg : _), Takes 0x0705 r p s t ∧ an = le p 0 1 ∧ arg = le p 2 1 ∧
      an ≤ 63 ∧ le p 1 1 = 4 ∧ arg ≤ 5 ∧ zeroed p 3 1 = true ∧ t.duty = true ∧ areaHostFfp t an = false) :=
  ⟨⟨_, [0, 0, 0, 0] ++ leBytes 16 (resetImg Kind.loop 0) ++ List.replicate 128 0 ++ leBytes 8 7, rdy, _, _, _, _,
    takes_of _ _ _ _ rfl (by decide +kernel) (by decide +kernel) (by decide +kernel) (by decide +kernel), rfl, rfl, rfl,
    by decide +kernel, by decide +kernel, by decide +kernel, by decide +kernel, by decide +kernel, by decide +kernel, by decide +kernel,
    by decide +kernel, by decide +kernel, by decide +kernel, by decide +kernel, by decide +kernel⟩,
    ⟨_, [0, 0, 0, 0] ++ leBytes 16 (resetImg Kind.loop 0) ++ List.replicate 128 0 ++ leBytes 8 255, rdy, _, _, _, _,
      takes_of _ _ _ _ rfl (by decide +kernel) (by decide +kernel) (by decide +kernel) (by decide +kernel), rfl, rfl, rfl,
      by decide +kernel, by decide +kernel, by decide +kernel, by decide +kernel, by decide +kernel, by decide +kernel⟩,
    ⟨_, [0, 0, 0, 0] ++ leBytes 16 (resetImg Kind.loop 0 + 63 * 2 ^ 48) ++ List.replicate 128 0 ++ (List.replicate 64 [0x20, 4, 0, 0, 0,
      0, 0, 0]).flatten, rdy, _, _, _, _,
      takes_of _ _ _ _ rfl (by decide +kernel) (by decide +kernel) (by decide +kernel) (by decide +kernel), rfl, rfl, rfl,
      by decide +kernel, by decide +kernel, by decide +kernel, by decide +kernel, by decide +kernel, by decide +kernel,
      by decide +kernel⟩,
    ⟨_, [0xFF, 0x1F], rdy, _, _, _, _,
      takes_of _ _ _ _ rfl (by decide +kernel) (by decide +kernel) (by decide +kernel) (by decide +kernel), rfl, rfl, rfl,
      by decide +kernel⟩,
    ⟨_, [0, 0, 0, 0x20, 1, 0, 0, 0], rdy, _, _, _, _, _,
      takes_of _ _ _ _ rfl (by decide +kernel) (by decide +kernel) (by decide +kernel) (by decide +kernel), rfl, rfl, rfl, rfl,
      by decide +kernel, by decide +kernel, by decide +kernel, by decide +kernel, by decide +kernel, by decide +kernel⟩,
    ⟨_, [0, 0, 15, 1, 1, 0, 0, 0] ++ List.replicate 8 0, both Kind.loop 0 (resetImg Kind.loop 0) rdy, _, _, _, _, _,
      takes_of _ _ _ _ rfl (by decide +kernel) (by decide +kernel) (by decide +kernel) (by decide +kernel), rfl, rfl, rfl, rfl,
      by decide +kernel, by decide +kernel, by decide +kernel, by decide +kernel, by decide +kernel, by decide +kernel,
      by decide +kernel⟩,
    ⟨_, [0, 0, 0, 16, 2, 0, 0, 0] ++ List.replicate 128 0, both Kind.loop 0 (resetImg Kind.loop 0) rdy, _, _, _, _, _,
      takes_of _ _ _ _ rfl (by decide +kernel) (by decide +kernel) (by decide +kernel) (by decide +kernel), rfl, rfl, rfl, rfl,
      by decide +kernel, by decide +kernel, by decide +kernel, by decide +kernel, by decide +kernel, by decide +kernel,
      by decide +kernel⟩,
    ⟨_, [3, 0, 0, 0], rdy, _, takes_of _ _ _ _ rfl (by decide +kernel) (by decide +kernel) (by decide +kernel) (by decide +kernel),
      by decide +kernel, by decide +kernel, by decide +kernel⟩,
    ⟨_, [3, 1, 0, 0], rdy, _, _, _, takes_of _ _ _ _ rfl (by decide +kernel) (by decide +kernel) (by decide +kernel) (by decide +kernel),
      rfl, rfl, by decide +kernel, by decide +kernel, by decide +kernel, by decide +kernel, by decide +kernel⟩,
    ⟨_, [3, 2, 0, 0], laneUpd 3 (fun k => { k with state := .out }) rdy, _, _,
      takes_of _ _ _ _ rfl (by decide +kernel) (by decide +kernel) (by decide +kernel) (by decide +kernel), rfl, by decide +kernel,
      by decide +kernel, by decide +kernel, by decide +kernel, by decide +kernel⟩,
    ⟨_, [0, 1, 0, 0], prS (fun p => { p with role := .standby }), _,
      takes_of _ _ _ _ rfl (by decide +kernel) (by decide +kernel) (by decide +kernel) (by decide +kernel), by decide +kernel,
      by decide +kernel, by decide +kernel, by decide +kernel⟩,
    ⟨_, [], rdy, _, _, takes_of _ _ _ _ rfl (by decide +kernel) (by decide +kernel) (by decide +kernel) (by decide +kernel), rfl⟩,
    ⟨_, [63, 0, 0, 0] ++ leBytes 48 (resetImg Kind.lsArea 0), rdy, _, _, _,
      takes_of _ _ _ _ rfl (by decide +kernel) (by decide +kernel) (by decide +kernel) (by decide +kernel), rfl, rfl, by decide +kernel,
      by decide +kernel, by decide +kernel, by decide +kernel, by decide +kernel⟩,
    ⟨_, [63, 0, 0, 0] ++ leBytes 48 (resetImg Kind.lsArea 0), areaUpd 63 (fun a => { a with mode := 1 }) rdy, _, _, _,
      takes_of _ _ _ _ rfl (by decide +kernel) (by decide +kernel) (by decide +kernel) (by decide +kernel), rfl, rfl, by decide +kernel,
      by decide +kernel, by decide +kernel, by decide +kernel⟩,
    ⟨_, [0xFF, 1, 0, 0, 0, 0, 0, 0] ++ List.replicate 8 0, rdy, _, _, _, _,
      takes_of _ _ _ _ rfl (by decide +kernel) (by decide +kernel) (by decide +kernel) (by decide +kernel), rfl, rfl, rfl,
      by decide +kernel, by decide +kernel, by decide +kernel, by decide +kernel, by decide +kernel⟩,
    ⟨_, [0xFF, 0x3F, 1, 0, 0, 0, 0, 0] ++ leBytes 8 0xFFFFFFFFFFFF, rdy, _, _, _,
      takes_of _ _ _ _ rfl (by decide +kernel) (by decide +kernel) (by decide +kernel) (by decide +kernel), rfl, rfl, by decide +kernel,
      by decide +kernel, by decide +kernel, by decide +kernel, by decide +kernel, by decide +kernel, by decide +kernel⟩,
    ⟨_, [0xFE, 0x0F, 1, 0, 0, 0, 0, 0] ++ List.replicate 4 0, rdy, _, _, _, _,
      takes_of _ _ _ _ rfl (by decide +kernel) (by decide +kernel) (by decide +kernel) (by decide +kernel), rfl, rfl, rfl,
      by decide +kernel, by decide +kernel, by decide +kernel, by decide +kernel, by decide +kernel, by decide +kernel⟩,
    ⟨_, leBytes 32 (resetImg Kind.lsIn 0), rdy, _, _, _, _,
      takes_of _ _ _ _ rfl (by decide +kernel) (by decide +kernel) (by decide +kernel) (by decide +kernel), rfl, rfl, rfl,
      by decide +kernel, by decide +kernel, by decide +kernel, by decide +kernel⟩,
    ⟨_, leBytes 32 (resetImg Kind.lsIn 0 + 1), cfgS Kind.conv 0 2 rdy, _, _, _,
      takes_of _ _ _ _ rfl (by decide +kernel) (by decide +kernel) (by decide +kernel) (by decide +kernel), rfl, rfl, by decide +kernel,
      by decide +kernel⟩,
    ⟨_, [63, 0, 4, 0], rdy, _, _, _, _,
      takes_of _ _ _ _ rfl (by decide +kernel) (by decide +kernel) (by decide +kernel) (by decide +kernel), rfl, rfl, rfl,
      by decide +kernel, by decide +kernel, by decide +kernel, by decide +kernel, by decide +kernel, by decide +kernel⟩,
    ⟨_, [0xFF, 0, 0, 0], rdy, _, takes_of _ _ _ _ rfl (by decide +kernel) (by decide +kernel) (by decide +kernel) (by decide +kernel),
      by decide +kernel, by decide +kernel, by decide +kernel⟩,
    ⟨_, [63, 4, 5, 0], rdy, _, _, _,
      takes_of _ _ _ _ rfl (by decide +kernel) (by decide +kernel) (by decide +kernel) (by decide +kernel), rfl, rfl, by decide +kernel,
      by decide +kernel, by decide +kernel, by decide +kernel, by decide +kernel, by decide +kernel⟩⟩

/-- The hypotheses of CoilCards can be met. -/
theorem wit_CoilCards :
    (∃ (r : Req) (p : List Byte) (s : State) (t : State) (b : _) (x : _) (steal : _), Takes 0x0800 r p s t ∧ b = le p 0 1 ∧
      x = le p 4 144 ∧ steal = (fun k => (fld x (128 + 256 * k + 88) 8 == 0 && fld x (128 + 256 * k + 96) 8 == 0) ||
      decide (fld x (128 + 256 * k + 96) 8 < fld x (128 + 256 * k + 88) 8)) ∧ b ≤ 5 ∧ zeroed p 1 3 = true ∧ keeps bankFields x = true ∧
      (List.range 4).all (fun k => keeps (chanFields k) x && steal k) = true ∧ allNormal t = true ∧ room [wr Kind.bank b x] t) ∧
    (∃ (r : Req) (p : List Byte) (s : State) (t : State) (b : _) (x : _) (steal : _), Takes 0x0800 r p s t ∧ b = le p 0 1 ∧
      x = le p 4 144 ∧ steal = (fun k => (fld x (128 + 256 * k + 88) 8 == 0 && fld x (128 + 256 * k + 96) 8 == 0) ||
      decide (fld x (128 + 256 * k + 96) 8 < fld x (128 + 256 * k + 88) 8)) ∧ b ≤ 5 ∧ zeroed p 1 3 = true ∧ keeps bankFields x = true ∧
      (List.range 4).all (fun k => keeps (chanFields k) x && steal k) = true ∧ allNormal t = false) ∧
    (∃ (r : Req) (p : List Byte) (s : State) (t : State), Takes 0x0801 r p s t ∧ le p 0 1 ≤ 5) ∧
    (∃ (r : Req) (p : List Byte) (s : State) (t : State) (b : _), Takes 0x0802 r p s t ∧ b = le p 0 1 ∧ b ≤ 5 ∧ zeroed p 1 3 = true ∧
      t.duty = true ∧ (t.bank b).latched = false) ∧
    (∃ (r : Req) (p : List Byte) (s : State) (t : State) (b : _), Takes 0x0802 r p s t ∧ b = le p 0 1 ∧ b ≤ 5 ∧ zeroed p 1 3 = true ∧
      t.duty = true ∧ (t.bank b).latched = true) ∧
    (∃ (r : Req) (p : List Byte) (s : State) (t : State) (n : _), Takes 0x0803 r p s t ∧ n = le p 0 1 ∧ n ≤ 23 ∧ zeroed p 1 3 = true ∧
      t.duty = true) ∧
    (∃ (r : Req) (p : List Byte) (s : State) (t : State) (n : _) (b : _), Takes 0x0803 r p s t ∧ n = le p 0 1 ∧ b = n - 0x80 ∧
      (0x80 ≤ n ∧ n ≤ 0x85) ∧ zeroed p 1 3 = true ∧ t.duty = true) ∧
    (∃ (r : Req) (p : List Byte) (s : State) (t : State) (a : _) (n : _) (x : _) (hit : _), Takes 0x0900 r p s t ∧ a = le p 0 2 ∧
      n = le p 2 2 ∧ x = setFld (cfgImg t Kind.micro 0) (32 * a) (32 * n) (le p 8 (4 * n)) ∧
      (hit = (List.range 32).filter (fun e => flag (cfgImg t Kind.entry e) 11 && decide (fld (cfgImg t Kind.entry e) 0 11 < a + n ∧
      a < fld (cfgImg t Kind.entry e) 0 11 + fld (cfgImg t Kind.entry e) 12 12))) ∧ a ≤ 2047 ∧ (1 ≤ n ∧ n ≤ 250 ∧ a + n ≤ 2048) ∧
      zeroed p 4 4 = true ∧ hit.all (fun e => codeOk (fun i => fld x (32 * i) 32) (cfgImg t Kind.entry e)) = true ∧
      hit.any (entryInUse t) = false ∧ room [wr Kind.micro 0 x] t) ∧
    (∃ (r : Req) (p : List Byte) (s : State) (t : State) (a : _) (n : _) (x : _) (hit : _), Takes 0x0900 r p s t ∧ a = le p 0 2 ∧
      n = le p 2 2 ∧ x = setFld (cfgImg t Kind.micro 0) (32 * a) (32 * n) (le p 8 (4 * n)) ∧
      (hit = (List.range 32).filter (fun e => flag (cfgImg t Kind.entry e) 11 && decide (fld (cfgImg t Kind.entry e) 0 11 < a + n ∧
      a < fld (cfgImg t Kind.entry e) 0 11 + fld (cfgImg t Kind.entry e) 12 12))) ∧ a ≤ 2047 ∧ (1 ≤ n ∧ n ≤ 250 ∧ a + n ≤ 2048) ∧
      zeroed p 4 4 = true ∧ hit.all (fun e => codeOk (fun i => fld x (32 * i) 32) (cfgImg t Kind.entry e)) = false) ∧
    (∃ (r : Req) (p : List Byte) (s : State) (t : State) (e : _) (x : _) (word : _), Takes 0x0901 r p s t ∧ e = le p 0 1 ∧
      x = cleanImg entryFields (le p 8 8) ∧ word = (fun i => fld (cfgImg t Kind.micro 0) (32 * i) 32) ∧ e ≤ 31 ∧ zeroed p 1 7 = true ∧
      flag x 11 = true ∧ keeps entryFields x = true ∧ fld x 0 11 + fld x 12 12 ≤ 2048 ∧ codeOk word x = true ∧ entryInUse t e = false ∧
      room [wr Kind.entry e (setFld x 28 4 (phasesOf word x))] t) ∧
    (∃ (r : Req) (p : List Byte) (s : State) (t : State) (e : _) (x : _) (word : _), Takes 0x0901 r p s t ∧ e = le p 0 1 ∧
      x = cleanImg entryFields (le p 8 8) ∧ word = (fun i => fld (cfgImg t Kind.micro 0) (32 * i) 32) ∧ e ≤ 31 ∧ zeroed p 1 7 = true ∧
      flag x 11 = false ∧ keeps (entryFields.filter (fun f => f.lo != 12)) x = true ∧
      (List.range 24).any (fun ch => chanNames (cfgImg t Kind.chan ch) e) = false ∧ fld x 0 11 + fld x 12 12 ≤ 2048 ∧
      entryInUse t e = false ∧ room [wr Kind.entry e (setFld x 28 4 (phasesOf word x))] t) ∧
    (∃ (r : Req) (p : List Byte) (s : State) (t : State) (ch : _) (fl : _) (x : _) (on : _), Takes 0x0902 r p s t ∧ ch = le p 0 1 ∧
      fl = le p 1 1 ∧ x = cleanImg csChanFields (le p 8 32) ∧ on = fld x 0 5 ∧ ch ≤ 23 ∧ fl ≤ 1 ∧ zeroed p 2 6 = true ∧
      keeps csChanFields x = true ∧ (!flag x 6 || flag (cfgImg t Kind.entry on) 24) = true ∧ (fld x 80 16 == 0 ||
      decide (fld x 64 16 < fld x 80 16)) = true ∧ ((flag x 5 && !flag (cfgImg t Kind.entry on) 11) || (flag x 13 &&
      !flag (cfgImg t Kind.entry (fld x 8 5)) 11)) = false ∧ allNormal t = true ∧ room [wr Kind.chan ch x] t) ∧
    (∃ (r : Req) (p : List Byte) (s : State) (t : State) (ch : _) (x : _) (on : _), Takes 0x0902 r p s t ∧ ch = le p 0 1 ∧
      x = cleanImg csChanFields (le p 8 32) ∧ on = fld x 0 5 ∧ ch ≤ 23 ∧ le p 1 1 ≤ 1 ∧ zeroed p 2 6 = true ∧
      keeps csChanFields x = true ∧ (!flag x 6 || flag (cfgImg t Kind.entry on) 24) = true ∧ (fld x 80 16 == 0 ||
      decide (fld x 64 16 < fld x 80 16)) = true ∧ ((flag x 5 && !flag (cfgImg t Kind.entry on) 11) || (flag x 13 &&
      !flag (cfgImg t Kind.entry (fld x 8 5)) 11)) = true) ∧
    (∃ (r : Req) (p : List Byte) (s : State) (t : State) (ch : _) (en : _) (fl : _) (target : _) (raw : _) (ev : _) (h : Nat) (u : State), Takes 0x0903 r p s t ∧ ch = le p 0 1 ∧ en = le p 1 1 ∧ fl = le p 2 1 ∧ target = { c := u32 (le p 4 4), a := u16 (le p 8 2) : MT } ∧ raw = { ch := ch, entry := en, start := target, target := target, allow := le p 10 2, pow := fl.testBit 0, preempt := fl.testBit 1, report := fl.testBit 2, roll := fl / 8 % 4 : CoilEvent } ∧ ev = (if fl.testBit 0 then aimAt t target raw else raw) ∧ ch ≤ 23 ∧ en ≤ 31 ∧ (fl < 32 ∧ fl / 8 % 4 ≤ 2) ∧ zeroed p 3 1 = true ∧ (!fl.testBit 0 || entFld t en 24 1 == 1) = true ∧ tooFarAhead t target = false ∧ t.duty = true ∧ entFld t en 11 1 ≠ 0 ∧ (t.coil ch).latched = false ∧ calInsert (.mt ev.start) (.coil ev) t = some (h, u)) ∧
    (∃ (r : Req) (p : List Byte) (s : State) (t : State) (ch : _) (en : _) (fl : _) (target : _), Takes 0x0903 r p s t ∧ ch = le p 0 1 ∧
      en = le p 1 1 ∧ fl = le p 2 1 ∧ target = { c := u32 (le p 4 4), a := u16 (le p 8 2) : MT } ∧ ch ≤ 23 ∧ en ≤ 31 ∧ (fl < 32 ∧
      fl / 8 % 4 ≤ 2) ∧ zeroed p 3 1 = true ∧ (!fl.testBit 0 || entFld t en 24 1 == 1) = true ∧ tooFarAhead t target = false ∧
      t.duty = true ∧ entFld t en 11 1 = 0) ∧
    (∃ (r : Req) (p : List Byte) (s : State) (t : State) (ch : _) (en : _) (fl : _) (target : _), Takes 0x0903 r p s t ∧ ch = le p 0 1 ∧
      en = le p 1 1 ∧ fl = le p 2 1 ∧ target = { c := u32 (le p 4 4), a := u16 (le p 8 2) : MT } ∧ ch ≤ 23 ∧ en ≤ 31 ∧ (fl < 32 ∧
      fl / 8 % 4 ≤ 2) ∧ zeroed p 3 1 = true ∧ (!fl.testBit 0 || entFld t en 24 1 == 1) = true ∧ tooFarAhead t target = false ∧
      t.duty = true ∧ entFld t en 11 1 ≠ 0 ∧ (t.coil ch).latched = true) ∧
    (∃ (r : Req) (p : List Byte) (s : State) (t : State) (n : _), Takes 0x0904 r p s t ∧ n = le p 0 1 ∧ n ≤ 23 ∧ le p 1 1 = 0 ∧
      zeroed p 2 2 = true ∧ t.duty = true) ∧
    (∃ (r : Req) (p : List Byte) (s : State) (t : State) (n : _), Takes 0x0904 r p s t ∧ n = le p 0 1 ∧ n ≤ 23 ∧ le p 1 1 = 1 ∧
      zeroed p 2 2 = true ∧ t.duty = true) ∧
    (∃ (r : Req) (p : List Byte) (s : State) (t : State) (n : _) (b : _) (u : _), Takes 0x0904 r p s t ∧ n = le p 0 1 ∧ b = n - 0x80 ∧
      u = dropQueued b 5 (fun e => (bankChans b).contains e.ch) t ∧ (0x80 ≤ n ∧ n ≤ 0x85) ∧ le p 1 1 ≤ 1 ∧ zeroed p 2 2 = true ∧
      t.duty = true) ∧
    (∃ (r : Req) (p : List Byte) (s : State) (t : State) (ch : _) (c : _), Takes 0x0905 r p s t ∧ ch = le p 0 1 ∧ c = t.coil ch ∧
      ch ≤ 23) :=
  ⟨⟨_, [5, 0, 0, 0] ++ leBytes 144 (resetImg Kind.bank 0), rdy, _, _, _, _,
    takes_of _ _ _ _ rfl (by decide +kernel) (by decide +kernel) (by decide +kernel) (by decide +kernel), rfl, rfl, rfl,
    by decide +kernel, by decide +kernel, by decide +kernel, by decide +kernel, by decide +kernel, by decide +kernel⟩,
    ⟨_, [5, 0, 0, 0] ++ leBytes 144 (resetImg Kind.bank 0), areaUpd 0 (fun a => { a with mode := 1 }) rdy, _, _, _, _,
      takes_of _ _ _ _ rfl (by decide +kernel) (by decide +kernel) (by decide +kernel) (by decide +kernel), rfl, rfl, rfl,
      by decide +kernel, by decide +kernel, by decide +kernel, by decide +kernel, by decide +kernel⟩,
    ⟨_, [5], rdy, _, takes_of _ _ _ _ rfl (by decide +kernel) (by decide +kernel) (by decide +kernel) (by decide +kernel),
      by decide +kernel⟩,
    ⟨_, [5, 0, 0, 0], rdy, _, _, takes_of _ _ _ _ rfl (by decide +kernel) (by decide +kernel) (by decide +kernel) (by decide +kernel),
      rfl, by decide +kernel, by decide +kernel, by decide +kernel, by decide +kernel⟩,
    ⟨_, [0, 0, 0, 0], bankS (fun b => { b with latched := true }), _, _,
      takes_of _ _ _ _ rfl (by decide +kernel) (by decide +kernel) (by decide +kernel) (by decide +kernel), rfl, by decide +kernel,
      by decide +kernel, by decide +kernel, by decide +kernel⟩,
    ⟨_, [23, 0, 0, 0], rdy, _, _, takes_of _ _ _ _ rfl (by decide +kernel) (by decide +kernel) (by decide +kernel) (by decide +kernel),
      rfl, by decide +kernel, by decide +kernel, by decide +kernel⟩,
    ⟨_, [0x85, 0, 0, 0], rdy, _, _, _,
      takes_of _ _ _ _ rfl (by decide +kernel) (by decide +kernel) (by decide +kernel) (by decide +kernel), rfl, rfl, by decide +kernel,
      by decide +kernel, by decide +kernel⟩,
    ⟨_, [0xFF, 7, 1, 0, 0, 0, 0, 0] ++ List.replicate 4 0, rdy, _, _, _, _, _,
      takes_of _ _ _ _ rfl (by decide +kernel) (by decide +kernel) (by decide +kernel) (by decide +kernel), rfl, rfl, rfl, rfl,
      by decide +kernel, by decide +kernel, by decide +kernel, by decide +kernel, by decide +kernel, by decide +kernel⟩,
    ⟨_, [0, 0, 1, 0, 0, 0, 0, 0] ++ List.replicate 4 0, cfgS Kind.entry 0 (2 ^ 11 + 2 ^ 12) rdy, _, _, _, _, _,
      takes_of _ _ _ _ rfl (by decide +kernel) (by decide +kernel) (by decide +kernel) (by decide +kernel), rfl, rfl, rfl, rfl,
      by decide +kernel, by decide +kernel, by decide +kernel, by decide +kernel⟩,
    ⟨_, [31, 0, 0, 0, 0, 0, 0, 0] ++ leBytes 8 (2 ^ 11 + 2 * 2 ^ 12 + 5000 * 2 ^ 32), cfgS Kind.micro 0 0x08000000 rdy, _, _, _, _,
      takes_of _ _ _ _ rfl (by decide +kernel) (by decide +kernel) (by decide +kernel) (by decide +kernel), rfl, rfl, rfl,
      by decide +kernel, by decide +kernel, by decide +kernel, by decide +kernel, by decide +kernel, by decide +kernel,
      by decide +kernel, by decide +kernel⟩,
    ⟨_, [31, 0, 0, 0, 0, 0, 0, 0] ++ leBytes 8 (resetImg Kind.entry 0), rdy, _, _, _, _,
      takes_of _ _ _ _ rfl (by decide +kernel) (by decide +kernel) (by decide +kernel) (by decide +kernel), rfl, rfl, rfl,
      by decide +kernel, by decide +kernel, by decide +kernel, by decide +kernel, by decide +kernel, by decide +kernel,
      by decide +kernel, by decide +kernel⟩,
    ⟨_, [23, 1, 0, 0, 0, 0, 0, 0] ++ leBytes 32 (resetImg Kind.chan 0), rdy, _, _, _, _, _,
      takes_of _ _ _ _ rfl (by decide +kernel) (by decide +kernel) (by decide +kernel) (by decide +kernel), rfl, rfl, rfl, rfl,
      by decide +kernel, by decide +kernel, by decide +kernel, by decide +kernel, by decide +kernel, by decide +kernel,
      by decide +kernel, by decide +kernel, by decide +kernel⟩,
    ⟨_, [23, 1, 0, 0, 0, 0, 0, 0] ++ leBytes 32 (resetImg Kind.chan 0 + 32), rdy, _, _, _, _,
      takes_of _ _ _ _ rfl (by decide +kernel) (by decide +kernel) (by decide +kernel) (by decide +kernel), rfl, rfl, rfl,
      by decide +kernel, by decide +kernel, by decide +kernel, by decide +kernel, by decide +kernel, by decide +kernel,
      by decide +kernel⟩,
    ⟨_, List.replicate 12 0, liveS Kind.entry 0 (2 ^ 11) rdy, _, _, _, _, _, _, _, _, _,
      takes_of _ _ _ _ rfl (by decide +kernel) (by decide +kernel) (by decide +kernel) (by decide +kernel), rfl, rfl, rfl, rfl, rfl, rfl,
      by decide +kernel, by decide +kernel, by decide +kernel, by decide +kernel, by decide +kernel, by decide +kernel,
      by decide +kernel, by decide +kernel, by decide +kernel, calInsert_some _ _ _ 0 (freeSlot_first _ rfl rfl)⟩,
    ⟨_, [23, 31, 0, 0, 0, 0, 0, 0, 0, 0, 0, 0], rdy, _, _, _, _, _,
      takes_of _ _ _ _ rfl (by decide +kernel) (by decide +kernel) (by decide +kernel) (by decide +kernel), rfl, rfl, rfl, rfl,
      by decide +kernel, by decide +kernel, by decide +kernel, by decide +kernel, by decide +kernel, by decide +kernel,
      by decide +kernel, by decide +kernel⟩,
    ⟨_, List.replicate 12 0, coilUpd 0 (fun k => { k with latched := true }) (liveS Kind.entry 0 (2 ^ 11) rdy), _, _, _, _, _,
      takes_of _ _ _ _ rfl (by decide +kernel) (by decide +kernel) (by decide +kernel) (by decide +kernel), rfl, rfl, rfl, rfl,
      by decide +kernel, by decide +kernel, by decide +kernel, by decide +kernel, by decide +kernel, by decide +kernel,
      by decide +kernel, by decide +kernel, by decide +kernel⟩,
    ⟨_, [23, 0, 0, 0], rdy, _, _, takes_of _ _ _ _ rfl (by decide +kernel) (by decide +kernel) (by decide +kernel) (by decide +kernel),
      rfl, by decide +kernel, by decide +kernel, by decide +kernel, by decide +kernel⟩,
    ⟨_, [23, 1, 0, 0], rdy, _, _, takes_of _ _ _ _ rfl (by decide +kernel) (by decide +kernel) (by decide +kernel) (by decide +kernel),
      rfl, by decide +kernel, by decide +kernel, by decide +kernel, by decide +kernel⟩,
    ⟨_, [0x85, 1, 0, 0], rdy, _, _, _, _,
      takes_of _ _ _ _ rfl (by decide +kernel) (by decide +kernel) (by decide +kernel) (by decide +kernel), rfl, rfl, rfl,
      by decide +kernel, by decide +kernel, by decide +kernel, by decide +kernel⟩,
    ⟨_, [23], rdy, _, _, _, takes_of _ _ _ _ rfl (by decide +kernel) (by decide +kernel) (by decide +kernel) (by decide +kernel), rfl,
      rfl, by decide +kernel⟩⟩

/-- The hypotheses of OutputCards can be met. -/
theorem wit_OutputCards :
    (∃ (r : Req) (p : List Byte) (s : State) (t : State) (c : _) (x : _) (grp : _), Takes 0x0A00 r p s t ∧ c = le p 0 1 ∧
      x = le p 8 168 ∧ grp = cfgImg t Kind.group 0 ∧ c ≤ 3 ∧ zeroed p 1 7 = true ∧ keeps convFields x = true ∧
      ((List.range 40).all (fun e => allOk (if e < 32 ∧ (supOwns (cfgImg t Kind.lsIn 0) c e ||
      railOwns (anyBankCfg t) c e) then [] else entryChecks c e (16 + 4 * e) (convEntry x e))) = true) ∧ (!(flag grp c &&
      ((List.range 4).filter (fun m => flag grp m && m != c)).any (fun m => !groupMatches x (cfgImg t Kind.conv m)))) = true ∧
      convConflict t c x = none ∧ allNormal t = true ∧ room [wr Kind.conv c x] t) ∧
    (∃ (r : Req) (p : List Byte) (s : State) (t : State) (m : _), Takes 0x0A01 r p s t ∧ m = le p 0 1 ∧ m = 0 ∧ zeroed p 1 3 = true ∧
      allNormal t = true ∧ room [wr Kind.group 0 m] t) ∧
    (∃ (r : Req) (p : List Byte) (s : State) (t : State) (m : _) (a : _) (b : _) (l : _), Takes 0x0A01 r p s t ∧ m = le p 0 1 ∧ m < 16 ∧
      (List.range 4).filter (fun c => m.testBit c) = a :: b :: l ∧
      (b :: l).all (fun c => groupMatches (cfgImg t Kind.conv a) (cfgImg t Kind.conv c)) = true ∧ zeroed p 1 3 = true ∧
      allNormal t = true ∧ room [wr Kind.group 0 m] t) ∧
    (∃ (r : Req) (p : List Byte) (s : State) (t : State) (k : _), Takes 0x0A02 r p s t ∧ k = t.conv (le p 0 1) ∧ le p 0 1 ≤ 3 ∧
      le p 1 1 ≤ 1 ∧ zeroed p 2 2 = true) ∧
    (∃ (r : Req) (p : List Byte) (s : State) (t : State) (mask : _) (fl : _) (at_ : _) (h : Nat) (u : State), Takes 0x0A03 r p s t ∧
      mask = le p 0 1 ∧ fl = le p 1 1 ∧ at_ = { c := u32 (le p 4 4), a := u16 (le p 8 2) : MT } ∧ (0 < mask ∧ mask < 16) ∧ fl < 4 ∧
      zeroed p 2 2 = true ∧ fl.testBit 0 = true ∧ tooFarAhead t at_ = false ∧
      calInsert (.mt at_) (.inject (mask + 16 * bit (fl.testBit 1))) t = some (h, u)) ∧
    (∃ (r : Req) (p : List Byte) (s : State) (t : State) (mask : _) (fl : _) (at_ : _), Takes 0x0A03 r p s t ∧ mask = le p 0 1 ∧
      fl = le p 1 1 ∧ at_ = { c := u32 (le p 4 4), a := u16 (le p 8 2) : MT } ∧ (0 < mask ∧ mask < 16) ∧ fl < 4 ∧ zeroed p 2 2 = true ∧
      fl.testBit 0 = true ∧ tooFarAhead t at_ = false ∧ calInsert (.mt at_) (.inject (mask + 16 * bit (fl.testBit 1))) t = none) ∧
    (∃ (r : Req) (p : List Byte) (s : State) (t : State) (mask : _) (fl : _) (q : _), Takes 0x0A03 r p s t ∧ mask = le p 0 1 ∧
      fl = le p 1 1 ∧ q = triggerMask .host { report := if fl.testBit 1 then some 0xFFFF else none } mask t ∧ (0 < mask ∧ mask < 16) ∧
      fl < 4 ∧ zeroed p 2 2 = true ∧ fl.testBit 0 = false ∧ q.1.all (fun a => a == .excluded || a == .ignored || a == .overrun) = false) ∧
    (∃ (r : Req) (p : List Byte) (s : State) (t : State) (mask : _) (fl : _) (q : _), Takes 0x0A03 r p s t ∧ mask = le p 0 1 ∧
      fl = le p 1 1 ∧ q = triggerMask .host { report := if fl.testBit 1 then some 0xFFFF else none } mask t ∧ (0 < mask ∧ mask < 16) ∧
      fl < 4 ∧ zeroed p 2 2 = true ∧ fl.testBit 0 = false ∧ q.1.all (fun a => a == .excluded) = true) ∧
    (∃ (r : Req) (p : List Byte) (s : State) (t : State) (mask : _) (fl : _) (q : _), Takes 0x0A03 r p s t ∧ mask = le p 0 1 ∧
      fl = le p 1 1 ∧ q = triggerMask .host { report := if fl.testBit 1 then some 0xFFFF else none } mask t ∧ (0 < mask ∧ mask < 16) ∧
      fl < 4 ∧ zeroed p 2 2 = true ∧ fl.testBit 0 = false ∧ q.1.all (fun a => a == .excluded) = false ∧
      q.1.all (fun a => a == .excluded || a == .ignored || a == .overrun) = true) ∧
    (∃ (r : Req) (p : List Byte) (s : State) (t : State) (c : _) (k : _), Takes 0x0A04 r p s t ∧ c = le p 0 1 ∧ k = t.conv c ∧ c ≤ 3 ∧
      le p 1 1 = 0 ∧ zeroed p 4 4 = true ∧ k.state = .jig) ∧
    (∃ (r : Req) (p : List Byte) (s : State) (t : State) (c : _) (k : _), Takes 0x0A04 r p s t ∧ c = le p 0 1 ∧ k = t.conv c ∧ c ≤ 3 ∧
      le p 1 1 = 2 ∧ zeroed p 4 4 = true ∧ (k.state == .cal || (2 == 1 && k.state == .jig)) = false ∧ allNormal t = true) ∧
    (∃ (r : Req) (p : List Byte) (s : State) (t : State) (c : _) (k : _) (n : _), Takes 0x0A04 r p s t ∧ c = le p 0 1 ∧ k = t.conv c ∧
      n = le p 2 1 ∧ c ≤ 3 ∧ le p 1 1 = 1 ∧ (1 ≤ n ∧ n ≤ 64) ∧ 4 ≤ le p 3 1 ∧
      (List.range n).all (fun i => chanOk c (le p (8 + 4 * i) 4) && fld (le p (8 + 4 * i) 4) 6 2 == 0) = true ∧ zeroed p 4 4 = true ∧
      (k.state == .cal || k.state == .jig) = false ∧ allNormal t = true ∧
      room [wr Kind.jig c (n + le p 3 1 * 2 ^ 8 + le p 8 (4 * n) * 2 ^ 32)] t) ∧
    (∃ (r : Req) (p : List Byte) (s : State) (t : State) (c : _) (k : _), Takes 0x0A04 r p s t ∧ c = le p 0 1 ∧ k = t.conv c ∧ c ≤ 3 ∧
      le p 1 1 = 3 ∧ zeroed p 4 4 = true ∧ k.state = .jig) ∧
    (∃ (r : Req) (p : List Byte) (s : State) (t : State) (k : _), Takes 0x0A05 r p s t ∧ k = t.conv (le p 0 1) ∧ le p 0 1 ≤ 3) ∧
    (∃ (r : Req) (p : List Byte) (s : State) (t : State) (n : _) (x : _) (conv : _) (inj : _) (e : _) (a : _), Takes 0x0B00 r p s t ∧
      n = le p 0 1 ∧ x = le p 4 32 ∧ conv = cfgImg t Kind.conv (fld x 160 2) ∧ inj = flag x 162 ∧ e = fld x 163 5 ∧ a = fld x 8 3 ∧
      n ≤ 7 ∧ zeroed p 1 3 = true ∧ keeps fanFields x = true ∧ (!flag x 5 || inj) = true ∧ fld x 64 10 ≤ fld x 74 10 ∧ ((!inj ||
      decide (e ≤ 7)) && (!flag x 4 || decide (e < (if inj then convInjLen conv else convRegLen conv)))) = true ∧
      fld x 176 16 ≤ fld x 192 16 ∧ (flag x 0 && flag x 1) = false ∧ allNormal t = true ∧ room [wr Kind.fan n x] t) ∧
    (∃ (r : Req) (p : List Byte) (s : State) (t : State) (n : _) (x : _) (conv : _) (inj : _) (e : _) (a : _), Takes 0x0B00 r p s t ∧
      n = le p 0 1 ∧ x = le p 4 32 ∧ conv = cfgImg t Kind.conv (fld x 160 2) ∧ inj = flag x 162 ∧ e = fld x 163 5 ∧ a = fld x 8 3 ∧
      n ≤ 7 ∧ zeroed p 1 3 = true ∧ keeps fanFields x = true ∧ (!flag x 5 || inj) = true ∧ fld x 64 10 ≤ fld x 74 10 ∧ ((!inj ||
      decide (e ≤ 7)) && (!flag x 4 || decide (e < (if inj then convInjLen conv else convRegLen conv)))) = true ∧
      fld x 176 16 ≤ fld x 192 16 ∧ (List.range 8).find? (fun m => m != n && fanOwns (cfgImg t Kind.fan m) a) = none ∧
      (committed t Kind.binding).find? (fun b => fld b.2 0 16 == 0x8000 + a && flag b.2 33 && cfgBindingInUse t b.1 b.2) = none ∧
      allNormal t = true ∧ room [wr Kind.fan n x] t) ∧
    (∃ (r : Req) (p : List Byte) (s : State) (t : State), Takes 0x0B01 r p s t) ∧
    (∃ (r : Req) (p : List Byte) (s : State) (t : State), Takes 0x0B02 r p s t ∧ le p 0 1 ≤ 7 ∧ zeroed p 1 3 = true ∧ t.duty = true) ∧
    (∃ (r : Req) (p : List Byte) (s : State) (t : State), Takes 0x0B02 r p s t ∧ le p 0 1 ≤ 7 ∧ zeroed p 1 3 = true ∧ t.duty = false) ∧
    (∃ (r : Req) (p : List Byte) (s : State) (t : State) (x : _) (out : _), Takes 0x0C00 r p s t ∧ x = le p 0 8 ∧
      out = (fun y => (committed t Kind.key).all (fun e => fld e.2 0 2 == 0 || keyInSet y e.1)) ∧ keeps kyFields x = true ∧
      out (setFld x 8 8 0xFF) = true ∧ out x = true ∧ (if keysTake x then keyEntry (cfgImg t Kind.conv 3) else none) = none ∧
      allNormal t = true ∧ room [wr Kind.ky 0 x] t) ∧
    (∃ (r : Req) (p : List Byte) (s : State) (t : State) (x : _) (out : _) (e : _), Takes 0x0C00 r p s t ∧ x = le p 0 8 ∧
      out = (fun y => (committed t Kind.key).all (fun e => fld e.2 0 2 == 0 || keyInSet y e.1)) ∧ keeps kyFields x = true ∧
      out (setFld x 8 8 0xFF) = true ∧ out x = true ∧ (if keysTake x then keyEntry (cfgImg t Kind.conv 3) else none) = some e) ∧
    (∃ (r : Req) (p : List Byte) (s : State) (t : State) (first : _) (count : _) (recs : _) (cfg : _), Takes 0x0C01 r p s t ∧
      first = le p 0 2 ∧ count = le p 2 2 ∧ recs = (List.range count).map (fun i => (i, le p (8 + 16 * i) 16)) ∧
      cfg = cfgImg t Kind.ky 0 ∧ first ≤ 511 ∧ (1 ≤ count ∧ count ≤ 62) ∧ first + count ≤ 512 ∧ zeroed p 4 4 = true ∧
      recs.all (fun k => keeps keyFields k.2 && ((fld k.2 0 2 == 0 || keyInSet cfg (first + k.1)) && ((!flag k.2 4 ||
      fld k.2 2 2 == 1) && (fld k.2 0 2 != 2 || flag (cfgImg t Kind.area (fld k.2 16 6)) 0)))) = true ∧
      recs.findSome? (fun k => keyTarget (cfgImg t Kind.point) (committed t Kind.zone) (cfgImg t Kind.member) (first + k.1) k.2) = none ∧
      allNormal t = true ∧ room (recs.map (fun k => wr Kind.key (first + k.1) k.2)) t) ∧
    (∃ (r : Req) (p : List Byte) (s : State) (t : State), Takes 0x0C02 r p s t) :=
  ⟨⟨_, [3, 0, 0, 0, 0, 0, 0, 0] ++ leBytes 168 (resetImg Kind.conv 0), rdy, _, _, _, _,
    takes_of _ _ _ _ rfl (by decide +kernel) (by decide +kernel) (by decide +kernel) (by decide +kernel), rfl, rfl, rfl,
    by decide +kernel, by decide +kernel, by decide +kernel, by decide +kernel, by decide +kernel, by decide +kernel, by decide +kernel,
    by decide +kernel⟩,
    ⟨_, [0, 0, 0, 0], rdy, _, _, takes_of _ _ _ _ rfl (by decide +kernel) (by decide +kernel) (by decide +kernel) (by decide +kernel),
      rfl, rfl, by decide +kernel, by decide +kernel, by decide +kernel⟩,
    ⟨_, [3, 0, 0, 0], rdy, _, _, 0, 1, [],
      takes_of _ _ _ _ rfl (by decide +kernel) (by decide +kernel) (by decide +kernel) (by decide +kernel), rfl, by decide +kernel,
      by decide +kernel, by decide +kernel, by decide +kernel, by decide +kernel, by decide +kernel⟩,
    ⟨_, [3, 1, 0, 0], rdy, _, _, takes_of _ _ _ _ rfl (by decide +kernel) (by decide +kernel) (by decide +kernel) (by decide +kernel),
      rfl, by decide +kernel, by decide +kernel, by decide +kernel⟩,
    ⟨_, [15, 3, 0, 0, 0, 0, 0, 0, 0, 0], rdy, _, _, _, _, _, _,
      takes_of _ _ _ _ rfl (by decide +kernel) (by decide +kernel) (by decide +kernel) (by decide +kernel), rfl, rfl, rfl,
      by decide +kernel, by decide +kernel, by decide +kernel, by decide +kernel, by decide +kernel,
      calInsert_some _ _ _ 0 (freeSlot_first _ rfl rfl)⟩,
    ⟨_, [1, 1, 0, 0, 0, 0, 0, 0, 0, 0], fullCal, _, _, _, _,
      takes_of _ _ _ _ rfl (by decide +kernel) (by decide +kernel) (by decide +kernel) (by decide +kernel), rfl, rfl, rfl,
      by decide +kernel, by decide +kernel, by decide +kernel, by decide +kernel, by decide +kernel, fullCal_none _ _ _ _⟩,
    ⟨_, [1, 0, 0, 0, 0, 0, 0, 0, 0, 0],
      convUpd 0 (fun k => { k with state := .run }) (liveS Kind.conv 0 (resetImg Kind.conv 0 + 2 ^ 10) rdy), _, _, _, _,
      takes_of _ _ _ _ rfl (by decide +kernel) (by decide +kernel) (by decide +kernel) (by decide +kernel), rfl, rfl, rfl,
      by decide +kernel, by decide +kernel, by decide +kernel, by decide +kernel, by decide +kernel⟩,
    ⟨_, [1, 0, 0, 0, 0, 0, 0, 0, 0, 0], convUpd 0 (fun k => { k with state := .jig }) rdy, _, _, _, _,
      takes_of _ _ _ _ rfl (by decide +kernel) (by decide +kernel) (by decide +kernel) (by decide +kernel), rfl, rfl, rfl,
      by decide +kernel, by decide +kernel, by decide +kernel, by decide +kernel, by decide +kernel⟩,
    ⟨_, [15, 0, 0, 0, 0, 0, 0, 0, 0, 0], rdy, _, _, _, _,
      takes_of _ _ _ _ rfl (by decide +kernel) (by decide +kernel) (by decide +kernel) (by decide +kernel), rfl, rfl, rfl,
      by decide +kernel, by decide +kernel, by decide +kernel, by decide +kernel, by decide +kernel, by decide +kernel⟩,
    ⟨_, [0, 0, 0, 0, 0, 0, 0, 0], convUpd 0 (fun k => { k with state := .jig }) rdy, _, _, _,
      takes_of _ _ _ _ rfl (by decide +kernel) (by decide +kernel) (by decide +kernel) (by decide +kernel), rfl, rfl, by decide +kernel,
      by decide +kernel, by decide +kernel, by decide +kernel⟩,
    ⟨_, [3, 2, 0, 0, 0, 0, 0, 0], rdy, _, _, _,
      takes_of _ _ _ _ rfl (by decide +kernel) (by decide +kernel) (by decide +kernel) (by decide +kernel), rfl, rfl, by decide +kernel,
      by decide +kernel, by decide +kernel, by decide +kernel, by decide +kernel⟩,
    ⟨_, [3, 1, 1, 4, 0, 0, 0, 0, 0, 0, 0, 0], rdy, _, _, _, _,
      takes_of _ _ _ _ rfl (by decide +kernel) (by decide +kernel) (by decide +kernel) (by decide +kernel), rfl, rfl, rfl,
      by decide +kernel, by decide +kernel, by decide +kernel, by decide +kernel, by decide +kernel, by decide +kernel,
      by decide +kernel, by decide +kernel, by decide +kernel⟩,
    ⟨_, [0, 3, 0, 0, 0, 0, 0, 0], convUpd 0 (fun k => { k with state := .jig }) rdy, _, _, _,
      takes_of _ _ _ _ rfl (by decide +kernel) (by decide +kernel) (by decide +kernel) (by decide +kernel), rfl, rfl, by decide +kernel,
      by decide +kernel, by decide +kernel, by decide +kernel⟩,
    ⟨_, [3], rdy, _, _, takes_of _ _ _ _ rfl (by decide +kernel) (by decide +kernel) (by decide +kernel) (by decide +kernel), rfl,
      by decide +kernel⟩,
    ⟨_, [7, 0, 0, 0] ++ leBytes 32 (resetImg Kind.fan 0), rdy, _, _, _, _, _, _, _,
      takes_of _ _ _ _ rfl (by decide +kernel) (by decide +kernel) (by decide +kernel) (by decide +kernel), rfl, rfl, rfl, rfl, rfl, rfl,
      by decide +kernel, by decide +kernel, by decide +kernel, by decide +kernel, by decide +kernel, by decide +kernel,
      by decide +kernel, by decide +kernel, by decide +kernel, by decide +kernel⟩,
    ⟨_, [7, 0, 0, 0] ++ leBytes 32 (resetImg Kind.fan 0), rdy, _, _, _, _, _, _, _,
      takes_of _ _ _ _ rfl (by decide +kernel) (by decide +kernel) (by decide +kernel) (by decide +kernel), rfl, rfl, rfl, rfl, rfl, rfl,
      by decide +kernel, by decide +kernel, by decide +kernel, by decide +kernel, by decide +kernel, by decide +kernel,
      by decide +kernel, by decide +kernel, by decide +kernel, by decide +kernel, by decide +kernel⟩,
    ⟨_, [], rdy, _, takes_of _ _ _ _ rfl (by decide +kernel) (by decide +kernel) (by decide +kernel) (by decide +kernel)⟩,
    ⟨_, [7, 0, 0, 0], rdy, _, takes_of _ _ _ _ rfl (by decide +kernel) (by decide +kernel) (by decide +kernel) (by decide +kernel),
      by decide +kernel, by decide +kernel, by decide +kernel⟩,
    ⟨_, [7, 0, 0, 0], prS (fun p => { p with role := .standby }), _,
      takes_of _ _ _ _ rfl (by decide +kernel) (by decide +kernel) (by decide +kernel) (by decide +kernel), by decide +kernel,
      by decide +kernel, by decide +kernel⟩,
    ⟨_, leBytes 8 (resetImg Kind.ky 0), rdy, _, _, _,
      takes_of _ _ _ _ rfl (by decide +kernel) (by decide +kernel) (by decide +kernel) (by decide +kernel), rfl, rfl, by decide +kernel,
      by decide +kernel, by decide +kernel, by decide +kernel, by decide +kernel, by decide +kernel⟩,
    ⟨_, leBytes 8 (resetImg Kind.ky 0 + 2), cfgS Kind.conv 3 (resetImg Kind.conv 0 + 2 ^ 4) rdy, _, _, _, 0,
      takes_of _ _ _ _ rfl (by decide +kernel) (by decide +kernel) (by decide +kernel) (by decide +kernel), rfl, rfl, by decide +kernel,
      by decide +kernel, by decide +kernel, by decide +kernel⟩,
    ⟨_, [0xFF, 1, 1, 0, 0, 0, 0, 0] ++ leBytes 16 (resetImg Kind.key 0), rdy, _, _, _, _, _,
      takes_of _ _ _ _ rfl (by decide +kernel) (by decide +kernel) (by decide +kernel) (by decide +kernel), rfl, rfl, rfl, rfl,
      by decide +kernel, by decide +kernel, by decide +kernel, by decide +kernel, by decide +kernel, by decide +kernel,
      by decide +kernel, by decide +kernel⟩,
    ⟨_, [], rdy, _, takes_of _ _ _ _ rfl (by decide +kernel) (by decide +kernel) (by decide +kernel) (by decide +kernel)⟩⟩

/-- The hypotheses of PanelAndPairCards can be met. -/
theorem wit_PanelAndPairCards :
    (∃ (r : Req) (p : List Byte) (s : State) (t : State) (x : _) (pt : _), Takes 0x0D00 r p s t ∧ x = le p 0 16 ∧
      pt = cfgImg t Kind.point (fld x 64 17) ∧ keeps pnFields x = true ∧ (!tableCommitted t ||
      bandValid (cfgImg t Kind.wave 0) (fld x 12 4)) = true ∧ fld x 24 10 * (32 * fld x 16 6 / 8 + 40) * fld x 36 5 ≤ 1300000 ∧
      (flag pt 42 && fld pt 40 2 == 0) = true ∧ (List.range 16).any (fun k => (t.region k).state != .free) = false ∧
      room [wr Kind.pn 0 x] t) ∧
    (∃ (r : Req) (p : List Byte) (s : State) (t : State) (part : _) (w : _), Takes 0x0D01 r p s t ∧ part = le p 0 1 ∧
      w = (fun n => leNat (t.port.bulk.getMany 0 n)) ∧ part ≤ 2 ∧ zeroed p 1 3 = true) ∧
    (∃ (r : Req) (p : List Byte) (s : State) (t : State), Takes 0x0D01 r p s t ∧ le p 0 1 = 3 ∧ zeroed p 1 3 = true ∧
      tableFault (fld (cfgImg t Kind.pn 0) 8 4 + 1) 4 (stagedTable t) = none ∧
      (List.range 16).any (fun k => (t.region k).state != .free) = false ∧ room [wr Kind.wave 0 (stagedTable t)] t) ∧
    (∃ (r : Req) (p : List Byte) (s : State) (t : State) (d : _), Takes 0x0D01 r p s t ∧ le p 0 1 = 3 ∧ zeroed p 1 3 = true ∧
      tableFault (fld (cfgImg t Kind.pn 0) 8 4 + 1) 4 (stagedTable t) = some d) ∧
    (∃ (r : Req) (p : List Byte) (s : State) (t : State) (x : _) (y : _) (w : _) (h : _) (k : _), Takes 0x0D02 r p s t ∧ x = le p 0 2 ∧
      y = le p 2 2 ∧ w = le p 4 2 ∧ h = le p 6 2 ∧ (x % 8 == 0 && decide (x < pnW t)) = true ∧ y < pnH t ∧ ((w % 8 == 0 &&
      decide (0 < w ∧ x + w ≤ pnW t)) = true) ∧ (0 < h ∧ y + h ≤ pnH t) ∧ le p 8 1 ≤ 1 ∧ le p 9 1 ≤ 1 ∧ zeroed p 10 2 = true ∧
      t.duty = true ∧ tableCommitted t = true ∧ (List.range 16).any (fun k => ((t.region k).state == .loading ||
      (t.region k).state == .armed) && overlaps (t.region k) x y w h) = false ∧ freeRegion t = some k) ∧
    (∃ (r : Req) (p : List Byte) (s : State) (t : State) (k : _) (first : _) (count : _) (off : _) (g : _) (l : _) (u : _),
      Takes 0x0D03 r p s t ∧ k = le p 0 1 ∧ first = le p 2 2 ∧ count = le p 4 2 ∧ off = le p 8 4 ∧ g = t.region k ∧
      l = lineStates t g first count off ∧ u = forAll l (fun c s => setTarget c.1 c.2 s) t ∧ k ≤ 15 ∧ zeroed p 1 1 = true ∧
      zeroed p 6 2 = true ∧ t.duty = true ∧ g.state = .loading ∧ first + count ≤ g.h ∧
      off + count * (if g.state4 then g.w / 2 else g.w) ≤ 65536 ∧ l.any (fun c => decide (pnStates t ≤ c.2)) = false ∧
      pendEntries u ≤ 20480) ∧
    (∃ (r : Req) (p : List Byte) (s : State) (t : State) (k : _) (els : _) (u : _), Takes 0x0D04 r p s t ∧ k = le p 0 1 ∧
      els = regElems t k ∧ u = regionUpd k (fun g => { g with state := .armed, band := bandNow t, start := nextHalf t }) t ∧ k ≤ 15 ∧
      zeroed p 1 3 = true ∧ t.duty = true ∧ (t.region k).state = .loading ∧ t.fenced = false) ∧
    (∃ (r : Req) (p : List Byte) (s : State) (t : State) (k : _), Takes 0x0D05 r p s t ∧ k = le p 0 1 ∧ k ≤ 15 ∧ zeroed p 1 3 = true ∧
      t.duty = true ∧ (t.region k).state = .loading) ∧
    (∃ (r : Req) (p : List Byte) (s : State) (t : State) (k : _), Takes 0x0D05 r p s t ∧ k = le p 0 1 ∧ k ≤ 15 ∧ zeroed p 1 3 = true ∧
      t.duty = true ∧ ((t.region k).state != .loading) = true) ∧
    (∃ (r : Req) (p : List Byte) (s : State) (t : State) (n : _), Takes 0x0D06 r p s t ∧ n = t.pn) ∧
    (∃ (r : Req) (p : List Byte) (s : State) (t : State) (x : _), Takes 0x0E00 r p s t ∧ x = le p 0 8 ∧ keeps prFields x = true ∧
      allNormal t = true ∧ room [wr Kind.pr 0 x] t) ∧
    (∃ (r : Req) (p : List Byte) (s : State) (t : State) (fp : _), Takes 0x0E01 r p s t ∧ fp = BitVec.ofNat 64 (le p 0 8) ∧
      (fp != Config.ownFingerprint) = true ∧ allNormal t = true ∧ t.fenced = false ∧ (fp == 0) = false) ∧
    (((BitVec.ofNat 64 (le (List.replicate 8 (0 : Byte)) 0 8) != Config.ownFingerprint) = true) →
      (∃ (r : Req) (p : List Byte) (s : State) (t : State), Takes 0x0E01 r p s t ∧
      (BitVec.ofNat 64 (le p 0 8) != Config.ownFingerprint) = true ∧ allNormal t = true ∧ t.fenced = false ∧
      (BitVec.ofNat 64 (le p 0 8) == 0) = true)) ∧
    (∃ (r : Req) (p : List Byte) (s : State) (t : State), Takes 0x0E02 r p s t ∧ le p 0 1 = 0 ∧ le p 1 1 ≤ 1 ∧ zeroed p 2 2 = true ∧
      (t.pr.role != .active) = false ∧ allNormal t = true ∧ (t.pr.link != .up) = false ∧ (t.pr.pEligible &&
      t.pr.pRole == .standby) = true ∧ (!t.pr.synced || t.pr.snapDue != 0) = false) ∧
    (∃ (r : Req) (p : List Byte) (s : State) (t : State) (u : _), Takes 0x0E02 r p s t ∧
      u = roleSettle (releaseDuty .isolated 3 (prUpd (fun q => { q with isolated := true, eligible := false }) t)) ∧ le p 0 1 = 1 ∧
      le p 1 1 ≤ 1 ∧ zeroed p 2 2 = true ∧ (t.pr.role == .simplex && !(le p 1 1 % 2 == 1)) = false ∧ ((le p 1 1 % 2 == 1) &&
      !allNormal t) = false) ∧
    (∃ (r : Req) (p : List Byte) (s : State) (t : State) (v : _) (u : _), Takes 0x0E02 r p s t ∧
      v = prUpd (fun q => { q with isolated := false }) t ∧ u = (if t.pr.role == .isolated && !pairEn t && !ownFault v &&
      !t.pr.napIso then setRole .simplex 3 v else roleSettle v) ∧ le p 0 1 = 2 ∧ le p 1 1 ≤ 1 ∧ zeroed p 2 2 = true) ∧
    (∃ (r : Req) (p : List Byte) (s : State) (t : State), Takes 0x0E02 r p s t ∧ le p 0 1 = 1 ∧ le p 1 1 = 0 ∧ zeroed p 2 2 = true ∧
      t.pr.role = .simplex) ∧
    (∃ (r : Req) (p : List Byte) (s : State) (t : State) (q : _), Takes 0x0E03 r p s t ∧ q = t.pr) :=
  ⟨⟨_, leBytes 16 (resetImg Kind.pn 0), cfgS Kind.point 0 (2 ^ 42) rdy, _, _, _,
    takes_of _ _ _ _ rfl (by decide +kernel) (by decide +kernel) (by decide +kernel) (by decide +kernel), rfl, rfl, by decide +kernel,
    by decide +kernel, by decide +kernel, by decide +kernel, by decide +kernel, by decide +kernel⟩,
    ⟨_, [2, 0, 0, 0], rdy, _, _, _, takes_of _ _ _ _ rfl (by decide +kernel) (by decide +kernel) (by decide +kernel) (by decide +kernel),
      rfl, rfl, by decide +kernel, by decide +kernel⟩,
    ⟨_, [3, 0, 0, 0], waveS, _, takes_of _ _ _ _ rfl (by decide +kernel) (by decide +kernel) (by decide +kernel) (by decide +kernel),
      by decide +kernel, by decide +kernel, by decide +kernel, by decide +kernel, by decide +kernel⟩,
    ⟨_, [3, 0, 0, 0], rdy, _, 0, takes_of _ _ _ _ rfl (by decide +kernel) (by decide +kernel) (by decide +kernel) (by decide +kernel),
      by decide +kernel, by decide +kernel, by decide +kernel⟩,
    ⟨_, [0, 0, 0, 0, 8, 0, 1, 0, 0, 0, 0, 0], cfgS Kind.wave 0 0 rdy, _, _, _, _, _, 0,
      takes_of _ _ _ _ rfl (by decide +kernel) (by decide +kernel) (by decide +kernel) (by decide +kernel), rfl, rfl, rfl, rfl,
      by decide +kernel, by decide +kernel, by decide +kernel, by decide +kernel, by decide +kernel, by decide +kernel,
      by decide +kernel, by decide +kernel, by decide +kernel, by decide +kernel, by decide +kernel⟩,
    ⟨_, List.replicate 4 0 ++ [1] ++ List.replicate 7 0, loadS, _, _, _, _, _, _, _, _,
      takes_of _ _ _ _ rfl (by decide +kernel) (by decide +kernel) (by decide +kernel) (by decide +kernel), rfl, rfl, rfl, rfl, rfl, rfl,
      rfl, by decide +kernel, by decide +kernel, by decide +kernel, by decide +kernel, by decide +kernel, by decide +kernel,
      by decide +kernel, by decide +kernel, by decide +kernel⟩,
    ⟨_, [0, 0, 0, 0], loadS, _, _, _, _,
      takes_of _ _ _ _ rfl (by decide +kernel) (by decide +kernel) (by decide +kernel) (by decide +kernel), rfl, rfl, rfl,
      by decide +kernel, by decide +kernel, by decide +kernel, by decide +kernel, by decide +kernel⟩,
    ⟨_, [0, 0, 0, 0], loadS, _, _, takes_of _ _ _ _ rfl (by decide +kernel) (by decide +kernel) (by decide +kernel) (by decide +kernel),
      rfl, by decide +kernel, by decide +kernel, by decide +kernel, by decide +kernel⟩,
    ⟨_, [15, 0, 0, 0], rdy, _, _, takes_of _ _ _ _ rfl (by decide +kernel) (by decide +kernel) (by decide +kernel) (by decide +kernel),
      rfl, by decide +kernel, by decide +kernel, by decide +kernel, by decide +kernel⟩,
    ⟨_, [], rdy, _, _, takes_of _ _ _ _ rfl (by decide +kernel) (by decide +kernel) (by decide +kernel) (by decide +kernel), rfl⟩,
    ⟨_, leBytes 8 (resetImg Kind.pr 0), rdy, _, _,
      takes_of _ _ _ _ rfl (by decide +kernel) (by decide +kernel) (by decide +kernel) (by decide +kernel), rfl, by decide +kernel,
      by decide +kernel, by decide +kernel⟩,
    ⟨_, bondP, rdy, _, _, bondTake, rfl, bondP_own, by decide +kernel, by decide +kernel, bondP_zero⟩,
    fun hyp => ⟨_, List.replicate 8 0, rdy, _,
      takes_of _ _ _ _ rfl (by decide +kernel) (by decide +kernel) (by decide +kernel) (by decide +kernel), hyp, by decide +kernel,
      by decide +kernel, by decide +kernel⟩,
    ⟨_, [0, 1, 0, 0], prS (fun p => { p with role := .active, link := .up, pEligible := true, pRole := .standby, synced := true }), _,
      takes_of _ _ _ _ rfl (by decide +kernel) (by decide +kernel) (by decide +kernel) (by decide +kernel), by decide +kernel,
      by decide +kernel, by decide +kernel, by decide +kernel, by decide +kernel, by decide +kernel, by decide +kernel,
      by decide +kernel⟩,
    ⟨_, [1, 1, 0, 0], rdy, _, _, takes_of _ _ _ _ rfl (by decide +kernel) (by decide +kernel) (by decide +kernel) (by decide +kernel),
      rfl, by decide +kernel, by decide +kernel, by decide +kernel, by decide +kernel, by decide +kernel⟩,
    ⟨_, [2, 0, 0, 0], rdy, _, _, _, takes_of _ _ _ _ rfl (by decide +kernel) (by decide +kernel) (by decide +kernel) (by decide +kernel),
      rfl, rfl, by decide +kernel, by decide +kernel, by decide +kernel⟩,
    ⟨_, [1, 0, 0, 0], rdy, _, takes_of _ _ _ _ rfl (by decide +kernel) (by decide +kernel) (by decide +kernel) (by decide +kernel),
      by decide +kernel, by decide +kernel, by decide +kernel, by decide +kernel⟩,
    ⟨_, [], rdy, _, _, takes_of _ _ _ _ rfl (by decide +kernel) (by decide +kernel) (by decide +kernel) (by decide +kernel), rfl⟩⟩

/-- The hypotheses of StoreAndPowerCards can be met. -/
theorem wit_StoreAndPowerCards :
    (∃ (r : Req) (p : List Byte) (s : State) (t : State) (n : _) (snap : _), Takes 0x0F00 r p s t ∧ n = t.nv ∧
      snap = (if n.snapLatest = 0 then n.snapA else n.snapB)) ∧
    (∃ (r : Req) (p : List Byte) (s : State) (t : State), Takes 0x0F01 r p s t ∧ t.fenced = false) ∧
    (∃ (r : Req) (p : List Byte) (s : State) (t : State), Takes 0x0F01 r p s t ∧ t.fenced = true) ∧
    (∃ (r : Req) (p : List Byte) (s : State) (t : State) (n : _) (o : _) (c : _) (m : _), Takes 0x0F02 r p s t ∧ n = le p 0 1 ∧
      o = le p 4 4 ∧ c = le p 8 4 ∧ m = imgSlot t n ∧ n ≤ 1 ∧ zeroed p 1 3 = true ∧ (o % 8 == 0 && decide (o < 0x200000)) = true ∧
      ((decide (8 ≤ c ∧ c ≤ 65536) && c % 8 == 0 && decide (o + c ≤ 0x200000)) = true) ∧ ((n ≠ t.nv.running ∨ t.sys.recovery = true)) ∧
      t.fenced = false) ∧
    (∃ (r : Req) (p : List Byte) (s : State) (t : State) (n : _) (o : _) (c : _), Takes 0x0F02 r p s t ∧ n = le p 0 1 ∧ o = le p 4 4 ∧
      c = le p 8 4 ∧ n ≤ 1 ∧ zeroed p 1 3 = true ∧ (o % 8 == 0 && decide (o < 0x200000)) = true ∧ ((decide (8 ≤ c ∧ c ≤ 65536) &&
      c % 8 == 0 && decide (o + c ≤ 0x200000)) = true) ∧ n = t.nv.running ∧ t.sys.recovery = false) ∧
    (∃ (r : Req) (p : List Byte) (s : State) (t : State) (n : _) (m : _), Takes 0x0F03 r p s t ∧ n = le p 0 1 ∧ m = imgSlot t n ∧ n ≤ 1 ∧
      zeroed p 1 3 = true ∧ imageWhole m = true ∧ imageSigned m = true ∧ arbOk t n = true ∧ t.fenced = false) ∧
    ((imageSigned badImg = false) → (∃ (r : Req) (p : List Byte) (s : State) (t : State), Takes 0x0F03 r p s t ∧ le p 0 1 ≤ 1 ∧
      zeroed p 1 3 = true ∧ imageWhole (imgSlot t (le p 0 1)) = true ∧ imageSigned (imgSlot t (le p 0 1)) = false ∧
      t.sys.recovery = true)) ∧
    ((imageSigned badImg = false) → (∃ (r : Req) (p : List Byte) (s : State) (t : State), Takes 0x0F03 r p s t ∧ le p 0 1 ≤ 1 ∧
      zeroed p 1 3 = true ∧ imageWhole (imgSlot t (le p 0 1)) = true ∧ imageSigned (imgSlot t (le p 0 1)) = false ∧
      t.sys.recovery = false)) ∧
    (∃ (r : Req) (p : List Byte) (s : State) (t : State), Takes 0x0F03 r p s t ∧ le p 0 1 ≤ 1 ∧ zeroed p 1 3 = true ∧
      imageWhole (imgSlot t (le p 0 1)) = true ∧ imageSigned (imgSlot t (le p 0 1)) = true ∧ arbOk t (le p 0 1) = false) ∧
    (∃ (r : Req) (p : List Byte) (s : State) (t : State), Takes 0x0F03 r p s t ∧ le p 0 1 ≤ 1 ∧ zeroed p 1 3 = true ∧
      imageWhole (imgSlot t (le p 0 1)) = false) ∧
    (∃ (r : Req) (p : List Byte) (s : State) (t : State), Takes 0x0F04 r p s t ∧ (t.nv.trial && t.nv.running == t.nv.pref) = false) ∧
    (∃ (r : Req) (p : List Byte) (s : State) (t : State), Takes 0x0F04 r p s t ∧ (t.nv.trial && t.nv.running == t.nv.pref) = true ∧
      t.fenced = false) ∧
    (∃ (r : Req) (p : List Byte) (s : State) (t : State) (x : _), Takes 0x1000 r p s t ∧ x = le p 0 8 ∧ keeps thFields x = true ∧
      fld x 0 8 ≤ tcrit t - 5 ∧ room [wr Kind.th 0 x] t) ∧
    (∃ (r : Req) (p : List Byte) (s : State) (t : State) (h : _) (i16 : _), Takes 0x1001 r p s t ∧ h = t.th ∧
      i16 = (fun v : Int => leBytes 2 (v % 65536).toNat)) ∧
    (∃ (r : Req) (p : List Byte) (s : State) (t : State) (x : _) (lsIn : _), Takes 0x1100 r p s t ∧ x = le p 0 40 ∧
      lsIn = cfgImg t Kind.lsIn 0 ∧ keeps snFields x = true ∧
      (List.range 8).all (fun n => allOk ((if n < 4 then [(!flag x (64 + 32 * n) || flag lsIn (32 * n), 8 + 4 * n)] else []) ++
      [(!(flag x 2 && fld x (64 + 32 * n + 12) 2 == 2), 9 + 4 * n)])) = true ∧ room [wr Kind.sn 0 x] t) ∧
    (∃ (r : Req) (p : List Byte) (s : State) (t : State) (alarm : _) (utc : _), Takes 0x1101 r p s t ∧ alarm = (le p 1 1 % 2 == 1) ∧
      utc = le p 8 8 ∧ le p 0 1 = 0 ∧ le p 1 1 ≤ 1 ∧ zeroed p 2 6 = true ∧ (!alarm || decide (t.rtc.utc < utc)) = true ∧
      (t.sys.power != .park) = false ∧ allNormal t = true) ∧
    (∃ (r : Req) (p : List Byte) (s : State) (t : State) (alarm : _) (utc : _) (u : _), Takes 0x1101 r p s t ∧
      alarm = (le p 1 1 % 2 == 1) ∧ utc = le p 8 8 ∧ u = { t with rtc := { t.rtc with alarm := if alarm then some utc else none } } ∧
      le p 0 1 = 1 ∧ le p 1 1 ≤ 1 ∧ zeroed p 2 6 = true ∧ (!alarm || decide (t.rtc.utc < utc)) = true ∧ (t.sys.power != .park) = false ∧
      allNormal t = true ∧ t.fenced = false) ∧
    (∃ (r : Req) (p : List Byte) (s : State) (t : State) (alarm : _) (utc : _), Takes 0x1101 r p s t ∧ alarm = (le p 1 1 % 2 == 1) ∧
      utc = le p 8 8 ∧ le p 0 1 ≤ 1 ∧ le p 1 1 ≤ 1 ∧ zeroed p 2 6 = true ∧ (!alarm || decide (t.rtc.utc < utc)) = true ∧
      (t.sys.power != .park) = true) ∧
    (∃ (r : Req) (p : List Byte) (s : State) (t : State) (k : _) (latched : _), Takes 0x1102 r p s t ∧ k = t.sn ∧
      latched = (fun o => (List.range 8).any (fun n => (k.chan.get n).latch && chanFld t n 12 2 == o + 1))) ∧
    (∃ (r : Req) (p : List Byte) (s : State) (t : State) (first : _) (count : _), Takes 0x1103 r p s t ∧ first = le p 0 1 ∧
      count = le p 1 1 ∧ (1 ≤ count ∧ count ≤ 62) ∧ zeroed p 2 2 = true) ∧
    (∃ (r : Req) (p : List Byte) (s : State) (t : State) (force : _) (clear : _), Takes 0x1104 r p s t ∧ force = le p 0 1 ∧
      clear = le p 1 1 ∧ (decide (force ≤ 3) && !(force.testBit 1 && pwrReq t)) = true ∧ clear ≤ 3 ∧ zeroed p 2 2 = true) ∧
    (∃ (r : Req) (p : List Byte) (s : State) (t : State), Takes 0x1104 r p s t ∧ (decide (le p 0 1 ≤ 3) && !((le p 0 1).testBit 1 &&
      pwrReq t)) = false ∧ le p 1 1 ≤ 3 ∧ zeroed p 2 2 = true) :=
  ⟨⟨_, [], rdy, _, _, _, takes_of _ _ _ _ rfl (by decide +kernel) (by decide +kernel) (by decide +kernel) (by decide +kernel), rfl, rfl⟩,
    ⟨_, [], rdy, _, takes_of _ _ _ _ rfl (by decide +kernel) (by decide +kernel) (by decide +kernel) (by decide +kernel),
      by decide +kernel⟩,
    ⟨_, [], { rdy with nv := { rdy.nv with fence := some 0 } }, _,
      takes_of _ _ _ _ rfl (by decide +kernel) (by decide +kernel) (by decide +kernel) (by decide +kernel), by decide +kernel⟩,
    ⟨_, [1, 0, 0, 0, 0, 0, 0, 0, 8, 0, 0, 0], rdy, _, _, _, _, _,
      takes_of _ _ _ _ rfl (by decide +kernel) (by decide +kernel) (by decide +kernel) (by decide +kernel), rfl, rfl, rfl, rfl,
      by decide +kernel, by decide +kernel, by decide +kernel, by decide +kernel, by decide +kernel, by decide +kernel⟩,
    ⟨_, [0, 0, 0, 0, 0, 0, 0, 0, 8, 0, 0, 0], rdy, _, _, _, _,
      takes_of _ _ _ _ rfl (by decide +kernel) (by decide +kernel) (by decide +kernel) (by decide +kernel), rfl, rfl, rfl,
      by decide +kernel, by decide +kernel, by decide +kernel, by decide +kernel, rfl, by decide +kernel⟩,
    ⟨_, [1, 0, 0, 0], rdy, _, _, _, takes_of _ _ _ _ rfl (by decide +kernel) (by decide +kernel) (by decide +kernel) (by decide +kernel),
      rfl, rfl, by decide +kernel, by decide +kernel, by decide +kernel, by decide +kernel, by decide +kernel, by decide +kernel⟩,
    fun hyp => ⟨req1 [1, 0, 0, 0], [1, 0, 0, 0], imgS true, taken 0x0F03 (req1 [1, 0, 0, 0]) (imgS true), takes_rec, by decide +kernel,
      by decide +kernel, by decide +kernel, hyp, by decide +kernel⟩,
    fun hyp => ⟨_, [1, 0, 0, 0], imgS false, _,
      takes_of _ _ _ _ rfl (by decide +kernel) (by decide +kernel) (by decide +kernel) (by decide +kernel), by decide +kernel,
      by decide +kernel, by decide +kernel, hyp, by decide +kernel⟩,
    ⟨_, [1, 0, 0, 0], { rdy with nv := { rdy.nv with otp := 1 } }, _,
      takes_of _ _ _ _ rfl (by decide +kernel) (by decide +kernel) (by decide +kernel) (by decide +kernel), by decide +kernel,
      by decide +kernel, by decide +kernel, by decide +kernel, by decide +kernel⟩,
    ⟨_, [1, 0, 0, 0], { rdy with nv := { rdy.nv with slotB := { written := true } } }, _,
      takes_of _ _ _ _ rfl (by decide +kernel) (by decide +kernel) (by decide +kernel) (by decide +kernel), by decide +kernel,
      by decide +kernel, by decide +kernel⟩,
    ⟨_, [], rdy, _, takes_of _ _ _ _ rfl (by decide +kernel) (by decide +kernel) (by decide +kernel) (by decide +kernel),
      by decide +kernel⟩,
    ⟨_, [], { rdy with nv := { rdy.nv with trial := true } }, _,
      takes_of _ _ _ _ rfl (by decide +kernel) (by decide +kernel) (by decide +kernel) (by decide +kernel), by decide +kernel,
      by decide +kernel⟩,
    ⟨_, leBytes 8 (resetImg Kind.th 0), rdy, _, _,
      takes_of _ _ _ _ rfl (by decide +kernel) (by decide +kernel) (by decide +kernel) (by decide +kernel), rfl, by decide +kernel,
      by decide +kernel, by decide +kernel⟩,
    ⟨_, [], rdy, _, _, _, takes_of _ _ _ _ rfl (by decide +kernel) (by decide +kernel) (by decide +kernel) (by decide +kernel), rfl, rfl⟩,
    ⟨_, leBytes 40 (resetImg Kind.sn 0), rdy, _, _, _,
      takes_of _ _ _ _ rfl (by decide +kernel) (by decide +kernel) (by decide +kernel) (by decide +kernel), rfl, rfl, by decide +kernel,
      by decide +kernel, by decide +kernel⟩,
    ⟨_, List.replicate 16 0, sysS (fun x => { x with power := .park }), _, _, _,
      takes_of _ _ _ _ rfl (by decide +kernel) (by decide +kernel) (by decide +kernel) (by decide +kernel), rfl, rfl, by decide +kernel,
      by decide +kernel, by decide +kernel, by decide +kernel, by decide +kernel, by decide +kernel⟩,
    ⟨_, [1, 1, 0, 0, 0, 0, 0, 0] ++ leBytes 8 1, sysS (fun x => { x with power := .park }), _, _, _, _,
      takes_of _ _ _ _ rfl (by decide +kernel) (by decide +kernel) (by decide +kernel) (by decide +kernel), rfl, rfl, rfl,
      by decide +kernel, by decide +kernel, by decide +kernel, by decide +kernel, by decide +kernel, by decide +kernel,
      by decide +kernel⟩,
    ⟨_, List.replicate 16 0, rdy, _, _, _,
      takes_of _ _ _ _ rfl (by decide +kernel) (by decide +kernel) (by decide +kernel) (by decide +kernel), rfl, rfl, by decide +kernel,
      by decide +kernel, by decide +kernel, by decide +kernel, by decide +kernel⟩,
    ⟨_, [], rdy, _, _, _, takes_of _ _ _ _ rfl (by decide +kernel) (by decide +kernel) (by decide +kernel) (by decide +kernel), rfl, rfl⟩,
    ⟨_, [0xFF, 62, 0, 0], rdy, _, _, _,
      takes_of _ _ _ _ rfl (by decide +kernel) (by decide +kernel) (by decide +kernel) (by decide +kernel), rfl, rfl, by decide +kernel,
      by decide +kernel⟩,
    ⟨_, [3, 3, 0, 0], rdy, _, _, _, takes_of _ _ _ _ rfl (by decide +kernel) (by decide +kernel) (by decide +kernel) (by decide +kernel),
      rfl, rfl, by decide +kernel, by decide +kernel, by decide +kernel⟩,
    ⟨_, [4, 0, 0, 0], rdy, _, takes_of _ _ _ _ rfl (by decide +kernel) (by decide +kernel) (by decide +kernel) (by decide +kernel),
      by decide +kernel, by decide +kernel, by decide +kernel⟩⟩

/-- The hypotheses of UnassignedOpcodes can be met. -/
theorem wit_UnassignedOpcodes :
    (∃ (r : Req) (s : State) (op : U16), ((s.sys.power = .run ∨ s.sys.power = .park)) ∧ s.sys.ready = true ∧
      (s.mb.slot.get r.slot.val).device = false ∧ s.port.done.toNat.testBit r.slot.val = false ∧ s.mb.rings = [] ∧
      r.payload.length ≤ 1008 ∧ r.len.toNat = r.payload.length ∧ crc32 r.payload = r.crc.toNat ∧ r.byte5 = 0 ∧
      s.mb.outst.find? (fun o => o.isSlot && o.tag == r.tag.toNat) = none ∧ s.mb.epoch = some (epochOf r.tag.toNat) ∧
      cardOf op.toNat = none) ∧
    (∃ (r : Req) (s : State) (i : Instr) (op : Nat), ((s.sys.power = .run ∨ s.sys.power = .park)) ∧ s.sys.ready = true ∧
      (s.mb.slot.get r.slot.val).device = false ∧ s.port.done.toNat.testBit r.slot.val = false ∧ s.mb.rings = [] ∧
      r.payload.length ≤ 1008 ∧ r.len.toNat = r.payload.length ∧ crc32 r.payload = r.crc.toNat ∧ r.byte5 = 0 ∧
      s.mb.outst.find? (fun o => o.isSlot && o.tag == r.tag.toNat) = none ∧ s.mb.epoch = some (epochOf r.tag.toNat) ∧ i.call = some (op,
      r) ∧ op < 2 ^ 16 ∧ s.sys.recovery = true ∧ [0x0001, 0x0100, 0x0101, 0x0F00, 0x0F02, 0x0F03].contains op = false) :=
  ⟨⟨req [], rdy, 0xFFFF, .inl rfl, by decide +kernel, by decide +kernel, by decide +kernel, by decide +kernel, by decide +kernel,
    by decide +kernel, by decide +kernel, by decide +kernel, by decide +kernel, by decide +kernel, by decide +kernel⟩,
    ⟨req [], sysS (fun x => { x with recovery := true }), .sysGetStats (req []), 0x109, .inl rfl, by decide +kernel, by decide +kernel,
      by decide +kernel, by decide +kernel, by decide +kernel, rfl, by decide +kernel, by decide +kernel, by decide +kernel,
      by decide +kernel, by decide +kernel, by decide +kernel, by decide +kernel, by decide +kernel⟩⟩

/-- The hypotheses of PriorityArray can be met. -/
theorem wit_PriorityArray :
    (∃ (pn : Nat) (s : State), arrayLost s pn = true) ∧
    (∃ (pn : Nat) (s : State) (q : _), arrayLost s pn = false ∧ 1 ≤ q ∧ q ≤ 16 ∧ (s.pts.arr.get (ptArray s pn)).notNull.get q = true ∧
      ((∀ k, 1 ≤ k → k < q → (s.pts.arr.get (ptArray s pn)).notNull.get k = false))) ∧
    (∃ (pn : Nat) (s : State), arrayLost s pn = false ∧ ((∀ k, 1 ≤ k → k ≤ 16 → (s.pts.arr.get (ptArray s pn)).notNull.get k = false))) ∧
    (∃ (pn : Nat) (s : State), arrayLost s pn = false) ∧
    (∃ (pn : Nat) (s : State), arrayLost s pn = false ∧
      ((resolve pn s).pts.arr.get (ptArray s pn)).active = (s.pts.arr.get (ptArray s pn)).active ∧
      ((resolve pn s).point pn).value = (s.point pn).value) ∧
    (∃ (pn : Nat) (s : State), arrayLost s pn = false ∧
      (((resolve pn s).pts.arr.get (ptArray s pn)).active ≠ (s.pts.arr.get (ptArray s pn)).active ∨
      ((resolve pn s).point pn).value ≠ (s.point pn).value)) ∧
    (∃ (pn : Nat) (s : State), arrayLost s pn = false ∧ (s.point pn).quarantined = false ∧ (s.point pn).oos = false) :=
  ⟨⟨0, { rdy with pts := { rdy.pts with arr := [(0, { quarantined := true })] } }, by decide +kernel⟩,
    ⟨0, { rdy with pts := { rdy.pts with arr := [(0, { notNull := [(1, true)] })] } }, 1, by decide +kernel, by decide +kernel,
      by decide +kernel, by decide +kernel, fun k h1 h2 => absurd h2 (by omega)⟩,
    ⟨0, rdy, by decide +kernel, fun _ _ _ => rfl⟩,
    ⟨0, rdy, by decide +kernel⟩,
    ⟨0, rdy, by decide +kernel, by decide +kernel, by decide +kernel⟩,
    ⟨0, { both Kind.point 0 (2 ^ 42 + 2 ^ 43) rdy with pts := { rdy.pts with arr := [(0, { active := 5 })] } }, by decide +kernel,
      .inl (by decide +kernel)⟩,
    ⟨0, rdy, by decide +kernel, by decide +kernel, by decide +kernel⟩⟩

/-- The hypotheses of EventStream can be met. -/
theorem wit_EventStream :
    (∃ (b : Nat) (body : List U64) (s : State), b ≤ 1 ∧ s.sys.recovery = false ∧ s.sys.power ≠ .standby ∧ s.sys.power ≠ .off ∧
      (s.port.bench.get b).backlog = [] ∧ hasRoom b (body.length + 1) s = true) ∧
    (∃ (b : Nat) (body : List U64) (s : State), b ≤ 1 ∧ s.sys.recovery = false ∧ s.sys.power ≠ .standby ∧ s.sys.power ≠ .off ∧
      (((s.port.bench.get b).backlog ≠ [] ∨ hasRoom b (body.length + 1) s = false)) ∧ (s.port.bench.get b).backlog.length < 256) ∧
    (∃ (b : Nat) (s : State), b ≤ 1 ∧ s.sys.recovery = false ∧ s.sys.power ≠ .standby ∧ s.sys.power ≠ .off ∧
      256 ≤ (s.port.bench.get b).backlog.length) :=
  ⟨⟨1, [], rdy, by decide +kernel, by decide +kernel, by decide +kernel, by decide +kernel, by decide +kernel, by decide +kernel⟩,
    ⟨1, [], { rdy with port := { rdy.port with bench := [(1, { backlog := [{}] })] } }, by decide +kernel, by decide +kernel,
      by decide +kernel, by decide +kernel, .inl (by decide +kernel), by decide +kernel⟩,
    ⟨1, { rdy with port := { rdy.port with bench := [(1, { backlog := List.replicate 256 {} })] } }, by decide +kernel,
      by decide +kernel, by decide +kernel, by decide +kernel, by decide +kernel⟩⟩

/-- The hypotheses of SlotOwnership can be met. -/
theorem wit_SlotOwnership :
    (∃ (s : State) (n : Fin 16) (off : Fin 1024) (d : List Byte), portOn s = true ∧ d ≠ [] ∧ off.val + d.length ≤ 1024 ∧
      (s.mb.slot.get n.val).device = true) ∧
    (∃ (s : State) (n : Fin 16), ((s.sys.power = .run ∨ s.sys.power = .park)) ∧ (((s.mb.slot.get n.val).device = true ∨
      s.port.done.toNat.testBit n.val = true))) ∧
    (∃ (s : State) (v : U32) (n : Fin 16), ((s.sys.power = .run ∨ s.sys.power = .park)) ∧ v.toNat.testBit n.val = false) :=
  ⟨⟨{ rdy with mb := { rdy.mb with slot := [(0, { device := true })] } }, 0, 1023, [0], by decide +kernel, by decide +kernel,
    by decide +kernel, by decide +kernel⟩,
    ⟨{ rdy with mb := { rdy.mb with slot := [(0, { device := true })] } }, 0, .inl rfl, .inl rfl⟩,
    ⟨{ rdy with mb := { rdy.mb with slot := [(0, { device := true })] } }, 0xFFFE, 0, .inl rfl, by decide +kernel⟩⟩

/-- The hypotheses of CycleOrder can be met. -/
theorem wit_CycleOrder :
    (∃ (a : U32) (b : U32), (a.toNat + 2 ^ 32 - b.toNat) % 2 ^ 32 = 2 ^ 31) :=
  ⟨0x80000000, 0, by decide +kernel⟩

end Sys2Proof.Tests
end

section
/-!
SUPPORT. The order of cycle counts (00_scope.md R6).
-/

namespace Sys2Proof.Machine

open Sys2Proof

/-- The word a − b counts the cycles from b forward to a, modulo 2^32. -/
theorem toNat_sub_cycles (a b : U32) : (a - b).toNat = (a.toNat + 2 ^ 32 - b.toNat) % 2 ^ 32 := by
  rw [BitVec.toNat_sub]
  congr 1
  have hb := b.isLt
  omega

theorem signed_of_lt_half {w x : Nat} (h : x % 2 ^ w < 2 ^ (w - 1)) : signed w x = ((x % 2 ^ w : Nat) : Int) :=
  if_pos h

theorem signed_of_half_le {w x : Nat} (h : 2 ^ (w - 1) ≤ x % 2 ^ w) :
    signed w x = ((x % 2 ^ w : Nat) : Int) - 2 ^ w :=
  if_neg (Nat.not_lt.mpr h)

/-- A reading in the upper half is negative, so only a multiple of 2^w reads as 0. -/
theorem signed_eq_zero_iff (w x : Nat) : signed w x = 0 ↔ x % 2 ^ w = 0 := by
  by_cases h : x % 2 ^ w < 2 ^ (w - 1)
  · rw [signed_of_lt_half h, Int.natCast_eq_zero]
  · have hhalf := Nat.not_lt.mp h
    have hlt : ((x % 2 ^ w : Nat) : Int) < 2 ^ w := by exact_mod_cast Nat.mod_lt x (Nat.two_pow_pos w)
    have hpos := Nat.two_pow_pos (w - 1)
    rw [signed_of_half_le hhalf]
    constructor <;> intro h0 <;> omega

theorem cycDiff_eq_signed (a b : U32) : cycDiff a b = signed 32 ((a.toNat + 2 ^ 32 - b.toNat) % 2 ^ 32) := by
  rw [cycDiff, toNat_sub_cycles]

theorem cycLater_iff (a b : U32) : cycLater a b = true ↔ 0 < cycDiff a b := by
  simp [cycLater]

theorem cycDiff_eq_zero_iff (a b : U32) : cycDiff a b = 0 ↔ a = b := by
  have hword : (a - b).toNat = 0 ↔ a - b = 0 := BitVec.toNat_inj (y := 0)
  rw [cycDiff, signed_eq_zero_iff, Nat.mod_eq_of_lt (a - b).isLt, hword, sub_eq_zero]

/-- Half the span is the one distance that is the same both ways; it reads as −2^31. -/
theorem cycDiff_of_half_span {a b : U32} (h : (a.toNat + 2 ^ 32 - b.toNat) % 2 ^ 32 = 2 ^ 31) :
    cycDiff a b = -2 ^ 31 := by
  rw [cycDiff_eq_signed, h, signed_of_half_le (by decide)]
  decide

theorem cycLater_of_half_span {a b : U32} (h : (a.toNat + 2 ^ 32 - b.toNat) % 2 ^ 32 = 2 ^ 31) :
    cycLater a b = false := by
  rw [Bool.eq_false_iff, Ne, cycLater_iff, cycDiff_of_half_span h]
  decide

/-- Settles O60: the distance a − b modulo 2^32, read as a signed word, decides later, equal and earlier (R6). -/
theorem cycleOrder : Obligations.CycleOrder := by
  intro a b
  refine ⟨?_, cycLater_iff a b, (cycDiff_eq_zero_iff a b).symm, cycLater_of_half_span⟩
  rw [cycDiff_eq_signed, signed, Nat.mod_mod]

end Sys2Proof.Machine
end

section
/-!
SUPPORT. The boundaries of Mains Time (01_architecture.md R24, R25, 07_life_safety.md R181): which steps a cycle boundary runs, by
power state, configuration restore and a due swap, and which a half-cycle boundary and an eighth of a cycle run.
-/

namespace Sys2Proof.Machine

open Sys2Proof

theorem portOn_of_mtRuns {s : State} (h : mtRuns s = true) : portOn s = true := by
  rw [mtRuns, Bool.and_assoc, Bool.and_eq_true] at h
  exact h.1

/-! ## The progress of MT moves only the tracker and the clock -/

@[simp] theorem passTime_sys (n : Nat) (s : State) : (passTime n s).sys = s.sys := rfl

@[simp] theorem reachAngle_sys (a : U16) (s : State) : (reachAngle a s).sys = s.sys := by
  rw [reachAngle]
  split <;> simp

@[simp] theorem reachHalf_sys (s : State) : (reachHalf s).sys = s.sys := by
  rw [reachHalf]
  split <;> simp

/-! ## The cycle boundary -/

section
variable {m : MainsMeas} {cut : Option MT} {s b : State} (hb : b = forRange 3 (phaseWatch m) (cycleStart s))
include hb

/-- In NAP only the calendar and the supervised inputs are looked at (R390). -/
theorem cycleSteps_of_nap (hn : b.sys.power = .nap) : cycleSteps m cut s = napSteps cut b := by
  subst hb
  exact if_pos (beq_iff_eq.mpr hn)

theorem cycleSteps_of_awake (hn : b.sys.power ≠ .nap) : cycleSteps m cut s =
    if !b.sys.restored then (b, 0)
    else if (cycleOutputs b).pr.swapDue then (swapBoundary (cycleOutputs b), 0)
    else cycleTail cut (cycleLoops (cycleHalf (cycleLand m cut.isSome (cycleOutputs b)))) := by
  subst hb
  exact if_neg (mt beq_iff_eq.mp hn)

/-- Before configuration restore the phases are watched and nothing more. -/
theorem cycleSteps_of_unrestored (hn : b.sys.power ≠ .nap) (hr : b.sys.restored = false) : cycleSteps m cut s = (b, 0) := by
  rw [cycleSteps_of_awake hb hn, if_pos (by simp [hr])]

/-- A swap that is due starts behind the outputs and takes the place of the boundary's other steps. -/
theorem cycleSteps_of_swap (hn : b.sys.power ≠ .nap) (hr : b.sys.restored = true) (hs : (cycleOutputs b).pr.swapDue = true) :
    cycleSteps m cut s = (swapBoundary (cycleOutputs b), 0) := by
  rw [cycleSteps_of_awake hb hn, if_neg (by simp [hr]), if_pos hs]

theorem cycleSteps_of_full (hn : b.sys.power ≠ .nap) (hr : b.sys.restored = true) (hs : (cycleOutputs b).pr.swapDue = false) :
    cycleSteps m cut s = cycleTail cut (cycleLoops (cycleHalf (cycleLand m cut.isSome (cycleOutputs b)))) := by
  rw [cycleSteps_of_awake hb hn, if_neg (by simp [hr]), if_neg (Bool.eq_false_iff.mp hs)]

end

/-- Without a seam no jumped interval stands before the calendar's step, and none behind it. -/
theorem cycleTail_none (s : State) :
    (cycleTail none s).1 = napBoundary (applySession (dueAtZero (timedAll (dispatchAll s)))) := rfl

theorem exec_cycleBoundary (m : MainsMeas) (s : State) (h : mtRuns s = true) :
    exec (.cycleBoundary m) s = .next (after s (cycleSteps m none (reachCycle s)).1) := by
  have hrow : cycleRow m s = (cycleSteps m none (reachCycle s)).1 := if_pos h
  rw [← hrow]
  exact on_after (cycleRow m) s (portOn_of_mtRuns h)

/-! ## The half-cycle boundary and the eighths of a cycle -/

theorem halfRow_of_nap {s : State} (h : mtRuns s = true) (hn : s.sys.power = .nap) :
    halfRow s = (napSteps none (reachHalf s)).1 := by
  simp [halfRow, h, hn]

theorem halfRow_of_unrestored {s : State} (h : mtRuns s = true) (hn : s.sys.power ≠ .nap) (hr : s.sys.restored = false) :
    halfRow s = reachHalf s := by
  simp [halfRow, h, hn, hr]

theorem halfRow_of_full {s : State} (h : mtRuns s = true) (hn : s.sys.power ≠ .nap) (hr : s.sys.restored = true) :
    halfRow s = dispatchAll (halfSteps (reachHalf s)) := by
  simp [halfRow, h, hn, hr]

theorem exec_halfCycleBoundary (s : State) (h : mtRuns s = true) : exec .halfCycleBoundary s = .next (after s (halfRow s)) :=
  on_after halfRow s (portOn_of_mtRuns h)

theorem eighthRow_of_run {s : State} (k : Nat) (h : mtRuns s = true) (hp : s.sys.power = .run) :
    eighthRow k s = takeCoils true (reachAngle (u16 (8192 * k)) s) := by
  simp [eighthRow, h, hp]

theorem exec_eighthCycleInstant (k : Fin 8) (s : State) (h : mtRuns s = true) :
    exec (.eighthCycleInstant k) s = .next (after s (eighthRow k.val s)) :=
  on_after (eighthRow k.val) s (portOn_of_mtRuns h)

/-- Settles O10: each boundary's row, run where MT runs, takes the steps of its power state, restore and swap (R24, R25, R181). -/
theorem boundarySteps : Obligations.BoundarySteps := by
  refine ⟨fun m s b h hb => ?_, fun s h => ?_, fun k s h hp => ?_⟩
  · rw [exec_cycleBoundary m s h]
    refine ⟨fun hn hr => ?_, fun hn => ?_, fun hn hr hs => ?_, fun hn hr hs => ?_⟩
    · rw [cycleSteps_of_unrestored hb hn hr]
    · rw [cycleSteps_of_nap hb hn]
    · rw [cycleSteps_of_swap hb hn hr hs]
    · rw [cycleSteps_of_full hb hn hr hs, cycleTail_none]
      rfl
  · rw [exec_halfCycleBoundary s h]
    refine ⟨fun hn hr => ?_, fun hn hr => ?_, fun hn => ?_⟩
    · rw [halfRow_of_full h hn hr]
    · rw [halfRow_of_unrestored h hn hr]
    · rw [halfRow_of_nap h hn]
  · rw [exec_eighthCycleInstant k s h, eighthRow_of_run k.val h hp]

end Sys2Proof.Machine
end

section
/-!
SUPPORT. The store, memory errors and the die bridge: journal commits and snapshots (16_nonvolatile.md R361, R366, R371), the digest
(21_commands.md R460), the patrol and what a read of a word finds (01_architecture.md R30 to R32), and the loss of the bridge (R18).
-/

namespace Sys2Proof.Machine

open Sys2Proof

/-! ## Journal, snapshot and digest -/

theorem journalCommitRow_of_fenced {s : State} (h : s.fenced = true) : journalCommitRow s = s := if_pos h

theorem journalCommitRow_of_open {s : State} (h : s.fenced = false) : journalCommitRow s = commitRecord s :=
  if_neg (Bool.eq_false_iff.mp h)

/-- A power-down that waits on the journal follows the commit (R371). -/
theorem cutIfDue_of_due {s : State} (h : s.sys.cutDue = true) : cutIfDue s = enterStandby 1 s := if_pos h

theorem cutIfDue_of_not_due {s : State} (h : s.sys.cutDue = false) : cutIfDue s = s := if_neg (Bool.eq_false_iff.mp h)

theorem exec_journalCommit (s : State) (h : portOn s = true) :
    exec .journalCommit s = .next (after s (cutIfDue (journalCommitRow s))) :=
  on_after (fun t => cutIfDue (journalCommitRow t)) s h

theorem snapshotRow_of_stopped {s : State} (h : s.fenced = true ∨ s.sys.restored = false) : snapshotRow s = s :=
  if_pos (by simpa using h)

theorem snapshotRow_of_open {s : State} (hf : s.fenced = false) (hr : s.sys.restored = true) :
    snapshotRow s = submit { typ := .snapDone, arg := 1 - s.nv.snapLatest } (writeSnapshot (snapshotNow s) s) :=
  if_neg (by simp [hf, hr])

theorem exec_snapshot (s : State) (h : portOn s = true) : exec .snapshot s = .next (after s (snapshotRow s)) :=
  on_after snapshotRow s h

theorem digestRecomputeRow_of_valid {s : State} (h : s.nv.digestValid = true) : digestRecomputeRow s = s := if_pos h

theorem digestRecomputeRow_of_invalid {s : State} (h : s.nv.digestValid = false) :
    digestRecomputeRow s = nvUpd (fun n => { n with digest := digestOf s, digestValid := true }) s :=
  if_neg (Bool.eq_false_iff.mp h)

theorem exec_digestRecompute (s : State) (h : portOn s = true) :
    exec .digestRecompute s = .next (after s (digestRecomputeRow s)) :=
  on_after digestRecomputeRow s h

/-! ## The die bridge -/

theorem bridgeLoss_of_lost {s : State} (h : s.sys.bridgeLost = true) : bridgeLoss s = s := if_pos (by simp [h])

theorem bridgeLoss_of_held {s : State} (hp : portOn s = true) (h : s.sys.bridgeLost = false) :
    bridgeLoss s = raise 2 0x10 [] (coilSafe true (sysUpd (fun y => { y with bridgeLost := true }) s)) :=
  if_neg (by simp [hp, h])

theorem exec_bridgeWatchdog (s : State) : exec .bridgeWatchdog s = .next (after s (bridgeLoss s)) := done_after s _

theorem exec_bridgeBadFrames (s : State) : exec .bridgeBadFrames s = .next (after s (bridgeLoss s)) := done_after s _

/-! ## The patrol and the reads of words -/

theorem patrolRow_of_stopped {s : State} (h : scrubs s = false) (res : EccResult) : patrolRow none res s = s :=
  if_pos (by simp [h])

/-- A clean word only moves the scrubber on, whichever region it lies in (R30). -/
theorem patrolRow_next_clean {s : State} (h : scrubs s = true) :
    patrolRow none .clean s = sysUpd (fun y => { y with scrub := (y.scrub + 1) % 2097152 }) s :=
  if_neg (by simp [h])

/-- A named word that is in storage, and not in transit, is read as any word is. -/
theorem patrolRow_of_storage {s : State} {r : Nat} (h : portOn s = true) (hr : r ≠ 17) (w : Nat) (res : EccResult) :
    patrolRow (some (r, w)) res s = wordRead r w res s := by
  simp [patrolRow, h, hr]

theorem exec_patrolScrub (found : Option (Nat × Nat)) (res : EccResult) (s : State) :
    exec (.patrolScrub found res) s = .next (after s (patrolRow found res s)) :=
  done_after s _

/-- Settles O40: each row of the store, the memories and the bridge, by the fence, the restore, the digest and the patrol's state. -/
theorem storeRows : Obligations.StoreRows := by
  refine ⟨fun s h => ?_, fun s => ?_⟩
  · rw [exec_journalCommit s h, exec_snapshot s h, exec_digestRecompute s h, exec_bridgeWatchdog, exec_bridgeBadFrames]
    refine ⟨fun hf hc => ?_, fun hf hc => ?_, fun hf hc => ?_, fun hs => ?_, fun hf hr => ?_, fun hd => ?_, fun hd => ?_,
      fun hl => ?_, fun hl => ?_, fun hl => ?_, fun hl => ?_⟩
    · rw [journalCommitRow_of_fenced hf, cutIfDue_of_not_due hc]
    · rw [journalCommitRow_of_open hf, cutIfDue_of_not_due hc]
    · rw [journalCommitRow_of_open hf, cutIfDue_of_due hc]
    · rw [snapshotRow_of_stopped hs]
    · rw [snapshotRow_of_open hf hr]
    · rw [digestRecomputeRow_of_valid hd]
    · rw [digestRecomputeRow_of_invalid hd]
    · rw [bridgeLoss_of_held h hl]
    · rw [bridgeLoss_of_held h hl]
    · rw [bridgeLoss_of_lost hl]
    · rw [bridgeLoss_of_lost hl]
  · refine ⟨fun hs res => ?_, fun hs => ?_, fun r w h hr => ?_, fun r w h hr => ?_⟩
    · rw [exec_patrolScrub, patrolRow_of_stopped hs]
    · rw [exec_patrolScrub, patrolRow_next_clean hs]
    · rw [exec_patrolScrub, patrolRow_of_storage h hr]
      rfl
    · rw [exec_patrolScrub, patrolRow_of_storage h hr]
      rfl

end Sys2Proof.Machine
end

section
/-!
SUPPORT. The tracker of Mains Time (02_mains_time.md R36 to R40, R43 to R45): what its three timeouts do, and what a crossing does in
each of its states.
-/

namespace Sys2Proof.Machine

open Sys2Proof

/-! ## The timeouts -/

theorem crossingTimeoutRow_of_lock {s : State} {f : Nat} (h : s.mt.state = .lock)
    (hf : f = if s.mt.last8.isEmpty then s.mt.freq else freqOf (sumNat s.mt.last8) s.mt.last8.length) :
    crossingTimeoutRow s = mainsEvent 0x20 [efMT s.mt.lastValid, ef 4 f]
      (mtUpd (fun m => { m with state := .ride, freq := f, slew := 0, seam := none, newRef := false, run := [] }) s) := by
  subst hf
  unfold crossingTimeoutRow
  split
  · rfl
  · next hne => exact absurd h hne

/-- Outside LOCK a gap only ends the run of crossings. -/
theorem crossingTimeoutRow_of_not_lock {s : State} (h : s.mt.state ≠ .lock) :
    crossingTimeoutRow s = mtUpd (fun m => { m with run := [] }) s := by
  unfold crossingTimeoutRow
  split
  · next hl => exact absurd hl h
  · rfl

theorem acquireTimeoutRow_of_acquire {s : State} (h : s.mt.state = .acquire) : acquireTimeoutRow s =
    if 2 ≤ s.mt.last8.length then startMT (freqOf (sumNat s.mt.last8) s.mt.last8.length) .ride s
    else startMT s.nomFreq .synth s := by
  unfold acquireTimeoutRow
  split
  · rfl
  · next hne => exact absurd h hne

theorem acquireTimeoutRow_of_not_acquire {s : State} (h : s.mt.state ≠ .acquire) : acquireTimeoutRow s = s := by
  unfold acquireTimeoutRow
  split
  · next ha => exact absurd ha h
  · rfl

theorem rideTimeoutRow_of_ride {s : State} (h : s.mt.state = .ride) : rideTimeoutRow s =
    mainsEvent 0x21 [ef 4 s.nomFreq] (mtUpd (fun m => { m with state := .synth, toNominal := true }) s) := by
  unfold rideTimeoutRow
  split
  · rfl
  · next hne => exact absurd h hne

theorem rideTimeoutRow_of_not_ride {s : State} (h : s.mt.state ≠ .ride) : rideTimeoutRow s = s := by
  unfold rideTimeoutRow
  split
  · next hr => exact absurd hr h
  · rfl

theorem exec_crossingTimeout {s : State} (h : mainRuns s = true) :
    exec .crossingTimeout s = .next (after s (crossingTimeoutRow s)) :=
  main_after crossingTimeoutRow s h

theorem exec_acquireTimeout {s : State} (h : mainRuns s = true) :
    exec .acquireTimeout s = .next (after s (acquireTimeoutRow s)) :=
  main_after acquireTimeoutRow s h

theorem exec_rideTimeout {s : State} (h : mainRuns s = true) : exec .rideTimeout s = .next (after s (rideTimeoutRow s)) :=
  main_after rideTimeoutRow s h

/-- Settles O8: each timeout acts in the one state of the tracker that it is for; elsewhere CROSSING_TIMEOUT empties the run and the
other two do nothing (R38, R40). -/
theorem mainsTimeouts : Obligations.MainsTimeouts := by
  intro s hm
  rw [exec_crossingTimeout hm, exec_acquireTimeout hm, exec_rideTimeout hm]
  refine ⟨fun hl => ?_, fun hl => ?_, fun ha h2 => ?_, fun ha h2 => ?_, fun ha => ?_, fun hr => ?_, fun hr => ?_⟩
  · rw [crossingTimeoutRow_of_lock hl rfl]
    rfl
  · rw [crossingTimeoutRow_of_not_lock hl]
    rfl
  · rw [acquireTimeoutRow_of_acquire ha, if_pos h2]
    rfl
  · rw [acquireTimeoutRow_of_acquire ha, if_neg (Nat.not_le.mpr h2)]
    rfl
  · rw [acquireTimeoutRow_of_not_acquire ha]
  · rw [rideTimeoutRow_of_ride hr]
    rfl
  · rw [rideTimeoutRow_of_not_ride hr]

/-! ## What a crossing leaves as it is -/

@[simp] theorem reachAngle_state (a : U16) (s : State) : (reachAngle a s).mt.state = s.mt.state := by
  rw [reachAngle]
  split <;> rfl

theorem reachAngle_of_stopped {s : State} (a : U16) (h : s.mt.started = false) : reachAngle a s = s :=
  if_neg (by simp [h])

/-- Before MT runs there is no angle, and so no phase error. -/
theorem noteCrossing_of_stopped {s : State} (interval : Nat) (a : U16) (h : s.mt.started = false) : noteCrossing interval a s =
    mtUpd (fun m => { m with lastValid := m.now, last8 := (interval :: m.last8).take 8 }) s := by
  rw [noteCrossing]
  simp [mtUpd, h]

/-- CONFIRM is configuration, which a crossing does not touch. -/
@[simp] theorem consistent_noteCrossing (interval : Nat) (a : U16) (s : State) (run : List Nat) :
    consistent (noteCrossing interval a s) run = consistent s run := rfl

/-! ## A valid crossing in each state -/

theorem crossingInAcquire_of_short {s : State} {interval : Nat} (a : U16) (hs : s.mt.started = false)
    (hc : consistent s (longerRun interval s) = false) : crossingInAcquire interval a s =
    { s with mt := { s.mt with
      run := longerRun interval s, last8 := (interval :: s.mt.last8).take 8, lastValid := s.mt.now } } := by
  rw [crossingInAcquire, consistent_noteCrossing, hc, noteCrossing_of_stopped interval a hs]
  rfl

theorem crossingInAcquire_of_consistent {s : State} {interval : Nat} (a : U16) (hs : s.mt.started = false)
    (hc : consistent s (longerRun interval s) = true) : crossingInAcquire interval a s =
    { s with mt := { s.mt with
      started := true, now := {}, first := true, state := .lock, run := [], last8 := (interval :: s.mt.last8).take 8
      freq := runFreq s (longerRun interval s), lastValid := {} } } := by
  rw [crossingInAcquire, consistent_noteCrossing, hc, noteCrossing_of_stopped interval a hs]
  rfl

/-- A crossing outside the gate of LOCK is a phase hit, and nothing else. -/
theorem crossingInLock_of_hit {s : State} {a : U16} (interval : Nat) (hn : s.mt.newRef = false) (hg : inGate s a = false) :
    crossingInLock interval a s = (mtUpd (fun m => { m with phaseHits := sat32 m.phaseHits }) s, false) := by
  simp [crossingInLock, hn, hg]

theorem crossingInLock_of_gate {s : State} {a : U16} (interval : Nat) (hn : s.mt.newRef = false) (hg : inGate s a = true) :
    crossingInLock interval a s = (lockCrossing interval a (noteCrossing interval a s), s.mt.seam.isSome) := by
  simp [crossingInLock, hn, hg]

theorem crossingInRide_of_consistent {s : State} {interval : Nat} (a : U16)
    (hc : consistent (noteCrossing interval a s) (longerRun interval s) = true) : crossingInRide interval a s =
    relock a (mtUpd (fun m => { m with
      freq := runFreq (noteCrossing interval a s) (longerRun interval s), run := [], toNominal := false })
      (noteCrossing interval a s)) :=
  if_pos hc

theorem crossingInvalid_of_lock {s : State} (h : s.mt.state = .lock) : crossingInvalid s = s := if_pos (by simp [h])

theorem crossingInvalid_of_not_lock {s : State} (h : s.mt.state ≠ .lock) :
    crossingInvalid s = mtUpd (fun m => { m with run := [] }) s :=
  if_neg (by simp [h])

/-! ## A crossing outside a seam -/

/-- Only the reference phase moves the tracker. -/
theorem crossingStep_of_other_phase {phase : Nat} {s : State} (interval amp : Nat) (a : U16) (h : phase ≠ mtRef s) :
    crossingStep phase interval amp a s = (s, false) :=
  if_pos (.inl h)

section
variable {phase interval amp : Nat} {a : U16} {s b : State} (href : phase = mtRef s) (hb : reachAngle a s = b)
include href

/-- SYNTH_ONLY ignores the mains in SYNTH alone (R57). -/
theorem reference_not_ignored (hs : s.mt.state ≠ .synth) :
    ¬ (phase ≠ mtRef s ∨ (mlIgnored s && s.mt.state == .synth) = true) := by
  simp [href, hs]

include hb

theorem crossingStep_of_invalid (hs : s.mt.state ≠ .synth) (hv : validCrossing b interval amp = false) :
    crossingStep phase interval amp a s = (crossingInvalid b, false) := by
  subst hb
  rw [crossingStep, if_neg (reference_not_ignored href hs)]
  exact if_pos (by simp [hv])

theorem crossingStep_in_lock (hs : s.mt.state = .lock) (hv : validCrossing b interval amp = true) :
    crossingStep phase interval amp a s = crossingInLock interval a b := by
  subst hb
  rw [crossingStep, if_neg (reference_not_ignored href (by simp [hs]))]
  simp [hv, hs]

theorem crossingStep_in_acquire (hs : s.mt.state = .acquire) (hv : validCrossing b interval amp = true) :
    crossingStep phase interval amp a s = (crossingInAcquire interval a b, false) := by
  subst hb
  rw [crossingStep, if_neg (reference_not_ignored href (by simp [hs]))]
  simp [hv, hs]

theorem crossingStep_in_ride (hs : s.mt.state = .ride) (hv : validCrossing b interval amp = true) :
    crossingStep phase interval amp a s = (crossingInRide interval a b, false) := by
  subst hb
  rw [crossingStep, if_neg (reference_not_ignored href (by simp [hs]))]
  simp [hv, hs]

end

/-! ## CROSSING -/

section
variable {phase : Fin 3} {interval amp : Nat} {a : U16} {m : MainsMeas} {s u : State} (hp : portOn s = true)
  (hr : s.sys.recovery = false)
include hp hr

theorem exec_crossing {seam : Bool} (h : crossingStep phase.val interval amp a s = (u, seam)) :
    exec (.crossing phase interval amp a m) s = .next (after s (if seam then seamBoundary m u else u)) := by
  have hrow : crossingRow phase.val interval amp a m s = if seam then seamBoundary m u else u := by
    simp [crossingRow, hp, hr, h]
  rw [← hrow]
  exact on_after (crossingRow phase.val interval amp a m) s hp

theorem exec_crossing_without_seam (h : crossingStep phase.val interval amp a s = (u, false)) :
    exec (.crossing phase interval amp a m) s = .next (after s u) :=
  exec_crossing hp hr h

theorem exec_crossing_at_seam (h : crossingStep phase.val interval amp a s = (u, true)) :
    exec (.crossing phase interval amp a m) s = .next (after s (seamBoundary m u)) :=
  exec_crossing hp hr h

end

/-- Settles O9: a crossing of another phase does nothing, and one of the reference phase does what the tracker's state, its validity,
the gate and the run say (R36 to R38, R40, R43 to R45). -/
theorem crossingLocks : Obligations.CrossingLocks := by
  intro phase interval amp angle m s hp hr
  refine ⟨fun hne => ?_, fun href ha hs hv => ?_, fun href ha hs hv hc => ?_, fun href ha hs hv hc => ?_,
    fun b href hl hb => ⟨fun hv => ?_, fun hv hn hg => ?_, fun hv hn hg hseam => ?_, fun hv hn hg hseam => ?_⟩,
    fun b href hri hb => ⟨fun hv => ?_, fun hv hc => ?_⟩⟩
  · exact exec_crossing_without_seam hp hr (crossingStep_of_other_phase interval amp angle hne)
  · refine exec_crossing_without_seam hp hr ?_
    rw [crossingStep_of_invalid href (reachAngle_of_stopped angle hs) (by simp [ha]) hv, crossingInvalid_of_not_lock (by simp [ha])]
    rfl
  · refine exec_crossing_without_seam hp hr ?_
    rw [crossingStep_in_acquire href (reachAngle_of_stopped angle hs) ha hv, crossingInAcquire_of_short angle hs hc]
    rfl
  · refine exec_crossing_without_seam hp hr ?_
    rw [crossingStep_in_acquire href (reachAngle_of_stopped angle hs) ha hv, crossingInAcquire_of_consistent angle hs hc]
    rfl
  · refine exec_crossing_without_seam hp hr ?_
    rw [crossingStep_of_invalid href hb.symm (by simp [hl]) hv, crossingInvalid_of_lock (by simp [hb, hl])]
  · refine exec_crossing_without_seam hp hr ?_
    rw [crossingStep_in_lock href hb.symm hl hv, crossingInLock_of_hit interval hn hg]
  · refine exec_crossing_without_seam hp hr ?_
    rw [crossingStep_in_lock href hb.symm hl hv, crossingInLock_of_gate interval hn hg, hseam, Option.isSome_none]
  · refine exec_crossing_at_seam hp hr ?_
    rw [crossingStep_in_lock href hb.symm hl hv, crossingInLock_of_gate interval hn hg, hseam]
  · refine exec_crossing_without_seam hp hr ?_
    rw [crossingStep_of_invalid href hb.symm (by simp [hri]) hv, crossingInvalid_of_not_lock (by simp [hb, hri])]
  · refine exec_crossing_without_seam hp hr ?_
    rw [crossingStep_in_ride href hb.symm hri hv, crossingInRide_of_consistent angle hc]

end Sys2Proof.Machine
end

section
/-!
SUPPORT. The calendar's own rows (02_mains_time.md R48, R49, R52 to R56): the dispatch of MT-keyed entries at an angle, and of the
first timed command that is due.
-/

namespace Sys2Proof.Machine

open Sys2Proof

theorem exitNap_of_awake {s : State} (h : s.sys.power ≠ .nap) : exitNap s = s := if_pos (bne_iff_ne.mpr h)

/-! ## CALENDAR_DISPATCH -/

theorem exec_calendarDispatch (a : U16) {s : State} (h : mtRuns s = true) :
    exec (.calendarDispatch a) s = .next (after s (calendarRow a s)) :=
  on_after (calendarRow a) s (portOn_of_mtRuns h)

theorem calendarRow_of_idle {a : U16} {s : State} (h : mtRuns s = true) (hd : dueEntry (reachAngle a s) = none) :
    calendarRow a s = reachAngle a s := by
  simp [calendarRow, h, hd]

theorem calendarRow_of_due {a : U16} {s : State} (h : mtRuns s = true) (hd : dueEntry (reachAngle a s) ≠ none) :
    calendarRow a s = dispatchAll (exitNap (reachAngle a s)) := by
  simp [calendarRow, h, Option.isSome_iff_ne_none, hd]

/-! ## TIMED_COMMAND_DISPATCH -/

theorem exec_timedCommandDispatch {s : State} (h : mtRuns s = true) :
    exec .timedCommandDispatch s = .next (after s (timedRow s)) :=
  on_after timedRow s (portOn_of_mtRuns h)

theorem timedRow_of_idle {s : State} (h : mtRuns s = true) (hd : dueTimed s = none) : timedRow s = s := by
  simp [timedRow, h, hd]

theorem timedRow_of_due {s : State} {e : CalEntry} {u : Nat} (h : mtRuns s = true) (hn : s.sys.power ≠ .nap)
    (hd : dueTimed s = some (e, u)) : timedRow s = dispatchTimed e u s := by
  simp [timedRow, h, hd, exitNap_of_awake hn]

@[simp] theorem calRemove_duty (e : CalEntry) (s : State) : (calRemove e s).duty = s.duty := rfl
@[simp] theorem calRemove_rtc (e : CalEntry) (s : State) : (calRemove e s).rtc = s.rtc := rfl
@[simp] theorem calRemove_nomFreq (e : CalEntry) (s : State) : (calRemove e s).nomFreq = s.nomFreq := rfl

section
variable {s : State} {e : CalEntry} {u maxLate op b5 : Nat} {p : List Byte} (hj : e.job = .timed maxLate op b5 p)
include hj

/-- Without duty a timed command is discarded and counted, however late it is (R56). -/
theorem dispatchTimed_of_no_duty (hd : s.duty = false) :
    dispatchTimed e u s = mtUpd (fun m => { m with timedStandby := sat32 m.timedStandby }) (calRemove e s) := by
  simp [dispatchTimed, hj, hd]

/-- One later than MAX_LATE seconds is discarded with its event; MAX_LATE 0 discards none (R52). -/
theorem dispatchTimed_of_expired (hd : s.duty = true) (hl : maxLate ≠ 0 ∧ maxLate * 32768 < s.rtc.corrUtc - u) :
    dispatchTimed e u s = raise 2 0x26 [ef 2 e.handle, ef 8 u, ef 4 ((s.rtc.corrUtc - u) / 32768)] (calRemove e s) := by
  simp [dispatchTimed, hj, hd, hl]

/-- One that is at most two nominal cycles late is executed, and not counted as late (R49, R54). -/
theorem dispatchTimed_of_on_time (hd : s.duty = true) (hl : ¬ (maxLate ≠ 0 ∧ maxLate * 32768 < s.rtc.corrUtc - u))
    (hc : (s.rtc.corrUtc - u) * s.nomFreq ≤ 65536000) : dispatchTimed e u s = runTimed e.handle op b5 p (calRemove e s) := by
  have hc' : ¬ 65536000 < ((calRemove e s).rtc.corrUtc - u) * (calRemove e s).nomFreq := Nat.not_lt.mpr hc
  unfold dispatchTimed
  simp only [hj]
  rw [if_neg (by simp [hd]), if_neg (by simpa using hl), decide_eq_false hc']
  rfl

end

/-- Settles O11: CALENDAR_DISPATCH by whether an entry is due at the angle, TIMED_COMMAND_DISPATCH by whether a command is due, by
duty and by how late it is (R48, R49, R52, R54, R56). -/
theorem calendarRows : Obligations.CalendarRows := by
  refine ⟨fun a s h => ?_, fun s h hd => ?_, fun s e u maxLate op b5 p h hn hd hj => ?_⟩
  · rw [exec_calendarDispatch a h]
    refine ⟨fun hd => ?_, fun hd => ?_⟩
    · rw [calendarRow_of_idle h hd]
    · rw [calendarRow_of_due h hd]
  · rw [exec_timedCommandDispatch h, timedRow_of_idle h hd]
  · rw [exec_timedCommandDispatch h, timedRow_of_due h hn hd]
    refine ⟨fun hq => ?_, fun hq h0 hl => ?_, fun hq hl hc => ?_⟩
    · rw [dispatchTimed_of_no_duty hj hq]
    · rw [dispatchTimed_of_expired hj hq ⟨h0, hl⟩]
    · rw [dispatchTimed_of_on_time hj hq hl hc]

end Sys2Proof.Machine
end

section
/-!
SUPPORT. The cards of Mains Time and of the point store (02_mains_time.md R60, 03_point_store.md R87): the card of each opcode, what
its body does where its checks hold, and what it refuses.
-/

namespace Sys2Proof.Machine

open Sys2Proof

/-! ## The cards of the opcodes (R456) -/

@[simp] theorem act_body (op n : Nat) (b : Origin → Nat → List Byte → State → State × Res) : (act op n b).body = b := rfl
@[simp] theorem jcard_body (op : Nat) (need : Nat → List Byte → Nat) (b : Origin → Nat → List Byte → State → State × Res) :
    (jcard op need b).body = b := rfl
@[simp] theorem mtCard_body (known : Nat → Bool) : (mtCard known).body = cardMtTimed known := rfl

theorem cardOf_mtSetCfg : cardOf 0x0200 = some (jcard 0x0200 (fixed 16) cardMtSetCfg) := rfl
theorem cardOf_mtGetStatus : cardOf 0x0201 = some (act 0x0201 0 cardMtStatus) := rfl
theorem cardOf_mtTimed : cardOf 0x0202 = some (mtCard embeddable) := rfl
theorem cardOf_mtCancel : cardOf 0x0203 = some (act 0x0203 2 cardMtCancel) := rfl
theorem cardOf_ptRead : cardOf 0x0300 = some (act 0x0300 8 cardPtRead) := rfl
theorem cardOf_ptWrite : cardOf 0x0301 = some (act 0x0301 12 cardPtWrite) := rfl
theorem cardOf_paWrite : cardOf 0x0302 = some (act 0x0302 12 cardPaWrite) := rfl
theorem cardOf_paRead : cardOf 0x0303 = some (act 0x0303 4 cardPaRead) := rfl
theorem cardOf_paShadows : cardOf 0x0304 = some (act 0x0304 4 cardPaShadows) := rfl

section
variable {org : Origin} {l : Nat} {p : List Byte} {t : State}

/-! ## Mains Time -/

theorem cardMtSetCfg_ranged (hk : keeps mtFields (le p 0 16) = true) (hf : flag (le p 0 16) (5 + fld (le p 0 16) 2 2) = true) :
    cardMtSetCfg org l p t =
      if (fld (le p 0 16) 0 4 != fld (cfgImg t Kind.mt 0) 0 4 && !allNormal t) = true then (t, .no St.busy 0)
      else journalArg org true 0 [wr Kind.mt 0 (le p 0 16)] [] t := by
  unfold cardMtSetCfg
  exact ranged_ok _ _ _ (by simp [allOk_mapped, hk, hf])

/-- An embedded command that passes the checks of MT_TIMED is filed in the calendar, which may have no place for it (R52). -/
theorem cardMtTimed_checked {known : Nat → Bool} (hl : le p 18 2 = (p.drop 28).length) (h980 : (p.drop 28).length ≤ 980)
    (hc : le p 24 4 = crc32 (p.drop 28)) (hk : known (le p 12 2) = true) (hu : le p 0 8 ≤ t.rtc.utc + 400 * 86400 * 32768)
    (hz : zeroed p 10 2 = true) : cardMtTimed known org l p t =
      (calInsert (.utc (le p 0 8)) (.timed (le p 8 2) (le p 12 2) (le p 17 1) (p.drop 28)) t).elim (t, .no St.noResource 0)
        (fun x => (x.2, .ok (leBytes 2 x.1))) := by
  unfold cardMtTimed
  dsimp only
  rw [if_neg (not_or.mpr ⟨not_not.mpr hl, Nat.not_lt.mpr h980⟩), if_neg (not_not.mpr hc), if_neg (by simp [hk]),
    ranged_ok _ _ _ (by simp [allOk_zero, hu, hz])]
  cases calInsert (.utc (le p 0 8)) (.timed (le p 8 2) (le p 12 2) (le p 17 1) (p.drop 28)) t <;> rfl

theorem cardMtCancel_of_found {e : CalEntry} (h : calFind t (le p 0 2) = some e) :
    cardMtCancel org l p t = (calRemove e t, .ok []) := by
  simp [cardMtCancel, h]

theorem cardMtCancel_of_absent (h : calFind t (le p 0 2) = none) : cardMtCancel org l p t = (t, .no St.notPending 0) := by
  simp [cardMtCancel, h]

/-! ## Points -/

theorem cardPtRead_ranged (hf : le p 0 4 ≤ 131071) (hc : 1 ≤ le p 4 2 ∧ le p 4 2 ≤ 62) (hs : le p 0 4 + le p 4 2 ≤ 131072)
    (hz : zeroed p 6 2 = true) : cardPtRead org l p t =
      (t, .ok (leBytes 2 (le p 4 2) ++ (List.range (le p 4 2)).flatMap (fun i => ptReadBytes t (le p 0 4 + i)))) := by
  unfold cardPtRead
  exact ranged_ok _ _ _ (by simp [allOk_zero, hf, hc, hs, hz])

section
variable (hn : le p 0 4 ≤ 131071) (hz : zeroed p 9 3 = true)
include hn hz

theorem cardPtWrite_of_no_duty (ha : le p 8 1 ≤ 3) (hd : t.duty = false) : cardPtWrite org l p t = (t, .no St.role 0) := by
  unfold cardPtWrite
  dsimp only
  rw [ranged_ok _ _ _ (by simp [allOk_zero, hn, ha, hz]), if_pos (by simp [hd])]

variable (hd : t.duty = true) (hc : ptConfigured t (le p 0 4) = true) (hq : (t.point (le p 0 4)).quarantined = false)
include hd hc hq

/-- ACT 0 writes the VALUE of a local point that is not commandable (R87). -/
theorem cardPtWrite_value (ha : le p 8 1 = 0) (hw : (ptKind t (le p 0 4) == 0 && !ptCommandable t (le p 0 4)) = true)
    (hf : fitsFormat (ptFormat t (le p 0 4)) (u32 (le p 4 4)) = true) : cardPtWrite org l p t =
      (updatePoint (le p 0 4) false {} (fun q => { q with value := u32 (le p 4 4), fault := false, stale := false }) t, .ok []) := by
  unfold cardPtWrite
  dsimp only
  rw [ranged_ok _ _ _ (by simp [allOk_zero, hn, ha, hz])]
  simp [ha, hd, hc, hq, hw, hf]

/-- ACT 1 and ACT 2 set and clear OUT_OF_SERVICE (R71). -/
theorem cardPtWrite_oos {on : Bool} (ha : le p 8 1 = if on then 1 else 2) :
    cardPtWrite org l p t = (setOos (le p 0 4) on t, .ok []) := by
  unfold cardPtWrite
  dsimp only
  cases on <;> (rw [ranged_ok _ _ _ (by simp [allOk_zero, hn, ha, hz])]; simp [ha, hd, hc, hq])

/-- ACT 3 writes the VALUE of a point that is out of service (R71). -/
theorem cardPtWrite_held_value (ha : le p 8 1 = 3) (ho : (t.point (le p 0 4)).oos = true)
    (hf : fitsFormat (ptFormat t (le p 0 4)) (u32 (le p 4 4)) = true) : cardPtWrite org l p t =
      (markDirty 6 (2 ^ 24 + le p 0 4) (updatePoint (le p 0 4) false {} (fun q => { q with value := u32 (le p 4 4) }) t), .ok []) := by
  unfold cardPtWrite
  dsimp only
  rw [ranged_ok _ _ _ (by simp [allOk_zero, hn, ha, hz])]
  simp [ha, hd, hc, hq, ho, hf]

end

/-! ## Priority arrays -/

section
variable (hn : le p 0 4 ≤ 131071) (hpri : 1 ≤ le p 8 1 ∧ le p 8 1 ≤ 16) (hfl : le p 9 1 ≤ 3) (hz : zeroed p 10 2 = true)
  (hd : t.duty = true)
include hn hpri hfl hz hd

theorem cardPaWrite_of_not_commandable (hc : (ptConfigured t (le p 0 4) && ptCommandable t (le p 0 4)) = false) :
    cardPaWrite org l p t = (t, .no St.notCommandable 0) := by
  unfold cardPaWrite
  dsimp only
  rw [ranged_ok _ _ _ (by simp [allOk_zero, hn, hpri, hfl, hz]), if_neg (by simp [hd]), if_pos (by simp [hc])]

variable {cls : WClass} (hcls : cls = if le p 9 1 / 2 % 2 = 1 then WClass.network else WClass.host)
  (hc : (ptConfigured t (le p 0 4) && ptCommandable t (le p 0 4)) = true)
  (hq : (!ptRemote t (le p 0 4) && (t.pts.arr.get (ptArray t (le p 0 4))).quarantined) = false)
include hcls hc hq

theorem cardPaWrite_of_reserved (hw : mayWrite cls false (le p 8 1) = false) :
    cardPaWrite org l p t = (t, .no St.priorityReserved 0) := by
  subst hcls
  unfold cardPaWrite
  dsimp only
  rw [ranged_ok _ _ _ (by simp [allOk_zero, hn, hpri, hfl, hz]), if_neg (by simp [hd]), if_neg (by simp [hc]), if_neg (by simp [hq]),
    if_pos (by simp [hw])]

/-- A write that passes its checks goes to the arbiter; only a local point has taken it by then (R72). -/
theorem cardPaWrite_arbitrates (hw : mayWrite cls false (le p 8 1) = true)
    (hf : (!(le p 9 1 % 2 == 1) && !fitsFormat (ptFormat t (le p 0 4)) (u32 (le p 4 4))) = false) :
    cardPaWrite org l p t = (arbApply (le p 0 4) (le p 8 1) cls 0 (le p 9 1 % 2 == 1) (u32 (le p 4 4)) t,
      .done (if ptRemote t (le p 0 4) then St.accepted else St.ok) 0 []) := by
  subst hcls
  unfold cardPaWrite
  dsimp only
  rw [ranged_ok _ _ _ (by simp [allOk_zero, hn, hpri, hfl, hz]), if_neg (by simp [hd]), if_neg (by simp [hc]), if_neg (by simp [hq]),
    if_neg (by simp [hw]), if_neg (by simp [hf])]

end

theorem cardPaRead_of_local (hn : le p 0 4 ≤ 131071) (hc : ptLocalCmd t (le p 0 4) = true)
    (hq : (t.pts.arr.get (ptArray t (le p 0 4))).quarantined = false) : cardPaRead org l p t =
      (t, .ok (leBytes 128 (arrayImage t (ptArray t (le p 0 4))) ++ leBytes 4 (t.ptView (le p 0 4)).value.toNat)) := by
  unfold cardPaRead
  dsimp only
  rw [ranged_ok _ _ _ (by simp [hn]), if_neg (by simp [hc]), if_neg (by simp [hq])]

theorem cardPaShadows_ranged (hf : le p 0 2 ≤ 8191) (hc : 1 ≤ le p 2 2 ∧ le p 2 2 ≤ 62) (hs : le p 0 2 + le p 2 2 ≤ 8192) :
    cardPaShadows org l p t =
      (t, .ok (leBytes 2 (le p 2 2) ++ leBytes 2 (t.pts.shadow.filter (fun e => e.2.valid)).length ++
        (List.range (le p 2 2)).flatMap (fun i => leBytes 16 (shadowImage (t.pts.shadow.get (le p 0 2 + i)))))) := by
  unfold cardPaShadows
  exact ranged_ok _ _ _ (by simp [hf, hc, hs])

end

/-- Settles O49: each card, taken at once, by the checks that its fields, the duty and the point pass (R51, R52, R54, R59, R60, R71,
R72, R87). -/
theorem mainsAndPointCards : Obligations.MainsAndPointCards := by
  intro r p s t
  refine ⟨?_, ?_, ?_, ?_, ?_, ?_, ?_, ?_, ?_, ?_, ?_, ?_, ?_, ?_, ?_, ?_, ?_, ?_, ?_⟩
  · rintro x h rfl hk hf hb hr
    refine takes_recorded _ cardOf_mtSetCfg (by decide) h hr ?_
    rw [jcard_body, cardMtSetCfg_ranged hk hf, if_neg (by simp [hb])]
  · rintro x h rfl hk hf hb
    refine takes_no _ cardOf_mtSetCfg (by decide) h (by decide) ?_
    rw [jcard_body, cardMtSetCfg_ranged hk hf, if_pos hb, Res.no]
  · rintro m h rfl
    exact takes_ok _ cardOf_mtGetStatus (by decide) h rfl
  · rintro utc op body handle u h rfl rfl rfl hl h980 hc hk hu hz hi
    refine takes_ok _ cardOf_mtTimed (by decide) h ?_
    rw [mtCard_body, cardMtTimed_checked hl h980 hc hk hu hz, hi, Option.elim_some]
  · rintro utc op body h rfl rfl rfl hl h980 hc hk hu hz hi
    refine takes_no _ cardOf_mtTimed (by decide) h (by decide) ?_
    rw [mtCard_body, cardMtTimed_checked hl h980 hc hk hu hz, hi, Option.elim_none, Res.no]
  · intro e h he
    refine takes_ok _ cardOf_mtCancel (by decide) h ?_
    rw [act_body, cardMtCancel_of_found he]
  · intro h he
    refine takes_no _ cardOf_mtCancel (by decide) h (by decide) ?_
    rw [act_body, cardMtCancel_of_absent he, Res.no]
  · rintro first count h rfl rfl hf hc hs hz
    refine takes_ok _ cardOf_ptRead (by decide) h ?_
    rw [act_body, cardPtRead_ranged hf hc hs hz]
  · rintro pn v h rfl rfl hn ha hz hd hc hw hq hf
    refine takes_ok _ cardOf_ptWrite (by decide) h ?_
    rw [act_body, cardPtWrite_value hn hz hd hc hq ha hw hf]
  · rintro pn h rfl hn ha hz hd hc hq
    refine takes_ok _ cardOf_ptWrite (by decide) h ?_
    rw [act_body, cardPtWrite_oos (on := true) hn hz hd hc hq ha]
  · rintro pn h rfl hn ha hz hd hc hq
    refine takes_ok _ cardOf_ptWrite (by decide) h ?_
    rw [act_body, cardPtWrite_oos (on := false) hn hz hd hc hq ha]
  · rintro pn v h rfl rfl hn ha hz hd hc ho hq hf
    refine takes_ok _ cardOf_ptWrite (by decide) h ?_
    rw [act_body, cardPtWrite_held_value hn hz hd hc hq ha ho hf]
  · intro h hn ha hz hd
    refine takes_no _ cardOf_ptWrite (by decide) h (by decide) ?_
    rw [act_body, cardPtWrite_of_no_duty hn hz ha hd, Res.no]
  · rintro pn v pri fl cls h rfl rfl rfl rfl hcls hn hpri hfl hz hd hc hrem hq hw hf
    refine takes_ok _ cardOf_paWrite (by decide) h ?_
    rw [act_body, cardPaWrite_arbitrates hn hpri hfl hz hd hcls hc (by simp [hq]) hw hf, hrem]
    rfl
  · rintro pn v pri fl cls h rfl rfl rfl rfl hcls hn hpri hfl hz hd hc hrem hw hf
    refine takes_accepted _ cardOf_paWrite (by decide) h ?_
    rw [act_body, cardPaWrite_arbitrates hn hpri hfl hz hd hcls hc (by simp [hrem]) hw hf, hrem, if_pos rfl]
  · rintro pn pri fl h rfl rfl rfl hn hpri hfl hz hd hc
    refine takes_no _ cardOf_paWrite (by decide) h (by decide) ?_
    rw [act_body, cardPaWrite_of_not_commandable hn hpri hfl hz hd hc, Res.no]
  · rintro pn pri fl cls h rfl rfl rfl hcls hn hpri hfl hz hd hc hq hw
    refine takes_no _ cardOf_paWrite (by decide) h (by decide) ?_
    rw [act_body, cardPaWrite_of_reserved hn hpri hfl hz hd hcls hc hq hw, Res.no]
  · rintro pn h rfl hn hc hq
    refine takes_ok _ cardOf_paRead (by decide) h ?_
    rw [act_body, cardPaRead_of_local hn hc hq]
  · rintro first count h rfl rfl hf hc hs
    refine takes_ok _ cardOf_paShadows (by decide) h ?_
    rw [act_body, cardPaShadows_ranged hf hc hs]

end Sys2Proof.Machine
end

section
/-!
SUPPORT. The priority array (03_point_store.md R75): which priority wins, and what a resolution of a local commandable point does to
its array and to its point.
-/

namespace Sys2Proof.Machine

open Sys2Proof

/-! ## The winning priority -/

/-- The priorities are searched in ascending order, so the first that is found is the lowest. -/
theorem activePri_eq_find (a : PArray) :
    activePri a = ((List.range' 1 16).find? (fun p => a.notNull.get p)).getD 0 := rfl

theorem activePri_of_lowest {a : PArray} {q : Nat} (h1 : 1 ≤ q) (h16 : q ≤ 16) (hq : a.notNull.get q = true)
    (hlow : ∀ k, 1 ≤ k → k < q → a.notNull.get k = false) : activePri a = q := by
  have hfind : (List.range' 1 16).find? (fun p => a.notNull.get p) = some q := by
    rw [List.find?_range'_eq_some]
    exact ⟨hq, List.mem_range'_1.mpr ⟨h1, by omega⟩, fun k hk hkq => by simp [hlow k hk hkq]⟩
  rw [activePri_eq_find, hfind, Option.getD_some]

theorem activePri_of_all_null {a : PArray} (h : ∀ k, 1 ≤ k → k ≤ 16 → a.notNull.get k = false) : activePri a = 0 := by
  have hfind : (List.range' 1 16).find? (fun p => a.notNull.get p) = none := by
    rw [List.find?_range'_eq_none]
    exact fun k hk h17 => by simp [h k hk (by omega)]
  rw [activePri_eq_find, hfind, Option.getD_none]

/-- The present value is the winning slot's (R75). -/
theorem presentOf_of_lowest {s : State} {pa q : Nat} (h1 : 1 ≤ q) (h16 : q ≤ 16) (hq : (s.pts.arr.get pa).notNull.get q = true)
    (hlow : ∀ k, 1 ≤ k → k < q → (s.pts.arr.get pa).notNull.get k = false) :
    presentOf s pa = ((s.pts.arr.get pa).val.get q, q) := by
  rw [presentOf, activePri_of_lowest h1 h16 hq hlow, if_neg (by omega)]

/-- With every slot null the present value is the relinquish default (R75). -/
theorem presentOf_of_all_null {s : State} {pa : Nat} (h : ∀ k, 1 ≤ k → k ≤ 16 → (s.pts.arr.get pa).notNull.get k = false) :
    presentOf s pa = (relinqDefault s pa, 0) := by
  rw [presentOf, activePri_of_all_null h, if_pos rfl]

/-! ## The resolution -/

section
variable {pn : Nat} {s : State}

theorem resolve_of_arrayLost (h : arrayLost s pn = true) : resolve pn s = s := by
  rw [resolve, if_pos h]

variable (h : arrayLost s pn = false)
include h

/-- A resolution writes ACTIVE_PRI and CHG_C of the array, and nothing else of it. -/
theorem resolve_array : (resolve pn s).pts.arr.get (ptArray s pn) = { s.pts.arr.get (ptArray s pn) with
    active := (presentOf s (ptArray s pn)).2
    chgC := if (presentOf s (ptArray s pn)).2 ≠ (s.pts.arr.get (ptArray s pn)).active ∨
        (!(s.point pn).oos && (presentOf s (ptArray s pn)).1 != (s.point pn).value) = true then s.now.c
      else (s.pts.arr.get (ptArray s pn)).chgC } := by
  rw [resolve, if_neg (by simp [h]), updatePoint_arr, Tab.get_set_self]

/-- VALUE takes the present value, unless the point is OUT_OF_SERVICE (R71, R75). -/
theorem resolve_value : ((resolve pn s).point pn).value =
    if (s.point pn).oos then (s.point pn).value else (presentOf s (ptArray s pn)).1 := by
  rw [resolve, if_neg (by simp [h]), updatePoint_value]
  change (if (!(s.point pn).oos && (presentOf s (ptArray s pn)).1 != (s.point pn).value) = true then
    (presentOf s (ptArray s pn)).1 else (s.point pn).value) = _
  cases (s.point pn).oos with
  | true => simp
  | false => by_cases hv : (presentOf s (ptArray s pn)).1 = (s.point pn).value <;> simp [hv]

/-- A resolution counts as a landing, which clears FAULT unless the point is quarantined or OUT_OF_SERVICE (R66). -/
theorem resolve_fault : ((resolve pn s).point pn).fault =
    ((s.point pn).fault && ((s.point pn).quarantined || (s.point pn).oos)) := by
  rw [resolve, if_neg (by simp [h]), updatePoint_fault]
  rfl

/-- VALUE changes exactly when the point is in service and the present value is another one. -/
theorem resolve_value_ne_iff : ((resolve pn s).point pn).value ≠ (s.point pn).value ↔
    (!(s.point pn).oos && (presentOf s (ptArray s pn)).1 != (s.point pn).value) = true := by
  rw [resolve_value h]
  cases (s.point pn).oos <;> simp

/-- CHG_C is stamped exactly when ACTIVE_PRI or VALUE changes (R75). -/
theorem resolve_chgC : ((resolve pn s).pts.arr.get (ptArray s pn)).chgC =
    if ((resolve pn s).pts.arr.get (ptArray s pn)).active ≠ (s.pts.arr.get (ptArray s pn)).active ∨
        ((resolve pn s).point pn).value ≠ (s.point pn).value then s.now.c
      else (s.pts.arr.get (ptArray s pn)).chgC := by
  simp only [resolve_value_ne_iff h, resolve_array h]

end

/-- Settles O57: the search gives the lowest priority that holds a value, a resolution writes ACTIVE_PRI, CHG_C, VALUE and FAULT by
it, and a quarantined array has none (R32, R66, R71, R75). -/
theorem priorityArray : Obligations.PriorityArray := by
  intro pn s
  refine ⟨resolve_of_arrayLost, fun h => ⟨?_, ?_, ?_, ?_, ?_, ?_, ?_, ?_⟩⟩
  · intro q h1 h16 hq hlow
    rw [resolve_value h, resolve_array h, presentOf_of_lowest h1 h16 hq hlow]
    exact ⟨rfl, rfl⟩
  · intro hnull
    rw [resolve_value h, resolve_array h, presentOf_of_all_null hnull]
    exact ⟨rfl, rfl⟩
  · rw [resolve_array h]
  · rw [resolve_array h]
  · rw [resolve_array h]
  · intro hact hval
    rw [resolve_chgC h, if_neg (not_or.mpr ⟨not_not.mpr hact, not_not.mpr hval⟩)]
  · intro hchange
    rw [resolve_chgC h, if_pos hchange]
  · intro hq ho
    rw [resolve_fault h, hq, ho, Bool.or_self, Bool.and_false]

end Sys2Proof.Machine
end

section
/-!
SUPPORT. The Ethernet ports (04_field_links.md R89 to R96, R106, R108): what each row of a port, of address resolution and of a TCP
connection does, case by case.
-/

namespace Sys2Proof.Machine

open Sys2Proof

/-! ## ETH_FRAME_RX (R93) -/

section
variable {p : Nat} {f : List Byte} {s : State}

theorem ethRx_of_off (h : (s.link (8 + p)).state = .off) : ethRx p f s = s := if_pos (beq_iff_eq.mpr h)

section
variable (hs : (s.link (8 + p)).state ≠ .off)
include hs

theorem ethRx_of_damaged (h : f.length < 64 ∨ 1518 < f.length ∨ fcsOk f = false) :
    ethRx p f s = linkErr (8 + p) (linkDrop (8 + p) (linkRx (8 + p) s)) := by
  unfold ethRx
  dsimp only
  rw [if_neg (mt beq_iff_eq.mp hs), if_pos (by simpa using h)]

/-- An ARP frame for the port's own MAC, which is no group address, is taken as ARP (R92). -/
theorem ethRx_of_own_arp (hmin : 64 ≤ f.length) (hmax : f.length ≤ 1518) (hfcs : fcsOk f = true)
    (hdst : le (f.take (f.length - 4)) 0 6 = portMac s p) (hmac : portMac s p % 2 = 0)
    (htype : be (f.take (f.length - 4)) 12 2 = 0x0806) :
    ethRx p f s = arpRx (8 + p) (f.take (f.length - 4)) (f.take (f.length - 4)) (linkRx (8 + p) s) := by
  have hlive : portMac (linkRx (8 + p) s) p = portMac s p := rfl
  unfold ethRx
  dsimp only
  rw [if_neg (mt beq_iff_eq.mp hs), if_neg (by simp [hfcs]; omega), hdst, hlive, if_neg (by simp), if_neg (by simp [hmac]), htype,
    if_neg (by decide), if_pos rfl]

end

theorem exec_ethFrameRx (p : Fin 2) (f : List Byte) (h : enginesRun s = true) :
    exec (.ethFrameRx p f) s = .next (after s (ethRx p.val f s)) :=
  engine_after (ethRx p.val f) s h

/-! ## PHY_STATUS_POLL and PHYINT (R89) -/

section
variable {y : PhyStatus} (hs : (s.link (8 + p)).state ≠ .off)
include hs

/-- A SPEED_FORCE of 0 accepts every speed (R111). -/
theorem phyRead_of_up (hup : y.up = true) (hforce : liveFld s Kind.eth p 3 2 = 0) : phyRead p y s =
    linkUpd (8 + p) (fun k => { k with phyUp := true, speed := y.speed.val, full := y.full || y.speed.val == 2 }) s := by
  unfold phyRead
  dsimp only
  rw [if_neg (mt beq_iff_eq.mp hs), hup, hforce]
  rfl

theorem phyRead_of_down (hup : y.up = false) : phyRead p y s = faultLink (8 + p) 6
    (linkUpd (8 + p) (fun k => { k with phyUp := false, speed := y.speed.val, full := y.full || y.speed.val == 2 }) s) := by
  unfold phyRead
  dsimp only
  rw [if_neg (mt beq_iff_eq.mp hs), hup]
  rfl

end

theorem exec_phyStatusPoll (p : Fin 2) (y : PhyStatus) (h : enginesRun s = true) :
    exec (.phyStatusPoll p y) s = .next (after s (phyRead p.val y s)) :=
  engine_after (phyRead p.val y) s h

theorem phyintRow_of_masked {y0 y1 : PhyStatus} (h0 : liveBit s Kind.eth 0 10 = false) (h1 : liveBit s Kind.eth 1 10 = false) :
    phyintRow y0 y1 s = s :=
  if_neg (by simp [h0, h1])

theorem phyintRow_of_enabled {y0 y1 : PhyStatus} (h : liveBit s Kind.eth 0 10 = true ∨ liveBit s Kind.eth 1 10 = true) :
    phyintRow y0 y1 s = phyRead 1 y1 (phyRead 0 y0 s) :=
  if_pos (by simpa using h)

theorem exec_phyint (y0 y1 : PhyStatus) (h : enginesRun s = true) :
    exec (.phyint y0 y1) s = .next (after s (phyintRow y0 y1 s)) :=
  engine_after (phyintRow y0 y1) s h

/-! ## PORT_SILENCE and PORT_RECOVER (R108) -/

theorem portSilenceRow_of_unbound (h : (boundDevs s (8 + p)).isEmpty = true) : portSilenceRow p s = s := if_pos h

theorem portSilenceRow_of_bound (h : (boundDevs s (8 + p)).isEmpty = false) : portSilenceRow p s = faultLink (8 + p) 6 s :=
  if_neg (Bool.eq_false_iff.mp h)

theorem exec_portSilence (p : Fin 2) (h : enginesRun s = true) :
    exec (.portSilence p) s = .next (after s (portSilenceRow p.val s)) :=
  engine_after (portSilenceRow p.val) s h

theorem portRecoverRow_of_answered (hf : (s.link (8 + p)).state = .fault) (hphy : (s.link (8 + p)).phyUp = true)
    (hok : (s.link (8 + p)).probeOk = true) : portRecoverRow p s = recoverLink (8 + p) s :=
  if_pos (by simp [hf, hphy, hok])

theorem portRecoverRow_of_not_fault (hf : (s.link (8 + p)).state ≠ .fault) : portRecoverRow p s = s := if_neg (by simp [hf])

theorem exec_portRecover (p : Fin 2) (h : enginesRun s = true) :
    exec (.portRecover p) s = .next (after s (portRecoverRow p.val s)) :=
  engine_after (portRecoverRow p.val) s h

/-! ## ARP (R92) -/

theorem exec_arpResolutionTimeout (p : Fin 2) (ip : U32) (h : enginesRun s = true) :
    exec (.arpResolutionTimeout p ip) s = .next (after s (arpTimeoutRow p.val ip.toNat s)) :=
  engine_after (arpTimeoutRow p.val ip.toNat) s h

theorem exec_arpAgeout (p : Fin 2) (ip : U32) (h : enginesRun s = true) :
    exec (.arpAgeout p ip) s = .next (after s (arpAgeoutRow p.val ip.toNat s)) :=
  engine_after (arpAgeoutRow p.val ip.toNat) s h

theorem exec_gratuitousArp (h : enginesRun s = true) : exec .gratuitousArp s = .next (after s (gratuitousRow s)) :=
  engine_after gratuitousRow s h

/-! ## TCP connections (R96) -/

section
variable {i : Nat}

theorem tcpRetransmitRow_of_unused (h : (s.links.conn.get i).used = false) : tcpRetransmitRow i s = s := if_pos (by simp [h])

theorem tcpRetransmitRow_of_exhausted (hu : (s.links.conn.get i).used = true)
    (hr : liveFld s Kind.eth (s.links.conn.get i).port 202 4 ≤ (s.links.conn.get i).retries) :
    tcpRetransmitRow i s = closeConn i s := by
  unfold tcpRetransmitRow
  dsimp only
  rw [if_neg (by simp [hu]), if_pos hr]

/-- Below TCP_RETRIES the segment goes again: data of an established connection, otherwise the SYN. -/
theorem tcpRetransmitRow_of_retry (hu : (s.links.conn.get i).used = true)
    (hr : (s.links.conn.get i).retries < liveFld s Kind.eth (s.links.conn.get i).port 202 4) :
    tcpRetransmitRow i s =
      enqueue (8 + (s.links.conn.get i).port) (.tcp i (if (s.links.conn.get i).established then .data else .syn 1460))
        { s with links := { s.links with conn := s.links.conn.upd i (fun c => { c with retries := c.retries + 1 }) } } := by
  unfold tcpRetransmitRow
  dsimp only
  rw [if_neg (by simp [hu]), if_neg (Nat.not_le.mpr hr)]

theorem tcpIdleRow_of_idle (hu : (s.links.conn.get i).used = true) (he : (s.links.conn.get i).established = true)
    (hi : liveFld s Kind.eth (s.links.conn.get i).port 176 16 ≠ 0) (hq : (inFlight s (s.links.conn.get i).dv).isEmpty = true) :
    tcpIdleRow i s = closeConn i (enqueue (8 + (s.links.conn.get i).port) (.tcp i .fin) s) :=
  if_pos (by simp [hu, he, hi, hq])

theorem tcpIdleRow_of_kept (h : (s.links.conn.get i).used = false ∨ (s.links.conn.get i).established = false ∨
    liveFld s Kind.eth (s.links.conn.get i).port 176 16 = 0 ∨ (inFlight s (s.links.conn.get i).dv).isEmpty = false) :
    tcpIdleRow i s = s := by
  refine if_neg ?_
  rcases h with h | h | h | h <;> simp [h]

end

theorem exec_tcpRetransmitTimeout (i : Fin 128) (h : enginesRun s = true) :
    exec (.tcpRetransmitTimeout i) s = .next (after s (tcpRetransmitRow i.val s)) :=
  engine_after (tcpRetransmitRow i.val) s h

theorem exec_tcpIdleClose (i : Fin 128) (h : enginesRun s = true) :
    exec (.tcpIdleClose i) s = .next (after s (tcpIdleRow i.val s)) :=
  engine_after (tcpIdleRow i.val) s h

end

/-- Settles O23: each row of a port by the link's state, the frame, the PHY and the bound devices (R89, R91 to R93, R106, R108). -/
theorem ethernetRows : Obligations.EthernetRows := by
  intro p s h
  refine ⟨fun f hs => ?_, fun f hs hbad => ?_, fun f hs hmin hmax hfcs hdst hmac htype => ?_, fun y hs hup hforce => ?_,
    fun y hs hup => ?_, fun y0 y1 h0 h1 => ?_, fun y0 y1 hen => ?_, fun hb => ?_, fun hb => ?_, fun hf hphy hok => ?_,
    fun hf => ?_, fun ip => ?_, fun ip => ?_⟩
  · rw [exec_ethFrameRx p f h, ethRx_of_off hs]
  · rw [exec_ethFrameRx p f h, ethRx_of_damaged hs hbad]
  · rw [exec_ethFrameRx p f h, ethRx_of_own_arp hs hmin hmax hfcs hdst hmac htype]
  · rw [exec_phyStatusPoll p y h, phyRead_of_up hs hup hforce]
  · rw [exec_phyStatusPoll p y h, phyRead_of_down hs hup]
  · rw [exec_phyint y0 y1 h, phyintRow_of_masked h0 h1]
  · rw [exec_phyint y0 y1 h, phyintRow_of_enabled hen]
  · rw [exec_portSilence p h, portSilenceRow_of_unbound hb]
  · rw [exec_portSilence p h, portSilenceRow_of_bound hb]
  · rw [exec_portRecover p h, portRecoverRow_of_answered hf hphy hok]
  · rw [exec_portRecover p h, portRecoverRow_of_not_fault hf]
  · rw [exec_arpResolutionTimeout p ip h, arpTimeoutRow]
  · rw [exec_arpAgeout p ip h, arpAgeoutRow]

/-- Settles O24: the announcements that are due, and each timeout of a TCP connection by its use, its retries and its traffic (R96,
R106). -/
theorem tcpRows : Obligations.TcpRows := by
  intro s h
  refine ⟨?_, fun i hu => ?_, ?_, ?_, ?_, ?_⟩
  · rintro u rfl
    exact exec_gratuitousArp h
  · rw [exec_tcpRetransmitTimeout i h, tcpRetransmitRow_of_unused hu]
  · rintro i c rfl hu hr
    rw [exec_tcpRetransmitTimeout i h, tcpRetransmitRow_of_exhausted hu hr]
  · rintro i c rfl hu hr
    rw [exec_tcpRetransmitTimeout i h, tcpRetransmitRow_of_retry hu hr]
  · rintro i c rfl hu he hi hq
    rw [exec_tcpIdleClose i h, tcpIdleRow_of_idle hu he hi hq]
  · rintro i c rfl hkept
    rw [exec_tcpIdleClose i h, tcpIdleRow_of_kept hkept]

end Sys2Proof.Machine
end

section
/-!
SUPPORT. The trunks in MS/TP (04_field_links.md R97 to R103, R107): what a received frame, the echo of a sent one and each timeout of
the master node machine do, case by case.
-/

namespace Sys2Proof.Machine

open Sys2Proof

/-! ## A frame that the receive machine delivers (R101) -/

/-- What a trunk does with a good frame, by its type, once the master machine has seen it: the last part of TRUNK_FRAME_RX. -/
def mstpDelivered (t : Nat) (f : MstpFrame) (v : State) : State :=
  match f.typ.toNat with
  | 0 | 1 | 2 => v
  | 3 => if mstpRuns v t && f.dst.toNat == trunkMac v t then onWire t (.mstp 4 f.src.toNat f.data) v else v
  | 4 =>
    if (f.dst.toNat == trunkMac v t || f.dst == 255) && (devAt v t f.src.toNat).isSome then
      linkUpd t (fun k => { k with probeOk := k.probeOk || k.state == .fault }) v
    else v
  | 5 | 6 =>
    if !(f.dst.toNat == trunkMac v t) && !(f.dst == 255 && f.typ == 6) then v
    else if 501 < f.data.length then linkDrop t v
    else mstpNpdu t f v
  | 7 => v
  | _ => linkDrop t v

section
variable {t : Nat} {f : MstpFrame} {v : State}

/-- The frames of the token protocol, and Reply Postponed, are the master machine's alone. -/
theorem mstpDelivered_protocol (h : f.typ.toNat ≤ 2 ∨ f.typ.toNat = 7) : mstpDelivered t f v = v := by
  have hcases : f.typ.toNat = 0 ∨ f.typ.toNat = 1 ∨ f.typ.toNat = 2 ∨ f.typ.toNat = 7 := by omega
  rcases hcases with h | h | h | h <;> simp [mstpDelivered, h]

/-- A Test Request to the trunk's own address is answered with a Test Response. -/
theorem mstpDelivered_own_test (h : f.typ = 3) (hr : mstpRuns v t = true) (hdst : f.dst.toNat = trunkMac v t) :
    mstpDelivered t f v = onWire t (.mstp 4 f.src.toNat f.data) v := by
  simp [mstpDelivered, h, hr, hdst]

theorem mstpDelivered_other_test (h : f.typ = 3) (hno : mstpRuns v t = false ∨ f.dst.toNat ≠ trunkMac v t) :
    mstpDelivered t f v = v := by
  rcases hno with hno | hno <;> simp [mstpDelivered, h, hno]

theorem mstpDelivered_data (h : f.typ = 5 ∨ f.typ = 6) : mstpDelivered t f v =
    if !(f.dst.toNat == trunkMac v t) && !(f.dst == 255 && f.typ == 6) then v
    else if 501 < f.data.length then linkDrop t v
    else mstpNpdu t f v := by
  have hcases : f.typ.toNat = 5 ∨ f.typ.toNat = 6 := h.imp (congrArg BitVec.toNat) (congrArg BitVec.toNat)
  unfold mstpDelivered
  rcases hcases with h | h <;> (rw [h]; rfl)

/-- A data frame to the trunk's address, or a broadcast that expects no reply, is taken up where its NPDU fits (R100, R101). -/
theorem mstpDelivered_own_data (h : f.typ = 5 ∨ f.typ = 6) (hdst : f.dst.toNat = trunkMac v t ∨ f.dst = 255 ∧ f.typ = 6) :
    mstpDelivered t f v = if 501 < f.data.length then linkDrop t v else mstpNpdu t f v := by
  rw [mstpDelivered_data h, if_neg]
  rcases hdst with hown | ⟨hb, h6⟩
  · simp [hown]
  · rw [hb, h6]
    simp

theorem mstpDelivered_other_data (h : f.typ = 5 ∨ f.typ = 6) (hdst : f.dst.toNat ≠ trunkMac v t)
    (hb : ¬ (f.dst = 255 ∧ f.typ = 6)) : mstpDelivered t f v = v := by
  have hnot : (f.dst == 255 && f.typ == 6) = false := by
    rw [Bool.eq_false_iff, Ne, Bool.and_eq_true, beq_iff_eq, beq_iff_eq]
    exact hb
  rw [mstpDelivered_data h, beq_false_of_ne hdst, hnot]
  rfl

theorem mstpDelivered_unknown (h : 8 ≤ f.typ.toNat) : mstpDelivered t f v = linkDrop t v := by
  obtain ⟨n, hn⟩ := Nat.exists_eq_add_of_le' h
  simp [mstpDelivered, hn]

end

/-! ## TRUNK_FRAME_RX (R101, R103, R107) -/

section
variable {t : Nat} {f : MstpFrame} {s : State}

theorem trunkRx_of_stopped (h : (s.link t).state = .off ∨ trunkMode s t ≠ 1) : trunkRx t f s = s := if_pos (by simpa using h)

section
variable (hs : (s.link t).state ≠ .off) (hm : trunkMode s t = 1)
include hs hm

theorem trunk_not_stopped : ¬ ((s.link t).state == .off || trunkMode s t != 1) = true := by simp [hs, hm]

theorem trunkRx_of_damaged (h : f.hdrOk = false ∨ f.dataOk = false) :
    trunkRx t f s = linkErr t (linkDrop t (linkRx t s)) := by
  unfold trunkRx
  dsimp only
  rw [if_neg (trunk_not_stopped hs hm), if_pos (by simpa using h)]

variable (hh : f.hdrOk = true) (hd : f.dataOk = true)
include hh hd

/-- A frame from the trunk's own address, while it sends nothing itself, is another station's (R103). -/
theorem trunkRx_of_duplicate (hsrc : f.src.toNat = trunkMac s t) (hw : (s.link t).wire = []) (hduty : s.duty = true) :
    trunkRx t f s = faultLink t 4 (linkUpd t (fun k => { k with mstp := .start, wire := [] }) (linkRx t s)) := by
  have hlive : trunkMac (linkRx t s) t = trunkMac s t := rfl
  have hrole : (linkRx t s).duty = s.duty := rfl
  unfold trunkRx
  dsimp only
  rw [if_neg (trunk_not_stopped hs hm), if_neg (by simp [hh, hd]), hlive, hrole, if_pos (by simp [hsrc, hw, hduty])]

theorem trunkRx_of_delivered (hdup : f.src.toNat ≠ trunkMac s t ∨ (s.link t).wire ≠ [] ∨ s.duty = false) :
    trunkRx t f s = mstpDelivered t f
      (mstpReceived t f.typ.toNat f.src.toNat f.dst.toNat (heardFrom t { station := f.src } (linkRx t s))) := by
  have hlive : trunkMac (linkRx t s) t = trunkMac s t := rfl
  have hrole : (linkRx t s).duty = s.duty := rfl
  have hother : ¬ (f.src.toNat = trunkMac s t ∧ (s.link t).wire.isEmpty = true ∧ s.duty = true) := by
    rcases hdup with h | h | h <;> simp [h]
  unfold trunkRx
  dsimp only
  rw [if_neg (trunk_not_stopped hs hm), if_neg (by simp [hh, hd]), hlive, hrole, if_neg hother]
  rfl

end

theorem exec_trunkFrameRx (t : Fin 8) (f : MstpFrame) (h : enginesRun s = true) :
    exec (.trunkFrameRx t f) s = .next (after s (trunkRx t.val f s)) :=
  engine_after (trunkRx t.val f) s h

/-! ## TRUNK_FRAME_SENT (R107) -/

theorem trunkSent_of_silent {ok : Bool} (h : (s.link t).wire = []) : trunkSent t ok s = s := by
  unfold trunkSent
  dsimp only
  rw [h]

/-- A good echo ends the row of bad ones, and no fault is declared. -/
theorem trunkSent_of_good_echo {f : Frame} {r : List Frame} (hw : (s.link t).wire = f :: r) (hm : trunkMode s t = 1) :
    trunkSent t true s = mstpSent t f (linkUpd t (fun k => { k with wire := r, tx := sat32 k.tx, echoBad := 0 }) s) := by
  have hlive : ∀ g, trunkMode (linkUpd t g s) t = trunkMode s t := fun _ => rfl
  unfold trunkSent
  dsimp only
  rw [hw]
  simp [hlive, hm]

theorem exec_trunkFrameSent (t : Fin 8) (ok : Bool) (h : enginesRun s = true) :
    exec (.trunkFrameSent t ok) s = .next (after s (trunkSent t.val ok s)) :=
  engine_after (trunkSent t.val ok) s h

/-! ## The timeouts of the master node machine (R100, Clause 9) -/

theorem mstpAbortRow_of_running (hm : trunkMode s t = 1) (hs : (s.link t).state ≠ .off) :
    mstpAbortRow t s = linkErr t (linkRx t s) :=
  if_pos ⟨hm, hs⟩

section
variable (hr : mstpRuns s t = true)
include hr

theorem mstpGenerate_of_lost_token
    (h : (s.link t).mstp = .idle ∨ (s.link t).mstp = .noToken ∨ (s.link t).mstp = .start) :
    mstpGenerate t s =
      sendPfm t (mstpNext s t (trunkMac s t)) (linkUpd t (fun k => { k with ns := trunkMac s t, tokens := 0 }) s) := by
  refine if_pos ?_
  rcases h with h | h | h <;> simp [hr, h]

theorem mstpNoReply_of_waiting (h : (s.link t).mstp = .waitForReply) : mstpNoReply t s =
    doneWithToken t (linkUpd t (fun k => { k with mstp := .useToken, frames := trunkMaxInfo s t }) s) :=
  if_pos (by simp [hr, h])

/-- Nretry_token is 1: the token is passed a second time, and no third (R100). -/
theorem mstpNoUse_of_passing (h : (s.link t).mstp = .passToken) : mstpNoUse t s =
    if (s.link t).retries < 1 then
      onWire t (.mstp 0 (s.link t).ns []) (linkUpd t (fun k => { k with retries := k.retries + 1 }) s)
    else sendPfm t (mstpNext s t (s.link t).ns) (linkUpd t (fun k => { k with ns := trunkMac s t, tokens := 0 }) s) :=
  if_pos (by simp [hr, h])

section
variable (hp : (s.link t).mstp = .pollForMaster)
include hp

theorem mstpNoMaster_of_sole (hsole : (s.link t).sole = true) : mstpNoMaster t s = takeToken t s := by
  unfold mstpNoMaster
  dsimp only
  rw [if_pos (by simp [hr, hp]), if_pos hsole]

/-- A poll without an answer leaves the known successor, which takes the token. -/
theorem mstpNoMaster_of_successor (hsole : (s.link t).sole = false) (hns : (s.link t).ns ≠ trunkMac s t) :
    mstpNoMaster t s = sendToken t s := by
  unfold mstpNoMaster
  dsimp only
  rw [if_pos (by simp [hr, hp]), if_neg (by simp [hsole]), if_pos hns]

end
end

theorem exec_mstpNoToken (t : Fin 8) (h : enginesRun s = true) :
    exec (.mstpNoToken t) s = .next (after s (mstpGenerate t.val s)) :=
  engine_after (mstpGenerate t.val) s h

theorem exec_mstpReplyTimeout (t : Fin 8) (h : enginesRun s = true) :
    exec (.mstpReplyTimeout t) s = .next (after s (mstpNoReply t.val s)) :=
  engine_after (mstpNoReply t.val) s h

theorem exec_mstpUsageTimeout (t : Fin 8) (h : enginesRun s = true) :
    exec (.mstpUsageTimeout t) s = .next (after s (mstpNoUse t.val s)) :=
  engine_after (mstpNoUse t.val) s h

theorem exec_mstpSlotTimeout (t : Fin 8) (h : enginesRun s = true) :
    exec (.mstpSlotTimeout t) s = .next (after s (mstpNoMaster t.val s)) :=
  engine_after (mstpNoMaster t.val) s h

theorem exec_mstpFrameAbort (t : Fin 8) (h : enginesRun s = true) :
    exec (.mstpFrameAbort t) s = .next (after s (mstpAbortRow t.val s)) :=
  engine_after (mstpAbortRow t.val) s h

end

/-- Settles O25: a received frame by the trunk's mode, the frame's soundness, source and type, the echo of a sent one, and each timeout
in the state of the machine that it is for (R97, R100 to R103, R107). -/
theorem trunkFrames : Obligations.TrunkFrames := by
  intro t s h
  refine ⟨fun f hst => ?_, fun f hs hm hbad => ?_, fun f hs hm hh hd hsrc hw hduty => ?_, fun f v hs hm hh hd hdup hv => ?_,
    fun ok hw => ?_, fun f r hw hm => ?_, fun hr hidle => ?_, fun hr hwait => ?_, fun hr hpass h0 => ?_, fun hr hpass h1 => ?_,
    fun hr hpoll hsole => ?_, fun hr hpoll hsole hns => ?_, fun hm hs => ?_⟩
  · rw [exec_trunkFrameRx t f h, trunkRx_of_stopped hst]
  · rw [exec_trunkFrameRx t f h, trunkRx_of_damaged hs hm hbad]
  · rw [exec_trunkFrameRx t f h, trunkRx_of_duplicate hs hm hh hd hsrc hw hduty]
  · rw [exec_trunkFrameRx t f h, trunkRx_of_delivered hs hm hh hd hdup, ← hv]
    refine ⟨fun htyp => ?_, fun htyp hr hdst => ?_, fun htyp hno => ?_, fun htyp hdst hlen => ?_, fun htyp hdst hlen => ?_,
      fun htyp hdst hb => ?_, fun htyp => ?_⟩
    · rw [mstpDelivered_protocol htyp]
    · rw [mstpDelivered_own_test htyp hr hdst]
    · rw [mstpDelivered_other_test htyp hno]
    · rw [mstpDelivered_own_data htyp hdst, if_neg (Nat.not_lt.mpr hlen)]
    · rw [mstpDelivered_own_data htyp hdst, if_pos hlen]
    · rw [mstpDelivered_other_data htyp hdst hb]
    · rw [mstpDelivered_unknown htyp]
  · rw [exec_trunkFrameSent t ok h, trunkSent_of_silent hw]
  · rw [exec_trunkFrameSent t true h, trunkSent_of_good_echo hw hm]
  · rw [exec_mstpNoToken t h, mstpGenerate_of_lost_token hr hidle]
  · rw [exec_mstpReplyTimeout t h, mstpNoReply_of_waiting hr hwait]
  · rw [exec_mstpUsageTimeout t h, mstpNoUse_of_passing hr hpass, if_pos (by omega)]
  · rw [exec_mstpUsageTimeout t h, mstpNoUse_of_passing hr hpass, if_neg (by omega)]
  · rw [exec_mstpSlotTimeout t h, mstpNoMaster_of_sole hr hpoll hsole]
  · rw [exec_mstpSlotTimeout t h, mstpNoMaster_of_successor hr hpoll hsole hns]
  · rw [exec_mstpFrameAbort t h, mstpAbortRow_of_running hm hs]

end Sys2Proof.Machine
end

section
/-!
SUPPORT. The RTU line, the causes of a trunk fault and its recovery (04_field_links.md R104, R107, R108, 05_point_acquisition.md R138):
what each row does, case by case.
-/

namespace Sys2Proof.Machine

open Sys2Proof

section
variable {t : Nat} {s : State}

/-! ## RTU_FRAME_RX (R104, R138) -/

section
variable {adu : List Byte}

theorem rtuRx_of_stopped {gap : Bool} (h : (s.link t).state = .off ∨ trunkMode s t ≠ 2) : rtuRx t adu gap s = s :=
  if_pos (by simpa using h)

section
variable (hs : (s.link t).state ≠ .off) (hm : trunkMode s t = 2)
include hs hm

theorem rtu_not_stopped : ¬ ((s.link t).state == .off || trunkMode s t != 2) = true := by simp [hs, hm]

theorem rtuRx_of_damaged {gap : Bool} (h : gap = false ∨ adu.length < 4 ∨ 256 < adu.length ∨
    le adu (adu.length - 2) 2 ≠ crcModbus (adu.take (adu.length - 2))) :
    rtuRx t adu gap s = linkErr t (linkDrop t (linkRx t s)) := by
  unfold rtuRx
  dsimp only
  rw [if_neg (rtu_not_stopped hs hm), if_pos]
  rcases h with h | h | h | h <;> simp [h]

section
variable (hmin : 4 ≤ adu.length) (hmax : adu.length ≤ 256)
  (hcrc : le adu (adu.length - 2) 2 = crcModbus (adu.take (adu.length - 2))) (hw : (s.link t).rtuWait = false)
include hmin hmax hcrc hw

theorem rtuRx_of_no_transaction (hn : (s.link t).rtu = none) : rtuRx t adu true s = linkDrop t (linkRx t s) := by
  unfold rtuRx
  dsimp only
  rw [if_neg (rtu_not_stopped hs hm), if_neg (by simp [hmin, hmax, hcrc]), if_neg (by simp [hw]), hn]

/-- A sound frame is held against the station and the request of the transaction. -/
theorem rtuRx_of_transaction {dv id : Nat} {q : MbReq} (htx : (s.link t).rtu = some (dv, id))
    (hq : (findReq s dv id).bind (·.body) = some (.mb q)) : rtuRx t adu true s =
      if be adu 0 1 = (s.dev dv).station && rtuAnswers q adu then validFrame dv (linkRx t s) else linkDrop t (linkRx t s) := by
  have hreq : (findReq (linkRx t s) dv id).bind (·.body) = some (.mb q) := hq
  unfold rtuRx
  dsimp only
  rw [if_neg (rtu_not_stopped hs hm), if_neg (by simp [hmin, hmax, hcrc]), if_neg (by simp [hw]), htx]
  dsimp only
  rw [hreq]
  rfl

end
end
end

theorem exec_rtuFrameRx (t : Fin 8) (adu : List Byte) (gap : Bool) (h : enginesRun s = true) :
    exec (.rtuFrameRx t adu gap) s = .next (after s (rtuRx t.val adu gap s)) :=
  engine_after (rtuRx t.val adu gap) s h

/-! ## RTU_RESP_TIMEOUT, RTU_BCAST_DELAY and RTU_TIMEOUT_SILENCE (R104, R107, R138) -/

theorem rtuTimeoutRow_of_no_transaction (h : (s.link t).rtu = none) : rtuTimeoutRow t s = s := by
  unfold rtuTimeoutRow
  dsimp only
  rw [h]

/-- The 16th timeout in a row is a fault (R107). -/
theorem rtuTimeoutRow_of_transaction {dv id : Nat} {u : State} (h : (s.link t).rtu = some (dv, id))
    (hu : u = requestTimeoutRow dv id
      (linkUpd t (fun k => { k with rtu := none, rtuWait := true, rtuLate := some dv, rtuBad := k.rtuBad + 1 }) s)) :
    rtuTimeoutRow t s = if 16 ≤ (s.link t).rtuBad + 1 then faultLink t 5 u else u := by
  subst hu
  unfold rtuTimeoutRow
  dsimp only
  rw [h]

theorem exec_rtuRespTimeout (t : Fin 8) (h : enginesRun s = true) :
    exec (.rtuRespTimeout t) s = .next (after s (rtuTimeoutRow t.val s)) :=
  engine_after (rtuTimeoutRow t.val) s h

theorem rtuFreeRow_of_wait (h : (s.link t).rtuWait = true) :
    rtuFreeRow t s = rtuNext t (linkUpd t (fun k => { k with rtuWait := false }) s) :=
  if_pos h

theorem exec_rtuBcastDelay (t : Fin 8) (h : enginesRun s = true) :
    exec (.rtuBcastDelay t) s = .next (after s (rtuFreeRow t.val s)) :=
  engine_after (rtuFreeRow t.val) s h

theorem exec_rtuTimeoutSilence (t : Fin 8) (h : enginesRun s = true) :
    exec (.rtuTimeoutSilence t) s = .next (after s (rtuFreeRow t.val s)) :=
  engine_after (rtuFreeRow t.val) s h

/-! ## The causes of a trunk fault (R107) -/

theorem rxStuckRow_of_off (h : trunkMode s t = 0) : rxStuckRow t s = s := if_pos h

theorem rxStuckRow_of_on (h : trunkMode s t ≠ 0) : rxStuckRow t s = faultLink t 2 s := if_neg h

theorem exec_rxStuck (t : Fin 8) (h : enginesRun s = true) :
    exec (.rxStuck t) s = .next (after s (rxStuckRow t.val s)) :=
  engine_after (rxStuckRow t.val) s h

theorem errRateRow_of_exceeded (hm : trunkMode s t ≠ 0) (hn : 20 ≤ (s.link t).winRx)
    (hbad : liveFld s Kind.trunk t 96 7 * (s.link t).winRx < 100 * (s.link t).winErr) :
    errRateRow t s = faultLink t 3 (linkUpd t (fun k => { k with winRx := 0, winErr := 0 }) s) :=
  if_pos ⟨hm, hn, hbad⟩

/-- Fewer than 20 frames say nothing: the window only starts again. -/
theorem errRateRow_of_few (hn : (s.link t).winRx < 20) :
    errRateRow t s = linkUpd t (fun k => { k with winRx := 0, winErr := 0 }) s :=
  if_neg fun h => Nat.not_le.mpr hn h.2.1

theorem exec_errRateWindow (t : Fin 8) (h : enginesRun s = true) :
    exec (.errRateWindow t) s = .next (after s (errRateRow t.val s)) :=
  engine_after (errRateRow t.val) s h

theorem noPeerRow_of_bound (hm : trunkMode s t = 1) (hb : (boundDevs s t).isEmpty = false) :
    noPeerRow t s = faultLink t 5 s :=
  if_pos ⟨hm, by simp [hb]⟩

theorem noPeerRow_of_unbound (hm : trunkMode s t = 1) (hb : (boundDevs s t).isEmpty = true) : noPeerRow t s = s := by
  unfold noPeerRow
  dsimp only
  rw [if_neg (by simp [hb]), if_neg (by simp [hm])]

theorem exec_noPeer (t : Fin 8) (h : enginesRun s = true) :
    exec (.noPeer t) s = .next (after s (noPeerRow t.val s)) :=
  engine_after (noPeerRow t.val) s h

/-! ## TRUNK_PROBE and TRUNK_RECOVER (R108) -/

theorem trunkProbeRow_of_nothing (h : (s.link t).state ≠ .fault ∨ (s.link t).cause = 4 ∨ boundDevs s t = []) :
    trunkProbeRow t s = s := by
  unfold trunkProbeRow
  dsimp only
  by_cases hc : ((s.link t).state != .fault || (s.link t).cause == 4) = true
  · rw [if_pos hc]
  · rw [Bool.or_eq_true, bne_iff_ne, beq_iff_eq, not_or] at hc
    rw [(h.resolve_left hc.1).resolve_left hc.2, ite_self]

/-- The device heard longest ago is probed. -/
theorem trunkProbeRow_of_fault {d : Nat} {ds : List Nat} (hf : (s.link t).state = .fault) (hc : (s.link t).cause ≠ 4)
    (hb : boundDevs s t = d :: ds) : trunkProbeRow t s =
      probeDev (ds.foldl (fun b x => if (s.dev x).heard.diff (s.dev b).heard < 0 then x else b) d) s := by
  unfold trunkProbeRow
  dsimp only
  rw [if_neg (by simp [hf, hc]), hb]

theorem exec_trunkProbe (l : Fin 10) (h : enginesRun s = true) :
    exec (.trunkProbe l) s = .next (after s (trunkProbeRow l.val s)) :=
  engine_after (trunkProbeRow l.val) s h

theorem trunkRecoverRow_of_ready (hf : (s.link t).state = .fault) (hok : (s.link t).probeOk = true ∨ (s.link t).cause = 4) :
    trunkRecoverRow t s = recoverLink t s :=
  if_pos (by simpa [hf] using hok)

theorem trunkRecoverRow_of_not_ready
    (h : (s.link t).state ≠ .fault ∨ (s.link t).probeOk = false ∧ (s.link t).cause ≠ 4) : trunkRecoverRow t s = s := by
  refine if_neg ?_
  rcases h with hf | ⟨hok, hc⟩
  · simp [hf]
  · simp [hok, hc]

theorem exec_trunkRecover (t : Fin 8) (h : enginesRun s = true) :
    exec (.trunkRecover t) s = .next (after s (trunkRecoverRow t.val s)) :=
  engine_after (trunkRecoverRow t.val) s h

end

/-- Settles O26: a frame on an RTU line by its soundness and the transaction, the timeouts of the line, each cause of a trunk fault,
and the probe and the recovery by the state and the cause (R104, R107, R108, R138). -/
theorem rtuAndTrunkFaults : Obligations.RtuAndTrunkFaults := by
  intro t s h
  refine ⟨fun adu gap hst => ?_, fun adu hs hm => ?_, fun adu hs hm hbad => ?_,
    fun adu dv id q hs hm hmin hmax hcrc hw htx hq => ⟨fun hsta hans => ?_, fun hno => ?_⟩,
    fun adu hs hm hmin hmax hcrc hw hn => ?_, fun hn => ?_, fun dv id htx hlt => ?_, fun dv id htx hle => ?_, fun hw => ?_,
    fun hw => ?_, fun hm => ?_, fun hm => ?_, fun hm hn hbad => ?_, fun hn => ?_, fun hm hb => ?_, fun hm hb => ?_,
    fun l => ⟨fun hno => ?_, fun d ds hf hc hb => ?_⟩, fun hf hok => ?_, fun hno => ?_⟩
  · rw [exec_rtuFrameRx t adu gap h, rtuRx_of_stopped hst]
  · rw [exec_rtuFrameRx t adu false h, rtuRx_of_damaged hs hm (.inl rfl)]
  · rw [exec_rtuFrameRx t adu true h, rtuRx_of_damaged hs hm (.inr hbad)]
  · rw [exec_rtuFrameRx t adu true h, rtuRx_of_transaction hs hm hmin hmax hcrc hw htx hq, if_pos (by simp [hsta, hans])]
  · rw [exec_rtuFrameRx t adu true h, rtuRx_of_transaction hs hm hmin hmax hcrc hw htx hq,
      if_neg (by rcases hno with hno | hno <;> simp [hno])]
  · rw [exec_rtuFrameRx t adu true h, rtuRx_of_no_transaction hs hm hmin hmax hcrc hw hn]
  · rw [exec_rtuRespTimeout t h, rtuTimeoutRow_of_no_transaction hn]
  · rw [exec_rtuRespTimeout t h, rtuTimeoutRow_of_transaction htx rfl, if_neg (Nat.not_le.mpr hlt)]
  · rw [exec_rtuRespTimeout t h, rtuTimeoutRow_of_transaction htx rfl, if_pos hle]
  · rw [exec_rtuBcastDelay t h, rtuFreeRow_of_wait hw]
  · rw [exec_rtuTimeoutSilence t h, rtuFreeRow_of_wait hw]
  · rw [exec_rxStuck t h, rxStuckRow_of_on hm]
  · rw [exec_rxStuck t h, rxStuckRow_of_off hm]
  · rw [exec_errRateWindow t h, errRateRow_of_exceeded hm hn hbad]
  · rw [exec_errRateWindow t h, errRateRow_of_few hn]
  · rw [exec_noPeer t h, noPeerRow_of_bound hm hb]
  · rw [exec_noPeer t h, noPeerRow_of_unbound hm hb]
  · rw [exec_trunkProbe l h, trunkProbeRow_of_nothing hno]
  · rw [exec_trunkProbe l h, trunkProbeRow_of_fault hf hc hb]
  · rw [exec_trunkRecover t h, trunkRecoverRow_of_ready hf hok]
  · rw [exec_trunkRecover t h, trunkRecoverRow_of_not_ready hno]

end Sys2Proof.Machine
end

section
/-!
SUPPORT. The cards of the field links and of point acquisition (04_field_links.md R90, R97, R101, R110 to R113, 05_point_acquisition.md
R119, R120, R140): the card of each opcode, what its body does where its checks hold, and what it refuses.
-/

namespace Sys2Proof.Machine

open Sys2Proof

/-! ## The cards of the opcodes (R456) -/

theorem cardOf_flSetEth : cardOf 0x0400 = some (jcard 0x0400 (fixed 36) cardSetEth) := rfl
theorem cardOf_flSetTrunk : cardOf 0x0401 = some (jcard 0x0401 (fixed 20) cardSetTrunk) := rfl
theorem cardOf_flGetStatus : cardOf 0x0402 = some (act 0x0402 1 cardLinkStatus) := rfl
theorem cardOf_flEthTx : cardOf 0x0403 = some { op := 0x0403, need := needEthTx, body := cardEthTx } := rfl
theorem cardOf_flMdio : cardOf 0x0404 = some (act 0x0404 6 cardMdio) := rfl
theorem cardOf_flTrunkTx : cardOf 0x0405 = some { op := 0x0405, need := counted 6 4 2 1, body := cardTrunkTx } := rfl
theorem cardOf_paSetCfg : cardOf 0x0500 = some (jcard 0x0500 (fixed 16) cardPaSetCfg) := rfl
theorem cardOf_paSetClass : cardOf 0x0501 = some (jcard 0x0501 (fixed 16) cardPaSetClass) := rfl
theorem cardOf_paSetDev : cardOf 0x0502 = some (jcard 0x0502 (fixed 132) cardPaSetDev) := rfl
theorem cardOf_paGetDev : cardOf 0x0503 = some (act 0x0503 2 cardPaGetDev) := rfl
theorem cardOf_paRebind : cardOf 0x0504 = some (act 0x0504 2 cardPaRebind) := rfl
theorem cardOf_paReadNow : cardOf 0x0505 = some (act 0x0505 4 cardPaReadNow) := rfl

section
variable {org : Origin} {l : Nat} {p : List Byte} {t : State}

/-! ## Records of the links (R110 to R113) -/

/-- FL_SET_ETH where the subnets of the two ports do not overlap; the ports' PHY addresses may still clash (R113). -/
theorem cardSetEth_ranged {x : Img} {other : Option Img} (hx : x = le p 4 32)
    (ho : other = t.nv.cfg.get (recKey Kind.eth (1 - le p 0 1))) (hport : le p 0 1 ≤ 1) (hz : zeroed p 1 3 = true)
    (hmac : (fld x 16 48 % 2 == 0 && fld x 16 48 != 0) = true)
    (hover : other.any (fun y => netOf (fld x 64 32) (min (fld x 96 8) (fld y 96 8)) ==
      netOf (fld y 64 32) (min (fld x 96 8) (fld y 96 8))) = false)
    (hk : keeps ethFields x = true)
    (hgw : (fld x 128 32 == 0 || netOf (fld x 128 32) (fld x 96 8) == netOf (fld x 64 32) (fld x 96 8)) = true) :
    cardSetEth org l p t =
      if other.any (fun y => fld y 5 5 == fld x 5 5) then (t, conflict 0x0C (1 - le p 0 1) 0x0C (le p 0 1))
      else if !allNormal t then (t, .no St.busy 0)
      else journalArg org true 0 [wr Kind.eth (le p 0 1) x] [] t := by
  subst hx
  unfold cardSetEth
  dsimp only
  rw [← ho]
  refine ranged_ok _ _ _ ?_
  cases other with
  | none => simp [allOk_zero, allOk_mapped, hport, hz, hmac, hk, hgw]
  | some y =>
    rw [Option.any_some] at hover
    simp [allOk_zero, allOk_mapped, hport, hz, hmac, hk, hgw, hover]

theorem cardSetTrunk_ranged (ht : le p 0 1 ≤ 7) (hz : zeroed p 1 3 = true) (hk : keeps trunkFields (le p 4 16) = true)
    (hu : allOk (trunkUnused (le p 4 16)) = true)
    (hmax : (fld (le p 4 16) 0 2 != 1 || decide (fld (le p 4 16) 16 7 ≤ fld (le p 4 16) 24 7)) = true) :
    cardSetTrunk org l p t =
      if !allNormal t then (t, .no St.busy 0) else journalArg org true 0 [wr Kind.trunk (le p 0 1) (le p 4 16)] [] t := by
  unfold cardSetTrunk
  exact ranged_ok _ _ _ (by
    simp only [allOk_append, allOk_cons, allOk_nil, allOk_zero, allOk_mapped, ht, hz, hk, hu, hmax, decide_true, Bool.and_true])

/-! ## FL_GET_STATUS, FL_ETH_TX, FL_MDIO and FL_TRUNK_TX (R90, R97, R101, R113) -/

/-- STATE of a link as FL_GET_STATUS codes it. -/
def linkStateCode : LinkState → Nat
  | .off => 0 | .listen => 1 | .up => 2 | .fault => 3

/-- The seconds that a link has been in FAULT, the present fault among them. -/
def faultSeconds (k : Link) (s : State) : Nat :=
  if k.state == .fault then min (k.secsFault + (s.rtc.up - k.secsFrom) / 32768) 0xFFFFFFFF else k.secsFault

theorem cardLinkStatus_ranged {k : Link} (hk : k = t.link (le p 0 1)) (hl : le p 0 1 ≤ 9) : cardLinkStatus org l p t =
    (t, .ok (leBytes 1 (linkStateCode k.state) ++ leBytes 1 k.cause ++
      leBytes 1 (if isPort (le p 0 1) then k.speed else liveFld t Kind.trunk (le p 0 1) 2 3) ++ [0] ++ leBytes 4 k.rx ++
      leBytes 4 k.tx ++ leBytes 4 k.dropped ++ leBytes 4 k.errs ++ leBytes 4 k.fwd ++ leBytes 4 k.fwdDropped ++
      leBytes 4 k.heldDropped ++ leBytes 4 k.faults ++ leBytes 4 (faultSeconds k t))) := by
  subst hk
  unfold cardLinkStatus
  exact ranged_ok _ _ _ (by simp [hl])

section
variable (hport : le p 0 1 ≤ 1) (hbulk : le p 1 1 ≤ 1)
include hport hbulk

theorem cardEthTx_of_length (hn : le p 2 2 < 60 ∨ 1514 < le p 2 2) : cardEthTx org l p t = (t, .no St.frame 0) := by
  unfold cardEthTx
  dsimp only
  rw [ranged_ok _ _ _ (by simp [hport, hbulk]), if_pos hn]

theorem cardEthTx_queues (hn : 60 ≤ le p 2 2 ∧ le p 2 2 ≤ 1514)
    (hoff : (!(le p 1 1 == 1) || decide (le p 4 4 + le p 2 2 ≤ 65536)) = true) (hd : t.duty = true)
    (hup : (t.link (8 + le p 0 1)).state = .up) (hq : (t.link (8 + le p 0 1)).qHost.length < 32) : cardEthTx org l p t =
      (linkUpd (8 + le p 0 1) (fun k => { k with qHost := k.qHost ++
        [.host (if le p 1 1 == 1 then bulkBytes t (le p 4 4) (le p 2 2) else (p.drop 4).take (le p 2 2))] }) t, .ok []) := by
  unfold cardEthTx
  dsimp only
  rw [ranged_ok _ _ _ (by simp [hport, hbulk]), if_neg (by omega), ranged_ok _ _ _ (by simpa using hoff), if_neg (by simp [hd]),
    if_neg (by simp [hup]), if_neg (Nat.not_le.mpr hq)]

end

section
variable (hphy : le p 0 1 ≤ 31) (hreg : le p 1 1 ≤ 31) (hz : zeroed p 3 1 = true)
include hphy hreg hz

theorem cardMdio_write (hop : le p 2 1 = 1) : cardMdio org l p t =
    ({ t with links := { t.links with mdio := t.links.mdio.set (le p 0 1 * 32 + le p 1 1) (le p 4 2) } }, .ok (leBytes 2 0)) := by
  unfold cardMdio
  dsimp only
  rw [ranged_ok _ _ _ (by simp [allOk_zero, hphy, hreg, hop, hz]), if_pos hop]

/-- A read asks the PHY, whose data, or silence, is free (R90). -/
theorem cardMdio_read {n d : Nat} (hop : le p 2 1 = 0) (hn : n = t.sys.free)
    (hd : d = (Config.mdioData (le p 0 1) (le p 1 1) n).toNat) : cardMdio org l p t =
      if Config.mdioAnswers (le p 0 1) (le p 1 1) n then
        ({ t with
          sys := { t.sys with free := n + 1 }
          links := { t.links with mdio := t.links.mdio.set (le p 0 1 * 32 + le p 1 1) d } }, .ok (leBytes 2 d))
      else ({ t with sys := { t.sys with free := n + 1 } }, .no St.mdioTimeout 0) := by
  subst hn hd
  unfold cardMdio
  dsimp only
  rw [ranged_ok _ _ _ (by simp [allOk_zero, hphy, hreg, hop, hz]), if_neg (by omega)]
  rfl

end

theorem cardTrunkTx_queues (ht : le p 0 1 ≤ 7) (hm : (trunkMode t (le p 0 1) != 2) = true)
    (htyp : 5 ≤ le p 1 1 ∧ le p 1 1 ≤ 7) (hz : zeroed p 3 1 = true) (hn : le p 4 2 ≤ 501) (hd : t.duty = true)
    (hup : (t.link (le p 0 1)).state = .up) (hq : (t.link (le p 0 1)).qHost.length < 16) : cardTrunkTx org l p t =
      (trunkKick (le p 0 1) (linkUpd (le p 0 1) (fun k => { k with
        qHost := k.qHost ++ [.mstp (le p 1 1) (le p 2 1) ((p.drop 6).take (le p 4 2))] }) t), .ok []) := by
  unfold cardTrunkTx
  dsimp only
  rw [ranged_ok _ _ _ (by simp only [allOk_append, allOk_cons, allOk_nil, allOk_zero, ht, hm, htyp, hz, hn, and_self, decide_true,
      Bool.and_true]), if_neg (by simp [hd]), if_neg (by simp [hup]), if_neg (Nat.not_le.mpr hq)]

/-! ## Records of point acquisition (R119, R120, R126, R140) -/

theorem cardPaSetCfg_ranged (hk : keeps paFields (le p 0 16) = true) :
    cardPaSetCfg org l p t = journalArg org true 0 [wr Kind.pa 0 (le p 0 16)] [] t := by
  unfold cardPaSetCfg
  exact ranged_ok _ _ _ (by rw [allOk_mapped, hk])

theorem cardPaSetClass_ranged (hc : le p 0 1 ≤ 15) (hz : zeroed p 1 7 = true) (hk : keeps clsFields (le p 8 8) = true) :
    cardPaSetClass org l p t =
      if !allNormal t then (t, .no St.busy 0) else journalArg org true 0 [wr Kind.cls (le p 0 1) (le p 8 8)] [] t := by
  unfold cardPaSetClass
  exact ranged_ok _ _ _ (by simp [allOk_zero, allOk_mapped, hc, hz, hk])

section
variable (hdv : le p 0 2 ≤ 4095) (hz : zeroed p 2 2 = true)
include hdv hz

/-- An entry in use passes its own checks, and then those against the other entries (R119). -/
theorem cardPaSetDev_in_use (hused : (fld (le p 4 128) 0 2 == 0) = false) (hk : keeps devFields (le p 4 128) = true)
    (hj : allOk (devJoint t (le p 4 128)) = true) : cardPaSetDev org l p t =
      (devClash t (le p 0 2) (le p 4 128)).elim
        (if !allNormal t then (t, .no St.busy 0)
          else journalArg org true 0 [{ kind := Kind.dev, idx := le p 0 2, image := some (cleanImg devFields (le p 4 128)) }] [] t)
        (fun o => (t, conflict 0x0B o 0x0B (le p 0 2))) := by
  unfold cardPaSetDev
  simp only [hused, Bool.false_eq_true, if_false]
  rw [ranged_ok _ _ _ (by
    simp only [allOk_append, allOk_cons, allOk_nil, allOk_zero, allOk_mapped, hdv, hz, hk, hj, decide_true, Bool.and_true])]
  cases devClash t (le p 0 2) (le p 4 128) <;> rfl

/-- An entry without points is freed whatever its other fields hold (R120). -/
theorem cardPaSetDev_free (hfree : (fld (le p 4 128) 0 2 == 0) = true)
    (hk : keeps (devFields.filter (fun f => f.kind == .rsv)) (le p 4 128) = true)
    (hp : (devPoints t (le p 0 2)).isEmpty = true) : cardPaSetDev org l p t =
      if !allNormal t then (t, .no St.busy 0)
      else journalArg org true 0 [{ kind := Kind.dev, idx := le p 0 2, image := none }] [] t := by
  unfold cardPaSetDev
  simp only [hfree, if_true]
  rw [ranged_ok _ _ _ (by
    simp only [allOk_append, allOk_cons, allOk_nil, allOk_zero, allOk_mapped, hdv, hz, hk, hp, decide_true, Bool.and_true])]
  rfl

end

/-! ## PA_GET_DEV, PA_REBIND and PA_READ_NOW (R124, R140) -/

theorem cardPaGetDev_ranged (h : le p 0 2 ≤ 4095) :
    cardPaGetDev org l p t = (t, .ok (leBytes 128 (devImage t (le p 0 2)))) := by
  unfold cardPaGetDev
  exact ranged_ok _ _ _ (by simp [h])

theorem cardPaRebind_one (h : le p 0 2 ≤ 4095) (hd : t.duty = true) :
    cardPaRebind org l p t = (rebindDev (le p 0 2) t, .ok []) := by
  unfold cardPaRebind
  dsimp only
  rw [ranged_ok _ _ _ (by simp [h]), if_neg (by simp [hd]), if_neg (by omega)]

theorem cardPaRebind_all (h : le p 0 2 = 0xFFFF) (hd : t.duty = true) :
    cardPaRebind org l p t = (forAll (List.map (fun e => e.1) t.pnt.dev) rebindDev t, .ok []) := by
  unfold cardPaRebind
  dsimp only
  rw [ranged_ok _ _ _ (by simp [h]), if_neg (by simp [hd]), if_pos h]

/-- A field point of a device that is bound is read; of another device it is refused. -/
theorem cardPaReadNow_of_field (hn : le p 0 4 < 131072) (hd : t.duty = true)
    (hf : (ptConfigured t (le p 0 4) && (ptKind t (le p 0 4) == 3 || ptKind t (le p 0 4) == 4)) = true) :
    cardPaReadNow org l p t =
      if (t.dev (ptDv t (le p 0 4))).state != .bound then (t, .no St.notBound 0)
      else (pump (queueReq { dv := ptDv t (le p 0 4), kind := .readNow (le p 0 4) org } t), .wait (.readNow (le p 0 4))) := by
  unfold cardPaReadNow
  dsimp only
  rw [ranged_ok _ _ _ (by simp [hn]), if_neg (by simp [hd]), if_neg (by simp [hf])]

end

/-- Settles O50: each card, taken at once, by the checks that its fields, the areas, the duty and the link or device pass (R90, R97,
R101, R110, R112, R113, R119, R120, R140). -/
theorem fieldCardsTakenAtOnce : Obligations.FieldCards := by
  intro r p s t
  refine ⟨?_, ?_, ?_, ?_, ?_, ?_, ?_, ?_, ?_, ?_, ?_, ?_, ?_, ?_, ?_, ?_, ?_, ?_, ?_, ?_⟩
  · rintro port x other h rfl hx ho hport hz hmac hover hk hgw hclash hn hr
    have hnet : other.any (fun y => netOf (fld x 64 32) (min (fld x 96 8) (fld y 96 8)) ==
        netOf (fld y 64 32) (min (fld x 96 8) (fld y 96 8))) = false := by
      cases other <;> exact hover
    refine takes_recorded _ cardOf_flSetEth (by decide) h hr ?_
    rw [jcard_body, cardSetEth_ranged hx ho hport hz hmac hnet hk hgw, if_neg (by simp [hclash]), if_neg (by simp [hn])]
  · rintro k x h rfl rfl hk7 hz hk hu hmax hn hr
    refine takes_recorded _ cardOf_flSetTrunk (by decide) h hr ?_
    rw [jcard_body, cardSetTrunk_ranged hk7 hz hk hu hmax, if_neg (by simp [hn])]
  · rintro k x h rfl rfl hk7 hz hk hu hmax hn
    refine takes_no _ cardOf_flSetTrunk (by decide) h (by decide) ?_
    rw [jcard_body, cardSetTrunk_ranged hk7 hz hk hu hmax, if_pos (by simp [hn]), Res.no]
  · rintro l k h rfl hk hl
    refine takes_ok _ cardOf_flGetStatus (by decide) h ?_
    rw [act_body, cardLinkStatus_ranged hk hl]
    rfl
  · rintro port n k h rfl rfl rfl hport hbulk hn hoff hd hup hq
    refine takes_ok _ cardOf_flEthTx (by decide) h ?_
    dsimp only
    rw [cardEthTx_queues hport hbulk hn hoff hd hup hq]
  · rintro n h rfl hport hbulk hn
    refine takes_no _ cardOf_flEthTx (by decide) h (by decide) ?_
    dsimp only
    rw [cardEthTx_of_length hport hbulk hn, Res.no]
  · rintro phy reg h rfl rfl hphy hreg hop hz
    refine takes_ok _ cardOf_flMdio (by decide) h ?_
    rw [act_body, cardMdio_write hphy hreg hz hop]
  · rintro phy reg n d h rfl rfl hn hd hphy hreg hop hz ha
    refine takes_ok _ cardOf_flMdio (by decide) h ?_
    rw [act_body, cardMdio_read hphy hreg hz hop hn hd, if_pos ha]
  · rintro phy reg n h rfl rfl hn hphy hreg hop hz ha
    refine takes_no _ cardOf_flMdio (by decide) h (by decide) ?_
    rw [act_body, cardMdio_read hphy hreg hz hop hn rfl, if_neg (by simp [ha]), Res.no]
  · rintro k n h rfl rfl hk7 hm htyp hz hn hd hup hq
    refine takes_ok _ cardOf_flTrunkTx (by decide) h ?_
    dsimp only
    rw [cardTrunkTx_queues hk7 hm htyp hz hn hd hup hq]
  · rintro x h rfl hk hr
    refine takes_recorded _ cardOf_paSetCfg (by decide) h hr ?_
    rw [jcard_body, cardPaSetCfg_ranged hk]
  · rintro x h rfl hc hz hk hn hr
    refine takes_recorded _ cardOf_paSetClass (by decide) h hr ?_
    rw [jcard_body, cardPaSetClass_ranged hc hz hk, if_neg (by simp [hn])]
  · rintro dv x h rfl rfl hdv hz hused hk hj hclash hn hr
    refine takes_recorded _ cardOf_paSetDev (by decide) h hr ?_
    rw [jcard_body, cardPaSetDev_in_use hdv hz hused hk hj, hclash, Option.elim_none, if_neg (by simp [hn])]
  · rintro dv x h rfl rfl hdv hz hfree hk hp hn hr
    refine takes_recorded _ cardOf_paSetDev (by decide) h hr ?_
    rw [jcard_body, cardPaSetDev_free hdv hz hfree hk hp, if_neg (by simp [hn])]
  · rintro dv x o h rfl rfl hdv hz hused hk hj hclash
    refine takes_no _ cardOf_paSetDev (by decide) h (by decide) ?_
    rw [jcard_body, cardPaSetDev_in_use hdv hz hused hk hj, hclash, Option.elim_some, conflict]
  · rintro h hdv
    refine takes_ok _ cardOf_paGetDev (by decide) h ?_
    rw [act_body, cardPaGetDev_ranged hdv]
  · rintro dv h rfl hdv hd
    refine takes_ok _ cardOf_paRebind (by decide) h ?_
    rw [act_body, cardPaRebind_one hdv hd]
  · rintro h hall hd
    refine takes_ok _ cardOf_paRebind (by decide) h ?_
    rw [act_body, cardPaRebind_all hall hd]
  · rintro pn h rfl hn hd hf hb
    refine takes_wait _ cardOf_paReadNow (by decide) h ?_
    rw [act_body, cardPaReadNow_of_field hn hd hf, if_neg (by simp [hb])]
  · rintro pn h rfl hn hd hf hb
    refine takes_no _ cardOf_paReadNow (by decide) h (by decide) ?_
    rw [act_body, cardPaReadNow_of_field hn hd hf, if_pos hb, Res.no]

end Sys2Proof.Machine
end

section
/-!
SUPPORT. The timers of the device table and I-Am (05_point_acquisition.md R119 to R122, R124, R130): what each row does, by the state
of the entry.
-/

namespace Sys2Proof.Machine

open Sys2Proof

section
variable {dv : Nat} {s : State}

/-! ## SEEK, SILENT_PROBE, LIVENESS_PROBE and COV_RENEWAL (R120, R122, R130) -/

theorem seekRow_of_seeking (hs : (s.dev dv).state = .seeking) (hl : linksActive s = true) : seekRow dv s = seekDev dv s :=
  if_pos (by simp [hs, hl])

theorem seekRow_of_other (hs : (s.dev dv).state ≠ .seeking) : seekRow dv s = s := if_neg (by simp [hs])

theorem exec_seek (dv : Fin 4096) (h : enginesRun s = true) : exec (.seek dv) s = .next (after s (seekRow dv.val s)) :=
  engine_after (seekRow dv.val) s h

theorem livenessRow_of_idle (hs : (s.dev dv).state = .bound) (hi : (inFlight s dv).isEmpty = true) (hl : linksActive s = true) :
    livenessRow dv s = probeDev dv s :=
  if_pos (by simp [hs, hi, hl])

theorem livenessRow_of_other (hs : (s.dev dv).state ≠ .bound) : livenessRow dv s = s := if_neg (by simp [hs])

theorem exec_livenessProbe (dv : Fin 4096) (h : enginesRun s = true) :
    exec (.livenessProbe dv) s = .next (after s (livenessRow dv.val s)) :=
  engine_after (livenessRow dv.val) s h

theorem silentProbeRow_of_silent (hs : (s.dev dv).state = .silent) (hl : linksActive s = true) : silentProbeRow dv s =
    if byWhoIs (probeDev dv s) dv then
      sendWhoIs (devLink (probeDev dv s) dv) (devInst (probeDev dv s) dv) (devInst (probeDev dv s) dv) (probeDev dv s)
    else probeDev dv s :=
  if_neg (by simp [hs, hl])

theorem silentProbeRow_of_other (hs : (s.dev dv).state ≠ .silent) : silentProbeRow dv s = s := if_pos (by simp [hs])

theorem exec_silentProbe (dv : Fin 4096) (h : enginesRun s = true) :
    exec (.silentProbe dv) s = .next (after s (silentProbeRow dv.val s)) :=
  engine_after (silentProbeRow dv.val) s h

theorem covRenewRow_of_subscribed {pn : Nat} (hs : s.pnt.sub.get pn = true) (hl : linksActive s = true) :
    covRenewRow pn s = pump (queueReq { dv := ptDv s pn, kind := .subscribe pn } s) :=
  if_pos (by simp [hs, hl])

theorem covRenewRow_of_unsubscribed {pn : Nat} (hs : s.pnt.sub.get pn = false) : covRenewRow pn s = s := if_neg (by simp [hs])

theorem exec_covRenewal (pn : Fin 131072) (h : enginesRun s = true) :
    exec (.covRenewal pn) s = .next (after s (covRenewRow pn.val s)) :=
  engine_after (covRenewRow pn.val) s h

/-! ## DEVICE_SILENCE, UNBIND_TIMEOUT and DISC_AGE_TIMEOUT (R120) -/

theorem silenceRow_of_bound {t : State} (hs : (s.dev dv).state = .bound)
    (ht : t = devUpd dv (fun d => { d with state := .silent, staleDue := true }) (abandonReqs dv true s)) :
    silenceRow dv s = pump (raise 2 0x52 [ef 2 dv, ef 4 (devPoints t dv).length, efMT (s.dev dv).heard] t) := by
  subst ht
  exact if_neg (by simp [hs])

theorem silenceRow_of_other (hs : (s.dev dv).state ≠ .bound) : silenceRow dv s = s := if_pos (by simp [hs])

theorem exec_deviceSilence (dv : Fin 4096) (h : enginesRun s = true) :
    exec (.deviceSilence dv) s = .next (after s (silenceRow dv.val s)) :=
  engine_after (silenceRow dv.val) s h

theorem unbindRow_of_silent (hs : (s.dev dv).state = .silent) (hd : devStatic s dv = false) : unbindRow dv s =
    raise 2 0x53 [ef 2 dv] (devUpd dv (fun d => clearAddress { d with state := .seeking }) s) :=
  if_pos (by simp [hs, hd])

theorem unbindRow_of_other (hs : (s.dev dv).state ≠ .silent) : unbindRow dv s = s := if_neg (by simp [hs])

theorem exec_unbindTimeout (dv : Fin 4096) (h : enginesRun s = true) :
    exec (.unbindTimeout dv) s = .next (after s (unbindRow dv.val s)) :=
  engine_after (unbindRow dv.val) s h

theorem discAgeRow_of_discovered (hs : (s.dev dv).state = .discovered) : discAgeRow dv s = devUpd dv (fun _ => {}) s :=
  if_pos (beq_iff_eq.mpr hs)

theorem discAgeRow_of_other (hs : (s.dev dv).state ≠ .discovered) : discAgeRow dv s = s := if_neg (mt beq_iff_eq.mp hs)

theorem exec_discAgeTimeout (dv : Fin 4096) (h : enginesRun s = true) :
    exec (.discAgeTimeout dv) s = .next (after s (discAgeRow dv.val s)) :=
  engine_after (discAgeRow dv.val) s h

/-! ## I_AM (R120, R121) -/

section
variable {l inst maxApdu seg : Nat} {src : DevAddr}

theorem iAmRow_of_inactive (hl : linksActive s = false) : iAmRow l src inst maxApdu seg s = s := if_pos (by simp [hl])

section
variable (hl : linksActive s = true)
include hl

theorem links_not_inactive : ¬ (!linksActive s) = true := by simp [hl]

section
variable (hh : iAmHolder s inst = none)
include hh

theorem iAmRow_of_unlearned (ha : liveBit s Kind.pa 0 0 = false) : iAmRow l src inst maxApdu seg s = s := by
  unfold iAmRow
  rw [if_neg (links_not_inactive hl), hh]
  exact if_neg (Bool.eq_false_iff.mp ha)

theorem iAmRow_of_learned (ha : liveBit s Kind.pa 0 0 = true) (hf : freeDv s = some dv) : iAmRow l src inst maxApdu seg s =
    raise 3 0x51 ([ef 2 dv, ef 4 inst] ++ srcFields l src)
      (devUpd dv (fun _ => learnAddr src maxApdu seg
        { (default : Dev) with state := .discovered, inst := inst, link := l, heard := s.now }) s) := by
  unfold iAmRow
  rw [if_neg (links_not_inactive hl), hh]
  dsimp only
  rw [if_pos ha, hf]

theorem iAmRow_of_full_table (ha : liveBit s Kind.pa 0 0 = true) (hf : freeDv s = none) : iAmRow l src inst maxApdu seg s = s := by
  unfold iAmRow
  rw [if_neg (links_not_inactive hl), hh]
  dsimp only
  rw [if_pos ha, hf]

end

section
variable {d : Dev} (hh : iAmHolder s inst = some (dv, d))
include hh

theorem iAmRow_of_seeking (hd : d.state = .seeking) : iAmRow l src inst maxApdu seg s =
    if devLink s dv == l then bindDev dv (if devStatic s dv then s else devUpd dv (learnAddr src maxApdu seg) s) else s := by
  unfold iAmRow
  rw [if_neg (links_not_inactive hl), hh]
  dsimp only
  rw [hd]

theorem iAmRow_of_discovered (hd : d.state = .discovered) (hk : devLink s dv = l) : iAmRow l src inst maxApdu seg s =
    devUpd dv (fun d => learnAddr src maxApdu seg { d with heard := s.now }) s := by
  unfold iAmRow
  rw [if_neg (links_not_inactive hl), hh]
  dsimp only
  rw [hd]
  exact if_pos (beq_iff_eq.mpr hk)

/-- A second device with a BOUND one's number, on another link, is reported at most once in 60 s (R121). -/
theorem iAmRow_of_other_link (hd : d.state = .bound) (hk : devLink s dv ≠ l) : iAmRow l src inst maxApdu seg s =
    if s.every d.dupAt 60 then
      raise 2 0x55 ([ef 2 dv, ef 4 inst] ++ entryFieldsOf (devLink s dv) d ++ srcFields l src)
        (devUpd dv (fun d => { d with dupAt := some s.rtc.up }) s)
    else s := by
  unfold iAmRow
  rw [if_neg (links_not_inactive hl), hh]
  dsimp only
  rw [hd]
  exact if_pos (by simp [hk])

end
end
end

theorem exec_iAm (l : Fin 10) (src : DevAddr) (inst maxApdu seg : Nat) (h : enginesRun s = true) :
    exec (.iAm l src inst maxApdu seg) s = .next (after s (iAmRow l.val src inst maxApdu seg s)) :=
  engine_after (iAmRow l.val src inst maxApdu seg) s h

end

/-- Settles O27: each timer by the state of its device, and I-Am by the entry that holds its number, the state and the link
(R119 to R122, R124, R130). -/
theorem pointDiscovery : Obligations.PointDiscovery := by
  intro s h
  refine ⟨fun dv => ⟨fun hs hl => ?_, fun hs => ?_, fun hs => ⟨?_, ?_⟩, fun t hs ht => ?_, fun hs hi hl => ?_,
      fun t hs hl ht => ⟨fun hw => ?_, fun hw => ?_⟩, fun hs => ⟨?_, ?_⟩, fun hs hd => ?_, fun hs => ?_, fun hs => ?_⟩,
    fun pn => ⟨fun hs hl => ?_, fun hs => ?_⟩,
    fun l src inst maxApdu seg => ⟨fun hl => ?_, fun hl hh ha => ?_, fun dv hl hh ha hf => ?_, fun hl hh ha hf => ?_,
      fun dv d hl hh hd => ⟨fun hk hst => ?_, fun hk hst => ?_, fun hk => ?_⟩, fun dv d hl hh hd hk => ?_,
      fun dv d hl hh hd hk => ⟨fun he => ?_, fun he => ?_⟩⟩⟩
  · rw [exec_seek dv h, seekRow_of_seeking hs hl]
  · rw [exec_seek dv h, seekRow_of_other hs]
  · rw [exec_deviceSilence dv h, silenceRow_of_other hs]
  · rw [exec_livenessProbe dv h, livenessRow_of_other hs]
  · rw [exec_deviceSilence dv h, silenceRow_of_bound hs ht]
  · rw [exec_livenessProbe dv h, livenessRow_of_idle hs hi hl]
  · rw [exec_silentProbe dv h, silentProbeRow_of_silent hs hl, ← ht, if_neg (Bool.eq_false_iff.mp hw)]
  · rw [exec_silentProbe dv h, silentProbeRow_of_silent hs hl, ← ht, if_pos hw]
  · rw [exec_silentProbe dv h, silentProbeRow_of_other hs]
  · rw [exec_unbindTimeout dv h, unbindRow_of_other hs]
  · rw [exec_unbindTimeout dv h, unbindRow_of_silent hs hd]
  · rw [exec_discAgeTimeout dv h, discAgeRow_of_discovered hs]
  · rw [exec_discAgeTimeout dv h, discAgeRow_of_other hs]
  · rw [exec_covRenewal pn h, covRenewRow_of_subscribed hs hl]
  · rw [exec_covRenewal pn h, covRenewRow_of_unsubscribed hs]
  · rw [exec_iAm l src inst maxApdu seg h, iAmRow_of_inactive hl]
  · rw [exec_iAm l src inst maxApdu seg h, iAmRow_of_unlearned hl hh ha]
  · rw [exec_iAm l src inst maxApdu seg h, iAmRow_of_learned hl hh ha hf]
  · rw [exec_iAm l src inst maxApdu seg h, iAmRow_of_full_table hl hh ha hf]
  · rw [exec_iAm l src inst maxApdu seg h, iAmRow_of_seeking hl hh hd, if_pos (beq_iff_eq.mpr hk), if_neg (Bool.eq_false_iff.mp hst)]
  · rw [exec_iAm l src inst maxApdu seg h, iAmRow_of_seeking hl hh hd, if_pos (beq_iff_eq.mpr hk), if_pos hst]
  · rw [exec_iAm l src inst maxApdu seg h, iAmRow_of_seeking hl hh hd, if_neg (mt beq_iff_eq.mp hk)]
  · rw [exec_iAm l src inst maxApdu seg h, iAmRow_of_discovered hl hh hd hk]
  · rw [exec_iAm l src inst maxApdu seg h, iAmRow_of_other_link hl hh hd hk, if_pos he]
  · rw [exec_iAm l src inst maxApdu seg h, iAmRow_of_other_link hl hh hd hk, if_neg (Bool.eq_false_iff.mp he)]

end Sys2Proof.Machine
end

section
/-!
SUPPORT. Replies to reads, writes and subscriptions, and COV notifications (05_point_acquisition.md R128 to R131, R135, R137): what each
row does, by the identifier, the request that it names and the answer.
-/

namespace Sys2Proof.Machine

open Sys2Proof

section
variable {dv id : Nat} {s : State}

/-! ## Identifiers in quarantine, and those never issued (R137) -/

theorem readReplyRow_of_quarantined {rep : ReadReply} (hq : (s.dev dv).quarantine.contains id = true) :
    readReplyRow dv id rep s = lateReply dv s :=
  if_pos hq

theorem writeReplyRow_of_quarantined {rep : WriteAns} (hq : (s.dev dv).quarantine.contains id = true) :
    writeReplyRow dv id rep s = lateReply dv s :=
  if_pos hq

theorem subscribeReplyRow_of_quarantined {ok : Bool} {c : Nat} (hq : (s.dev dv).quarantine.contains id = true) :
    subscribeReplyRow dv id ok c s = lateReply dv s :=
  if_pos hq

theorem strayReply_of_never_issued (hi : (s.dev dv).issued ≤ id) :
    strayReply dv id s = { s with pnt := { s.pnt with stray := sat32 s.pnt.stray } } :=
  if_pos hi

section
variable (hq : (s.dev dv).quarantine.contains id = false)
include hq

/-! ## READ_REPLY (R128, R129) -/

theorem readReplyRow_of_unknown {rep : ReadReply} (hf : findReq s dv id = none) : readReplyRow dv id rep s = strayReply dv id s := by
  unfold readReplyRow
  dsimp only
  rw [if_neg (Bool.eq_false_iff.mp hq), hf]

section
variable {r : PntReq} (hf : findReq s dv id = some r)
include hf

theorem readReplyRow_of_read {rep : ReadReply} {pns : List Nat} {cls : Option Nat} (hk : r.kind = .read pns cls) :
    readReplyRow dv id rep s = goOn dv (readReply r rep (validReply dv (rtuAnswered dv id (dropReq dv id s)))) := by
  unfold readReplyRow
  dsimp only
  rw [if_neg (Bool.eq_false_iff.mp hq), hf]
  dsimp only
  rw [hk]

theorem readReplyRow_of_probe {rep : ReadReply} {rt : Bool} (hk : r.kind = .probe rt) : readReplyRow dv id rep s =
    goOn dv (probeReply dv rt ((s.dev dv).state != .bound) rep
      (probeAnswered dv (validReply dv (rtuAnswered dv id (dropReq dv id s))))) := by
  unfold readReplyRow
  dsimp only
  rw [if_neg (Bool.eq_false_iff.mp hq), hf]
  dsimp only
  rw [hk]

theorem writeReplyRow_of_write {rep : WriteAns} {pn pri : Nat} {null : Bool} {v : U32} (hk : r.kind = .write pn pri null v) :
    writeReplyRow dv id rep s = writeAnswered dv id pn pri r.tries null rep s := by
  unfold writeReplyRow
  rw [if_neg (Bool.eq_false_iff.mp hq), hf]
  dsimp only
  rw [hk]

/-! ## SUBSCRIBE_COV_REPLY (R130) -/

section
variable {pn c : Nat} {t : State} (hk : r.kind = .subscribe pn) (ht : t = validReply dv (dropReq dv id s))
include hk ht

theorem subscribeReplyRow_of_accepted : subscribeReplyRow dv id true c s = goOn dv
    (if isFieldPoint t dv pn then { t with pnt := { t.pnt with sub := t.pnt.sub.set pn true } } else t) := by
  subst ht
  unfold subscribeReplyRow
  rw [if_neg (Bool.eq_false_iff.mp hq), hf]
  dsimp only
  rw [hk]
  rfl

theorem subscribeReplyRow_of_refused : subscribeReplyRow dv id false c s = goOn dv (subscribeFailed dv pn c t) := by
  subst ht
  unfold subscribeReplyRow
  rw [if_neg (Bool.eq_false_iff.mp hq), hf]
  dsimp only
  rw [hk]
  rfl

end
end
end

/-! ## WRITE_REPLY (R135) -/

/-- A write that has been answered is not repeated. -/
def resendEnded (pn pri : Nat) (u : State) : State :=
  { u with pnt := { u.pnt with resend := u.pnt.resend.set (pn * 32 + pri) none } }

section
variable {pn pri tries : Nat} {null : Bool}

theorem busyAnswer_exception_iff (c : Byte) : busyAnswer (.exception c) = true ↔ c.toNat = 5 ∨ c.toNat = 6 := by
  simp [busyAnswer]

theorem writeAnswered_of_busy {c : Byte} (hc : c.toNat = 5 ∨ c.toNat = 6) (hr : tries < devRetries (rtuAnswered dv id s) dv) :
    writeAnswered dv id pn pri tries null (.exception c) s = validFrame dv (rtuAnswered dv id s) :=
  if_pos (by simp [(busyAnswer_exception_iff c).mpr hc, hr])

section
variable {t : State} (ht : t = validReply dv (dropReq dv id (rtuAnswered dv id s)))
include ht

theorem writeAnswered_of_ack : writeAnswered dv id pn pri tries null .ack s = goOn dv (resendEnded pn pri
    (if null && (shadowOf t pn pri).any (fun i => (t.pts.shadow.get i).relinq) then freeShadowOf pn pri t else t)) := by
  subst ht
  unfold writeAnswered
  exact if_neg (by simp [busyAnswer])

/-- The shadow stays: the write was no null, or its slot has none, or one that a later write has filled again (R78). -/
theorem writeAnswered_of_ack_kept
    (hk : null = false ∨ shadowOf t pn pri = none ∨ ∃ i, shadowOf t pn pri = some i ∧ (t.pts.shadow.get i).relinq = false) :
    writeAnswered dv id pn pri tries null .ack s = goOn dv (resendEnded pn pri t) := by
  rw [writeAnswered_of_ack ht, if_neg]
  rcases hk with hn | hn | ⟨i, hi, hr⟩
  · simp [hn]
  · simp [hn]
  · simp [hi, hr]

theorem writeAnswered_of_ack_freed {i : Nat} (hi : shadowOf t pn pri = some i) (hr : (t.pts.shadow.get i).relinq = true) :
    writeAnswered dv id pn pri tries true .ack s = goOn dv (resendEnded pn pri (freeShadowOf pn pri t)) := by
  rw [writeAnswered_of_ack ht, if_pos (by simp [hi, hr])]

theorem writeAnswered_of_error (c e : U16) : writeAnswered dv id pn pri tries null (.error c e) s =
    goOn dv (resendEnded pn pri (writeFailed pn pri 0 c.toNat e.toNat t)) := by
  subst ht
  unfold writeAnswered
  exact if_neg (by simp [busyAnswer])

end
end

theorem exec_readReply (dv : Fin 4096) (id : U16) (rep : ReadReply) (h : enginesRun s = true) :
    exec (.readReply dv id rep) s = .next (after s (readReplyRow dv.val id.toNat rep s)) :=
  engine_after (readReplyRow dv.val id.toNat rep) s h

theorem exec_writeReply (dv : Fin 4096) (id : U16) (rep : WriteAns) (h : enginesRun s = true) :
    exec (.writeReply dv id rep) s = .next (after s (writeReplyRow dv.val id.toNat rep s)) :=
  engine_after (writeReplyRow dv.val id.toNat rep) s h

theorem exec_subscribeCovReply (dv : Fin 4096) (id : U16) (ok : Bool) (c : Byte) (h : enginesRun s = true) :
    exec (.subscribeCovReply dv id ok c) s = .next (after s (subscribeReplyRow dv.val id.toNat ok c.toNat s)) :=
  engine_after (subscribeReplyRow dv.val id.toNat ok c.toNat) s h

end

/-! ## COV_NOTIFICATION (R131) -/

/-- The source is heard, and a confirmed notification acknowledged. -/
def covAcked (l : Nat) (src : DevAddr) (confirmed : Option Nat) (s : State) : State :=
  match confirmed with
  | some id => sendCovAck l (destOfAddr l src) id (heardFrom l src s)
  | none => heardFrom l src s

/-- The notification fits the point: source, process identifier and object (R131). -/
def covFits (l : Nat) (src : DevAddr) (pid obj : Nat) (t : State) : Bool :=
  (devOfAddr t l src).any (fun dv => isFieldPoint t dv pid && ptKind t pid == 3 && ptRef t pid == obj && decide (pid < 131072))

/-- What an unmatched notification is answered with: a cancellation, to the entry of its source or to the bare address. -/
def covCancelled (l : Nat) (src : DevAddr) (pid obj : Nat) (u : State) : State :=
  match devOfAddr u l src with
  | some dv => pump (queueReq { dv := dv, kind := .cancel pid obj } u)
  | none => sendNpdu l (destOfAddr l src) 0 (.subscribeCov pid obj none) u

section
variable {l pid obj : Nat} {src : DevAddr} {item : Option FieldRead} {confirmed : Option Nat} {s t u : State}

theorem covRow_of_stopped (h : linksActive s = false ∨ (s.link l).state ≠ .up) : covRow l src pid obj item confirmed s = s :=
  if_pos (by simpa using h)

theorem covFits_of_matched {d : Nat} (hd : devOfAddr t l src = some d) (hp : isFieldPoint t d pid = true) (hk : ptKind t pid = 3)
    (hr : ptRef t pid = obj) (hn : pid < 131072) : covFits l src pid obj t = true := by
  simp [covFits, hd, hp, hk, hr, hn]

theorem covFits_of_mismatch {d : Nat} (hd : devOfAddr t l src = some d)
    (h : isFieldPoint t d pid = false ∨ ptKind t pid ≠ 3 ∨ ptRef t pid ≠ obj ∨ 131072 ≤ pid) : covFits l src pid obj t = false := by
  rcases h with h | h | h | h <;> simp [covFits, hd, h]

theorem covFits_of_unknown_source (hd : devOfAddr t l src = none) : covFits l src pid obj t = false := by
  simp [covFits, hd]

section
variable (hl : linksActive s = true) (hu : (s.link l).state = .up) (ht : t = covAcked l src confirmed s)
include hl hu ht

theorem covRow_of_fitting {v : FieldRead} (hf : covFits l src pid obj t = true) :
    covRow l src pid obj (some v) confirmed s = refreshField (ptDv t pid) pid v t := by
  subst ht
  unfold covRow
  rw [if_neg (by simp [hl, hu])]
  cases confirmed <;> exact if_pos hf

theorem covRow_of_unmatched (hf : covFits l src pid obj t = false) : covRow l src pid obj item confirmed s =
    covCancelled l src pid obj { t with pnt := { t.pnt with stray := sat32 t.pnt.stray } } := by
  subst ht
  unfold covRow
  rw [if_neg (by simp [hl, hu])]
  cases confirmed <;> exact if_neg (Bool.eq_false_iff.mp hf)

end

theorem covCancelled_of_entry {d : Nat} (hd : devOfAddr u l src = some d) :
    covCancelled l src pid obj u = pump (queueReq { dv := d, kind := .cancel pid obj } u) := by
  unfold covCancelled
  rw [hd]

theorem covCancelled_of_unknown_source (hd : devOfAddr u l src = none) :
    covCancelled l src pid obj u = sendNpdu l (destOfAddr l src) 0 (.subscribeCov pid obj none) u := by
  unfold covCancelled
  rw [hd]

theorem exec_covNotification (l : Fin 10) (src : DevAddr) (pid : Nat) (obj : U32) (item : Option FieldRead) (cf : Option Byte)
    (h : enginesRun s = true) : exec (.covNotification l src pid obj item cf) s =
      .next (after s (covRow l.val src pid obj.toNat item (cf.map (·.toNat)) s)) :=
  engine_after _ s h

end

/-- Settles O28: each reply by its identifier, the kind of the request that this names and the answer, and a notification by its link,
its source and the point that it names (R128 to R131, R135, R137). -/
theorem pointReplies : Obligations.PointReplies := by
  intro s h dv id
  refine ⟨fun rep hq => ?_, fun rep hq => ?_, fun ok c hq => ?_, fun rep hq hf hi => ?_, fun items r pns cls hq hf hk => ?_,
    fun rep r rt t hq hf hk ht => ?_,
    fun r pn pri null v hq hf hk => ⟨fun t ht => ⟨fun hkeep => ?_, fun i u hn hi hr hu => ?_, fun c e u hu => ?_⟩, fun c hc hr => ?_⟩,
    fun r pn hq hf hk t c ht => ⟨?_, ?_⟩,
    fun l src pid obj item cf => ⟨fun hno => ?_, fun hl hup t ht => ?_⟩⟩
  · rw [exec_readReply dv id rep h, readReplyRow_of_quarantined hq]
  · rw [exec_writeReply dv id rep h, writeReplyRow_of_quarantined hq]
  · rw [exec_subscribeCovReply dv id ok c h, subscribeReplyRow_of_quarantined hq]
  · rw [exec_readReply dv id rep h, readReplyRow_of_unknown hq hf, strayReply_of_never_issued hi]
  · rw [exec_readReply dv id _ h, readReplyRow_of_read hq hf hk]
    rfl
  · rw [exec_readReply dv id rep h, readReplyRow_of_probe hq hf hk, ← ht]
  · rw [exec_writeReply dv id _ h, writeReplyRow_of_write hq hf hk, writeAnswered_of_ack_kept ht hkeep]
    rfl
  · rw [exec_writeReply dv id _ h, writeReplyRow_of_write hq hf hk, hn, writeAnswered_of_ack_freed ht hi hr, hu]
    rfl
  · rw [exec_writeReply dv id _ h, writeReplyRow_of_write hq hf hk, writeAnswered_of_error ht, hu]
    rfl
  · rw [exec_writeReply dv id _ h, writeReplyRow_of_write hq hf hk, writeAnswered_of_busy hc hr]
  · rw [exec_subscribeCovReply dv id true c h, subscribeReplyRow_of_accepted hq hf hk ht]
  · rw [exec_subscribeCovReply dv id false c h, subscribeReplyRow_of_refused hq hf hk ht]
  · rw [exec_covNotification l src pid obj item cf h, covRow_of_stopped hno]
  · have hack : t = covAcked l.val src (cf.map (·.toNat)) s := by cases cf <;> exact ht
    rw [exec_covNotification l src pid obj item cf h]
    refine ⟨fun d v hd hp hk hr hn hv => ?_, fun u hu => ⟨fun d hd hno => ?_, fun hd => ?_⟩⟩
    · rw [hv, covRow_of_fitting hl hup hack (covFits_of_matched hd hp hk hr hn)]
    · have hdu : devOfAddr u l.val src = some d := by rw [hu]; exact hd
      rw [covRow_of_unmatched hl hup hack (covFits_of_mismatch hd hno), ← hu, covCancelled_of_entry hdu]
    · have hdu : devOfAddr u l.val src = none := by rw [hu]; exact hd
      rw [covRow_of_unmatched hl hup hack (covFits_of_unknown_source hd), ← hu, covCancelled_of_unknown_source hdu]

end Sys2Proof.Machine
end

section
/-!
SUPPORT. The timers of requests, repeated writes and poll rounds (05_point_acquisition.md R126, R127, R130, R135 to R137): what each row
does, case by case.
-/

namespace Sys2Proof.Machine

open Sys2Proof

section
variable {dv id : Nat} {s : State}

/-! ## REQUEST_TIMEOUT, INVOKE_ID_QUARANTINE_END and MODBUS_BUSY_RETRY (R135 to R137) -/

theorem requestTimeoutRow_of_unknown (hf : findReq s dv id = none) : requestTimeoutRow dv id s = s := by
  unfold requestTimeoutRow
  rw [hf]

section
variable {r : PntReq} (hf : findReq s dv id = some r)
include hf

theorem requestTimeoutRow_of_retry (hr : r.tries < devRetries s dv) : requestTimeoutRow dv id s = transmitReq dv id
    { s with pnt := { s.pnt with reqs := s.pnt.reqs.map (fun q =>
      if q.dv == dv && q.id == some id then { q with tries := q.tries + 1 } else q) } } := by
  unfold requestTimeoutRow
  rw [hf]
  exact if_pos hr

theorem requestTimeoutRow_of_exhausted (hr : devRetries s dv ≤ r.tries) :
    requestTimeoutRow dv id s = pump (requestFailed r id s) := by
  unfold requestTimeoutRow
  rw [hf]
  exact if_neg (Nat.not_lt.mpr hr)

/-- A busy retry is a timeout's, while retries are left. -/
theorem busyRetryRow_of_retry (hr : r.tries < devRetries s dv) : busyRetryRow dv id s = requestTimeoutRow dv id s := by
  unfold busyRetryRow
  rw [hf]
  exact if_pos hr

end

theorem exec_requestTimeout (dv : Fin 4096) (id : U16) (h : enginesRun s = true) :
    exec (.requestTimeout dv id) s = .next (after s (requestTimeoutRow dv.val id.toNat s)) :=
  engine_after (requestTimeoutRow dv.val id.toNat) s h

theorem exec_invokeIdQuarantineEnd (dv : Fin 4096) (id : U16) (h : enginesRun s = true) :
    exec (.invokeIdQuarantineEnd dv id) s = .next (after s (quarantineEndRow dv.val id.toNat s)) :=
  engine_after (quarantineEndRow dv.val id.toNat) s h

theorem exec_modbusBusyRetry (dv : Fin 4096) (id : U16) (h : enginesRun s = true) :
    exec (.modbusBusyRetry dv id) s = .next (after s (busyRetryRow dv.val id.toNat s)) :=
  engine_after (busyRetryRow dv.val id.toNat) s h

/-! ## WRITE_RESEND (R135) -/

section
variable {pn pri : Nat}

theorem writeResendRow_of_nothing (hn : s.pnt.resend.get (pn * 32 + pri) = none) : writeResendRow pn pri s = s := by
  unfold writeResendRow
  rw [hn]

section
variable {null : Bool} {v : U32} (hw : s.pnt.resend.get (pn * 32 + pri) = some (null, v))
include hw

theorem writeResendRow_of_covered (ho : standsOut s pn pri = false) : writeResendRow pn pri s = s := by
  unfold writeResendRow
  rw [hw]
  exact if_pos (by simp [ho])

theorem writeResendRow_of_shadow (ho : standsOut s pn pri = true) {i : Nat} (hi : shadowOf s pn pri = some i) :
    writeResendRow pn pri s = forwardWrite pn pri (s.pts.shadow.get i).writer (s.pts.shadow.get i).relinq (s.pts.shadow.get i).value s := by
  unfold writeResendRow
  rw [hw]
  dsimp only
  rw [if_neg (by simp [ho]), hi]

theorem writeResendRow_of_no_shadow (ho : standsOut s pn pri = true) (hi : shadowOf s pn pri = none) :
    writeResendRow pn pri s = forwardWrite pn pri WClass.cascade.code null v s := by
  unfold writeResendRow
  rw [hw]
  dsimp only
  rw [if_neg (by simp [ho]), hi]

end
end

theorem exec_writeResend (pn : Fin 131072) (pri : Fin 17) (h : enginesRun s = true) :
    exec (.writeResend pn pri) s = .next (after s (writeResendRow pn.val pri.val s)) :=
  engine_after (writeResendRow pn.val pri.val) s h

/-! ## POLL_CLASS_DUE (R126, R127) -/

theorem pollDueIn_iff (s : State) (cls : Nat) (c : U32) : pollDueIn s cls c = true ↔
    flag (liveImg s Kind.cls cls) 36 = true ∧ c.toNat % (max 1 (fld (liveImg s Kind.cls cls) 0 16)) = 0 ∧
      s.pnt.roundC.get cls ≠ some c := by
  simp [pollDueIn, and_assoc]

section
variable {cls : Nat}

theorem pollRow_of_due (hd : pollDueIn s cls s.now.c = true) :
    pollRow cls s = pollRound cls s.now.c (reachAngle (u16 (liveFld s Kind.cls cls 16 16)) s) :=
  if_pos hd

theorem pollRow_of_not_due (hd : ¬ pollDueIn s cls s.now.c = true) : pollRow cls s = s := if_neg hd

theorem pollRound_of_inactive {c : U32} (hl : linksActive s = false) : pollRound cls c s = s := if_pos (by simp [hl])

/-- A due round is taken for the cycle; with nothing queued the class has not overrun. -/
theorem pollRound_of_empty_queue {c : U32} (hd : pollDueIn s cls c = true) (hl : linksActive s = true) (hq : s.pnt.reqs = []) :
    pollRound cls c s = pump (forAll (pollDevices s) (pollDevice cls)
      { s with pnt := { s.pnt with roundC := s.pnt.roundC.set cls (some c) } }) := by
  unfold pollRound
  dsimp only
  rw [if_neg (by simp [hd, hl]), if_neg (fun ho => by simp [hq] at ho)]
  rfl

end

theorem exec_pollClassDue (cls : Fin 16) (h : enginesRun s = true) :
    exec (.pollClassDue cls) s = .next (after s (pollRow cls.val s)) :=
  engine_after (pollRow cls.val) s h

end

/-- Settles O29: each timer by the request, the retries, the shadow and the class that it finds (R126, R127, R130, R135 to R137). -/
theorem pointTimers : Obligations.PointTimers := by
  intro s h
  refine ⟨fun dv id => ⟨fun hf => ?_, fun r hf hr => ?_, fun r hf hr => ?_, ?_, fun r hf hr => ?_⟩,
    fun pn pri => ⟨fun hn => ?_, fun null v hw => ⟨fun ho => ?_, fun i ho hi => ?_, fun ho hi => ?_⟩⟩,
    fun cls => ⟨fun hno => ?_, fun t hfl hper hrnd ht => ?_⟩⟩
  · rw [exec_requestTimeout dv id h, requestTimeoutRow_of_unknown hf]
  · rw [exec_requestTimeout dv id h, requestTimeoutRow_of_retry hf hr]
  · rw [exec_requestTimeout dv id h, requestTimeoutRow_of_exhausted hf hr]
  · exact exec_invokeIdQuarantineEnd dv id h
  · rw [exec_modbusBusyRetry dv id h, busyRetryRow_of_retry hf hr, requestTimeoutRow_of_retry hf hr]
  · rw [exec_writeResend pn pri h, writeResendRow_of_nothing hn]
  · rw [exec_writeResend pn pri h, writeResendRow_of_covered hw ho]
  · rw [exec_writeResend pn pri h, writeResendRow_of_shadow hw ho hi]
  · rw [exec_writeResend pn pri h, writeResendRow_of_no_shadow hw ho hi]
  · have hnot : ¬ pollDueIn s cls.val s.now.c = true := by
      rw [pollDueIn_iff]
      rintro ⟨hfl, hper, hrnd⟩
      rcases hno with hno | hno | hno
      · exact absurd hfl (Bool.eq_false_iff.mp hno)
      · exact hno hper
      · exact hrnd hno
    rw [exec_pollClassDue cls h, pollRow_of_not_due hnot]
  · rw [exec_pollClassDue cls h, pollRow_of_due ((pollDueIn_iff s cls.val s.now.c).mpr ⟨hfl, hper, hrnd⟩), ← ht]
    exact ⟨fun hd hl hq => by rw [pollRound_of_empty_queue hd hl hq], fun hl => by rw [pollRound_of_inactive hl]⟩

end Sys2Proof.Machine
end

section
/-!
SUPPORT. The words of a scan (06_loop_engine.md R144 to R146, R148, R149): what a lane does with the word at which its scan stands,
and the operations that read points, load, move, write, compute and compare.
-/

namespace Sys2Proof.Machine

open Sys2Proof

/-! ## The word at which a scan stands (R148) -/

/-- The scan `r` that lane `l` runs stands at the word `w` of its program. -/
structure StandsAt (l : Nat) (s : State) (r : ScanRun) (w : Nat) : Prop where
  run : (s.lane l).run = some r
  inside : r.pc < lpLength r.image
  word : w = lpWord r.image r.pc

section
variable {l opc w : Nat} {s : State} {r : ScanRun}

theorem fetchOp_of_standsAt (h : StandsAt l s r w) (ho : opOpc w = opc) : fetchOp l opc s = some (r, w) := by
  obtain ⟨hrun, hin, rfl⟩ := h
  unfold fetchOp
  rw [hrun]
  exact if_pos ⟨hin, ho⟩

theorem opRow_of_standsAt (f : Nat → ScanRun → ScanRun) (h : StandsAt l s r w) (ho : opOpc w = opc) :
    opRow l opc f s = endWord l r (f w r) w (r.pc + 1) s := by
  unfold opRow
  rw [fetchOp_of_standsAt h ho]

/-- An instruction of the lanes whose operation `f` turns the scan `r` into `r'`: the scan goes on behind its word. -/
theorem exec_word {i : Instr} {r' : ScanRun} (f : State → Nat → ScanRun → ScanRun) (he : enginesRun s = true)
    (h : StandsAt l s r w) (ho : opOpc w = opc) (hf : f s w r = r')
    (hi : exec i s = done s (whenEngine (fun t => opRow l opc (f t) t) s)) :
    exec i s = .next (after s (endWord l r r' w (r.pc + 1) s)) := by
  rw [hi, engine_after _ s he, opRow_of_standsAt (f s) h ho, hf]

end

/-! ## SEL and QNT (R146) -/

section
variable {w : Nat} {r : ScanRun}

theorem opSel_of_true (h : isTrue (r.v (opC w)) = true) : opSel w r = r.setV (opD w) (r.v (opA w)) := by
  unfold opSel
  rw [if_pos h]

theorem opSel_of_false (h : isTrue (r.v (opC w)) = false) : opSel w r = r.setV (opD w) (r.v (opB w)) := by
  unfold opSel
  rw [if_neg (Bool.eq_false_iff.mp h)]

/-- A step that is not above 0 leaves the operand as it is. -/
theorem opQnt_of_no_step (h : fle (r.v (opB w)) 0 = true) : opQnt w r = r.produce (opD w) (r.v (opA w)) := if_pos h

theorem opQnt_of_step {i : Int} (h : fle (r.v (opB w)) 0 = false) (hi : froundAway (fdiv (r.v (opA w)) (r.v (opB w))) = some i) :
    opQnt w r = r.produce (opD w) (fmul (realOfInt i) (r.v (opB w))) := by
  unfold opQnt
  dsimp only
  rw [if_neg (Bool.eq_false_iff.mp h), hi]

end

/-- Settles O19: each operation by the scan it leaves, at the word where the scan stands (R144 to R146, R148). -/
theorem laneMoves : Obligations.LaneMoves := by
  intro l s r w he hrun hin hw
  have h : StandsAt l.val s r w := ⟨hrun, hin, hw⟩
  refine ⟨fun ho => ?_, fun ho => ?_, fun ho => ?_, fun ho => ?_, fun ho => ?_, fun ho => ?_, fun ho => ?_, fun ho hc => ?_,
    fun ho hc => ?_⟩
  · exact exec_word opLdp he h ho rfl rfl
  · exact exec_word opLdf he h ho rfl rfl
  · exact exec_word (fun _ => opLdk) he h ho rfl rfl
  · exact exec_word (fun _ => opLdw) he h ho rfl rfl
  · exact exec_word (fun _ => opStp) he h ho rfl rfl
  · exact exec_word (fun _ => opRelp) he h ho rfl rfl
  · exact exec_word (fun _ => opMov) he h ho rfl rfl
  · exact exec_word (fun _ => opSel) he h ho (opSel_of_true hc) rfl
  · exact exec_word (fun _ => opSel) he h ho (opSel_of_false hc) rfl

/-- Settles O20: each operation by the value or the truth that it writes, at the word where the scan stands (R145, R146, R149). -/
theorem laneArithmetic : Obligations.LaneArithmetic := by
  intro l s r w he hrun hin hw
  have h : StandsAt l.val s r w := ⟨hrun, hin, hw⟩
  refine ⟨fun ho => ?_, fun ho => ?_, fun ho => ?_, fun ho => ?_, fun ho => ?_, fun ho => ?_, fun ho => ?_, fun ho => ?_, fun ho => ?_,
    fun ho hb => ?_, fun i ho hb hi => ?_, fun ho => ?_, fun ho => ?_, fun ho => ?_, fun ho => ?_⟩
  · exact exec_word (fun _ => opBin fadd) he h ho rfl rfl
  · exact exec_word (fun _ => opBin fsub) he h ho rfl rfl
  · exact exec_word (fun _ => opBin fmul) he h ho rfl rfl
  · exact exec_word (fun _ => opBin fdiv) he h ho rfl rfl
  · exact exec_word (fun _ => opAbs) he h ho rfl rfl
  · exact exec_word (fun _ => opBin fmin) he h ho rfl rfl
  · exact exec_word (fun _ => opBin fmax) he h ho rfl rfl
  · exact exec_word (fun _ => opLim) he h ho rfl rfl
  · exact exec_word (fun _ => opCmp) he h ho rfl rfl
  · exact exec_word (fun _ => opQnt) he h ho (opQnt_of_no_step hb) rfl
  · exact exec_word (fun _ => opQnt) he h ho (opQnt_of_step hb hi) rfl
  · exact exec_word (fun _ => opLogic and) he h ho rfl rfl
  · exact exec_word (fun _ => opLogic or) he h ho rfl rfl
  · exact exec_word (fun _ => opLogic xor) he h ho rfl rfl
  · exact exec_word (fun _ => opNot) he h ho rfl rfl

end Sys2Proof.Machine
end

section
/-!
SUPPORT. The control operations of the lanes (06_loop_engine.md R146, R147, R149, R152): PID, RAMP, TPOS, SEQ, TAB and the timers by
the scan that each leaves, and the words that go on elsewhere than at the next word: TAB, JMP and END.
-/

namespace Sys2Proof.Machine

open Sys2Proof

section
variable {w : Nat} {r : ScanRun}

/-! ## PID (R147) -/

theorem opPid_of_nan (s : State) (h : (isNaN (r.v (opA w)) || isNaN (r.v (opB w))) = true) : opPid s w r = r := if_pos h

/-- The integral of a PID term without derivative: clamped to what the output limits leave beside the proportional part `p`. -/
def pidIntegral (w : Nat) (r : ScanRun) (p : Real32) : Real32 :=
  fmax (fmin (r.v (opC w + 3)) (fsub (fsub (r.w (opC w + 2)) p) 0)) (fsub (fsub (r.v (opC w + 2)) p) 0)

/-- The output of a PID term without derivative, clamped to its limits. -/
def pidOutput (w : Nat) (r : ScanRun) (p : Real32) : Real32 :=
  fmax (fmin (fadd (fadd p (pidIntegral w r p)) 0) (r.w (opC w + 2))) (r.v (opC w + 2))

/-- Direct action without integral time and derivative, outside INIT. -/
theorem opPid_of_proportional (s : State) (hn : (isNaN (r.v (opA w)) || isNaN (r.v (opB w))) = false) (hm : opMod w % 2 = 0)
    (hi : r.init = false) (htd : feq (r.v (opC w + 1)) 0 = true) (hti : (r.w (opC w)).toNat = 0) {p : Real32}
    (hp : p = fmul (r.v (opC w)) (fsub (r.v (opB w)) (r.v (opA w)))) :
    opPid s w r = ((r.produce (opD w) (pidOutput w r p)).produce (opC w + 3) (pidIntegral w r p)).setW (opC w + 3) (r.v (opA w)) := by
  have hdirect : ¬ opMod w % 2 = 1 := by omega
  have hnoint : ¬ 0 < (r.w (opC w)).toNat := by omega
  subst hp
  unfold opPid pidOutput pidIntegral
  simp only [hn, hi, htd, hdirect, hnoint, Bool.false_eq_true, if_false, if_true]

/-! ## RAMP (R146, R147) -/

section
variable (s : State) (hi : r.init = false) (hn : (isNaN (r.v (opA w)) || isNaN (r.v (opB w)) || flt (r.v (opB w)) 0) = false)
include hi hn

theorem opRamp_of_within (hs : (isInf (r.v (opB w)) ||
      fle (fabs (fsub (r.v (opA w)) (r.v (opD w)))) (fmul (r.v (opB w)) (realOfNat r.dt))) = true) :
    opRamp s w r = r.produce (opD w) (r.v (opA w)) := by
  unfold opRamp
  simp only [hi, hn, hs, Bool.false_eq_true, if_false, if_true]

theorem opRamp_of_below (hs : (isInf (r.v (opB w)) ||
      fle (fabs (fsub (r.v (opA w)) (r.v (opD w)))) (fmul (r.v (opB w)) (realOfNat r.dt))) = false)
    (hup : flt (r.v (opD w)) (r.v (opA w)) = true) :
    opRamp s w r = r.produce (opD w) (fadd (r.v (opD w)) (fmul (r.v (opB w)) (realOfNat r.dt))) := by
  unfold opRamp
  simp only [hi, hn, hs, hup, Bool.false_eq_true, if_false, if_true]

end

/-! ## TPOS (R146) -/

theorem opTpos_of_nan (h : isNaN (r.v (opA w)) = true) : opTpos w r = r := if_pos h

section
variable (hn : isNaN (r.v (opA w)) = false) (hm : opMod w % 2 = 0)
include hn hm

theorem opTpos_switches_on (hon : fle (r.v (opB w)) (r.v (opA w)) = true) : opTpos w r = r.setV (opD w) (ofTruth true) := by
  unfold opTpos
  simp only [hn, hm, hon, Bool.false_eq_true, if_false, if_true]
  rfl

theorem opTpos_switches_off (hon : fle (r.v (opB w)) (r.v (opA w)) = false)
    (hoff : fle (r.v (opA w)) (fsub (r.v (opB w)) (r.v (opC w))) = true) : opTpos w r = r.setV (opD w) (ofTruth false) := by
  unfold opTpos
  simp only [hn, hm, hon, hoff, Bool.false_eq_true, if_false, if_true]
  rfl

end

/-! ## SEQ (R147) -/

/-- An output that is not a number counts as stage 0, from which the first threshold leads to stage 1. -/
theorem opSeq_of_nan_steps_up (hn : isNaN (r.v (opD w)) = true) (hd : fld w 48 16 ≤ (r.w (opD w)).toNat) (hst : 0 < fld w 32 4)
    (hup : fle (fadd (fmul (realOfInt 0) (fdiv (realOfNat 100) (realOfNat (fld w 32 4)))) (r.v (opB w))) (r.v (opA w)) = true) :
    opSeq w r = (r.produce (opD w) (realOfInt 1)).setW (opD w) 0 := by
  have hbits : Fl.ofBits (r.v (opD w)) = .nan := beq_iff_eq.mp hn
  have hst' : (0 : Int) < (fld w 32 4 : Nat) := Int.natCast_pos.mpr hst
  unfold opSeq
  simp only [hbits, hd, hst', hup, decide_true, Bool.and_self, if_true, Int.zero_add]

/-! ## TAB, DON and DOFF (R146, R147) -/

theorem opTab_of_number (h : isNaN (r.v (opA w)) = false) :
    opTab w r = r.produce (opD w) (tabValue r.image (r.v (opA w)) (fld w 32 5) (r.pc + 1) none) := by
  unfold opTab
  simp only [h, Bool.false_eq_true, if_false]

/-- The time of a timer's register W, counted on by dt up to its last value. -/
def timerCount (w : Nat) (r : ScanRun) : Nat := min ((r.w (opD w)).toNat + r.dt) 0xFFFFFFFF

theorem opDon_of_true (h : isTrue (r.v (opA w)) = true) : opDon w r =
    (r.setV (opD w) (ofTruth (decide (opImm w ≤ timerCount w r)))).setW (opD w) (u32 (timerCount w r)) := by
  unfold opDon
  simp only [h, if_true]
  rfl

theorem opDon_of_false (h : isTrue (r.v (opA w)) = false) : opDon w r =
    (r.setV (opD w) (ofTruth (decide (opImm w ≤ 0)))).setW (opD w) 0 := by
  unfold opDon
  simp only [h, Bool.false_eq_true, if_false]
  rfl

theorem opDoff_of_true (h : isTrue (r.v (opA w)) = true) : opDoff w r = (r.setV (opD w) (ofTruth true)).setW (opD w) 0 := if_pos h

theorem opDoff_of_false (h : isTrue (r.v (opA w)) = false) : opDoff w r =
    (r.setV (opD w) (ofTruth (decide (timerCount w r < opImm w)))).setW (opD w) (u32 (timerCount w r)) :=
  if_neg (Bool.eq_false_iff.mp h)

end

/-! ## The words that choose where the scan goes on (R146 to R148, R152) -/

section
variable {w : Nat} {s : State} {r : ScanRun} (l : Fin 4) (he : enginesRun s = true) (h : StandsAt l.val s r w)
include he h

theorem exec_tab (ho : opOpc w = 0x24) :
    exec (.tab l) s = .next (after s (endWord l.val r (opTab w r) w (r.pc + 1 + fld w 32 5) s)) := by
  have hrow : tabRow l.val s = endWord l.val r (opTab w r) w (r.pc + 1 + fld w 32 5) s := by
    unfold tabRow
    rw [fetchOp_of_standsAt h ho]
  rw [← hrow]
  exact engine_after (tabRow l.val) s he

theorem exec_loopJmp (ho : opOpc w = 0x18) :
    exec (.loopJmp l) s = .next (after s (endWord l.val r r w (if jmpTaken w r then fld w 32 6 else r.pc + 1) s)) := by
  have hrow : loopJmpRow l.val s = endWord l.val r r w (if jmpTaken w r then fld w 32 6 else r.pc + 1) s := by
    unfold loopJmpRow
    rw [fetchOp_of_standsAt h ho]
  rw [← hrow]
  exact engine_after (loopJmpRow l.val) s he

theorem exec_loopEnd (ho : opOpc w = 0) : exec (.loopEnd l) s = .next (after s (commitScan l.val
    (laneUpd l.val (fun k => { k with run := some { r with clocks := r.clocks + 2 } }) s))) := by
  have hrow : loopEndRow l.val s =
      commitScan l.val (laneUpd l.val (fun k => { k with run := some { r with clocks := r.clocks + 2 } }) s) := by
    unfold loopEndRow
    rw [fetchOp_of_standsAt h ho]
  rw [← hrow]
  exact engine_after (loopEndRow l.val) s he

end

/-- Settles O21: each operation by the case of its operands, and the words that jump, pass over data or end (R146, R147, R152). -/
theorem laneControl : Obligations.LaneControl := by
  intro l s r w he hrun hin hw
  have h : StandsAt l.val s r w := ⟨hrun, hin, hw⟩
  refine ⟨fun ho hn => ?_, fun p i ho hn hm hi htd hti hp hint => ?_, fun ho hi hn hs => ?_, fun ho hi hn hs hup => ?_,
    fun ho hn => ?_, fun ho hn hm hon => ?_, fun ho hn hm hon hoff => ?_, fun ho hn hd hst hup => ?_, fun ho hn => ?_,
    fun ho ha => ?_, fun ho ha => ?_, fun ho ha => ?_, fun ho ha => ?_, fun ho hj => ?_, fun ho hj => ?_, fun ho => ?_⟩
  · exact exec_word opPid he h ho (opPid_of_nan s hn) rfl
  · subst hint
    exact exec_word opPid he h ho (opPid_of_proportional s hn hm hi htd hti hp) rfl
  · exact exec_word opRamp he h ho (opRamp_of_within s hi hn hs) rfl
  · exact exec_word opRamp he h ho (opRamp_of_below s hi hn hs hup) rfl
  · exact exec_word (fun _ => opTpos) he h ho (opTpos_of_nan hn) rfl
  · exact exec_word (fun _ => opTpos) he h ho (opTpos_switches_on hn hm hon) rfl
  · exact exec_word (fun _ => opTpos) he h ho (opTpos_switches_off hn hm hon hoff) rfl
  · exact exec_word (fun _ => opSeq) he h ho (opSeq_of_nan_steps_up hn hd hst hup) rfl
  · rw [exec_tab l he h ho, opTab_of_number hn]
  · exact exec_word (fun _ => opDon) he h ho (opDon_of_true ha) rfl
  · exact exec_word (fun _ => opDon) he h ho (opDon_of_false ha) rfl
  · exact exec_word (fun _ => opDoff) he h ho (opDoff_of_true ha) rfl
  · exact exec_word (fun _ => opDoff) he h ho (opDoff_of_false ha) rfl
  · rw [exec_loopJmp l he h ho, if_pos hj]
  · rw [exec_loopJmp l he h ho, if_neg (Bool.eq_false_iff.mp hj)]
  · exact exec_loopEnd l he h ho

end Sys2Proof.Machine
end

section
/-!
SUPPORT. The scheduling of loops and lanes (06_loop_engine.md R150 to R154, R156, R158, R160): when a loop falls due, which scan a
lane takes, and what its watchdog, its self-check and its test do to it.
-/

namespace Sys2Proof.Machine

open Sys2Proof

section
variable {s : State}

/-! ## LOOP_DUE (R150) -/

theorem loopDueRow_of_due {ln : Nat} (h : s.now.c.toNat % max 1 (lpPeriod (liveImg s Kind.loop ln)) = 0) :
    loopDueRow ln s = queueScan ln { c := s.now.c, a := u16 (lpOffset (liveImg s Kind.loop ln)) }
      (if lpEnable (liveImg s Kind.loop ln) then reachAngle (u16 (lpOffset (liveImg s Kind.loop ln))) s else s) := if_pos h

theorem loopDueRow_of_not_due {ln : Nat} (h : s.now.c.toNat % max 1 (lpPeriod (liveImg s Kind.loop ln)) ≠ 0) :
    loopDueRow ln s = s := if_neg h

theorem exec_loopDue (ln : Fin 8192) (h : enginesRun s = true) : exec (.loopDue ln) s = .next (after s (loopDueRow ln.val s)) :=
  engine_after (loopDueRow ln.val) s h

/-! ## LOOP_SCAN (R151, R153, R154, R156, R158) -/

section
variable {l : Nat}

theorem takeScan_of_unable (h : (s.lane l).state ≠ .inService ∨ (s.lane l).run ≠ none ∨ (s.lane l).waitRebalance = true ∨
    lanesRun s = false) : takeScan l s = s := by
  refine if_pos ?_
  rw [Option.ne_none_iff_isSome] at h
  rcases h with h | h | h | h <;> simp [h]

/-- Every queued scan is of a loop whose last scan still runs on another lane. -/
theorem takeScan_of_all_scanning (h : ∀ q ∈ (s.lane l).queue, scanning s q.ln = true) : takeScan l s = s := by
  have hempty : (s.lane l).queue.filter (fun q => !scanning s q.ln) = [] := List.filter_eq_nil_iff.mpr (fun q hq => by simp [h q hq])
  unfold takeScan
  dsimp only
  rw [hempty]
  exact ite_self s

section
variable {q : Scan} {u : State} (hs : (s.lane l).state = .inService) (hr : (s.lane l).run = none)
  (hw : (s.lane l).waitRebalance = false) (hl : lanesRun s = true)
  (hn : nextScan s ((s.lane l).queue.filter (fun q => !scanning s q.ln)) = some q)
  (hu : u = laneUpd l (fun k => { k with queue := k.queue.filter (· != q) }) s)

include hs hr hw hl in
theorem lane_able :
    ¬ ((s.lane l).state != .inService || (s.lane l).run.isSome || (s.lane l).waitRebalance || !lanesRun s) = true := by
  simp [hs, hr, hw, hl]

include hs hr hw hl hn hu

theorem takeScan_drops (h : (s.loop q.ln).quarantined = true ∨ lpEnable (liveImg s Kind.loop q.ln) = false) : takeScan l s = u := by
  subst hu
  unfold takeScan
  dsimp only
  rw [if_neg (lane_able hs hr hw hl), hn]
  exact if_pos (by rcases h with h | h <;> simp [h])

section
variable (hq : (s.loop q.ln).quarantined = false) (he : lpEnable (liveImg s Kind.loop q.ln) = true)
include hq he

theorem takeScan_goes_on (hi : (s.loop q.ln).init = false) : takeScan l s = laneUpd l (fun k => { k with run := some {
      ln := q.ln, due := q.due, image := liveImg s Kind.loop q.ln, regs := (s.loop q.ln).regs, init := false,
      dt := scanDt s q.ln q.due } }) u := by
  subst hu
  unfold takeScan
  dsimp only
  rw [if_neg (lane_able hs hr hw hl), hn]
  simp only [hq, he, hi, Bool.not_true, Bool.or_self, Bool.false_eq_true, if_false]
  rfl

/-- On INIT the registers are those of the record, and dt is the period (R153, R154). -/
theorem takeScan_starts_over (hi : (s.loop q.ln).init = true) {regs : Tab U64}
    (hregs : regs = (List.range 16).foldl (fun (t : Tab U64) i => t.set i (lpReg (liveImg s Kind.loop q.ln) i)) []) :
    takeScan l s = laneUpd l (fun k => { k with run := some {
      ln := q.ln, due := q.due, image := liveImg s Kind.loop q.ln, regs := regs, init := true,
      dt := lpPeriod (liveImg s Kind.loop q.ln) } }) (loopUpd q.ln (fun k => { k with regs := regs }) u) := by
  subst hu hregs
  unfold takeScan
  dsimp only
  rw [if_neg (lane_able hs hr hw hl), hn]
  simp only [hq, he, hi, Bool.not_true, Bool.or_self, Bool.false_eq_true, if_false, if_true]

end

end

/-! ## Faults of a lane, its self-check and its test (R158, R160) -/

theorem laneFaults_of_inService (cause : Nat) (h : (s.lane l).state = .inService) : laneFaults l cause s = faultLane l cause s :=
  if_neg (by simp [h])

/-- A fault ends the test that LP_LANE waits for. -/
theorem laneFaults_of_testing (cause : Nat) (h : (s.lane l).state = .testing) : laneFaults l cause s =
    completeWait (.lane l) St.ok 0 (laneResp (faultLane l cause s) l) (faultLane l cause s) := if_pos (by simp [h])

theorem laneWatchdogRow_of_idle (h : (s.lane l).state = .inService) (hr : (s.lane l).run = none) : laneWatchdogRow l s = s :=
  if_neg (by simp [h, hr])

theorem laneWatchdogRow_of_busy (h : (s.lane l).state = .testing ∨ (s.lane l).run ≠ none) :
    laneWatchdogRow l s = laneFaults l 1 s := by
  rw [Option.ne_none_iff_isSome] at h
  exact if_pos (by simpa using h)

theorem laneSelfCheckRow_of_pass : laneSelfCheckRow l true s = s := ite_self s

theorem laneSelfCheckRow_of_fail (h : (s.lane l).state = .inService) : laneSelfCheckRow l false s = faultLane l 3 s :=
  if_neg (by simp [h])

theorem laneTestEndRow_of_other (pass : Bool) (h : (s.lane l).state ≠ .testing) : laneTestEndRow l pass s = s :=
  if_pos (bne_iff_ne.mpr h)

/-- The state in which a lane has passed its test: in service behind the rebalance of the next boundary. -/
def laneReturned (l : Nat) (s : State) : State :=
  let u := laneUpd l (fun k => { k with state := .inService, waitRebalance := true }) s
  raise 2 0x61 [ef 1 l] { u with lp := { u.lp with rehome := true } }

theorem laneTestEndRow_of_testing (pass : Bool) (h : (s.lane l).state = .testing) {t : State}
    (ht : t = if pass then laneReturned l s else faultLane l 3 s) :
    laneTestEndRow l pass s = completeWait (.lane l) St.ok 0 (laneResp t l) t := by
  subst ht
  exact if_neg (by simp [h])

end

theorem exec_loopScan (l : Fin 4) (h : enginesRun s = true) : exec (.loopScan l false) s = .next (after s (takeScan l.val s)) :=
  engine_after (loopScanRow l.val false) s h

theorem exec_loopScan_of_error (l : Fin 4) (h : enginesRun s = true) :
    exec (.loopScan l true) s = .next (after s (laneFaults l.val 2 s)) := engine_after (loopScanRow l.val true) s h

theorem exec_laneWatchdog (l : Fin 4) (h : enginesRun s = true) :
    exec (.laneWatchdog l) s = .next (after s (laneWatchdogRow l.val s)) := engine_after (laneWatchdogRow l.val) s h

theorem exec_laneSelfCheck (l : Fin 4) (pass : Bool) (h : enginesRun s = true) :
    exec (.laneSelfCheck l pass) s = .next (after s (laneSelfCheckRow l.val pass s)) :=
  engine_after (laneSelfCheckRow l.val pass) s h

theorem exec_laneTestEnd (l : Fin 4) (pass : Bool) (h : enginesRun s = true) :
    exec (.laneTestEnd l pass) s = .next (after s (laneTestEndRow l.val pass s)) :=
  engine_after (laneTestEndRow l.val pass) s h

end

/-- Settles O22: a due loop by its period, a lane's next scan by the loop it is of, and faults, checks and tests by the state of the lane
(R150, R151, R153, R154, R158, R160). -/
theorem laneScheduling : Obligations.LaneScheduling := by
  refine ⟨fun ln s he => ⟨fun hd => ?_, fun hd => ?_⟩, fun l s he => ⟨fun h => ?_, fun q u hs hr hw hl hn hu =>
    ⟨fun h => ?_, fun hq hen hi => ?_, fun regs hq hen hi hregs => ?_⟩, fun hs => ?_, fun hs hr => ?_, fun t ht htest => ?_,
    fun t ht htest => ?_, fun hs hr => ?_, fun hs => ?_, ?_, fun hs pass => ?_, fun t hs ht => ?_, fun t hs ht => ?_⟩⟩
  · rw [exec_loopDue ln he, loopDueRow_of_due hd]
  · rw [exec_loopDue ln he, loopDueRow_of_not_due hd]
  · rw [exec_loopScan l he]
    rcases h with h | h | h | h | h
    · rw [takeScan_of_unable (.inl h)]
    · rw [takeScan_of_unable (.inr (.inl h))]
    · rw [takeScan_of_unable (.inr (.inr (.inl h)))]
    · rw [takeScan_of_unable (.inr (.inr (.inr h)))]
    · rw [takeScan_of_all_scanning h]
  · rw [exec_loopScan l he, takeScan_drops hs hr hw hl hn hu h]
  · rw [exec_loopScan l he, takeScan_goes_on hs hr hw hl hn hu hq hen hi]
  · rw [exec_loopScan l he, takeScan_starts_over hs hr hw hl hn hu hq hen hi hregs]
  · rw [exec_loopScan_of_error l he, laneFaults_of_inService 2 hs]
  · rw [exec_laneWatchdog l he, laneWatchdogRow_of_busy (.inr hr), laneFaults_of_inService 1 hs]
  · rw [exec_laneWatchdog l he, laneWatchdogRow_of_busy (.inl ht), laneFaults_of_testing 1 ht, ← htest]
  · rw [exec_loopScan_of_error l he, laneFaults_of_testing 2 ht, ← htest]
  · rw [exec_laneWatchdog l he, laneWatchdogRow_of_idle hs hr]
  · rw [exec_laneSelfCheck l false he, laneSelfCheckRow_of_fail hs]
  · rw [exec_laneSelfCheck l true he, laneSelfCheckRow_of_pass]
  · rw [exec_laneTestEnd l pass he, laneTestEndRow_of_other pass hs]
  · rw [exec_laneTestEnd l true he, laneTestEndRow_of_testing true hs ht]
  · rw [exec_laneTestEnd l false he, laneTestEndRow_of_testing false hs ht]

end Sys2Proof.Machine
end

section
/-!
SUPPORT. The cards of the loop engine and of life safety (06_loop_engine.md R148, R155, R157, R160, R161, R164, 07_life_safety.md R167,
R176, R178, R186): the card of each opcode, what its body does where its checks hold, and what it refuses.
-/

namespace Sys2Proof.Machine

open Sys2Proof

/-! ## The cards of the opcodes (R456) -/

theorem cardOf_lpSetLoop : cardOf 0x0600 = some (jcard 0x0600 (fun _ p => 148 + 8 * fld (le p 4 16) 48 7) cardSetLoop) := rfl
theorem cardOf_lpGetLoop : cardOf 0x0601 = some (act 0x0601 2 cardGetLoop) := rfl
theorem cardOf_lpEnable : cardOf 0x0602 = some (jcard 0x0602 (fixed 8) cardLpEnable) := rfl
theorem cardOf_lpSetReg : cardOf 0x0603 = some
    { op := 0x0603, need := counted 8 3 1 8, body := cardSetReg, journals := true, timed := fun p => !(u8 (le p 4 1)).getLsbD 0 } := rfl
theorem cardOf_lpLane : cardOf 0x0604 = some (act 0x0604 4 cardLane) := rfl
theorem cardOf_lpGetStats : cardOf 0x0605 = some (act 0x0605 0 cardLpStats) := rfl
theorem cardOf_lsSetArea : cardOf 0x0700 = some (jcard 0x0700 (fixed 52) cardSetArea) := rfl
theorem cardOf_lsSetTrig : cardOf 0x0701 = some (jcard 0x0701 (counted 8 1 1 8) cardSetTrig) := rfl
theorem cardOf_lsSetResp : cardOf 0x0702 = some (jcard 0x0702 (counted 8 2 2 8) cardSetResp) := rfl
theorem cardOf_lsSetVal : cardOf 0x0703 = some (jcard 0x0703 (counted 8 2 2 4) cardSetVal) := rfl
theorem cardOf_lsSetIn : cardOf 0x0704 = some (jcard 0x0704 (fixed 32) cardSetIn) := rfl
theorem cardOf_lsMode : cardOf 0x0705 = some (act 0x0705 4 cardLsMode) := rfl

section
variable {org : Origin} {l : Nat} {p : List Byte} {t : State}

/-! ## LP_GET_LOOP, LP_ENABLE and LP_SET_REG (R143, R154, R161, R164) -/

/-- What LP_GET_LOOP answers: descriptor, registers, what the loop last did, and its words. -/
def loopAnswer (t : State) (ln : Nat) : List Byte :=
  let x := liveImg t Kind.loop ln
  let k := t.loop ln
  leBytes 16 (descImage t ln x) ++
    (List.range 16).flatMap (fun i => leBytes 8 (if !t.duty && !k.mirrored then lpReg x i else k.regs.get i).toNat) ++
    leBytes 4 k.lastCommit.toNat ++ leBytes 2 k.lastClocks ++ leBytes 2 k.skips ++ leBytes 2 (bit k.numeric + 2 * bit k.init) ++
    leBytes 6 0 ++ (List.range (lpLength x)).flatMap (fun i => leBytes 8 (lpWord x i))

theorem cardGetLoop_ranged (h : le p 0 2 ≤ 8191) : cardGetLoop org l p t = (t, .ok (loopAnswer t (le p 0 2))) := by
  unfold cardGetLoop
  exact ranged_ok _ _ _ (by simp [h])

/-- The configured loops from `first` on, `n` numbers far. -/
def loopsInRange (t : State) (first n : Nat) : List Nat :=
  (t.nv.cfg.filter (fun e => e.1 / 0x40000 == Kind.loop && e.2.isSome)).filterMap (fun e =>
    if first ≤ e.1 % 0x40000 ∧ e.1 % 0x40000 < first + n then some (e.1 % 0x40000) else none)

theorem cardLpEnable_ranged (hf : le p 0 2 ≤ 8191) (hn : 1 ≤ le p 2 2 ∧ le p 2 2 ≤ 8192 ∧ le p 0 2 + le p 2 2 ≤ 8192)
    (ha : le p 4 1 ≤ 2) (hz : zeroed p 5 3 = true) : cardLpEnable org l p t =
      if !allNormal t && (loopsInRange t (le p 0 2) (le p 2 2)).any (fun ln => lpLife (cfgImg t Kind.loop ln)) then (t, .no St.busy 0)
      else journalArg org true (16 + le p 4 1) ((loopsInRange t (le p 0 2) (le p 2 2)).map (fun ln =>
        wr Kind.loop ln (setFld (cfgImg t Kind.loop ln) 0 1 (bit (le p 4 1 == 1))))) [] t := by
  unfold cardLpEnable
  exact ranged_ok _ _ _ (by simp [allOk_zero, hf, hn, ha, hz])

/-- The registers that LP_SET_REG carries, each with its new value. -/
def regValues (p : List Byte) : List (Nat × U64) :=
  (List.range (le p 3 1)).map (fun i => (le p 2 1 + i, BitVec.ofNat 64 (le p (8 + 8 * i) 8)))

section
variable (hln : le p 0 2 ≤ 8191) (hcfg : loopConfigured t (le p 0 2) = true) (hf : le p 2 1 ≤ 15)
  (hn : 1 ≤ le p 3 1 ∧ le p 3 1 ≤ 16 ∧ le p 2 1 + le p 3 1 ≤ 16) (hz : zeroed p 5 3 = true)
include hln hcfg hf hn hz

theorem cardSetReg_persistent (hfl : le p 4 1 = 1) : cardSetReg org l p t = journalArg org true 32 [wr Kind.loop (le p 0 2)
    ((regValues p).foldl (fun x v => setFld x (128 + 64 * v.1) 64 v.2.toNat) (cfgImg t Kind.loop (le p 0 2)))] [] t := by
  unfold cardSetReg
  dsimp only
  rw [ranged_ok _ _ _ (by simp [allOk_zero, hln, hcfg, hf, hn, hfl, hz])]
  simp only [hfl, show (1 / 2 == 1) = false from rfl, show (1 % 2 == 1) = true from rfl, Bool.false_and, Bool.false_eq_true, if_false,
    if_true]
  rfl

/-- Live registers change at once, or behind the scan that runs. -/
theorem cardSetReg_live (hfl : le p 4 1 = 2) (hd : t.duty = true) : cardSetReg org l p t =
    (loopUpd (le p 0 2) (fun k => if scanning t (le p 0 2) then { k with liveDue := k.liveDue ++ regValues p }
      else { k with regs := (regValues p).foldl (fun m v => m.set v.1 v.2) k.regs }) t, .ok []) := by
  unfold cardSetReg
  dsimp only
  rw [ranged_ok _ _ _ (by simp [allOk_zero, hln, hcfg, hf, hn, hfl, hz])]
  simp only [hfl, hd, show (2 / 2 == 1) = true from rfl, show (2 % 2 == 1) = false from rfl, Bool.not_true, Bool.and_false,
    Bool.false_and, Bool.false_eq_true, if_false]
  rfl

end

/-! ## LP_LANE (R160, R164) -/

section
variable (hl : le p 0 1 ≤ 3) (hz : zeroed p 2 2 = true)
include hl hz

theorem cardLane_reads (ha : le p 1 1 = 0) : cardLane org l p t = (t, .ok (laneResp t (le p 0 1))) := by
  unfold cardLane
  dsimp only
  rw [ranged_ok _ _ _ (by simp [allOk_zero, hl, hz, ha]), if_pos ha]

theorem cardLane_refuses (ha : 1 ≤ le p 1 1 ∧ le p 1 1 ≤ 2) (hd : (!t.duty || t.th.hold) = true) :
    cardLane org l p t = (t, .no St.role 0) := by
  unfold cardLane
  dsimp only
  rw [ranged_ok _ _ _ (by simp [allOk_zero, hl, hz, ha]), if_neg (by omega), if_pos hd]

/-- A lane in service beside another one is taken out of service. -/
theorem cardLane_takes_out {u : State} (ha : le p 1 1 = 1) (hd : (!t.duty || t.th.hold) = false)
    (hs : ((t.lane (le p 0 1)).state == .inService && decide ((serviceLanes t).length > 1)) = true)
    (hu : u = { laneUpd (le p 0 1) (fun k => { k with state := .out }) t with
      lp := { (laneUpd (le p 0 1) (fun k => { k with state := .out }) t).lp with outDue := t.lp.outDue ++ [le p 0 1] } }) :
    cardLane org l p t = (u, .ok (laneResp u (le p 0 1))) := by
  subst hu
  unfold cardLane
  dsimp only
  rw [ranged_ok _ _ _ (by simp [allOk_zero, hl, hz, ha]), if_neg (by omega), if_neg (Bool.eq_false_iff.mp hd), if_pos ha]
  exact if_pos hs

/-- The test of a lane starts; a scan in flight goes back to the queue, its live writes made. -/
theorem cardLane_tests (ha : le p 1 1 = 2) (hd : (!t.duty || t.th.hold) = false)
    (hs : ((t.lane (le p 0 1)).state == .faulted || (t.lane (le p 0 1)).state == .out) = true) : cardLane org l p t =
      (laneUpd (le p 0 1) (fun k => { k with
          state := .testing, run := none,
          queue := k.queue ++ (match k.run with | some q => [{ ln := q.ln, due := q.due }] | none => []) })
        (match (t.lane (le p 0 1)).run with | some q => applyLive q.ln t | none => t), .wait (.lane (le p 0 1))) := by
  unfold cardLane
  dsimp only
  rw [ranged_ok _ _ _ (by simp [allOk_zero, hl, hz, ha]), if_neg (by omega), if_neg (Bool.eq_false_iff.mp hd), if_neg (by omega)]
  exact if_pos hs

end

/-! ## Areas, triggers and responses (R173, R178, R186) -/

theorem cardSetArea_ranged (ha : le p 0 1 ≤ 63) (hz : zeroed p 1 3 = true) (hk : keeps lsAreaFields (le p 4 48) = true) :
    cardSetArea org l p t = if areaBusy t (le p 0 1) then (t, .no St.busy 0)
      else journalArg org true 0 [wr Kind.lsArea (le p 0 1) (cleanImg lsAreaFields (le p 4 48))] [] t := by
  unfold cardSetArea
  exact ranged_ok _ _ _ (by simp [allOk_zero, allOk_mapped, ha, hz, hk])

/-- A trigger record is of an area out of NORMAL. -/
def trigTouches (t : State) (x : Img) : Bool := fld x 0 2 != 0 && areaBusy t (fld x 8 6)

theorem cardSetTrig_ranged (hn : 1 ≤ le p 1 1 ∧ le p 1 1 ≤ 125 ∧ le p 0 1 + le p 1 1 ≤ 256) (hz : zeroed p 2 6 = true)
    (hc : (List.range (le p 1 1)).all (fun i => allOk (trigChecks t (8 + 8 * i) (le p (8 + 8 * i) 8))) = true)
    (hb : (List.range (le p 1 1)).any (fun i => trigTouches t (le p (8 + 8 * i) 8) ||
      trigTouches t (cfgImg t Kind.trig (le p 0 1 + i))) = false) : cardSetTrig org l p t =
      journalArg org true 0 ((List.range (le p 1 1)).map (fun i => wr Kind.trig (le p 0 1 + i) (le p (8 + 8 * i) 8))) [] t := by
  unfold cardSetTrig
  dsimp only
  rw [ranged_ok _ _ _ (by
    simp only [allOk_append, allOk_cons, allOk_nil, allOk_zero, allOk_flatMap, hn, hz, hc, and_self, decide_true, Bool.and_true])]
  exact if_neg (Bool.eq_false_iff.mp hb)

theorem cardSetResp_ranged (hf : le p 0 2 ≤ 16383) (hn : 1 ≤ le p 2 2 ∧ le p 2 2 ≤ 120 ∧ le p 0 2 + le p 2 2 ≤ 16384)
    (hz : zeroed p 4 4 = true) (hk : (List.range (le p 2 2)).all (fun i => keeps respFields (le p (8 + 8 * i) 8)) = true)
    (hfit : (List.range (le p 2 2)).all (fun i =>
      (respIndexes (le p (8 + 8 * i) 8)).all (fun v => fitsMember t (le p 0 2 + i) (cfgImg t Kind.val v))) = true)
    (hb : (List.range (le p 2 2)).any (fun i => (areasOfEntry t (le p 0 2 + i)).any (areaBusy t)) = false) : cardSetResp org l p t =
      journalArg org true 0 ((List.range (le p 2 2)).map (fun i => wr Kind.resp (le p 0 2 + i) (le p (8 + 8 * i) 8))) [] t := by
  unfold cardSetResp
  dsimp only
  rw [ranged_ok _ _ _ (by
    simp only [allOk_append, allOk_cons, allOk_nil, allOk_zero, allOk_flatMap, allOk_mapped, hf, hn, hz, hk, and_self, decide_true,
      Bool.and_true]), if_neg (by simp only [hfit, Bool.not_true, Bool.false_eq_true, not_false_eq_true])]
  exact if_neg (Bool.eq_false_iff.mp hb)

/-- The member entries whose response names a value that LS_SET_VAL writes, each with that value's index. -/
def valuesNamed (t : State) (first n : Nat) : List (Nat × Nat) :=
  (committed t Kind.resp).flatMap (fun e =>
    ((respIndexes e.2).filter (fun v => decide (first ≤ v ∧ v < first + n))).map (fun v => (e.1, v)))

theorem cardSetVal_ranged (hf : le p 0 2 ≤ 4094) (hn : 1 ≤ le p 2 2 ∧ le p 2 2 ≤ 240 ∧ le p 0 2 + le p 2 2 ≤ 4095)
    (hz : zeroed p 4 4 = true)
    (hfit : (valuesNamed t (le p 0 2) (le p 2 2)).all (fun ev => fitsMember t ev.1 (le p (8 + 4 * (ev.2 - le p 0 2)) 4)) = true)
    (hb : (valuesNamed t (le p 0 2) (le p 2 2)).any (fun ev => (areasOfEntry t ev.1).any (areaBusy t)) = false) :
    cardSetVal org l p t =
      journalArg org true 0 ((List.range (le p 2 2)).map (fun i => wr Kind.val (le p 0 2 + i) (le p (8 + 4 * i) 4))) [] t := by
  unfold cardSetVal
  dsimp only
  rw [ranged_ok _ _ _ (by simp [allOk_zero, hf, hn, hz])]
  exact (if_neg (fun hno => Bool.false_ne_true ((congrArg not hfit).symm.trans hno))).trans (if_neg (Bool.eq_false_iff.mp hb))

/-! ## Supervised inputs and the mode of areas (R167, R171, R176) -/

/-- LS_SET_IN by the owner of the converter's entries and the areas that its inputs trigger. -/
theorem cardSetIn_ranged (hc : (List.range 8).all (fun n => allOk (lsInChecks n (fld (le p 0 32) (32 * n) 32))) = true) :
    cardSetIn org l p t =
      if anySup (le p 0 32) && (decide (24 < convRegLen (cfgImg t Kind.conv 0)) || convRef (cfgImg t Kind.conv 0) != 0) then
        (t, conflict 0x05 24 0x09 0)
      else if (committed t Kind.trig).any (fun e => fld e.2 0 2 == 1 &&
          fld (cfgImg t Kind.lsIn 0) (32 * fld e.2 4 3) 32 != fld (le p 0 32) (32 * fld e.2 4 3) 32 && areaBusy t (fld e.2 8 6)) then
        (t, .no St.busy 0)
      else journalArg org true 0 [wr Kind.lsIn 0 (le p 0 32)] [] t := by
  unfold cardSetIn
  exact ranged_ok _ _ _ (by rw [allOk_flatMap, hc])

section
variable (hz : zeroed p 3 1 = true) (hd : t.duty = true)
include hz hd

theorem cardLsMode_of_area (han : le p 0 1 ≤ 63) (hact : le p 1 1 ≤ 4)
    (harg : (if le p 1 1 = 0 ∨ le p 1 1 = 2 then decide (1 ≤ le p 2 1 ∧ le p 2 1 ≤ 4)
      else if le p 1 1 = 4 then decide (le p 2 1 ≤ 5) else true) = true) : cardLsMode org l p t =
      if le p 1 1 = 4 ∧ areaHostFfp t (le p 0 1) = false then (t, .no St.ffpDisabled 0) else (t, .wait .lsMode) := by
  have hone : le p 0 1 ≠ 0xFF := by omega
  unfold cardLsMode
  dsimp only
  rw [if_neg hone, ranged_ok _ _ _ (by
    simp only [allOk_append, allOk_cons, allOk_nil, allOk_zero, han, hact, harg, hz, decide_true, Bool.true_or, Bool.and_true]),
    if_neg (by simp [hd])]
  simp only [hone, ne_eq, not_false_eq_true, true_and, Bool.not_eq_true']

theorem cardLsMode_of_all (han : le p 0 1 = 0xFF) : cardLsMode org l p t = (t, .wait .lsMode) := by
  unfold cardLsMode
  dsimp only
  rw [if_pos han, ranged_ok _ _ _ (by simp [allOk_zero, han, hz]), if_neg (by simp [hd]), if_neg (by simp [han])]

end

end

/-- Settles O51: each card, taken at once, by the checks that its fields, the areas, the duty and the lane pass (R148, R155, R157, R160,
R161, R164, R167, R176, R178, R186). -/
theorem loopAndLifeCards : Obligations.LoopAndLifeCards := by
  intro r p s t
  refine ⟨?_, ?_, ?_, ?_, ?_, ?_, ?_, ?_, ?_, ?_, ?_, ?_, ?_, ?_, ?_, ?_, ?_, ?_, ?_, ?_, ?_, ?_⟩
  · rintro ln desc x h rfl rfl hx hln hk hz hkeep hdef hok hcost htgt hmem hmir hn hr
    refine takes_recorded _ cardOf_lpSetLoop (by decide) h hr ?_
    rw [jcard_body, cardSetLoop_ranged _ _ _ _ hln hk hz hkeep hdef, ← hx, setLoop_ok _ _ _ _ _ hok hcost htgt hmem hmir hn]
  · rintro ln desc x h rfl rfl hx hln hk hz hkeep hdef hbad
    refine takes_no _ cardOf_lpSetLoop (by decide) h (by decide) ?_
    rw [jcard_body, cardSetLoop_ranged _ _ _ _ hln hk hz hkeep hdef, ← hx, setLoop_badProgram _ _ _ _ _ hbad, Res.no]
  · rintro ln desc x h rfl rfl hx hln hk hz hkeep hdef hok hcost
    refine takes_no _ cardOf_lpSetLoop (by decide) h (by decide) ?_
    rw [jcard_body, cardSetLoop_ranged _ _ _ _ hln hk hz hkeep hdef, ← hx, setLoop_cost _ _ _ _ _ hok hcost, Res.no]
  · rintro ln x k h rfl rfl rfl hln
    refine takes_ok _ cardOf_lpGetLoop (by decide) h ?_
    rw [act_body]
    exact cardGetLoop_ranged hln
  · rintro first n act lns h rfl rfl rfl rfl hf hn ha hz hnormal hr
    refine takes_recorded _ cardOf_lpEnable (by decide) h hr ?_
    rw [jcard_body, cardLpEnable_ranged hf hn ha hz]
    exact if_neg (Bool.eq_false_iff.mp hnormal)
  · rintro ln first n vals h rfl rfl rfl rfl hln hcfg hf hn hfl hz hr
    refine takes_recorded _ cardOf_lpSetReg (by decide) h hr ?_
    exact cardSetReg_persistent (l := r.level.toNat) hln hcfg hf hn hz hfl
  · rintro ln first n vals h rfl rfl rfl rfl hln hcfg hf hn hfl hz hd
    refine takes_ok _ cardOf_lpSetReg (by decide) h ?_
    exact cardSetReg_live (l := r.level.toNat) hln hcfg hf hn hz hfl hd
  · rintro h hl ha hz
    refine takes_ok _ cardOf_lpLane (by decide) h ?_
    rw [act_body, cardLane_reads hl hz ha]
  · rintro l u h rfl hu hl ha hz hd hs
    refine takes_ok _ cardOf_lpLane (by decide) h ?_
    rw [act_body, cardLane_takes_out hl hz ha hd hs hu]
  · rintro l h rfl hl ha hz hd hs
    refine takes_wait _ cardOf_lpLane (by decide) h ?_
    rw [act_body]
    exact cardLane_tests hl hz ha hd hs
  · rintro h hl ha hz hd
    refine takes_no _ cardOf_lpLane (by decide) h (by decide) ?_
    rw [act_body, cardLane_refuses hl hz ha hd, Res.no]
  · rintro load h rfl
    exact takes_ok _ cardOf_lpGetStats (by decide) h rfl
  · rintro an x h rfl rfl han hz hk hb hr
    refine takes_recorded _ cardOf_lsSetArea (by decide) h hr ?_
    rw [jcard_body, cardSetArea_ranged han hz hk, if_neg (Bool.eq_false_iff.mp hb)]
  · rintro an x h rfl rfl han hz hk hb
    refine takes_no _ cardOf_lsSetArea (by decide) h (by decide) ?_
    rw [jcard_body, cardSetArea_ranged han hz hk, if_pos hb, Res.no]
  · rintro first n touches h rfl rfl rfl hn hz hc hb hr
    refine takes_recorded _ cardOf_lsSetTrig (by decide) h hr ?_
    rw [jcard_body]
    exact cardSetTrig_ranged hn hz hc hb
  · rintro first n h rfl rfl hf hn hz hk hfit hb hr
    refine takes_recorded _ cardOf_lsSetResp (by decide) h hr ?_
    rw [jcard_body]
    exact cardSetResp_ranged hf hn hz hk hfit hb
  · rintro first n named h rfl rfl rfl hf hn hz hfit hb hr
    refine takes_recorded _ cardOf_lsSetVal (by decide) h hr ?_
    rw [jcard_body]
    exact cardSetVal_ranged hf hn hz hfit hb
  · rintro x old conv h rfl rfl rfl hc hown hb hr
    refine takes_recorded _ cardOf_lsSetIn (by decide) h hr ?_
    rw [jcard_body, cardSetIn_ranged hc, if_neg (Bool.eq_false_iff.mp hown), if_neg (Bool.eq_false_iff.mp hb)]
  · rintro x conv h rfl rfl hc hown
    refine takes_no _ cardOf_lsSetIn (by decide) h (by decide) ?_
    rw [jcard_body, cardSetIn_ranged hc, if_pos hown, conflict]
  · rintro an act arg h rfl rfl rfl han hact harg hz hd hffp
    refine takes_wait _ cardOf_lsMode (by decide) h ?_
    rw [act_body, cardLsMode_of_area hz hd han hact harg, if_neg (fun hno => by simp [hffp hno.1] at hno)]
  · rintro h han hz hd
    refine takes_wait _ cardOf_lsMode (by decide) h ?_
    rw [act_body, cardLsMode_of_all hz hd han]
  · rintro an arg h rfl rfl han hact harg hz hd hffp
    refine takes_no _ cardOf_lsMode (by decide) h (by decide) ?_
    rw [act_body, cardLsMode_of_area hz hd han (by omega) (by simp [hact, harg]), if_pos ⟨hact, hffp⟩, Res.no]

end Sys2Proof.Machine
end

section
/-!
SUPPORT. The rows of the key matrix and of the areas' timers: KEY_SCAN and STUCK_TIMEOUT (12_keys.md R275, R278, R282), ALERT_HOLD_EXPIRY
and TEST_MAX_EXPIRY (07_life_safety.md R171, R177).
-/

namespace Sys2Proof.Machine

open Sys2Proof

/-! ## The key scan (R275, R282) -/

/-- The device drives the rows: it has duty, its outputs, and the matrix enabled (R282). -/
def drivesRows (s : State) : Bool := s.duty && s.sys.outputs && kyEnable s

/-- The count of the scans goes up by the scan that runs (notes/assumptions/43.md: a discarded one too). -/
def countScan (s : State) : State := kyUpd (fun y => { y with scans := sat32 y.scans }) s

/-- The null step of every column, then each row step that ROW_MASK selects, for keys frozen or not as the scan began (R275). -/
def scanMatrix (k : KeyScan) (t : State) : State :=
  forRange 8 (fun r s =>
    if kyRow s r then
      forRange (kyCols (scanRow (k.dev.getD r 0) r s)) (fun c s => scanCross (keyFrozen t) ((k.rows.getD r []).getD c 0) r c s)
        (scanRow (k.dev.getD r 0) r s)
    else s) (forRange (kyCols t) (fun c s => scanColumn (k.nul.getD c 0) c s) t)

section
variable {s : State}

theorem drivesRows_iff : drivesRows s = true ↔ s.duty = true ∧ s.sys.outputs = true ∧ kyEnable s = true := by
  rw [drivesRows, Bool.and_eq_true, Bool.and_eq_true, and_assoc]

theorem not_drivesRows_iff : drivesRows s = false ↔ s.duty = false ∨ s.sys.outputs = false ∨ kyEnable s = false := by
  rw [drivesRows, Bool.and_eq_false_iff, Bool.and_eq_false_iff, or_assoc]

/-- KEY_SCAN by the two things it asks of the device behind the waiting records: whether it drives the rows, and whether this is its
first scan. -/
theorem keyScanRow_eq (k : KeyScan) (s : State) : keyScanRow k s =
    if drivesRows (keysTakeEffect s) then
      if (countScan (keysTakeEffect s)).ky.discard then kyUpd (fun y => { y with discard := false }) (countScan (keysTakeEffect s))
      else scanMatrix k (countScan (keysTakeEffect s))
    else keysTakeEffect s := by
  have hguard : ∀ u : State, (!u.duty || !u.sys.outputs || !kyEnable u) = !drivesRows u := fun u => by
    rw [drivesRows, Bool.not_and, Bool.not_and]
  rw [keyScanRow, hguard]
  cases drivesRows (keysTakeEffect s) <;> rfl

theorem keyScanRow_of_undriven (k : KeyScan) (h : drivesRows (keysTakeEffect s) = false) : keyScanRow k s = keysTakeEffect s := by
  rw [keyScanRow_eq, if_neg (Bool.eq_false_iff.mp h)]

theorem keyScanRow_of_first (k : KeyScan) (h : drivesRows (keysTakeEffect s) = true)
    (hd : (countScan (keysTakeEffect s)).ky.discard = true) :
    keyScanRow k s = kyUpd (fun y => { y with discard := false }) (countScan (keysTakeEffect s)) := by
  rw [keyScanRow_eq, if_pos h, if_pos hd]

theorem keyScanRow_of_later (k : KeyScan) (h : drivesRows (keysTakeEffect s) = true)
    (hd : (countScan (keysTakeEffect s)).ky.discard = false) :
    keyScanRow k s = scanMatrix k (countScan (keysTakeEffect s)) := by
  rw [keyScanRow_eq, if_pos h, if_neg (Bool.eq_false_iff.mp hd)]

/-! ## The stuck time of a key (R278) -/

theorem stuckTimeoutRow_of_pressed {k : Nat} (hd : s.duty = true) (hp : (s.ky.key.get k).pressed = true)
    (hs : (s.ky.key.get k).stuck = false) (ht : liveFld s Kind.key k 32 8 ≠ 0) :
    stuckTimeoutRow k s = markDirty 6 (2 ^ 23) (kyUpd (fun y => { y with pendEv := y.pendEv ++ [(0xC3, k, 0, 0)] })
      (keyUpd k (fun x => { x with stuck := true }) s)) :=
  if_pos (by simp [hd, hp, hs, ht])

/-- A released key, a key that is stuck already, and a key whose stuck time is 0 (never) have no stuck time to run out. -/
theorem stuckTimeoutRow_of_other {k : Nat}
    (h : (s.ky.key.get k).pressed = false ∨ (s.ky.key.get k).stuck = true ∨ liveFld s Kind.key k 32 8 = 0) :
    stuckTimeoutRow k s = s := by
  refine if_neg ?_
  rcases h with h | h | h <;> simp [h]

/-! ## The timers of an area (R171, R177) -/

theorem alertHoldRow_of_hold {an : Nat} (hh : (s.area an).alertHold = true)
    (ht : (actingTrigs s an).any (fun t => trigMode s t == 1) = false) (hd : s.duty = true) :
    alertHoldRow an s = finishArea an (s.area an) (areaUpd an (fun a => { a with alertHold := false }) s) :=
  if_pos (by simp only [hh, ht, hd]; rfl)

theorem alertHoldRow_of_no_hold {an : Nat} (hh : (s.area an).alertHold = false) : alertHoldRow an s = s :=
  if_neg (by simp [hh])

theorem testMaxRow_of_testing {an : Nat} (ht : (s.area an).testing = true) (hd : s.duty = true) :
    testMaxRow an s = finishArea an (s.area an) (areaUpd an (fun a => { a with testing := false }) s) :=
  if_pos (by simp [ht, hd])

theorem testMaxRow_of_no_test {an : Nat} (ht : (s.area an).testing = false) : testMaxRow an s = s :=
  if_neg (by simp [ht])

/-! ## The commands run their rows where the core has power -/

theorem exec_keyScan (k : KeyScan) (h : portOn s = true) : exec (.keyScan k) s = .next (after s (keyScanRow k s)) :=
  on_after (keyScanRow k) s h

theorem exec_stuckTimeout (k : Fin 512) (h : portOn s = true) :
    exec (.stuckTimeout k) s = .next (after s (stuckTimeoutRow k.val s)) :=
  on_after (stuckTimeoutRow k.val) s h

theorem exec_alertHoldExpiry (an : Fin 64) (h : portOn s = true) :
    exec (.alertHoldExpiry an) s = .next (after s (alertHoldRow an.val s)) :=
  on_after (alertHoldRow an.val) s h

theorem exec_testMaxExpiry (an : Fin 64) (h : portOn s = true) :
    exec (.testMaxExpiry an) s = .next (after s (testMaxRow an.val s)) :=
  on_after (testMaxRow an.val) s h

end

/-- Settles O35: KEY_SCAN by whether the device drives the rows and whether the scan is its first, STUCK_TIMEOUT by the key, its stuck
time and the duty, and each timer of an area by what it times (R171, R177, R275, R278, R282). -/
theorem keysAndAreas : Obligations.KeysAndAreas := by
  refine fun s hon => ⟨fun k h => ?_, fun k t hd ho hk ht hdis => ?_, fun k t u hd ho hk ht hdis hu => ?_, fun k hd hp hs ht => ?_,
    fun k h => ?_, fun an hh ht hd => ?_, fun an hh => ?_, fun an ht hd => ?_, fun an ht => ?_⟩
  · rw [exec_keyScan k hon, keyScanRow_of_undriven k (not_drivesRows_iff.mpr h)]
  · subst ht
    rw [exec_keyScan k hon, keyScanRow_of_first k (drivesRows_iff.mpr ⟨hd, ho, hk⟩) hdis, countScan]
  · subst hu ht
    rw [exec_keyScan k hon, keyScanRow_of_later k (drivesRows_iff.mpr ⟨hd, ho, hk⟩) hdis, scanMatrix, countScan]
  · rw [exec_stuckTimeout k hon, stuckTimeoutRow_of_pressed hd hp hs ht]
  · rw [exec_stuckTimeout k hon, stuckTimeoutRow_of_other h]
  · rw [exec_alertHoldExpiry an hon, alertHoldRow_of_hold hh ht hd]
  · rw [exec_alertHoldExpiry an hon, alertHoldRow_of_no_hold hh]
  · rw [exec_testMaxExpiry an hon, testMaxRow_of_testing ht hd]
  · rw [exec_testMaxExpiry an hon, testMaxRow_of_no_test ht]

end Sys2Proof.Machine
end

section
/-!
SUPPORT. The waits and limits of a coil context (08_coil_banks.md R192, R193, R199, R204, 09_coil_sequencer.md R215 to R219): what a
change of a running context writes, what a crossing does to a context, and what each row of a wait or a limit does to its bank.
-/

namespace Sys2Proof.Machine

open Sys2Proof

/-! ## Commands that run a row -/

theorem engine_runs {f : State → State} {s u : State} (he : enginesRun s = true) (hu : f s = u) :
    done s (whenEngine f s) = .next (after s u) := by
  rw [engine_after f s he, hu]

theorem on_runs {f : State → State} {s u : State} (hp : portOn s = true) (hu : f s = u) :
    done s (whenOn f s) = .next (after s u) := by
  rw [on_after f s hp, hu]

/-! ## Channels and their contexts -/

@[simp] theorem coil_coilUpd (ch : Nat) (f : Coil → Coil) (s : State) : (coilUpd ch f s).coil ch = f (s.coil ch) :=
  Tab.get_upd_self _ _ _

@[simp] theorem bank_bankUpd (b : Nat) (f : Bank → Bank) (s : State) : (bankUpd b f s).bank b = f (s.bank b) :=
  Tab.get_upd_self _ _ _

/-- A write of a channel's state depends only on what it makes of the present one. -/
theorem coilUpd_congr {ch : Nat} {f g : Coil → Coil} {s : State} (h : f (s.coil ch) = g (s.coil ch)) :
    coilUpd ch f s = coilUpd ch g s := by
  have hget : f (s.cb.ch.get ch) = g (s.cb.ch.get ch) := h
  rw [coilUpd, coilUpd, Tab.upd, Tab.upd, hget]

/-- The context of a channel's running event becomes `c`. -/
def setCtx (ch : Nat) (c : Ctx) (s : State) : State := coilUpd ch (fun k => { k with ctx := some c }) s

/-! ## What a report tells of the current (R192, R204) -/

/-- What a report of the comparator tells of the current, before any wait acts on it. -/
def reportFlow (ch : Nat) (x : Comparator) (s : State) : State :=
  noteCurrent ch (coilUpd ch (fun k => { k with flow := flowAfter x k.flow }) s)

@[simp] theorem reportFlow_live (ch : Nat) (x : Comparator) (s : State) : (reportFlow ch x s).live = s.live := by
  rw [reportFlow, noteCurrent]
  split <;> rfl

section
variable {ch : Nat} {s : State} {c : Ctx} (hc : (s.coil ch).ctx = some c)
include hc

theorem ctxUpd_eq_setCtx (f : Ctx → Ctx) : ctxUpd ch f s = setCtx ch (f c) s :=
  coilUpd_congr (by rw [hc, Option.map_some])

/-! ## The end of a wait (R215 to R217) -/

theorem wtExpiryRow_of_wt (hw : c.wait = .wt) : wtExpiryRow ch s = setCtx ch { c with wait := .ready } s := by
  rw [wtExpiryRow, ctxUpd_eq_setCtx hc, if_pos hw]

theorem wiTimeoutRow_of_wi {low : Bool} (hw : c.wait = .wi low) :
    wiTimeoutRow ch s = setCtx ch { c with wait := .ready, to_ := true } s := by
  rw [wiTimeoutRow, ctxUpd_eq_setCtx hc, hw]

/-- A chop that has a count leaves the channel driving. -/
theorem chopEndRow_of_counted {on : Bool} (hw : c.wait = .chop on false) :
    chopEndRow ch s = bankStep (ch / 4) (setCtx ch { c.resetPeak with wait := .ready } s) := by
  rw [chopEndRow, ctxUpd_eq_setCtx hc, hw]

/-! ## The limits of a boost and of SLOW decay (R193, R199, R219) -/

theorem peakLimitRow_of_wi {low : Bool} (hw : c.wait = .wi low) (hsrc : c.src = 2) (hb : c.noBoost = false) :
    peakLimitRow ch s = bankStep (ch / 4) (setCtx ch { c with noBoost := true, to_ := true, wait := .ready } s) := by
  rw [peakLimitRow, ctxUpd_eq_setCtx hc, if_pos (by simp [Ctx.inBoost, hw, hsrc, hb]), hw]

/-- Outside a WI the phase goes on without its boost; TO tells a limit that came before the boost time was spent. -/
theorem peakLimitRow_of_other (hend : c.wait ≠ .ending) (hw : ∀ low, c.wait ≠ .wi low) (hsrc : c.src = 2) (hb : c.noBoost = false) :
    peakLimitRow ch s = bankStep (ch / 4) (setCtx ch { c with noBoost := true, to_ := c.to_ || !c.spent } s) := by
  rw [peakLimitRow, ctxUpd_eq_setCtx hc, if_pos (by simp [Ctx.inBoost, hend, hsrc, hb])]
  cases hwait : c.wait with
  | wi low => exact absurd hwait (hw low)
  | _ => rfl

theorem boostMaxRow_of_boosts (hb : c.boosts = true) :
    boostMaxRow ch s = bankStep (ch / 4) (setCtx ch { c with spent := true } s) := by
  rw [boostMaxRow, ctxUpd_eq_setCtx hc, if_pos hb]

theorem slowDecayRow_of_slow (hs : c.slow = true) :
    slowDecayRow ch s = bankStep (ch / 4) (setCtx ch { c with fast := true } s) := by
  rw [slowDecayRow, ctxUpd_eq_setCtx hc, if_pos hs]

/-! ## The on-time and the rise time of an event (R199, R204) -/

theorem onTimeRow_of_counted (hend : c.wait ≠ .ending) (hq : chFld s ch 48 16 ≠ 0 ∨ qualifies s ch c = false) :
    onTimeRow ch s = bankStep (ch / 4) (endFast ch 3 (onFinding ch 12 s)) := by
  rw [onTimeRow, hc]
  refine if_neg ?_
  rcases hq with hq | hq <;> simp [hend, hq]

/-- Without a limit in the record a hold that qualifies may last. -/
theorem onTimeRow_of_hold (hmax : chFld s ch 48 16 = 0) (hq : qualifies s ch c = true) : onTimeRow ch s = s := by
  rw [onTimeRow, hc]
  exact if_pos (by simp [hmax, hq])

theorem riseTimeoutRow_of_slow_rise (hd : c.dwin = true) (hx : c.crossed = false) (hon : chDiagOn s ch = true)
    (ht : chFld s ch 128 16 ≠ 0) : riseTimeoutRow ch s = onFinding ch 10 s := by
  rw [riseTimeoutRow, hc]
  exact if_pos (by simp [hd, hx, hon, ht])

/-- A rise that has come, one that is not watched, and one without a window find nothing. -/
theorem riseTimeoutRow_of_other
    (h : c.dwin = false ∨ c.crossed = true ∨ chDiagOn s ch = false ∨ chFld s ch 128 16 = 0) : riseTimeoutRow ch s = s := by
  rw [riseTimeoutRow, hc]
  refine if_neg ?_
  rcases h with h | h | h | h <;> simp [h]

/-! ## A report of the comparator outside a diagnostic window (R192, R204, R231) -/

theorem comparatorRow_of_crossing {x : Comparator} (elapsed : Nat) (hd : c.dwin = false) (hx : ∀ q, x ≠ .current q) :
    comparatorRow ch x elapsed s = bankStep (ch / 4) (ctxUpd ch (Ctx.cross x) (reportFlow ch x s)) := by
  rw [comparatorRow, hc]
  dsimp only
  rw [hd]
  cases x with
  | current q => exact absurd rfl (hx q)
  | _ => rfl

/-- A report of the current's size feeds the dip detector. -/
theorem comparatorRow_of_current (q elapsed : Nat) (hd : c.dwin = false) :
    comparatorRow ch (.current q) elapsed s =
      bankStep (ch / 4) (ctxUpd ch (Ctx.track (csFld s ch 40 8) q) (reportFlow ch (.current q) s)) := by
  have hth : csFld (reportFlow ch (.current q) s) ch 40 8 = csFld s ch 40 8 := by
    simp only [csFld, liveFld, liveImg, reportFlow_live]
  rw [comparatorRow, hc, ← hth]
  dsimp only
  rw [hd]
  rfl

end

/-! ## What a crossing does to a context (R193, R196, R217, R218) -/

section
variable {c : Ctx}

/-- A WI that its threshold ends clears the TO of an earlier one (notes/assumptions/39.md). -/
theorem cross_reachedIH_of_wi (hw : c.wait = .wi false) (hs : c.steal = false) :
    c.cross .reachedIH = { c with wait := .ready, to_ := false } := by
  simp [Ctx.cross, hw, hs]

theorem cross_fellToIL_of_wi (hw : c.wait = .wi true) (hs : c.stealOff = false) :
    c.cross .fellToIL = { c with wait := .ready, to_ := false } := by
  simp [Ctx.cross, hw, hs]

theorem cross_reachedIH_of_chop {u : Bool} (hw : c.wait = .chop true u) :
    c.cross .reachedIH = { c.resetPeak with wait := .chop false u } := by
  simp [Ctx.cross, hw]

theorem cross_fellToIL_of_chop {u : Bool} (hw : c.wait = .chop false u) :
    c.cross .fellToIL = { c.resetPeak with wait := .chop true u } := by
  simp [Ctx.cross, hw]

theorem cross_reachedIH_of_steal (hw : c.wait = .wt) (hs : c.steal = true) (ho : c.stealOff = false) :
    c.cross .reachedIH = { c.resetPeak with stealOff := true } := by
  simp [Ctx.cross, hw, hs, ho]

theorem cross_fellToIL_of_steal (hw : c.wait = .wt) (ho : c.stealOff = true) :
    c.cross .fellToIL = { c.resetPeak with stealOff := false } := by
  simp [Ctx.cross, hw, ho]

theorem cross_belowZero_of_slow (hs : c.slow = true) : c.cross .belowZero = { c with fast := true } := by
  simp [Ctx.cross, hs]

end

/-- Settles O13: each wait ends, and each limit acts, on the context of the running event; a crossing acts on it by its kind and by what
it waits for (R192, R193, R199, R204, R215 to R219). -/
theorem csqWaits : Obligations.CsqWaits := by
  intro ch s c he hc set goes
  exact ⟨fun hw => engine_runs he (wtExpiryRow_of_wt hc hw),
    fun low hw => engine_runs he (wiTimeoutRow_of_wi hc hw),
    fun on hw => engine_runs he (chopEndRow_of_counted hc hw),
    fun low hw hsrc hb => engine_runs he (peakLimitRow_of_wi hc hw hsrc hb),
    fun hend hw hsrc hb => engine_runs he (peakLimitRow_of_other hc hend hw hsrc hb),
    fun hb => engine_runs he (boostMaxRow_of_boosts hc hb),
    fun hs => engine_runs he (slowDecayRow_of_slow hc hs),
    fun x elapsed hd hx => engine_runs he (comparatorRow_of_crossing hc elapsed hd hx),
    fun q elapsed hd => engine_runs he (comparatorRow_of_current hc q elapsed hd),
    cross_reachedIH_of_wi, cross_fellToIL_of_wi, fun u => cross_reachedIH_of_chop, fun u => cross_fellToIL_of_chop,
    cross_reachedIH_of_steal, cross_fellToIL_of_steal, cross_belowZero_of_slow,
    fun hend hq => engine_runs he (onTimeRow_of_counted hc hend hq),
    fun _ hmax hq => engine_runs he (onTimeRow_of_hold hc hmax hq),
    fun hd hx hon ht => engine_runs he (riseTimeoutRow_of_slow_rise hc hd hx hon ht),
    fun h => engine_runs he (riseTimeoutRow_of_other hc (.inr h))⟩

end Sys2Proof.Machine
end

section
/-!
SUPPORT. The start of coil events (08_coil_banks.md R196 to R198, 09_coil_sequencer.md R222 to R227): what a channel does with its next
event, by whether it has come due, what stands against it, and whether a boost that it starts with finds obstructions.
-/

namespace Sys2Proof.Machine

open Sys2Proof

/-! ## What holds an event back (R198, R223, R225) -/

section
variable {ch : Nat} {s : State}

theorem heldBack_of_idle (e : CoilEvent) (hc : (s.coil ch).ctx = none) : heldBack s ch e = kerfRuns s ch := by
  rw [heldBack, hc]

theorem heldBack_of_running (e : CoilEvent) {c : Ctx} (hc : (s.coil ch).ctx = some c) :
    heldBack s ch e = (!e.preempt || c.wait == .ending) := by
  rw [heldBack, hc]

/-! ## A first boost that finds an obstruction (R197, R224) -/

/-- Either the event has no allowance that runs out, or its obstructions end within it by the worst W (notes/assumptions/23.md). -/
def waitFits (s : State) (ch : Nat) (e : CoilEvent) : Prop :=
  e.allow = 0xFFFF ∨ ∃ x, worstOf s ch = some x ∧ latenessNow s e + x ≤ e.allow * 1000

theorem not_waitFits {e : CoilEvent} (ha : e.allow ≠ 0xFFFF)
    (hx : ∀ x, worstOf s ch = some x → e.allow * 1000 < latenessNow s e + x) : ¬ waitFits s ch e := by
  rintro (h | ⟨x, hw, hle⟩)
  · exact ha h
  · exact Nat.not_lt.mpr hle (hx x hw)

/-- The test that `secondBoost` makes of the allowance is `waitFits`. -/
theorem secondBoost_fits_iff (e : CoilEvent) :
    (e.allow == 0xFFFF ||
      (match worstOf s ch with | some w => decide (latenessNow s e + w ≤ e.allow * 1000) | none => false)) = true ↔
      waitFits s ch e := by
  rw [waitFits, Bool.or_eq_true, beq_iff_eq]
  cases worstOf s ch <;> simp

theorem secondBoost_of_fits {e : CoilEvent} (h : waitFits s ch e) : secondBoost ch e s =
    if e.waited then s else markWaited e (bankUpd (ch / 4) (fun k => { k with delayed := sat32 k.delayed }) s) := by
  have hfits := (secondBoost_fits_iff e).mpr h
  rw [secondBoost]
  exact if_neg (by rw [Bool.not_eq_true']; exact fun hno => Bool.false_ne_true (hno.symm.trans hfits))

theorem secondBoost_of_too_long {e : CoilEvent} (h : ¬ waitFits s ch e) :
    secondBoost ch e s = dropQueued (ch / 4) 2 (fun q => q == e) s := by
  have hfits := Bool.eq_false_iff.mpr (mt (secondBoost_fits_iff e).mp h)
  rw [secondBoost]
  exact if_pos (by rw [Bool.not_eq_true']; exact hfits)

/-! ## What a channel does with its next event (R223 to R227) -/

theorem startChannel_of_none (hn : nextStart s ch = none) : startChannel ch s = s := by
  rw [startChannel, hn]

section
variable {e : CoilEvent} (hn : nextStart s ch = some e)
include hn

theorem startChannel_of_early (hr : reached s e = false) : startChannel ch s = s := by
  rw [startChannel, hn]
  exact if_pos (by rw [hr]; rfl)

theorem startChannel_of_cause {cause : Nat} (hr : reached s e = true) (hs : standingCause s ch e.entry = some cause) :
    startChannel ch s = dropQueued (ch / 4) cause (fun q => q == e) s := by
  rw [startChannel, hn]
  dsimp only
  rw [if_neg (by simp [hr]), hs]

variable (hr : reached s e = true) (hs : standingCause s ch e.entry = none)
include hr hs

/-- Nothing stands against an event whose instant has come: the channel and the bank's other events decide. -/
theorem startChannel_of_due : startChannel ch s =
    if heldBack s ch e then markWaited e s
    else if firstIsBoost s (ch / 4) e.entry && !(obstructions s ch).isEmpty then secondBoost ch e s
    else startEvent ch e (when (firstIsBoost s (ch / 4) e.entry) (countSteal ch) s) := by
  rw [startChannel, hn]
  dsimp only
  rw [if_neg (by simp [hr]), hs]

theorem startChannel_of_held (hh : heldBack s ch e = true) : startChannel ch s = markWaited e s := by
  rw [startChannel_of_due hn hr hs, if_pos hh]

variable (hh : heldBack s ch e = false)
include hh

theorem startChannel_of_plain (hb : firstIsBoost s (ch / 4) e.entry = false) : startChannel ch s = startEvent ch e s := by
  rw [startChannel_of_due hn hr hs, if_neg (Bool.eq_false_iff.mp hh), hb]
  rfl

theorem startChannel_of_free_boost (hb : firstIsBoost s (ch / 4) e.entry = true) (ho : obstructions s ch = []) :
    startChannel ch s = startEvent ch e (countSteal ch s) := by
  rw [startChannel_of_due hn hr hs, if_neg (Bool.eq_false_iff.mp hh), hb, ho]
  rfl

theorem startChannel_of_obstructed (hb : firstIsBoost s (ch / 4) e.entry = true) (ho : obstructions s ch ≠ []) :
    startChannel ch s = secondBoost ch e s := by
  rw [startChannel_of_due hn hr hs, if_neg (Bool.eq_false_iff.mp hh), if_pos (by simp [hb, ho])]

end

/-! ## COIL_EVENT_START -/

/-- Channels of the bank below whose boost is due at the same instant go first (R197). -/
def lowerFirst (ch : Nat) (s : State) : State :=
  if boostDue s ch then forAll ((bankChans (ch / 4)).filter (fun d => decide (d < ch) && boostDue s d)) startChannel s else s

theorem eventStartRow_eq : eventStartRow ch s = startChannel ch (lowerFirst ch s) := by
  rw [eventStartRow, lowerFirst]
  cases boostDue s ch <;> rfl

end

/-- Settles O14: behind the lower channels' boosts, the channel's next event by its instant, the standing causes, what holds it back
and the obstructions of its boost (R196 to R198, R222 to R227). -/
theorem coilEventStart : Obligations.CoilEventStart := by
  intro ch s0 s he hs goes
  have start : ∀ {u : State}, startChannel ch.val s = u → goes u := fun hu => by
    refine engine_runs he ?_
    rw [eventStartRow_eq, lowerFirst, ← hs, hu]
  refine ⟨fun hn => start (startChannel_of_none hn), fun e hn => ⟨fun hr => start (startChannel_of_early hn hr),
    fun c hr hc => start (startChannel_of_cause hn hr hc), fun hr hc hh => start (startChannel_of_held hn hr hc hh),
    fun hr hc hh hb => start (startChannel_of_plain hn hr hc hh hb),
    fun hr hc hh hb ho => start (startChannel_of_free_boost hn hr hc hh hb ho), fun hr hc hh hb ho hfit => ?_,
    fun hr hc hh hb ho ha hx => start ?_⟩, heldBack_of_idle, fun e c => heldBack_of_running e⟩
  · have hwait := (startChannel_of_obstructed hn hr hc hh hb ho).trans (secondBoost_of_fits hfit)
    exact ⟨fun hw => start (hwait.trans (if_pos hw)), fun hw => start (hwait.trans (if_neg (Bool.eq_false_iff.mp hw)))⟩
  · rw [startChannel_of_obstructed hn hr hc hh hb ho, secondBoost_of_too_long (not_waitFits ha hx)]

end Sys2Proof.Machine
end

section
/-!
SUPPORT. The end of coil events (08_coil_banks.md R198, R205, 09_coil_sequencer.md R224, R231, R232, R235): EVENT_END, the dip that the
detector confirms and the scribe that it teaches, and the lateness allowance of the queued events.
-/

namespace Sys2Proof.Machine

open Sys2Proof

/-! ## Scribe learning (R232) -/

theorem roundDiv_one (x : Int) : roundDiv x 1 = x := by
  rw [roundDiv]
  split <;> omega

theorem newScribe_of_none (m shift : Nat) : newScribe 0 m shift = m := if_pos rfl

/-- Without smoothing the scribe follows the measurement. -/
theorem newScribe_of_shift_zero {old m : Nat} (ho : 0 < old) (hm : m < 2 ^ 32) : newScribe old m 0 = m := by
  have hsum : (old : Int) + ((m : Int) - (old : Int)) = m := by omega
  rw [newScribe, if_neg (by omega), Nat.pow_zero, roundDiv_one, hsum, Int.toNat_natCast, Nat.mod_eq_of_lt hm]

section
variable {ch : Nat} {s : State}

/-! ## EVENT_END (R198, R205, R235) -/

/-- The channel as an event leaves it: no context, its kerf begun, and its trips kept only behind an over-current end. -/
def clearEvent (ch : Nat) (c : Ctx) (t : State) : State :=
  coilUpd ch (fun k => { k with
    ctx := none, kerf := some (time10ns t), flow := false, oldRange := none
    trips := if c.ends = 4 ∧ k.lastOn = 7 then k.trips else 0 }) t

theorem eventEndRow_of_idle (hc : (s.coil ch).ctx = none) : eventEndRow ch s = s := by
  rw [eventEndRow, hc]

section
variable {c : Ctx} (hc : (s.coil ch).ctx = some c)
include hc

theorem eventEndRow_of_driven (h : c.wait ≠ .ending ∨ (s.coil ch).ls = true) : eventEndRow ch s = s := by
  rw [eventEndRow, hc]
  exact if_pos (by simpa using h)

theorem eventEndRow_of_over {u : State} (hw : c.wait = .ending) (hls : (s.coil ch).ls = false)
    (hu : u = clearEvent ch c (eventMiss ch s)) :
    eventEndRow ch s = coilDone c (settleBank (ch / 4) (when (!c.finding && (u.coil ch).kept) (setCode ch 0) u)) := by
  subst hu
  rw [eventEndRow, hc]
  exact if_neg (by simp [hw, hls])

end

/-! ## DIP_CONFIRMED (R231, R232) -/

/-- The operate instant lies in the dip window, if the record has one. -/
def inDipWindow (s : State) (ch m : Nat) : Prop :=
  csFld s ch 80 16 ≠ 0 ∧ csFld s ch 64 16 * 1000 ≤ m ∧ m ≤ csFld s ch 80 16 * 1000

/-- The event has its measurement, and the flag of a dip. -/
def noteDip (ch : Nat) (s : State) : State := ctxUpd ch (fun c => { c with measured := true, dip := true }) s

/-- An accepted measurement: the scribe follows it, and its misses are over. -/
def learnScribe (ch m : Nat) (s : State) : State :=
  markDirty 1 ch (coilUpd ch (fun k => { k with
    scribe := newScribe ((noteDip ch s).coil ch).scribe m (csFld s ch 36 3), scrCount := sat16 k.scrCount, misses := 0, lastMeas := m })
    (noteDip ch s))

theorem csFld_noteDip (n lo w : Nat) : csFld (noteDip ch s) n lo w = csFld s n lo w := rfl

theorem not_inDipWindow_iff {m : Nat} : ¬ inDipWindow s ch m ↔ csFld (noteDip ch s) ch 80 16 * 1000 = 0 ∨
    m < csFld (noteDip ch s) ch 64 16 * 1000 ∨ csFld (noteDip ch s) ch 80 16 * 1000 < m := by
  rw [inDipWindow, csFld_noteDip, csFld_noteDip]
  omega

theorem dipRow_of_idle (m : Nat) (hc : (s.coil ch).ctx = none) : dipRow ch m s = s := by
  rw [dipRow, hc]

section
variable {c : Ctx} (hc : (s.coil ch).ctx = some c)
include hc

theorem dipRow_of_unconfirmed (m : Nat) (h : c.armed = false ∨ c.confirmed = false ∨ c.measured = true) : dipRow ch m s = s := by
  rw [dipRow, hc]
  exact if_pos (by rcases h with h | h | h <;> simp [h])

variable {m : Nat} (ha : c.armed = true) (hf : c.confirmed = true) (hm : c.measured = false)
include ha hf hm

theorem dipRow_of_outside (hout : ¬ inDipWindow s ch m) : dipRow ch m s = scribeMiss ch (noteDip ch s) := by
  rw [dipRow, hc]
  dsimp only
  rw [if_neg (by simp [ha, hf, hm])]
  exact if_pos (not_inDipWindow_iff.mp hout)

theorem dipRow_of_inside (hin : inDipWindow s ch m) : dipRow ch m s = checkDrift ch
    (submit { typ := .scribe, writes := [wr Kind.scribe ch (scribeImage ((learnScribe ch m s).coil ch))] } (learnScribe ch m s)) := by
  rw [dipRow, hc]
  dsimp only
  rw [if_neg (by simp [ha, hf, hm])]
  exact if_neg (fun hno => not_inDipWindow_iff.mpr hno hin)

end

/-! ## LATENESS_ALLOWANCE_EXPIRY (R224) and RISE_TIMEOUT (R204) -/

theorem allowanceRow_of_gone {e : CoilEvent} (h : (chanQueue s ch).find? (allowanceGone s) = some e) :
    allowanceRow ch s = dropEvent 1 (max (e.allow * 1000) (latenessNow s e)) e
      (bankUpd (ch / 4) (fun k => { k with queue := k.queue.erase e }) s) := by
  rw [allowanceRow, h]

theorem allowanceRow_of_none (h : (chanQueue s ch).find? (allowanceGone s) = none) : allowanceRow ch s = s := by
  rw [allowanceRow, h]

theorem riseTimeoutRow_of_idle (hc : (s.coil ch).ctx = none) : riseTimeoutRow ch s = s := by
  rw [riseTimeoutRow, hc]

end

/-- Settles O15: EVENT_END by what the channel still does, DIP_CONFIRMED by the detector and the dip window, the lateness allowance by
the channel's queue, and RISE_TIMEOUT without a window (R198, R204, R205, R224, R231, R232, R235). -/
theorem coilEventEnds : Obligations.CoilEventEnds := by
  intro ch s he
  refine ⟨fun c t u hc hw hls ht hu => ?_, fun c hc h => engine_runs he (eventEndRow_of_driven hc h),
    fun hc => engine_runs he (eventEndRow_of_idle hc), fun hc m => engine_runs he (dipRow_of_idle m hc),
    fun c m hc h => engine_runs he (dipRow_of_unconfirmed hc m h), fun c m hc ha hf hm hout => ?_,
    fun c m hc ha hf hm hhi hlo hle => engine_runs he (dipRow_of_inside hc ha hf hm ⟨hhi, hlo, hle⟩),
    fun old m shift => ⟨newScribe_of_none m shift, fun ho _ hm => newScribe_of_shift_zero ho hm⟩,
    fun e h => engine_runs he (allowanceRow_of_gone h), fun h => engine_runs he (allowanceRow_of_none h),
    fun hc => engine_runs he (riseTimeoutRow_of_idle hc), fun c hc hd => engine_runs he (riseTimeoutRow_of_other hc (.inl hd))⟩
  · subst ht
    have hover := eventEndRow_of_over hc hw hls hu
    refine ⟨fun h => engine_runs he (hover.trans ?_), fun hfd hk => engine_runs he (hover.trans ?_)⟩
    · rw [show (!c.finding && (u.coil ch.val).kept) = false by rcases h with h | h <;> simp [h]]
      rfl
    · rw [hfd, hk]
      rfl
  · refine engine_runs he (dipRow_of_outside hc ha hf hm ?_)
    rintro ⟨hhi, hlo, hle⟩
    omega

end Sys2Proof.Machine
end

section
/-!
SUPPORT. Trips and the safe state of the coil banks (08_coil_banks.md R190, R192, R204, R207, R208, R227, 24_electrical.md R495): what a
low-side and a high-side trip do, and what VGD and the core supply's gate hold do to every bank.
-/

namespace Sys2Proof.Machine

open Sys2Proof

/-! ## LOW_SIDE_TRIP (R192, R204, R207) -/

section
variable {ch : Nat} {s : State}

/-- The event has ended as over-current, and the trip is counted. -/
def countTrip (ch : Nat) (s : State) : State :=
  coilUpd ch (fun k => { k with trips := min (k.trips + 1) 255 })
    (ctxUpd ch (fun c => { c with ends := 4 }) (endFast ch 4 (onFinding ch 7 s)))

/-- The channel's trips reach the limit of its record, and it is not latched yet. -/
def retriesGone (s : State) (ch : Nat) : Prop := chFld s ch 5 3 + 1 ≤ (s.coil ch).trips ∧ (s.coil ch).latched = false

theorem lowSideTripRow_of_idle (hc : (s.coil ch).ctx = none) : lowSideTripRow ch s = s := by
  rw [lowSideTripRow, hc]

section
variable {c : Ctx} (hc : (s.coil ch).ctx = some c)
include hc

/-- An event that has ended as over-current already ignores the trip. -/
theorem lowSideTripRow_of_ended (hw : c.wait = .ending) (he : c.ends = 4) : lowSideTripRow ch s = s := by
  rw [lowSideTripRow, hc]
  exact if_pos (by simp [hw, he])

variable (hrun : ¬ (c.wait = .ending ∧ c.ends = 4)) {t : State} (ht : t = countTrip ch s)
include hrun ht

theorem lowSideTripRow_of_running : lowSideTripRow ch s = settleBank (ch / 4)
    (if chFld t ch 5 3 + 1 ≤ (t.coil ch).trips ∧ !(t.coil ch).latched then latchChannel ch t else t) := by
  subst ht
  rw [lowSideTripRow, hc]
  exact if_neg (by simpa using hrun)

theorem lowSideTripRow_latches (hg : retriesGone t ch) : lowSideTripRow ch s = settleBank (ch / 4) (latchChannel ch t) := by
  rw [lowSideTripRow_of_running hc hrun ht, if_pos ⟨hg.1, by rw [hg.2]; rfl⟩]

theorem lowSideTripRow_retries (hg : ¬ retriesGone t ch) : lowSideTripRow ch s = settleBank (ch / 4) t := by
  rw [lowSideTripRow_of_running hc hrun ht, if_neg (fun h => hg ⟨h.1, by simpa using h.2⟩)]

end
end

/-! ## HIGH_SIDE_TRIP (R204, R207) -/

section
variable {b : Nat} {s : State}

theorem highSideTripRow_of_off (h : (s.bank b).hs = 0) : highSideTripRow b s = s := if_pos h

/-- Code 9 is found on the enabled channels of a bank, and its events end as over-current. -/
def endBank (b : Nat) (s : State) : State :=
  forAll (bankChans b) (endFast · 4) (forAll ((bankChans b).filter (chEnabled s)) (fun ch s => onFinding ch 9 s) s)

/-- The trips of a bank within 60 s, with the one of this instant. -/
def recentTrips (b : Nat) (t : State) : List Nat :=
  (t.bank b).tripAt.filter (fun x => t.rtc.up < x + 60 * 32768) ++ [t.rtc.up]

/-- The trip of a bank is counted. -/
def countBankTrip (b : Nat) (t : State) : State :=
  bankUpd b (fun k => { k with hsTrips := min (k.hsTrips + 1) 65535, tripAt := recentTrips b t }) t

/-- The bank latches with its channels, and their events go. -/
def latchBank (b : Nat) (u : State) : State :=
  settleBank b (clearChannels (bankChans b) 3 4
    (forAll (bankChans b) (fun ch s => coilUpd ch (fun k => { k with latched := true }) s)
      (bankUpd b (fun k => { k with latched := true }) u)))

section
variable (hon : (s.bank b).hs ≠ 0) {t : State} (ht : t = endBank b s)
include hon ht

theorem highSideTripRow_of_on : highSideTripRow b s =
    if 3 ≤ (recentTrips b t).length ∧ !((countBankTrip b t).bank b).latched then raise 2 0x82 [ef 1 b] (latchBank b (countBankTrip b t))
    else settleBank b (countBankTrip b t) := by
  subst ht
  rw [highSideTripRow]
  exact if_neg hon

theorem highSideTripRow_latches (h : 3 ≤ (recentTrips b t).length ∧ ((countBankTrip b t).bank b).latched = false) :
    highSideTripRow b s = raise 2 0x82 [ef 1 b] (latchBank b (countBankTrip b t)) := by
  rw [highSideTripRow_of_on hon ht, if_pos ⟨h.1, by rw [h.2]; rfl⟩]

theorem highSideTripRow_retries (h : ¬ (3 ≤ (recentTrips b t).length ∧ ((countBankTrip b t).bank b).latched = false)) :
    highSideTripRow b s = settleBank b (countBankTrip b t) := by
  rw [highSideTripRow_of_on hon ht, if_neg (fun hno => h ⟨hno.1, by simpa using hno.2⟩)]

end
end

/-- Settles O16: LOW_SIDE_TRIP by the channel's event and the trips that its record allows, HIGH_SIDE_TRIP by the bank's high side and
its trips within 60 s (R192, R198, R204, R207). -/
theorem coilTrips : Obligations.CoilTrips := by
  refine ⟨fun ch s hp => ⟨fun hc => on_runs hp (lowSideTripRow_of_idle hc),
      fun c hc hw he => on_runs hp (lowSideTripRow_of_ended hc hw he),
      fun c t hc hrun ht => ⟨fun h => on_runs hp (lowSideTripRow_latches hc hrun ht h),
        fun h => on_runs hp (lowSideTripRow_retries hc hrun ht h)⟩⟩,
    fun b s hp => ⟨fun h => on_runs hp (highSideTripRow_of_off h), fun t recent hon ht hr => ?_⟩⟩
  subst hr
  exact ⟨fun h => on_runs hp (highSideTripRow_retries hon ht h), fun h => on_runs hp (highSideTripRow_latches hon ht h)⟩

/-! ## VGD and the core supply's gate hold (R190, R208, R495) -/

section
variable {s : State}

theorem vgdUvloRow_of_standing (h : s.sys.uvlo = true) : vgdUvloRow s = s := if_pos h

theorem vgdUvloRow_of_new (h : s.sys.uvlo = false) :
    vgdUvloRow s = coilSafe true { s with sys := { s.sys with uvlo := true } } := if_neg (Bool.eq_false_iff.mp h)

theorem gateHoldRow_of_standing (h : s.sys.gateHold = true) : gateHoldRow s = s := if_pos h

theorem gateHoldRow_of_new (h : s.sys.gateHold = false) :
    gateHoldRow s = coilSafe false { s with sys := { s.sys with gateHold := true } } := if_neg (Bool.eq_false_iff.mp h)

end

/-- Settles O17: each cause takes the banks to the safe state where it is new, and its release lifts that cause alone (R190, R208, R227,
R495). -/
theorem coilSafeState : Obligations.CoilSafeState := by
  intro s hp
  exact ⟨fun h => on_runs hp (vgdUvloRow_of_new h), fun h => on_runs hp (vgdUvloRow_of_standing h), on_after vgdReleaseRow s hp,
    fun h => on_runs hp (gateHoldRow_of_new h), fun h => on_runs hp (gateHoldRow_of_standing h), on_after gateReleaseRow s hp⟩

end Sys2Proof.Machine
end

section
/-!
SUPPORT. The off-state diagnostics of the coil banks and their new records (08_coil_banks.md R200 to R203, R205, R206, R211): when a
sequence starts, what its steps find, its starvation, and when the records of a bank take effect.
-/

namespace Sys2Proof.Machine

open Sys2Proof

section
variable {b : Nat} {s : State}

/-! ## The start of a sequence (R200) -/

/-- A sequence is due and needed, or asked for with a channel to test. -/
def sequenceWanted (s : State) (b : Nat) : Bool :=
  ((s.bank b).diagDue && diagNeeded s b) || ((s.bank b).diagAsk.isSome && !(tested s b).isEmpty)

/-- No event runs on the bank, its kerfs have passed and its high side is off. -/
def bankRests (s : State) (b : Nat) : Bool :=
  (bankChans b).all (fun ch => (s.coil ch).ctx.isNone && !kerfRuns s ch) && (s.bank b).hs == 0

/-- A queued event starts within the sequence and 1 ms. -/
def eventNear (s : State) (b : Nat) : Bool :=
  (s.bank b).queue.any (fun e => auTo10ns s (e.start.diff s.now) ≤ seqLength s b + 100000)

theorem diagStartRow_eq : diagStartRow b s =
    if sequenceWanted s b && bankRests s b && !eventNear s b && gatesOk s && (s.bank b).diag.isNone then
      bankUpd b (fun k => { k with diag := some {} }) s
    else s := rfl

theorem sequenceWanted_iff : sequenceWanted s b = true ↔
    (s.bank b).diagDue = true ∧ diagNeeded s b = true ∨ (s.bank b).diagAsk.isSome = true ∧ tested s b ≠ [] := by
  simp [sequenceWanted]

theorem not_sequenceWanted (h : (s.bank b).diagAsk = none ∧ (s.bank b).diagDue = false) : sequenceWanted s b = false := by
  simp [sequenceWanted, h]

theorem not_bankRests_of_driven (h : (s.bank b).hs ≠ 0) : bankRests s b = false := by
  simp [bankRests, h]

theorem not_bankRests_of_busy (h : ∃ ch ∈ bankChans b, (s.coil ch).ctx ≠ none ∨ kerfRuns s ch = true) : bankRests s b = false := by
  obtain ⟨ch, hch, hbusy⟩ := h
  rw [bankRests, Bool.and_eq_false_iff, List.all_eq_false]
  exact .inl ⟨ch, hch, by rcases hbusy with h | h <;> simp [h]⟩

theorem eventNear_iff : eventNear s b = true ↔
    ∃ e ∈ (s.bank b).queue, auTo10ns s (e.start.diff s.now) ≤ seqLength s b + 100000 := by
  simp [eventNear]

theorem not_eventNear (h : ∀ e ∈ (s.bank b).queue, seqLength s b + 100000 < auTo10ns s (e.start.diff s.now)) :
    eventNear s b = false := by
  rw [Bool.eq_false_iff, Ne, eventNear_iff]
  rintro ⟨e, he, hle⟩
  exact Nat.not_lt.mpr hle (h e he)

theorem diagStartRow_starts (hw : sequenceWanted s b = true) (hr : bankRests s b = true) (hn : eventNear s b = false)
    (hg : gatesOk s = true) (hd : (s.bank b).diag = none) :
    diagStartRow b s = bankUpd b (fun k => { k with diag := some {} }) s := by
  rw [diagStartRow_eq, if_pos (by simp [hw, hr, hn, hg, hd])]

theorem diagStartRow_stays (h : sequenceWanted s b = false ∨ bankRests s b = false ∨ eventNear s b = true ∨ gatesOk s = false ∨
    (s.bank b).diag ≠ none) : diagStartRow b s = s := by
  rw [diagStartRow_eq]
  refine if_neg ?_
  rcases h with h | h | h | h | h <;> simp [h]

/-! ## Step A (R201) -/

/-- The windows of step A are noted on every tested channel. -/
def noteWindows (b : Nat) (hs : Window) (ld : List Window) (s : State) : State :=
  forAll (tested s b) (fun ch s => coilUpd ch (fun k => { k with windows := hs.code + 4 * (ld.getD (ch % 4) .l).code }) s) s

/-- The tested channels whose low-side node is low. -/
def lowNodes (s : State) (b : Nat) (ld : List Window) : List Nat := (tested s b).filter (fun ch => ld.getD (ch % 4) .l == .l)

theorem diagStepARow_of_idle (hs : Window) (ld : List Window) (hd : (s.bank b).diag = none) : diagStepARow b hs ld s = s := by
  rw [diagStepARow, hd]

section
variable {found : List (Nat × Nat)} (hd : (s.bank b).diag = some { stepB := none, found := found }) (ld : List Window)
include hd

theorem diagStepARow_of_high : diagStepARow b .h ld s =
    endSequence b ((tested s b).map (fun ch => (ch, 3))) (noteWindows b .h ld s) := by
  rw [diagStepARow, hd]
  rfl

theorem diagStepARow_of_low : diagStepARow b .l ld s =
    endSequence b ((tested s b).map (fun ch => (ch, 5))) (noteWindows b .l ld s) := by
  rw [diagStepARow, hd]
  rfl

theorem diagStepARow_of_middle : diagStepARow b .m ld s = endSequence b ((tested s b).map (fun ch =>
    (ch, if (lowNodes s b ld).length = 1 then (if (lowNodes s b ld).contains ch then 2 else 13) else 5))) (noteWindows b .m ld s) := by
  rw [diagStepARow, hd]
  rfl

theorem diagStepARow_of_nominal : diagStepARow b .n ld s =
    if (tested s b).isEmpty then endSequence b [] (noteWindows b .n ld s)
    else bankUpd b (fun k => { k with diag := some { stepB := some (tested s b) } }) (noteWindows b .n ld s) := by
  rw [diagStepARow, hd]
  rfl

/-- One low node at a middle level is the channel at fault. -/
theorem diagStepARow_of_middle_one (h : (lowNodes s b ld).length = 1) : diagStepARow b .m ld s =
    endSequence b ((tested s b).map (fun ch => (ch, if (lowNodes s b ld).contains ch then 2 else 13))) (noteWindows b .m ld s) := by
  rw [diagStepARow_of_middle hd]
  simp only [h, if_true]

theorem diagStepARow_of_middle_other (h : (lowNodes s b ld).length ≠ 1) : diagStepARow b .m ld s =
    endSequence b ((tested s b).map (fun ch => (ch, 5))) (noteWindows b .m ld s) := by
  rw [diagStepARow_of_middle hd]
  simp only [h, if_false]

end

/-! ## Step B (R202, R205) -/

theorem diagStepBRow_of_idle (hs ld : Window) (hd : (s.bank b).diag = none) : diagStepBRow b hs ld s = s := by
  rw [diagStepBRow, hd]

/-- What step B finds: a high-side node that is not nominal, or what the low-side node tells. -/
def stepBFinding (hs ld : Window) : Nat := if hs ≠ .n then 13 else stepBCode ld

/-- The sequence goes on to step B of the channels left, with what it has found and not landed. -/
def nextStepB (b : Nat) (left : List Nat) (found : List (Nat × Nat)) (s : State) : State :=
  bankUpd b (fun k => { k with diag := some { stepB := some left, found := found } }) s

/-- The window of step B is noted on the channel. -/
def noteLowWindow (ch : Nat) (ld : Window) (s : State) : State :=
  coilUpd ch (fun k => { k with windows := k.windows % 16 + 16 * ld.code }) s

theorem noteLowWindow_code (ch : Nat) (ld : Window) (s : State) : ((noteLowWindow ch ld s).coil ch).code = (s.coil ch).code := by
  rw [noteLowWindow, coil_coilUpd]

section
variable {ch ch2 : Nat} {rest : List Nat} {found : List (Nat × Nat)} (hs ld : Window)
  (hd : (s.bank b).diag = some { stepB := some (ch :: ch2 :: rest), found := found })
include hd

theorem diagStepBRow_of_channel : diagStepBRow b hs ld s =
    nextStepB b (ch2 :: rest) (if combines (s.coil ch).code then found ++ [(ch, stepBFinding hs ld)] else found)
      (if combines (s.coil ch).code then noteLowWindow ch ld s else landOutcome ch (stepBFinding hs ld) (noteLowWindow ch ld s)) := by
  rw [← noteLowWindow_code ch ld s, diagStepBRow, hd]
  rfl

/-- A code that combines waits for the end of the sequence. -/
theorem diagStepBRow_defers (hcode : combines (s.coil ch).code = true) : diagStepBRow b hs ld s =
    nextStepB b (ch2 :: rest) (found ++ [(ch, stepBFinding hs ld)]) (noteLowWindow ch ld s) := by
  rw [diagStepBRow_of_channel hs ld hd]
  simp only [hcode, if_true]

theorem diagStepBRow_lands (hcode : combines (s.coil ch).code = false) : diagStepBRow b hs ld s =
    nextStepB b (ch2 :: rest) found (landOutcome ch (stepBFinding hs ld) (noteLowWindow ch ld s)) := by
  rw [diagStepBRow_of_channel hs ld hd]
  simp only [hcode, Bool.false_eq_true, if_false]

end

/-! ## Starvation (R203) -/

theorem diagStarveRow_of_starved (hd : (s.bank b).diagDue = true) (hs : (s.bank b).starved = false)
    (hc : 4 * bankFld s b 16 16 ≤ (s.bank b).dueCycles) : diagStarveRow b s =
      raise 2 0x83 [ef 1 b, ef 4 (s.bank b).dueCycles] (bankUpd b (fun k => { k with starved := true }) s) :=
  if_pos (by simp [hd, hs, hc])

theorem diagStarveRow_of_other (h : (s.bank b).diagDue = false ∨ (s.bank b).starved = true ∨
    (s.bank b).dueCycles < 4 * bankFld s b 16 16) : diagStarveRow b s = s := by
  refine if_neg ?_
  rcases h with h | h | h <;> simp [h]

/-! ## New records (R211) -/

theorem recordsRow_of_none (h : (s.bank b).pendAt = none) : recordsRow b s = s := by
  rw [recordsRow, h]

/-- No event runs on the bank. -/
def bankIdle (s : State) (b : Nat) : Bool := (bankChans b).all (fun ch => (s.coil ch).ctx.isNone)

/-- No channel of the bank is in a BOOST phase, in the decay that ends a phase, or in a diagnostic window. -/
def bankQuiet (s : State) (b : Nat) : Bool :=
  (bankChans b).all (fun ch => ((s.coil ch).ctx).all (fun c => !c.inBoost && !endDecay s ch c && !c.dwin))

section
variable {t : Nat} (hp : (s.bank b).pendAt = some t)
include hp

theorem recordsRow_of_waiting : recordsRow b s =
    if bankIdle s b || (decide (t + 32768 ≤ s.rtc.up) && bankQuiet s b) then bankTakesEffect b s else s := by
  rw [recordsRow, hp]
  rfl

theorem recordsRow_loads (h : bankIdle s b = true ∨ (t + 32768 ≤ s.rtc.up ∧ bankQuiet s b = true)) :
    recordsRow b s = bankTakesEffect b s := by
  rw [recordsRow_of_waiting hp, if_pos (by simpa using h)]

theorem recordsRow_waits (hi : bankIdle s b = false) (h : s.rtc.up < t + 32768 ∨ bankQuiet s b = false) : recordsRow b s = s := by
  rw [recordsRow_of_waiting hp]
  refine if_neg ?_
  rcases h with h | h <;> simp [hi, h]

end

end

/-- Settles O18: each row of a bank's sequence by the bank's state, the nodes' windows and the tested channels' codes, and the take of
new records by what runs on the bank (R200 to R203, R205, R206, R211). -/
theorem coilDiagnostics : Obligations.CoilDiagnostics := by
  intro b s
  refine ⟨fun he hw hrest hhs hfar hg hd =>
      engine_runs he (diagStartRow_starts (sequenceWanted_iff.mpr hw) ?_ (not_eventNear hfar) hg hd),
    fun he h => engine_runs he (diagStartRow_stays ?_), fun hs ld found t he hd ht => ?_, fun hs ld ch ch2 rest found t he hd ht => ?_,
    fun hs ld he hd => ⟨engine_runs he (diagStepARow_of_idle hs ld hd), fun ls => engine_runs he (diagStepBRow_of_idle hs ls hd)⟩,
    fun he hd hs hc => engine_runs he (diagStarveRow_of_starved hd hs hc), fun he h => engine_runs he (diagStarveRow_of_other h),
    fun t hp hpend h => on_runs hp (recordsRow_loads hpend h), fun t hp hpend hi h => on_runs hp (recordsRow_waits hpend hi h),
    fun hp hpend => on_runs hp (recordsRow_of_none hpend)⟩
  · rw [bankRests, hrest, hhs]
    rfl
  · rcases h with h | h | h | h | h | h
    · exact .inl (not_sequenceWanted h)
    · exact .inr (.inl (not_bankRests_of_driven h))
    · exact .inr (.inr (.inr (.inl h)))
    · exact .inr (.inr (.inr (.inr h)))
    · exact .inr (.inr (.inl (eventNear_iff.mpr h)))
    · exact .inr (.inl (not_bankRests_of_busy h))
  · subst ht
    refine ⟨?_, ?_, ?_, ?_, ?_, ?_⟩
    · rintro rfl
      exact engine_runs he (diagStepARow_of_high hd ld)
    · rintro rfl
      exact engine_runs he (diagStepARow_of_low hd ld)
    · rintro rfl h
      exact engine_runs he (diagStepARow_of_middle_other hd ld h)
    · rintro rfl h
      exact engine_runs he (diagStepARow_of_middle_one hd ld h)
    · rintro rfl h
      exact engine_runs he ((diagStepARow_of_nominal hd ld).trans (if_pos (by rw [h]; rfl)))
    · rintro rfl h
      exact engine_runs he ((diagStepARow_of_nominal hd ld).trans (if_neg (by simpa using h)))
  · subst ht
    exact ⟨fun h => engine_runs he (diagStepBRow_defers hs ld hd h), fun h => engine_runs he (diagStepBRow_lands hs ld hd h)⟩

end Sys2Proof.Machine
end

section
/-!
SUPPORT. The cards of the coil banks and of the coil sequencer (08_coil_banks.md R206, R207, R211, R212, 09_coil_sequencer.md R213, R219,
R220, R222, R229, R234, R235): the card of each opcode, what its body does where its checks hold, and what it refuses.
-/

namespace Sys2Proof.Machine

open Sys2Proof

/-! ## The cards of the opcodes (R456) -/

theorem cardOf_cbSetBank : cardOf 0x0800 = some (jcard 0x0800 (fixed 148) cardSetBank) := rfl
theorem cardOf_cbGetDiag : cardOf 0x0801 = some (act 0x0801 1 cardGetDiag) := rfl
theorem cardOf_cbRunDiag : cardOf 0x0802 = some (act 0x0802 4 cardRunDiag) := rfl
theorem cardOf_cbClear : cardOf 0x0803 = some (act 0x0803 4 cardCbClear) := rfl
theorem cardOf_csLoad : cardOf 0x0900 = some (jcard 0x0900 (counted 8 2 2 4) cardCsLoad) := rfl
theorem cardOf_csSetEntry : cardOf 0x0901 = some (jcard 0x0901 (fixed 16) cardSetEntry) := rfl
theorem cardOf_csSetChan : cardOf 0x0902 = some (jcard 0x0902 (fixed 40) cardSetChan) := rfl
theorem cardOf_csEvent : cardOf 0x0903 = some (act 0x0903 12 cardCsEvent) := rfl
theorem cardOf_csStop : cardOf 0x0904 = some (act 0x0904 4 cardCsStop) := rfl
theorem cardOf_csGetChan : cardOf 0x0905 = some (act 0x0905 1 cardGetChan) := rfl

section
variable {org : Origin} {l : Nat} {p : List Byte} {t : State}

/-! ## CB_SET_BANK, CB_GET_DIAG, CB_RUN_DIAG and CB_CLEAR (R206, R207, R211, R212) -/

/-- The steal thresholds of a channel in a bank's record: none, or STEAL_IL below STEAL_IH (R210). -/
def stealOrdered (x : Img) (k : Nat) : Bool :=
  (fld x (128 + 256 * k + 88) 8 == 0 && fld x (128 + 256 * k + 96) 8 == 0) ||
    decide (fld x (128 + 256 * k + 96) 8 < fld x (128 + 256 * k + 88) 8)

theorem cardSetBank_ranged (hb : le p 0 1 ≤ 5) (hz : zeroed p 1 3 = true) (hk : keeps bankFields (le p 4 144) = true)
    (hch : (List.range 4).all (fun k => keeps (chanFields k) (le p 4 144) && stealOrdered (le p 4 144) k) = true) :
    cardSetBank org l p t = if !allNormal t then (t, .no St.busy 0)
      else journalArg org true 0 [wr Kind.bank (le p 0 1) (le p 4 144)] [] t := by
  unfold cardSetBank
  refine ranged_ok _ _ _ ?_
  simp only [allOk_append, allOk_cons, allOk_nil, allOk_zero, allOk_mapped, allOk_flatMap, hb, hz, hk, decide_true, Bool.and_true,
    Bool.true_and]
  exact hch

theorem cardGetDiag_ranged (hb : le p 0 1 ≤ 5) : cardGetDiag org l p t = (t, .ok (diagResp t (le p 0 1))) := by
  unfold cardGetDiag
  exact ranged_ok _ _ _ (by simp [hb])

theorem cardRunDiag_ranged (hb : le p 0 1 ≤ 5) (hz : zeroed p 1 3 = true) (hd : t.duty = true) : cardRunDiag org l p t =
    if (t.bank (le p 0 1)).latched then (t, .no St.channelLatched 0)
    else (bankUpd (le p 0 1) (fun k => { k with diagAsk := k.diagAsk <|> some t.rtc.up }) t, .wait (.diag (le p 0 1))) := by
  unfold cardRunDiag
  dsimp only
  rw [ranged_ok _ _ _ (by simp [allOk_zero, hb, hz]), if_neg (by simp [hd])]

theorem cardCbClear_of_channel (hn : le p 0 1 ≤ 23) (hz : zeroed p 1 3 = true) (hd : t.duty = true) : cardCbClear org l p t =
    (coilUpd (le p 0 1) (fun k => { k with latched := (t.bank (le p 0 1 / 4)).latched, trips := 0 }) t, .ok []) := by
  unfold cardCbClear
  dsimp only
  rw [ranged_ok _ _ _ (by simp [allOk_zero, hn, hz]), if_neg (by simp [hd]), if_pos hn]

/-- The latches and trip counts of a bank and of its channels are cleared. -/
def clearBank (b : Nat) (t : State) : State :=
  forAll (bankChans b) (fun ch u => coilUpd ch (fun k => { k with latched := false, trips := 0 }) u)
    (bankUpd b (fun k => { k with latched := false, hsTrips := 0, tripAt := [] }) t)

theorem cardCbClear_of_bank (hn : 0x80 ≤ le p 0 1 ∧ le p 0 1 ≤ 0x85) (hz : zeroed p 1 3 = true) (hd : t.duty = true) :
    cardCbClear org l p t = (clearBank (le p 0 1 - 0x80) t, .ok []) := by
  unfold cardCbClear
  dsimp only
  rw [ranged_ok _ _ _ (by simp [allOk_zero, hn, hz]), if_neg (by simp [hd]), if_neg (by omega)]
  rfl

/-! ## CS_LOAD and CS_SET_ENTRY (R220, R221, R234) -/

/-- The microcode store with the words that CS_LOAD carries. -/
def loadedCode (t : State) (p : List Byte) : Img :=
  setFld (cfgImg t Kind.micro 0) (32 * le p 0 2) (32 * le p 2 2) (le p 8 (4 * le p 2 2))

/-- The valid entries whose code lies in `n` words from `a` on. -/
def entriesIn (t : State) (a n : Nat) : List Nat :=
  (List.range 32).filter (fun e => flag (cfgImg t Kind.entry e) 11 &&
    decide (fld (cfgImg t Kind.entry e) 0 11 < a + n ∧ a < fld (cfgImg t Kind.entry e) 0 11 + fld (cfgImg t Kind.entry e) 12 12))

/-- Every entry that CS_LOAD touches has well-formed code in the store that it makes. -/
def codeStaysOk (t : State) (p : List Byte) : Bool :=
  (entriesIn t (le p 0 2) (le p 2 2)).all (fun e => codeOk (fun i => fld (loadedCode t p) (32 * i) 32) (cfgImg t Kind.entry e))

theorem cardCsLoad_ranged (ha : le p 0 2 ≤ 2047) (hn : 1 ≤ le p 2 2 ∧ le p 2 2 ≤ 250 ∧ le p 0 2 + le p 2 2 ≤ 2048)
    (hz : zeroed p 4 4 = true) : cardCsLoad org l p t =
      if !codeStaysOk t p then (t, .no St.badCode 0)
      else if (entriesIn t (le p 0 2) (le p 2 2)).any (entryInUse t) then (t, .no St.codeInUse 0)
      else journalArg org true 0 [wr Kind.micro 0 (loadedCode t p)] [] t := by
  unfold cardCsLoad
  exact ranged_ok _ _ _ (by simp [allOk_zero, ha, hn, hz])

/-- The record that CS_SET_ENTRY carries. -/
def entryRecord (p : List Byte) : Img := cleanImg entryFields (le p 8 8)

/-- The words of the committed microcode store. -/
def storedWord (t : State) (i : Nat) : Nat := fld (cfgImg t Kind.micro 0) (32 * i) 32

/-- CS_SET_ENTRY behind its range checks: the code of a valid record, the use of the entry, and the count of PHASES. -/
def setEntry (org : Origin) (p : List Byte) (t : State) : State × Res :=
  if flag (entryRecord p) 11 && !codeOk (storedWord t) (entryRecord p) then (t, .no St.badCode 0)
  else if entryInUse t (le p 0 1) then (t, .no St.codeInUse 0)
  else journalArg org true 0 [wr Kind.entry (le p 0 1) (setFld (entryRecord p) 28 4 (phasesOf (storedWord t) (entryRecord p)))]
    (leBytes 1 (phasesOf (storedWord t) (entryRecord p))) t

theorem setEntry_ok (hc : flag (entryRecord p) 11 = true → codeOk (storedWord t) (entryRecord p) = true)
    (hu : entryInUse t (le p 0 1) = false) : setEntry org p t =
      journalArg org true 0 [wr Kind.entry (le p 0 1) (setFld (entryRecord p) 28 4 (phasesOf (storedWord t) (entryRecord p)))]
        (leBytes 1 (phasesOf (storedWord t) (entryRecord p))) t := by
  rw [setEntry, if_neg, if_neg (Bool.eq_false_iff.mp hu)]
  rw [Bool.and_eq_true, Bool.not_eq_true']
  rintro ⟨hv, hbad⟩
  exact Bool.false_ne_true (hbad.symm.trans (hc hv))

section
variable (he : le p 0 1 ≤ 31) (hz : zeroed p 1 7 = true) (hlen : fld (entryRecord p) 0 11 + fld (entryRecord p) 12 12 ≤ 2048)
include he hz hlen

theorem cardSetEntry_of_valid (hv : flag (entryRecord p) 11 = true) (hk : keeps entryFields (entryRecord p) = true) :
    cardSetEntry org l p t = setEntry org p t := by
  unfold cardSetEntry
  rw [entryRecord] at hlen hv hk
  exact ranged_ok _ _ _ (by
    simp only [allOk_append, allOk_cons, allOk_nil, allOk_zero, allOk_mapped, he, hz, hlen, hv, hk, if_true, decide_true, Bool.true_or,
      Bool.and_true])

theorem cardSetEntry_of_invalid (hv : flag (entryRecord p) 11 = false)
    (hk : keeps (entryFields.filter (fun f => f.lo != 12)) (entryRecord p) = true)
    (hn : (List.range 24).any (fun ch => chanNames (cfgImg t Kind.chan ch) (le p 0 1)) = false) :
    cardSetEntry org l p t = setEntry org p t := by
  unfold cardSetEntry
  rw [entryRecord] at hlen hv hk
  exact ranged_ok _ _ _ (by
    simp only [allOk_append, allOk_cons, allOk_nil, allOk_zero, allOk_mapped, he, hz, hlen, hv, hk, hn, Bool.false_eq_true, if_false,
      decide_true, Bool.not_false, Bool.or_true, Bool.and_true])

end

/-! ## CS_SET_CHAN (R232 to R234) -/

/-- The record that CS_SET_CHAN carries. -/
def chanRecord (p : List Byte) : Img := cleanImg csChanFields (le p 8 32)

/-- The record names an entry that is not valid. -/
def namesInvalid (t : State) (x : Img) : Bool :=
  (flag x 5 && !flag (cfgImg t Kind.entry (fld x 0 5)) 11) || (flag x 13 && !flag (cfgImg t Kind.entry (fld x 8 5)) 11)

theorem cardSetChan_ranged (hch : le p 0 1 ≤ 23) (hfl : le p 1 1 ≤ 1) (hz : zeroed p 2 6 = true)
    (hk : keeps csChanFields (chanRecord p) = true)
    (hpow : (!flag (chanRecord p) 6 || flag (cfgImg t Kind.entry (fld (chanRecord p) 0 5)) 24) = true)
    (hdip : (fld (chanRecord p) 80 16 == 0 || decide (fld (chanRecord p) 64 16 < fld (chanRecord p) 80 16)) = true) :
    cardSetChan org l p t =
      if namesInvalid t (chanRecord p) then (t, .no St.entryInvalid 0)
      else if !allNormal t then (t, .no St.busy 0)
      else journalArg org true (le p 1 1) [wr Kind.chan (le p 0 1) (chanRecord p)] [] t := by
  unfold cardSetChan
  rw [chanRecord] at hk hpow hdip
  exact ranged_ok _ _ _ (by
    simp only [allOk_append, allOk_cons, allOk_nil, allOk_zero, allOk_mapped, hch, hfl, hz, hk, hpow, hdip, decide_true, Bool.and_true])

/-! ## CS_EVENT (R219, R222, R229) -/

/-- The instant that CS_EVENT carries. -/
def eventInstant (p : List Byte) : MT := { c := u32 (le p 4 4), a := u16 (le p 8 2) }

/-- The coil event that CS_EVENT asks for: a point-on-wave event is aimed at its target. -/
def askedEvent (t : State) (p : List Byte) : CoilEvent :=
  let raw : CoilEvent := { ch := le p 0 1, entry := le p 1 1, start := eventInstant p, target := eventInstant p, allow := le p 10 2
                           pow := (le p 2 1).testBit 0, preempt := (le p 2 1).testBit 1, report := (le p 2 1).testBit 2
                           roll := le p 2 1 / 8 % 4 }
  if (le p 2 1).testBit 0 then aimAt t (eventInstant p) raw else raw

/-- A coil event is filed in the calendar and bears its handle. -/
def fileEvent (ev : CoilEvent) (t : State) : State × Res :=
  (calInsert (.mt ev.start) (.coil ev) t).elim (t, .no St.noResource 0)
    (fun q => (calSetJob q.1 (.coil { ev with handle := q.1 }) q.2, .ok (leBytes 2 q.1)))

theorem fileEvent_of_room {ev : CoilEvent} {h : Nat} {u : State} (hi : calInsert (.mt ev.start) (.coil ev) t = some (h, u)) :
    fileEvent ev t = (calSetJob h (.coil { ev with handle := h }) u, .ok (leBytes 2 h)) := by
  rw [fileEvent, hi, Option.elim_some]

section
variable (hch : le p 0 1 ≤ 23) (hen : le p 1 1 ≤ 31) (hfl : le p 2 1 < 32 ∧ le p 2 1 / 8 % 4 ≤ 2) (hz : zeroed p 3 1 = true)
  (hpow : (!(le p 2 1).testBit 0 || entFld t (le p 1 1) 24 1 == 1) = true) (hfar : tooFarAhead t (eventInstant p) = false)
  (hd : t.duty = true)
include hch hen hfl hz hpow hfar hd

theorem cardCsEvent_ranged : cardCsEvent org l p t =
    if entFld t (le p 1 1) 11 1 = 0 then (t, .no St.entryInvalid 0)
    else if (t.coil (le p 0 1)).latched then (t, .no St.channelLatched 0)
    else fileEvent (askedEvent t p) t := by
  rw [eventInstant] at hfar
  unfold cardCsEvent
  dsimp only
  rw [ranged_ok _ _ _ ?hcs, if_neg (by simp [hd])]
  · unfold fileEvent askedEvent eventInstant
    dsimp only
    generalize calInsert _ _ t = q
    rcases q with _ | ⟨h, u⟩ <;> rfl
  simp only [allOk_append, allOk_cons, allOk_nil, allOk_zero, hch, hen, hfl, hz, hpow, hfar, and_self, decide_true, Bool.not_false,
    Bool.and_true]

end

/-! ## CS_STOP and CS_GET_CHAN (R234, R235) -/

/-- CS_STOP for a set of channels of a bank: their queued events are dropped, and with mode 1 the running ones end. -/
def stopEvents (b mode : Nat) (chs : List Nat) (t : State) : State :=
  let u := dropQueued b 5 (fun e => chs.contains e.ch) t
  if mode = 1 then bankStep b (forAll chs (endFast · 2) u) else u

theorem stopEvents_drops (b : Nat) (chs : List Nat) {mode : Nat} (hm : mode = 0) :
    stopEvents b mode chs t = dropQueued b 5 (fun e => chs.contains e.ch) t := by
  rw [stopEvents, if_neg (by omega)]

theorem stopEvents_ends (b n : Nat) {mode : Nat} (hm : mode = 1) :
    stopEvents b mode [n] t = bankStep b (endFast n 2 (dropQueued b 5 (fun e => [n].contains e.ch) t)) := by
  rw [stopEvents, if_pos hm, forAll, List.foldl_cons, List.foldl_nil]

/-- The queued events of a set of channels of a bank. -/
def queuedOf (t : State) (b : Nat) (chs : List Nat) : List CoilEvent := (t.bank b).queue.filter (fun e => chs.contains e.ch)

section
variable (hm : le p 1 1 ≤ 1) (hz : zeroed p 2 2 = true) (hd : t.duty = true)
include hm hz hd

theorem cardCsStop_of_channel (hn : le p 0 1 ≤ 23) : cardCsStop org l p t =
    (stopEvents (le p 0 1 / 4) (le p 1 1) [le p 0 1] t, .ok (leBytes 1 (queuedOf t (le p 0 1 / 4) [le p 0 1]).length)) := by
  unfold cardCsStop
  dsimp only
  rw [ranged_ok _ _ _ (by simp [allOk_zero, hn, hm, hz]), if_neg (by simp [hd]), if_pos hn, if_pos hn]
  rfl

theorem cardCsStop_of_bank (hn : 0x80 ≤ le p 0 1 ∧ le p 0 1 ≤ 0x85) : cardCsStop org l p t =
    (stopEvents (le p 0 1 - 0x80) (le p 1 1) (bankChans (le p 0 1 - 0x80)) t,
      .ok (leBytes 1 (queuedOf t (le p 0 1 - 0x80) (bankChans (le p 0 1 - 0x80))).length)) := by
  have hbank : ¬ le p 0 1 ≤ 23 := by omega
  unfold cardCsStop
  dsimp only
  rw [ranged_ok _ _ _ (by simp [allOk_zero, hn, hm, hz]), if_neg (by simp [hd]), if_neg hbank, if_neg hbank]
  rfl

end

/-- What CS_GET_CHAN answers: the channel's record with its learned fields, its counters, its queue and its running entry. -/
def chanAnswer (t : State) (ch : Nat) : List Byte :=
  let c := t.coil ch
  leBytes 32 (liveImg t Kind.chan ch + scribeImage c * 2 ^ 160) ++
    [c.started, c.lates, c.dropped, c.preempts, c.rolled, c.lastLate, c.lastMeas].flatMap (leBytes 4) ++
    leBytes 1 (t.bank (ch / 4)).queue.length ++ leBytes 1 ((c.ctx.map (·.ev.entry)).getD 0xFF) ++ leBytes 2 0

theorem cardGetChan_ranged (hch : le p 0 1 ≤ 23) : cardGetChan org l p t = (t, .ok (chanAnswer t (le p 0 1))) := by
  unfold cardGetChan
  exact ranged_ok _ _ _ (by simp [hch])

end

end Sys2Proof.Machine

namespace Sys2Proof

open Machine

/-- Settles O52: each card, taken at once, by the checks that its record, the microcode, the duty and the latches pass (R198, R206, R207,
R211 to R213, R219, R220, R229, R232, R234, R235; the count of PHASES is notes/assumptions/62.md). It stands outside the model's namespace,
where `coilCards` names the list of these cards. -/
theorem coilCards : Obligations.CoilCards := by
  intro r p s t
  refine ⟨?_, ?_, ?_, ?_, ?_, ?_, ?_, ?_, ?_, ?_, ?_, ?_, ?_, ?_, ?_, ?_, ?_, ?_, ?_, ?_⟩
  · rintro b x steal h rfl rfl rfl hb hz hk hch hn hr
    refine takes_recorded _ cardOf_cbSetBank (by decide) h hr ?_
    rw [jcard_body, cardSetBank_ranged hb hz hk hch, hn]
    rfl
  · rintro b x steal h rfl rfl rfl hb hz hk hch hn
    refine takes_no _ cardOf_cbSetBank (by decide) h (by decide) ?_
    rw [jcard_body, cardSetBank_ranged hb hz hk hch, hn]
    rfl
  · rintro h hb
    refine takes_ok _ cardOf_cbGetDiag (by decide) h ?_
    rw [act_body, cardGetDiag_ranged hb]
  · rintro b h rfl hb hz hd hl
    refine takes_wait _ cardOf_cbRunDiag (by decide) h ?_
    rw [act_body, cardRunDiag_ranged hb hz hd, if_neg (Bool.eq_false_iff.mp hl)]
  · rintro b h rfl hb hz hd hl
    refine takes_no _ cardOf_cbRunDiag (by decide) h (by decide) ?_
    rw [act_body, cardRunDiag_ranged hb hz hd, if_pos hl, Res.no]
  · rintro n h rfl hn hz hd
    refine takes_ok _ cardOf_cbClear (by decide) h ?_
    rw [act_body, cardCbClear_of_channel hn hz hd]
  · rintro n b h rfl hb hn hz hd
    refine takes_ok _ cardOf_cbClear (by decide) h ?_
    rw [act_body, cardCbClear_of_bank hn hz hd, ← hb]
    rfl
  · rintro a n x hit h rfl rfl rfl rfl ha hn hz hok hfree hr
    refine takes_recorded _ cardOf_csLoad (by decide) h hr ?_
    rw [jcard_body, cardCsLoad_ranged ha hn hz]
    exact (if_neg (fun hno => Bool.false_ne_true ((congrArg not hok).symm.trans hno))).trans (if_neg (Bool.eq_false_iff.mp hfree))
  · rintro a n x hit h rfl rfl rfl rfl ha hn hz hbad
    refine takes_no _ cardOf_csLoad (by decide) h (by decide) ?_
    rw [jcard_body, cardCsLoad_ranged ha hn hz]
    exact if_pos (by rw [Bool.not_eq_true']; exact hbad)
  · rintro e x word h rfl rfl rfl he hz hv hk hlen hcode hu hr
    refine takes_recorded _ cardOf_csSetEntry (by decide) h hr ?_
    rw [jcard_body, cardSetEntry_of_valid he hz hlen hv hk]
    exact setEntry_ok (fun _ => hcode) hu
  · rintro e x word h rfl rfl rfl he hz hv hk hn hlen hu hr
    refine takes_recorded _ cardOf_csSetEntry (by decide) h hr ?_
    rw [jcard_body, cardSetEntry_of_invalid he hz hlen hv hk hn]
    exact setEntry_ok (fun hval => absurd (hv.symm.trans hval) Bool.false_ne_true) hu
  · rintro ch fl x on h rfl rfl rfl rfl hch hfl hz hk hpow hdip hval hn hr
    refine takes_recorded _ cardOf_csSetChan (by decide) h hr ?_
    rw [jcard_body, cardSetChan_ranged hch hfl hz hk hpow hdip, hn]
    exact if_neg (Bool.eq_false_iff.mp hval)
  · rintro ch x on h rfl rfl rfl hch hfl hz hk hpow hdip hval
    refine takes_no _ cardOf_csSetChan (by decide) h (by decide) ?_
    rw [jcard_body, cardSetChan_ranged hch hfl hz hk hpow hdip]
    exact if_pos hval
  · rintro ch en fl target raw ev hdl u h rfl rfl rfl rfl rfl rfl hch hen hfl hz hpow hfar hd hvalid hl hi
    refine takes_keyed _ cardOf_csEvent (by decide) h (by decide) rfl ?_
    rw [act_body, cardCsEvent_ranged hch hen hfl hz hpow hfar hd, if_neg hvalid, if_neg (Bool.eq_false_iff.mp hl)]
    exact fileEvent_of_room hi
  · rintro ch en fl target h rfl rfl rfl rfl hch hen hfl hz hpow hfar hd hvalid
    refine takes_no _ cardOf_csEvent (by decide) h (by decide) ?_
    rw [act_body, cardCsEvent_ranged hch hen hfl hz hpow hfar hd, if_pos hvalid, Res.no]
  · rintro ch en fl target h rfl rfl rfl rfl hch hen hfl hz hpow hfar hd hvalid hl
    refine takes_no _ cardOf_csEvent (by decide) h (by decide) ?_
    rw [act_body, cardCsEvent_ranged hch hen hfl hz hpow hfar hd, if_neg hvalid, if_pos hl, Res.no]
  · rintro n h rfl hn hm hz hd
    refine takes_ok _ cardOf_csStop (by decide) h ?_
    rw [act_body, cardCsStop_of_channel (by omega) hz hd hn, stopEvents_drops _ _ hm, queuedOf]
  · rintro n h rfl hn hm hz hd
    refine takes_ok _ cardOf_csStop (by decide) h ?_
    rw [act_body, cardCsStop_of_channel (by omega) hz hd hn, stopEvents_ends _ _ hm, queuedOf]
  · rintro n b u h rfl hb rfl hn hm hz hd
    refine takes_ok _ cardOf_csStop (by decide) h ?_
    rw [act_body, cardCsStop_of_bank hm hz hd hn, ← hb, stopEvents, queuedOf]
  · rintro ch c h rfl rfl hch
    refine takes_ok _ cardOf_csGetChan (by decide) h ?_
    rw [act_body]
    exact cardGetChan_ranged hch

end Sys2Proof
end

section
/-!
SUPPORT. The instructions of the coil sequencer (08_coil_banks.md R189, R196 to R198, 09_coil_sequencer.md R215 to R218, R228, R231): the
issue of a channel's word, the phase that an SRC begins, and what the kerf makes of a command of the low side.
-/

namespace Sys2Proof.Machine

open Sys2Proof

/-! ## The issue of a word (R215) -/

/-- The bank has issued for the channel last. -/
def markIssued (ch : Nat) (s : State) : State := bankUpd (ch / 4) (fun k => { k with issued := ch % 4 }) s

section
variable {ch w : Nat} {s : State} {c : Ctx}

section
variable (hc : (s.coil ch).ctx = some c) (ht : turn s ch = true) (hw : microWord s c.pc = w)
include hc ht hw

/-- On the channel's turn the effect of its word acts, and the bank's gates follow. -/
theorem issue_of_turn {opc : Nat} {f : Nat → Ctx → State → State} {t : State} (ho : fld w 27 5 = opc)
    (hf : f w c (markIssued ch s) = t) : issue ch opc f s = bankStep (ch / 4) t := by
  subst hw ho hf
  rw [issue, hc]
  exact if_neg (by simp [ht])

/-! ## SRC (R189, R196, R197, R216) -/

/-- The word begins a BOOST phase behind the event's first. -/
def laterBoost (s : State) (ch w : Nat) (c : Ctx) : Bool :=
  fld w 25 2 == 2 && boostFit s (ch / 4) && !(c.pc == entFld s c.ev.entry 0 11)

theorem srcRow_of_obstructed (ho : fld w 27 5 = 0x01) (hl : laterBoost s ch w c = true)
    (hobs : obstructions (markIssued ch s) ch ≠ []) : srcRow ch s = bankStep (ch / 4)
      (ctxUpd ch (fun c => { c with wait := .boost, waitAt := time10ns s })
        (bankUpd (ch / 4) (fun k => { k with delayed := sat32 k.delayed }) (markIssued ch s))) := by
  refine issue_of_turn hc ht hw ho (if_pos ?_)
  exact Bool.and_eq_true_iff.mpr ⟨hl, by simpa using hobs⟩

/-- A BOOST that no obstruction meets is admitted, and counted where it steals (R196). -/
theorem srcRow_of_admitted (ho : fld w 27 5 = 0x01) (hl : laterBoost s ch w c = true)
    (hobs : obstructions (markIssued ch s) ch = []) : srcRow ch s = bankStep (ch / 4)
      (ctxUpd ch (beginPhase s (ch / 4) w) (countSteal ch (markIssued ch s))) :=
  issue_of_turn hc ht hw ho ((if_neg (by simp [hobs])).trans (congrArg (ctxUpd ch _) (if_pos hl)))

/-- No other SRC asks for the bank's admission. -/
theorem srcRow_of_other (ho : fld w 27 5 = 0x01) (hl : laterBoost s ch w c = false) : srcRow ch s = bankStep (ch / 4)
    (ctxUpd ch (beginPhase s (ch / 4) w) (markIssued ch s)) := by
  refine issue_of_turn hc ht hw ho ((if_neg ?_).trans (congrArg (ctxUpd ch _) (if_neg (Bool.eq_false_iff.mp hl))))
  rw [Bool.and_eq_true_iff]
  exact fun h => Bool.false_ne_true (hl.symm.trans h.1)

end

/-- A context at the begin of the phase of an SRC word, on a source. -/
def phaseOn (s : State) (w src : Nat) (c : Ctx) : Ctx :=
  { c with
    src, decay := fld w 23 2, ih := fld w 8 8, il := fld w 0 8, noBoost := false, stealOff := false, heldOff := false, fast := false
    pc := c.pc + 1, wait := .ready, phaseAt := time10ns s, word := c.pc, peak := 0, low := none }

section
variable {b : Nat}

theorem beginPhase_of_source (h : fld w 25 2 ≠ 2 ∨ boostFit s b = true) : beginPhase s b w = phaseOn s w (fld w 25 2) := by
  refine congrArg (phaseOn s w) (if_neg ?_)
  rcases h with h | h <;> simp [h]

theorem beginPhase_of_unfit (h2 : fld w 25 2 = 2) (hf : boostFit s b = false) : beginPhase s b w = phaseOn s w 1 :=
  congrArg (phaseOn s w) (if_pos ⟨h2, by rw [hf]; rfl⟩)

end

theorem laterBoost_of_plain (h : fld w 25 2 ≠ 2) : laterBoost s ch w c = false := by simp [laterBoost, h]

theorem laterBoost_of_unfit (h : boostFit s (ch / 4) = false) : laterBoost s ch w c = false := by simp [laterBoost, h]

theorem laterBoost_of_first (h : c.pc = entFld s c.ev.entry 0 11) : laterBoost s ch w c = false := by simp [laterBoost, h]

theorem laterBoost_of_later (h2 : fld w 25 2 = 2) (hf : boostFit s (ch / 4) = true) (hp : c.pc ≠ entFld s c.ev.entry 0 11) :
    laterBoost s ch w c = true := by simp [laterBoost, h2, hf, hp]

/-! ## The low side (R198) -/

theorem commandLow_of_free {on : Bool} (h : (on && kerfRuns s ch) = false) :
    commandLow ch on s = ctxUpd ch (fun c => { c with lsw := on }) s := by
  rw [commandLow, h, Bool.not_false, Bool.and_true]
  rfl

theorem commandLow_of_kerf {on : Bool} (h : (on && kerfRuns s ch) = true) : commandLow ch on s =
    ctxUpd ch (fun c => { c with lsw := false }) (coilUpd ch (fun k => { k with kerfViol := sat32 k.kerfViol }) s) := by
  rw [commandLow, h, Bool.not_true, Bool.and_false]
  rfl

end

/-- Settles O12: each word by its operation, and where it has forms, by its operands, the supply that its BOOST may have, the bank's
obstructions and the kerf (R189, R196 to R198, R215 to R218, R228, R231). -/
theorem csqInstructions : Obligations.CsqInstructions := by
  intro ch s u c w he hc ht hw hu
  subst hu
  refine ⟨fun ho => engine_runs he (issue_of_turn hc ht hw ho rfl),
    fun ho h2 => engine_runs he ?_, fun ho h2 hf => engine_runs he ?_, fun ho h2 hf hor => engine_runs he ?_,
    fun ho h2 hf hp hobs => engine_runs he (srcRow_of_obstructed hc ht hw ho (laterBoost_of_later h2 hf hp) hobs),
    fun ho h => engine_runs he (issue_of_turn hc ht hw ho (congrArg (next ch.val Ctx.resetPeak) (commandLow_of_free h))),
    fun ho h => engine_runs he (issue_of_turn hc ht hw ho (congrArg (next ch.val Ctx.resetPeak) (commandLow_of_kerf h))),
    fun ho => engine_runs he (issue_of_turn hc ht hw ho rfl),
    fun ho => engine_runs he (issue_of_turn hc ht hw ho rfl),
    fun ho => engine_runs he (issue_of_turn hc ht hw ho rfl),
    fun ho h => engine_runs he (issue_of_turn hc ht hw ho (congrArg (next ch.val _) (commandLow_of_free h))),
    fun ho h => engine_runs he (issue_of_turn hc ht hw ho (congrArg (next ch.val _) (commandLow_of_kerf h))),
    fun ho h => engine_runs he (issue_of_turn hc ht hw ho (congrArg (next ch.val id) (if_pos h))),
    fun ho h => engine_runs he (issue_of_turn hc ht hw ho (congrArg (next ch.val id) (if_neg (Bool.eq_false_iff.mp h)))),
    fun ho h => engine_runs he (issue_of_turn hc ht hw ho (if_pos h)),
    fun ho h => engine_runs he (issue_of_turn hc ht hw ho (if_neg (Bool.eq_false_iff.mp h))),
    fun ho => engine_runs he (issue_of_turn hc ht hw ho rfl),
    fun ho => engine_runs he (issue_of_turn hc ht hw ho rfl),
    fun ho => engine_runs he (issue_of_turn hc ht hw ho ?_),
    fun ho h => engine_runs he (issue_of_turn hc ht hw ho (if_pos h)),
    fun ho h => engine_runs he (issue_of_turn hc ht hw ho (if_neg (Bool.eq_false_iff.mp h)))⟩
  · rw [srcRow_of_other hc ht hw ho (laterBoost_of_plain h2), beginPhase_of_source (.inl h2)]
    rfl
  · rw [srcRow_of_other hc ht hw ho (laterBoost_of_unfit hf), beginPhase_of_unfit h2 hf]
    rfl
  · by_cases hp : c.pc = entFld s c.ev.entry 0 11
    · rw [srcRow_of_other hc ht hw ho (laterBoost_of_first hp), beginPhase_of_source (.inr hf), h2, if_pos hp]
      rfl
    · rw [srcRow_of_admitted hc ht hw ho (laterBoost_of_later h2 hf hp) (hor.resolve_left hp), beginPhase_of_source (.inr hf), h2,
        if_neg hp]
      rfl
  · simp only [bne_iff_ne]
    rfl

end Sys2Proof.Machine
end

section
/-!
SUPPORT. The rows of the converters (10_analog.md R242, R246, R248, R250 to R257): what a conversion makes of its code, where its
result goes, how a sequence goes on behind it, and what the reference, the jig and a calibration do.
-/

namespace Sys2Proof.Machine

open Sys2Proof

/-! ## The code of a conversion (R238, R252) -/

theorem clampCode_of_range {raw : Int} (h0 : 0 ≤ raw) (h1 : raw ≤ 65535) : clampCode false false raw = (raw, false) := by
  have hv : max 0 (min 65535 raw) = raw := by omega
  show (max 0 (min 65535 raw), max 0 (min 65535 raw) != raw) = (raw, false)
  rw [hv, bne_self_eq_false]

theorem clampCode_of_above {raw : Int} (h : 65535 < raw) : clampCode false false raw = (65535, true) := by
  have hv : max 0 (min 65535 raw) = 65535 := by omega
  show (max 0 (min 65535 raw), max 0 (min 65535 raw) != raw) = (65535, true)
  rw [hv, bne_iff_ne.mpr (by omega)]

/-! ## A result (R252, R253) -/

/-- The next result of a converter is suspect: the one before it was out of range, or its last calibration failed (R252, R253). -/
def suspectNow (s : State) (c : Nat) : Bool := (s.conv c).suspectNext || (s.conv c).calFail

/-- The result register of a slot, with the flags that the converter gives its next result (R253). -/
def resultReg (s : State) (c slot : Nat) (v : Int) (ovr : Bool) (angle : U16) : ConvReg :=
  { code := code16 v, ovr := ovr, suspect := suspectNow s c, unsettled := !(s.conv c).refRdy
    late := decide (32 ≤ slot) && ((s.conv c).inj.map (·.late)).getD false, valid := true, n := 1, angle := angle }

/-- A result that no recovery slot follows is counted, and makes the next one suspect where it is out of range (R252). -/
def countResult (c : Nat) (ovr suspect : Bool) (s : State) : State :=
  convUpd c (fun k => { k with
    suspectNext := ovr, conversions := sat32 k.conversions
    ovrs := if ovr then sat32 k.ovrs else k.ovrs
    suspects := if suspect then sat32 k.suspects else k.suspects }) s

section
variable {c : Nat} {s : State}

theorem takeResult_without_recovery {slot : Nat} {ent : Img} {raw v : Int} {outside ovr : Bool} {angle : U16}
    (hv : clampCode (entDiff ent) outside raw = (v, ovr)) (hr : entRec ent = false) :
    takeResult c slot ent raw outside angle s = (false, when ovr (overRange c slot (code16 v))
      (countResult c ovr (suspectNow s c) (landResult c slot ent v (resultReg s c slot v ovr angle) s))) := by
  rw [takeResult, hv, hr]
  dsimp only
  rw [Bool.and_false, Bool.not_false, Bool.and_true]
  rfl

/-! ## CONVERSION_END (R246, R248, R254) -/

/-- NAP keeps a converter still: in NAP only ADC0 converts, and with PAIR_EN low (R387, R390). -/
def napKeeps (s : State) (c : Nat) : Bool := s.sys.power == .nap && (c != 0 || s.sys.straps.pairEn)

theorem napKeeps_iff : napKeeps s c = true ↔ s.sys.power = .nap ∧ (c ≠ 0 ∨ s.sys.straps.pairEn = true) := by
  simp [napKeeps]

theorem not_napKeeps_iff : napKeeps s c = false ↔ s.sys.power ≠ .nap ∨ c = 0 ∧ s.sys.straps.pairEn = false := by
  simp [napKeeps, imp_iff_not_or]

section
variable (raw : Int) (outside : Bool) (angle : U16)

theorem conversionEndRow_of_still
    (h : (s.conv c).state ≠ .run ∧ (s.conv c).state ≠ .jig ∨ napKeeps s c = true) : conversionEndRow c raw outside angle s = s := by
  rw [conversionEndRow]
  rcases h with ⟨hrun, hjig⟩ | h
  · simp [hrun, hjig]
  · exact if_pos h

/-- A converter in the jig gives its conversions to the jig's table, and none while the jig delays. -/
theorem conversionEndRow_of_jig (hn : napKeeps s c = false) (hs : (s.conv c).state = .jig) : conversionEndRow c raw outside angle s =
    if (s.conv c).jigDelay then s else jigConversion c raw outside s := by
  rw [conversionEndRow]
  exact (if_neg (Bool.eq_false_iff.mp hn)).trans (if_pos (by rw [hs]; rfl))

theorem conversionEndRow_of_jig_delay (hs : (s.conv c).state = .jig) (hd : (s.conv c).jigDelay = true) :
    conversionEndRow c raw outside angle s = s := by
  cases hn : napKeeps s c with
  | true => exact conversionEndRow_of_still raw outside angle (.inr hn)
  | false => rw [conversionEndRow_of_jig raw outside angle hn hs, if_pos hd]

theorem conversionEndRow_of_idle (hs : (s.conv c).state = .run) (hb : (s.conv c).busy = .idle) :
    conversionEndRow c raw outside angle s = s := by
  rw [conversionEndRow, hs, hb]
  simp

/-- Behind a regular result that no recovery slot follows, the regular sequence goes on; a supervised input's sample is kept. -/
theorem conversionEndRow_of_regular {e : Nat} {t : State} (hn : napKeeps s c = false) (hs : (s.conv c).state = .run)
    (hb : (s.conv c).busy = .regular e) (ht : takeResult c e (regEntry s c e) raw outside angle s = (false, t)) :
    conversionEndRow c raw outside angle s = startRegular c (e + 1)
      (when (supOwns (liveImg t Kind.lsIn 0) c e) (keepSample (e - 24) (sampleMT t angle) ((t.conv c).reg.get e).code) t) := by
  rw [napKeeps] at hn
  rw [conversionEndRow, hn, hs, hb]
  dsimp only
  rw [ht]
  rfl

end

/-! ## INJECTED_SEQUENCE_END (R248) -/

theorem injectedEndRow_of_none (h : (s.conv c).inj = none) : injectedEndRow c s = s := by
  rw [injectedEndRow, h]
  simp

/-- The sequence of a converter ends, and it is free for the next one. -/
def endInjected (c : Nat) (s : State) : State :=
  convUpd c (fun k => { k with inj := none, injAt := none, oldImg := none }) (injDone c s)

/-- Where no pending start follows, the regular sequence resumes where it stopped. -/
theorem injectedEndRow_resumes {i : Inject} (hs : (s.conv c).state = .run) (hi : (s.conv c).inj = some i)
    (hb : (s.conv c).busy = .idle) (ha : (s.conv c).afterRec = none)
    (hfree : ((resumePending (endInjected c s)).conv c).inj = none ∧ ((resumePending (endInjected c s)).conv c).pend = none) :
    injectedEndRow c s = startRegular c (s.conv c).next (resumePending (endInjected c s)) := by
  obtain ⟨hinj, hpend⟩ := hfree
  have hnone : (((resumePending (endInjected c s)).conv c).inj.isNone &&
      ((resumePending (endInjected c s)).conv c).pend.isNone) = true := by
    rw [hinj, hpend]
    rfl
  rw [injectedEndRow]
  exact (if_neg (by simp [hs, hi, hb, ha])).trans (if_pos hnone)

/-! ## References and the jig's delay (R242, R254) -/

theorem refSettledRow_makes_ready (h : convRef (liveImg s Kind.conv c) ≠ 1) :
    refSettledRow c s = convUpd c (fun k => { k with refRdy := true }) s :=
  if_neg (fun hr => h hr.1)

theorem refSettledRow_of_outside (h : convRef (liveImg s Kind.conv c) = 1) (ho : s.ad.extOut = true) : refSettledRow c s = s :=
  if_pos ⟨h, ho⟩

theorem jigDelayRow_of_delay (hs : (s.conv c).state = .jig) (hd : (s.conv c).jigDelay = true) : jigDelayRow c s = jigNext c s :=
  if_pos (by rw [hs, hd]; rfl)

theorem jigDelayRow_of_no_delay (hd : (s.conv c).jigDelay = false) : jigDelayRow c s = s :=
  if_neg (by simp [hd])

/-! ## CALIBRATION_END (R256, R257) -/

theorem calibrationEndRow_of_other (o g : Int) (h : (s.conv c).state ≠ .cal) : calibrationEndRow c o g s = s :=
  if_pos (bne_iff_ne.mpr h)

/-- A calibration within its limits, before the configuration restore, stores its trims and leaves the converter OFF. -/
theorem calibrationEndRow_of_passed {o g : Int} (hs : (s.conv c).state = .cal) (ho : o.natAbs ≤ 64) (hg : g.natAbs ≤ 100)
    (hr : s.sys.restored = false) : calibrationEndRow c o g s = completeWait (.calib c) St.ok 0 []
      (convUpd c (fun k => { k with state := .off }) (convUpd c (fun k => { k with calFail := false, offset := o, gain := g }) s)) := by
  have hbad : (decide (64 < o.natAbs) || decide (100 < g.natAbs)) = false := by simp [ho, hg]
  rw [calibrationEndRow, if_neg (by simp [hs])]
  dsimp only
  rw [hbad, if_neg Bool.false_ne_true, convUpd_sys, hr, Bool.false_and, if_neg Bool.false_ne_true]

end

/-- Settles O33: a conversion by the converter's state, what it converts and its code, an injected sequence by what follows it, the
reference by its source and window, the jig by its delay, and a calibration by its state and limits (R242, R246, R248, R250, R252 to R254,
R256, R257). -/
theorem converterRows : Obligations.ConverterRows := by
  intro c s hon
  refine ⟨fun raw out a h => on_runs hon (conversionEndRow_of_still raw out a (h.imp_right napKeeps_iff.mpr)),
    fun raw out a hs hb => on_runs hon (conversionEndRow_of_idle raw out a hs hb), ?_, ?_, ?_,
    fun raw out a hs hd => on_runs hon (conversionEndRow_of_jig_delay raw out a hs hd),
    fun h => on_runs hon (injectedEndRow_of_none h), ?_,
    fun h => on_runs hon (refSettledRow_makes_ready h), fun h ho => on_runs hon (refSettledRow_of_outside h ho),
    on_runs hon rfl, ?_,
    fun hs hd => on_runs hon (jigDelayRow_of_delay hs hd), fun hd => on_runs hon (jigDelayRow_of_no_delay hd),
    fun o g h => on_runs hon (calibrationEndRow_of_other o g h), ?_⟩
  · intro raw a e t hn hs hb hdiff hrec h0 h1 ht
    have hv : clampCode (entDiff (regEntry s c.val e)) false raw = (raw, false) := by rw [hdiff, clampCode_of_range h0 h1]
    have htake : takeResult c.val e (regEntry s c.val e) raw false a s = (false, t) := by
      rw [takeResult_without_recovery hv hrec, ht]
      rfl
    have hrow := conversionEndRow_of_regular raw false a (not_napKeeps_iff.mpr hn) hs hb htake
    refine ⟨fun hown => on_runs hon ?_, fun hown => on_runs hon ?_⟩
    · rw [hrow, hown, when, if_neg Bool.false_ne_true]
    · rw [hrow, hown, when, if_pos rfl]
  · intro raw a e t hn hs hb hdiff hrec h1 ht hown
    have hv : clampCode (entDiff (regEntry s c.val e)) false raw = (65535, true) := by rw [hdiff, clampCode_of_above h1]
    have htake : takeResult c.val e (regEntry s c.val e) raw false a s = (false, t) := by
      rw [takeResult_without_recovery hv hrec, ht]
      rfl
    refine on_runs hon ?_
    rw [conversionEndRow_of_regular raw false a (not_napKeeps_iff.mpr hn) hs hb htake, hown, when, if_neg Bool.false_ne_true]
  · intro raw out a hn hs hd
    refine on_runs hon ?_
    rw [conversionEndRow_of_jig raw out a (not_napKeeps_iff.mpr hn) hs, if_neg (Bool.eq_false_iff.mp hd)]
  · rintro i t hs hi hb ha rfl hfree
    exact on_runs hon (injectedEndRow_resumes hs hi hb ha hfree)
  · rintro t rfl
    exact on_runs hon rfl
  · rintro o g t hs ho hg hr rfl
    exact on_runs hon (calibrationEndRow_of_passed hs ho hg hr)

end Sys2Proof.Machine
end

section
/-!
SUPPORT. The rows of the fans (11_fans.md R265 to R268): the edges of the tachometer, the timeouts of kick, back-off and tachometer, and
the current trigger (10_analog.md R247).
-/

namespace Sys2Proof.Machine

open Sys2Proof

section
variable {n : Nat} {s : State}

/-! ## TACH_EDGE (R265) -/

/-- An edge with none before it is counted, and gives no interval. -/
theorem tachEdgeRow_of_first : tachEdgeRow n 0 s = fanUpd n (fun f => { f with edges := f.edges + 1 }) s := rfl

/-- The last 16 intervals are kept. -/
theorem tachEdgeRow_of_interval {iv : Nat} (h : iv ≠ 0) : tachEdgeRow n iv s =
    fanUpd n (fun f => { f with edges := f.edges + 1, ivals := (iv :: f.ivals).take 16, lastIval := some iv }) s := by
  simp only [tachEdgeRow, if_neg h]

/-! ## KICK_TIMEOUT and BACKOFF_EXPIRY (R268) -/

/-- A fan that turns, or is not kicked, has no kick to run out. -/
theorem kickTimeoutRow_of_other (h : (s.fan n).state ≠ .kick ∨ 2 ≤ (s.fan n).edges) : kickTimeoutRow n s = s := by
  refine if_pos ?_
  rcases h with h | h <;> simp [h]

theorem kickTimeoutRow_of_kick (hs : (s.fan n).state = .kick) (he : (s.fan n).edges < 2) : kickTimeoutRow n s =
    if (s.fan n).attempts ≤ fnFld s n 216 3 then stall n (if (s.fan n).code = 4 then 4 else 1) (s.fan n).attempts s
    else setDuty n 0 (setFanCode n 2 (fanUpd n (fun f => { f with state := .fault }) s)) :=
  if_neg (by simp [hs, he])

theorem backoffRow_of_backoff (h : (s.fan n).state = .backoff) :
    backoffRow n s = kick n (fanUpd n (fun f => { f with attempts := f.attempts + 1 }) s) :=
  if_neg (by simp [h])

theorem backoffRow_of_other (h : (s.fan n).state ≠ .backoff) : backoffRow n s = s :=
  if_pos (bne_iff_ne.mpr h)

/-! ## TACH_TIMEOUT (R265, R268) -/

/-- The interval is forgotten, and with it the edges of a fan that is not kicked. -/
def forgetInterval (n : Nat) (s : State) : State :=
  fanUpd n (fun f => { f with lastIval := none, edges := if f.state = .kick then f.edges else 0 }) s

theorem tachTimeoutRow_of_other (h : ((forgetInterval n s).fan n).state ≠ .run) : tachTimeoutRow n s = forgetInterval n s :=
  if_pos (bne_iff_ne.mpr h)

/-- Without a current that tells of its turning, a running fan goes on in the open loop with code 5. -/
theorem tachTimeoutRow_without_current (h : ((forgetInterval n s).fan n).state = .run)
    (hc : currentOf (forgetInterval n s) n = none) : tachTimeoutRow n s = setFanCode n 5
      (fanUpd n (fun f => { f with state := .openLoop, oob := 0, edges := 0 }) (forgetInterval n s)) := by
  rw [forgetInterval] at h hc ⊢
  rw [tachTimeoutRow, if_neg (by simp [h]), hc]

/-! ## CUR_TRIG (R247, R266) -/

theorem curTrigRow_of_trigger (he : fnEnabled s n = true) (ht : fnFld s n 5 1 = 1) (ho : s.sys.outputs = true) :
    curTrigRow n s = (trigger .fan {} (fnFld s n 160 2) s).2 :=
  if_pos (by rw [he, ht, ho]; rfl)

theorem curTrigRow_of_disabled (h : fnEnabled s n = false) : curTrigRow n s = s :=
  if_neg (by simp [h])

end

/-- Settles O34: an edge by its interval, each timeout by the fan's state, its edges, attempts and current, and the current trigger by the
fan's record and the outputs (R247, R265, R266, R268). -/
theorem fanRows : Obligations.FanRows := by
  intro n s hon
  refine ⟨on_runs hon tachEdgeRow_of_first, fun iv h => on_runs hon (tachEdgeRow_of_interval h),
    fun h => on_runs hon (kickTimeoutRow_of_other h),
    fun hs he ha => on_runs hon ((kickTimeoutRow_of_kick hs he).trans (if_pos ha)),
    fun hs he ha => on_runs hon ((kickTimeoutRow_of_kick hs he).trans (if_neg (Nat.not_le.mpr ha))),
    fun h => on_runs hon (backoffRow_of_backoff h), fun h => on_runs hon (backoffRow_of_other h), ?_, ?_,
    fun he ht ho => on_runs hon (curTrigRow_of_trigger he ht ho), fun h => on_runs hon (curTrigRow_of_disabled h)⟩
  · rintro t rfl h
    exact on_runs hon (tachTimeoutRow_of_other h)
  · rintro t rfl h hc
    exact on_runs hon (tachTimeoutRow_without_current h hc)

end Sys2Proof.Machine
end

section
/-!
SUPPORT. The cards of the converters, the fans and the key matrix (10_analog.md R238, R241, R245, R247 to R249, R254 to R259,
11_fans.md R263, R268, R272, R273, 12_keys.md R279, R280, R284): the card of each opcode, what its body does where its checks hold, and
what it refuses.
-/

namespace Sys2Proof.Machine

open Sys2Proof

/-! ## The cards of the opcodes (R456) -/

theorem cardOf_adSetConv : cardOf 0x0A00 = some (jcard 0x0A00 (fixed 176) cardSetConv) := rfl
theorem cardOf_adSetGroup : cardOf 0x0A01 = some (jcard 0x0A01 (fixed 4) cardSetGroup) := rfl
theorem cardOf_adRead : cardOf 0x0A02 = some (act 0x0A02 4 cardAdRead) := rfl
theorem cardOf_adInject : cardOf 0x0A03 = some (act 0x0A03 10 cardAdInject) := rfl
theorem cardOf_adJig : cardOf 0x0A04 = some
    { op := 0x0A04, need := needJig, body := cardAdJig, journals := true, timed := fun p => le p 1 1 != 1 } := rfl
theorem cardOf_adGetStats : cardOf 0x0A05 = some (act 0x0A05 1 cardAdStats) := rfl
theorem cardOf_fnSetChan : cardOf 0x0B00 = some (jcard 0x0B00 (fixed 36) cardSetFan) := rfl
theorem cardOf_fnGetStatus : cardOf 0x0B01 = some (act 0x0B01 0 cardFanStatus) := rfl
theorem cardOf_fnClear : cardOf 0x0B02 = some (act 0x0B02 4 cardFanClear) := rfl
theorem cardOf_kySetCfg : cardOf 0x0C00 = some (jcard 0x0C00 (fixed 8) cardKySetCfg) := rfl
theorem cardOf_kySetKeys : cardOf 0x0C01 = some (jcard 0x0C01 (counted 8 2 2 16) cardKySetKeys) := rfl
theorem cardOf_kyGetState : cardOf 0x0C02 = some (act 0x0C02 0 cardKyState) := rfl

section
variable {org : Origin} {l : Nat} {p : List Byte} {t : State}

/-! ## AD_SET_CONV and AD_SET_GROUP (R245, R249, R258, R259) -/

/-- Entry e of a converter is owned by the supervised inputs or the coil rail check, by the committed records (R245). -/
def ownedEntry (t : State) (c e : Nat) : Bool := supOwns (cfgImg t Kind.lsIn 0) c e || railOwns (anyBankCfg t) c e

/-- A new record of a member of the group leaves a group whose members do not match (R249). -/
def breaksGroup (t : State) (c : Nat) (x : Img) : Bool :=
  flag (cfgImg t Kind.group 0) c &&
    ((List.range 4).filter (fun m => flag (cfgImg t Kind.group 0) m && m != c)).any (fun m => !groupMatches x (cfgImg t Kind.conv m))

theorem cardSetConv_ranged (hc : le p 0 1 ≤ 3) (hz : zeroed p 1 7 = true) (hk : keeps convFields (le p 8 168) = true)
    (he : (List.range 40).all (fun e => allOk (if e < 32 ∧ ownedEntry t (le p 0 1) e then []
      else entryChecks (le p 0 1) e (16 + 4 * e) (convEntry (le p 8 168) e))) = true)
    (hg : (!breaksGroup t (le p 0 1) (le p 8 168)) = true) : cardSetConv org l p t =
      (convConflict t (le p 0 1) (le p 8 168)).elim
        (if !allNormal t then (t, .no St.busy 0) else journalArg org true 0 [wr Kind.conv (le p 0 1) (le p 8 168)] [] t)
        (fun r => (t, r)) := by
  rw [breaksGroup] at hg
  unfold cardSetConv
  dsimp only
  rw [ranged_ok _ _ _ (by
    simp only [allOk_append, allOk_cons, allOk_nil, allOk_zero, allOk_mapped, allOk_flatMap, hc, hz, hk, hg, decide_true,
      Bool.and_true, Bool.true_and]
    exact he)]
  cases convConflict t (le p 0 1) (le p 8 168) <;> rfl

/-- AD_SET_GROUP for a mask whose converters, where it names any, are two or more that match. -/
theorem cardSetGroup_ranged (hm : le p 0 1 < 16) (hz : zeroed p 1 3 = true)
    (hg : (List.range 4).filter (fun c => (le p 0 1).testBit c) = [] ∨ ∃ a b r,
      (List.range 4).filter (fun c => (le p 0 1).testBit c) = a :: b :: r ∧
        (b :: r).all (fun c => groupMatches (cfgImg t Kind.conv a) (cfgImg t Kind.conv c)) = true) : cardSetGroup org l p t =
      if !allNormal t then (t, .no St.busy 0) else journalArg org true 0 [wr Kind.group 0 (le p 0 1)] [] t := by
  unfold cardSetGroup
  rcases hg with hg | ⟨a, b, r, hg, hall⟩
  · exact ranged_ok _ _ _ (by simp [allOk_zero, hm, hz, hg])
  · refine ranged_ok _ _ _ ?_
    simp only [hg, hall, hm, allOk_append, allOk_cons, allOk_nil, allOk_zero, hz, List.isEmpty_cons, decide_true, Bool.not_false,
      Bool.and_true]

/-! ## AD_READ and AD_GET_STATS (R253, R259) -/

/-- What AD_READ answers of a converter: the cycle of its last landing, its state and flags, and the registers of a set. -/
def readAnswer (k : Conv) (set : Nat) : List Byte :=
  leBytes 4 k.landC.toNat ++ leBytes 1 k.state.code ++ leBytes 1 (bit k.refRdy + 2 * bit k.pend.isSome + 4 * bit k.calFail) ++
    leBytes 2 0 ++ (if set = 0 then List.range 32 else (List.range 8).map (· + 32)).flatMap (fun e => (k.reg.get e).bytes)

theorem cardAdRead_ranged (hc : le p 0 1 ≤ 3) (hs : le p 1 1 ≤ 1) (hz : zeroed p 2 2 = true) :
    cardAdRead org l p t = (t, .ok (readAnswer (t.conv (le p 0 1)) (le p 1 1))) := by
  unfold cardAdRead
  exact ranged_ok _ _ _ (by simp [allOk_zero, hc, hs, hz])

/-- What AD_GET_STATS answers of a converter. -/
def statsAnswer (k : Conv) : List Byte :=
  [k.conversions, k.aborts, k.sequences, k.pendings, k.overruns, k.merged, k.excluded, k.ignored, k.ovrs, k.suspects,
    k.jigOvrs].flatMap (leBytes 4)

theorem cardAdStats_ranged (hc : le p 0 1 ≤ 3) : cardAdStats org l p t = (t, .ok (statsAnswer (t.conv (le p 0 1)))) := by
  unfold cardAdStats
  exact ranged_ok _ _ _ (by simp [hc])

/-! ## AD_INJECT (R247 to R249) -/

/-- The instant that AD_INJECT carries. -/
def injectInstant (p : List Byte) : MT := { c := u32 (le p 4 4), a := u16 (le p 8 2) }

/-- A trigger is filed in the calendar, for its mask and with its report flag, and its handle is answered (R48). -/
def fileTrigger (at_ : MT) (mask fl : Nat) (t : State) : State × Res :=
  (calInsert (.mt at_) (.inject (mask + 16 * bit (fl.testBit 1))) t).elim (t, .no St.noResource 0)
    (fun q => (q.2, .ok (leBytes 2 q.1)))

/-- What the host's trigger does to the converters of a mask, and what each did with it. -/
def hostTrigger (mask fl : Nat) (t : State) : List TrigRes × State :=
  triggerMask .host { report := if fl.testBit 1 then some 0xFFFF else none } mask t

/-- The converter has dropped the trigger. -/
def TrigRes.dropped (a : TrigRes) : Bool := a == .excluded || a == .ignored || a == .overrun

/-- The answer to a trigger at once, by what the converters did with it. -/
def triggerAnswer (q : List TrigRes × State) : State × Res :=
  if q.1.all (fun a => a == .excluded) then (q.2, .no St.jigActive 0)
  else if q.1.all TrigRes.dropped then (q.2, .no St.injDropped 0)
  else (q.2, .ok (leBytes 2 0xFFFF))

section
variable (hm : 0 < le p 0 1 ∧ le p 0 1 < 16) (hf : le p 1 1 < 4) (hz : zeroed p 2 2 = true)
include hm hf hz

theorem cardAdInject_at (hat : (le p 1 1).testBit 0 = true) (hfar : tooFarAhead t (injectInstant p) = false) :
    cardAdInject org l p t = fileTrigger (injectInstant p) (le p 0 1) (le p 1 1) t := by
  rw [injectInstant] at hfar ⊢
  unfold cardAdInject fileTrigger
  dsimp only
  rw [ranged_ok _ _ _ (by simp [allOk_zero, hm, hf, hz, hfar]), if_pos hat]
  cases calInsert _ _ t <;> rfl

theorem cardAdInject_now (hat : (le p 1 1).testBit 0 = false) :
    cardAdInject org l p t = triggerAnswer (hostTrigger (le p 0 1) (le p 1 1) t) := by
  unfold cardAdInject
  exact (ranged_ok _ _ _ (by simp [allOk_zero, hm, hf, hz, hat])).trans (if_neg (by simp [hat]))

end

/-- A trigger that some converter has taken is answered with OK: where every converter excludes it, every one has dropped it. -/
theorem triggerAnswer_of_taken {q : List TrigRes × State} (h : q.1.all TrigRes.dropped = false) :
    triggerAnswer q = (q.2, .ok (leBytes 2 0xFFFF)) := by
  have hexcl : ¬ q.1.all (fun a => a == .excluded) = true := fun hall => by
    refine Bool.eq_false_iff.mp h (List.all_eq_true.mpr (fun a ha => ?_))
    rw [TrigRes.dropped, List.all_eq_true.mp hall a ha, Bool.true_or, Bool.true_or]
  rw [triggerAnswer, if_neg hexcl, if_neg (Bool.eq_false_iff.mp h)]

/-- AD_INJECT files an entry keyed to MT where AT is set (R474). -/
theorem mtKeyed_adInject {r : Req} {s : State} (h : Takes 0x0A03 r p s t) :
    mtKeyed (entryOf 0x0A03 r) = (le p 1 1).testBit 0 := by
  obtain ⟨-, rfl, -⟩ := h
  rfl

/-! ## AD_JIG (R254 to R257) -/

/-- An entry of a jig table passes its checks: a channel of the converter, and its reserved bits 0 (R254). -/
def jigEntryOk (p : List Byte) (c i : Nat) : Bool :=
  chanOk c (le p (8 + 4 * i) 4) && fld (le p (8 + 4 * i) 4) 6 2 == 0

/-- The jig table that AD_JIG carries: COUNT, SMP and the entries (R254). -/
def jigRecord (p : List Byte) : Img := le p 2 1 + le p 3 1 * 2 ^ 8 + le p 8 (4 * le p 2 1) * 2 ^ 32

/-- What AD_JIG answers of a jig's results: which entries were out of range, and each entry's results (R254). -/
def jigAnswer (t : State) (c : Nat) : List Byte :=
  leBytes 8 ((List.range 64).foldl (fun m e => if ((t.conv c).jigRes.get e).ovr then m + 2 ^ e else m) 0) ++ leBytes 8 0 ++
    (List.range (jigCount t c)).flatMap (fun e =>
      leBytes 2 ((t.conv c).jigRes.get e).last ++ leBytes 2 ((t.conv c).jigRes.get e).lo ++ leBytes 2 ((t.conv c).jigRes.get e).hi ++
        leBytes 2 ((t.conv c).jigRes.get e).mean)

section
variable (hc : le p 0 1 ≤ 3) (hz : zeroed p 4 4 = true)
include hc hz

theorem cardAdJig_stops (ha : le p 1 1 = 0) (hs : (t.conv (le p 0 1)).state = .jig) :
    cardAdJig org l p t = (stopJig (le p 0 1) t, .ok []) := by
  unfold cardAdJig
  dsimp only
  rw [ranged_ok _ _ _ (by simp [allOk_zero, hc, hz, ha]), if_pos ha, hs]

theorem cardAdJig_reads (ha : le p 1 1 = 3) (hs : (t.conv (le p 0 1)).state = .jig) :
    cardAdJig org l p t = (t, .ok (jigAnswer t (le p 0 1))) := by
  unfold cardAdJig
  dsimp only
  rw [ranged_ok _ _ _ (by simp [allOk_zero, hc, hz, ha]), if_neg (by omega), if_pos ha, if_neg (by simp [hs])]
  rfl

theorem cardAdJig_calibrates (ha : le p 1 1 = 2) (hs : (t.conv (le p 0 1)).state ≠ .cal) (hn : allNormal t = true) :
    cardAdJig org l p t = (startCal (le p 0 1) t, .wait (.calib (le p 0 1))) := by
  unfold cardAdJig
  dsimp only
  rw [ranged_ok _ _ _ (by simp [allOk_zero, hc, hz, ha]), if_neg (by omega), if_neg (by omega), if_neg (by simp [hs, ha]),
    if_neg (by simp [hn]), if_pos ha]

theorem cardAdJig_records (ha : le p 1 1 = 1) (hcount : 1 ≤ le p 2 1 ∧ le p 2 1 ≤ 64) (hsmp : 4 ≤ le p 3 1)
    (he : (List.range (le p 2 1)).all (jigEntryOk p (le p 0 1)) = true)
    (hs : ((t.conv (le p 0 1)).state == .cal || (t.conv (le p 0 1)).state == .jig) = false) (hn : allNormal t = true) :
    cardAdJig org l p t = journalArg org false 0 [wr Kind.jig (le p 0 1) (jigRecord p)] [] t := by
  have hact : le p 1 1 ≤ 3 := by omega
  unfold cardAdJig
  dsimp only
  rw [ranged_ok _ _ _ (by
      simp only [allOk_append, allOk_cons, allOk_nil, allOk_zero, allOk_flatMap, hc, hz, hact, hcount, hsmp, if_pos ha, and_self,
        decide_true, Bool.and_true, Bool.true_and]
      exact he),
    if_neg (by omega), if_neg (by omega), if_neg (by simpa [ha] using hs), if_neg (by simp [hn]), if_neg (by omega)]
  rfl

end

/-! ## FN_SET_CHAN, FN_GET_STATUS and FN_CLEAR (R263, R268, R272, R273) -/

/-- The entries in use of the set of its converter that a fan's record names for its current. -/
def fanSetLength (t : State) (x : Img) : Nat :=
  if flag x 162 then convInjLen (cfgImg t Kind.conv (fld x 160 2)) else convRegLen (cfgImg t Kind.conv (fld x 160 2))

/-- The record drives no AOUT, or an AOUT that no other fan and no point owns (R263). -/
def aoutFree (t : State) (n : Nat) (x : Img) : Prop :=
  (flag x 0 && flag x 1) = false ∨
    (List.range 8).find? (fun m => m != n && fanOwns (cfgImg t Kind.fan m) (fld x 8 3)) = none ∧
      (committed t Kind.binding).find? (fun b =>
        fld b.2 0 16 == 0x8000 + fld x 8 3 && flag b.2 33 && cfgBindingInUse t b.1 b.2) = none

theorem cardSetFan_ranged {x : Img} (hx : x = le p 4 32) (hn : le p 0 1 ≤ 7) (hz : zeroed p 1 3 = true) (hk : keeps fanFields x = true)
    (htrig : (!flag x 5 || flag x 162) = true) (hduty : fld x 64 10 ≤ fld x 74 10)
    (hent : ((!flag x 162 || decide (fld x 163 5 ≤ 7)) && (!flag x 4 || decide (fld x 163 5 < fanSetLength t x))) = true)
    (hband : fld x 176 16 ≤ fld x 192 16) (hfree : aoutFree t (le p 0 1) x) : cardSetFan org l p t =
      if !allNormal t then (t, .no St.busy 0) else journalArg org true 0 [wr Kind.fan (le p 0 1) x] [] t := by
  subst hx
  rw [fanSetLength] at hent
  unfold cardSetFan
  dsimp only
  rw [ranged_ok _ _ _ (by
    simp only [allOk_append, allOk_cons, allOk_nil, allOk_zero, allOk_mapped, hn, hz, hk, htrig, hduty, hent, hband, decide_true,
      Bool.and_true])]
  rcases hfree with h | ⟨hother, hbound⟩
  · rw [h]
    rfl
  · rw [hother, hbound]
    cases flag (le p 4 32) 0 && flag (le p 4 32) 1 <;> rfl

theorem cardFanClear_ranged (hn : le p 0 1 ≤ 7) (hz : zeroed p 1 3 = true) : cardFanClear org l p t =
    if !t.duty then (t, .no St.role 0) else (fanUpd (le p 0 1) (fun f => { f with clear := true }) t, .ok []) := by
  unfold cardFanClear
  exact ranged_ok _ _ _ (by simp [allOk_zero, hn, hz])

/-! ## KY_SET_CFG and KY_SET_KEYS (R279, R280) -/

/-- Every committed key in use lies in a matrix (R280). -/
def keysLieIn (t : State) (y : Img) : Bool := (committed t Kind.key).all (fun e => fld e.2 0 2 == 0 || keyInSet y e.1)

/-- The entry of ADC3 that a record of the matrix would take a code from (R279). -/
def takenEntry (t : State) (x : Img) : Option Nat := if keysTake x then keyEntry (cfgImg t Kind.conv 3) else none

theorem cardKySetCfg_ranged (hk : keeps kyFields (le p 0 8) = true) (hcols : keysLieIn t (setFld (le p 0 8) 8 8 0xFF) = true)
    (hrows : keysLieIn t (le p 0 8) = true) : cardKySetCfg org l p t = (takenEntry t (le p 0 8)).elim
      (if !allNormal t then (t, .no St.busy 0) else journalArg org true 0 [wr Kind.ky 0 (le p 0 8)] [] t)
      (fun e => (t, conflict 0x05 (3 * 64 + e) 0x08 0)) := by
  rw [keysLieIn] at hcols hrows
  unfold cardKySetCfg
  dsimp only
  rw [ranged_ok _ _ _ (by
    simp only [allOk_append, allOk_cons, allOk_nil, allOk_mapped, hk, hcols, hrows, Bool.and_true])]
  unfold takenEntry
  generalize (if keysTake (le p 0 8) then keyEntry (cfgImg t Kind.conv 3) else none) = q
  cases q <;> rfl

/-- The records that KY_SET_KEYS carries, each with its offset from the first. -/
def keyRecords (p : List Byte) : List (Nat × Img) := (List.range (le p 2 2)).map (fun i => (i, le p (8 + 16 * i) 16))

/-- The checks of one record of KY_SET_KEYS (R280, R281). -/
def keyRecordOk (t : State) (first : Nat) (k : Nat × Img) : Bool :=
  keeps keyFields k.2 && ((fld k.2 0 2 == 0 || keyInSet (cfgImg t Kind.ky 0) (first + k.1)) &&
    ((!flag k.2 4 || fld k.2 2 2 == 1) && (fld k.2 0 2 != 2 || flag (cfgImg t Kind.area (fld k.2 16 6)) 0)))

theorem cardKySetKeys_ranged (hf : le p 0 2 ≤ 511) (hn : 1 ≤ le p 2 2 ∧ le p 2 2 ≤ 62) (hsum : le p 0 2 + le p 2 2 ≤ 512)
    (hz : zeroed p 4 4 = true) (hk : (keyRecords p).all (keyRecordOk t (le p 0 2)) = true)
    (ht : (keyRecords p).findSome? (fun k => keyTarget (cfgImg t Kind.point) (committed t Kind.zone) (cfgImg t Kind.member)
      (le p 0 2 + k.1) k.2) = none) : cardKySetKeys org l p t =
      if !allNormal t then (t, .no St.busy 0)
      else journalArg org true 0 ((keyRecords p).map (fun k => wr Kind.key (le p 0 2 + k.1) k.2)) [] t := by
  rw [keyRecords] at hk ht ⊢
  unfold cardKySetKeys
  dsimp only
  rw [ranged_ok _ _ _ (by
    simp only [allOk_append, allOk_cons, allOk_nil, allOk_zero, allOk_flatMap, allOk_mapped, hf, hn, hsum, hz, and_self, decide_true,
      Bool.and_true, Bool.true_and]
    exact hk), ht]
  rfl

end

/-- Settles O53: each card, taken at once, by the checks that its record, the areas, the jig, the calendar, the triggers and the duty pass
(R241, R245, R247 to R249, R253 to R259, R263, R268, R272, R273, R279, R280, R284). -/
theorem outputCards : Obligations.OutputCards := by
  intro r p s t
  refine ⟨?_, ?_, ?_, ?_, ?_, ?_, ?_, ?_, ?_, ?_, ?_, ?_, ?_, ?_, ?_, ?_, ?_, ?_, ?_, ?_, ?_, ?_, ?_⟩
  · rintro c x grp h rfl rfl rfl hc hz hk he hg hno hn hr
    refine takes_recorded _ cardOf_adSetConv (by decide) h hr ?_
    rw [jcard_body, cardSetConv_ranged hc hz hk he hg, hno, hn]
    rfl
  · rintro m h hm h0 hz hn hr
    subst hm
    refine takes_recorded _ cardOf_adSetGroup (by decide) h hr ?_
    rw [jcard_body, cardSetGroup_ranged (by omega) hz (.inl (by rw [h0]; rfl)), hn]
    rfl
  · rintro m a b k h rfl hm hg hall hz hn hr
    refine takes_recorded _ cardOf_adSetGroup (by decide) h hr ?_
    rw [jcard_body, cardSetGroup_ranged hm hz (.inr ⟨a, b, k, hg, hall⟩), hn]
    rfl
  · rintro k h rfl hc hs hz
    refine takes_ok _ cardOf_adRead (by decide) h ?_
    rw [act_body]
    exact cardAdRead_ranged hc hs hz
  · rintro mask fl at_ hdl u h rfl rfl rfl hm hf hz hat hfar hi
    refine takes_keyed _ cardOf_adInject (by decide) h (by decide) ?_ ?_
    · rw [mtKeyed_adInject h, hat]
    · rw [act_body, cardAdInject_at hm hf hz hat hfar, fileTrigger, injectInstant, hi]
      rfl
  · rintro mask fl at_ h rfl rfl rfl hm hf hz hat hfar hi
    refine takes_no _ cardOf_adInject (by decide) h (by decide) ?_
    rw [act_body, cardAdInject_at hm hf hz hat hfar, fileTrigger, injectInstant, hi]
    rfl
  · rintro mask fl q h rfl rfl rfl hm hf hz hat hdrop
    refine takes_ok _ cardOf_adInject (by decide) h ?_ ((mtKeyed_adInject h).trans hat)
    rw [act_body, cardAdInject_now hm hf hz hat]
    exact triggerAnswer_of_taken hdrop
  · rintro mask fl q h rfl rfl rfl hm hf hz hat hexcl
    refine takes_no _ cardOf_adInject (by decide) h (by decide) ?_
    rw [act_body, cardAdInject_now hm hf hz hat, triggerAnswer, hostTrigger, if_pos hexcl, Res.no]
  · rintro mask fl q h rfl rfl rfl hm hf hz hat hexcl hdrop
    refine takes_no _ cardOf_adInject (by decide) h (by decide) ?_
    rw [act_body, cardAdInject_now hm hf hz hat, triggerAnswer, hostTrigger, if_neg (Bool.eq_false_iff.mp hexcl)]
    exact if_pos hdrop
  · rintro c k h rfl rfl hc ha hz hs
    refine takes_ok _ cardOf_adJig (by decide) h ?_
    exact cardAdJig_stops (l := r.level.toNat) hc hz ha hs
  · rintro c k h rfl rfl hc ha hz hs hn
    refine takes_wait _ cardOf_adJig (by decide) h ?_
    exact cardAdJig_calibrates (l := r.level.toNat) hc hz ha (by simpa using hs) hn
  · rintro c k n h rfl rfl rfl hc ha hcount hsmp he hz hs hn hr
    refine takes_recorded _ cardOf_adJig (by decide) h hr ?_
    exact cardAdJig_records (l := r.level.toNat) hc hz ha hcount hsmp he hs hn
  · rintro c k h rfl rfl hc ha hz hs
    refine takes_ok _ cardOf_adJig (by decide) h ?_
    exact cardAdJig_reads (l := r.level.toNat) hc hz ha hs
  · rintro k h rfl hc
    refine takes_ok _ cardOf_adGetStats (by decide) h ?_
    rw [act_body]
    exact cardAdStats_ranged hc
  · rintro n x conv inj e a h rfl hx rfl rfl rfl rfl hn hz hk htrig hduty hent hband hdrive hnormal hr
    refine takes_recorded _ cardOf_fnSetChan (by decide) h hr ?_
    rw [jcard_body, cardSetFan_ranged hx hn hz hk htrig hduty hent hband (.inl hdrive), hnormal]
    rfl
  · rintro n x conv inj e a h rfl hx rfl rfl rfl rfl hn hz hk htrig hduty hent hband hother hbound hnormal hr
    refine takes_recorded _ cardOf_fnSetChan (by decide) h hr ?_
    rw [jcard_body, cardSetFan_ranged hx hn hz hk htrig hduty hent hband (.inr ⟨hother, hbound⟩), hnormal]
    rfl
  · rintro h
    exact takes_ok _ cardOf_fnGetStatus (by decide) h rfl
  · rintro h hn hz hd
    refine takes_ok _ cardOf_fnClear (by decide) h ?_
    rw [act_body, cardFanClear_ranged hn hz, hd]
    rfl
  · rintro h hn hz hd
    refine takes_no _ cardOf_fnClear (by decide) h (by decide) ?_
    rw [act_body, cardFanClear_ranged hn hz, hd]
    rfl
  · rintro x out h rfl rfl hk hcols hrows hno hn hr
    refine takes_recorded _ cardOf_kySetCfg (by decide) h hr ?_
    rw [jcard_body, cardKySetCfg_ranged hk hcols hrows, takenEntry, hno, hn]
    rfl
  · rintro x out e h rfl rfl hk hcols hrows hsome
    refine takes_no _ cardOf_kySetCfg (by decide) h (by decide) ?_
    rw [jcard_body, cardKySetCfg_ranged hk hcols hrows, takenEntry, hsome]
    rfl
  · rintro first count recs cfg h rfl rfl rfl rfl hf hcount hsum hz hk ht hn hr
    refine takes_recorded _ cardOf_kySetKeys (by decide) h hr ?_
    rw [jcard_body, cardKySetKeys_ranged hf hcount hsum hz hk ht, hn]
    rfl
  · rintro h
    exact takes_ok _ cardOf_kyGetState (by decide) h rfl

end Sys2Proof.Machine
end

section
/-!
SUPPORT. Steps and the eligible flag (15_takeover.md R328, 20_mailbox.md R443, R448): a step runs the queue's front, every command
answers a next state, what follows a step leaves the eligible flag honest, and the state after reset.
-/

namespace Sys2Proof.Machine

open Sys2Proof

/-! ## Every command answers a next state -/

theorem step_of_front (c : Instr) (rest : List Instr) (s : State) :
    step { s with pending := c :: rest } = exec c { s with pending := rest } := rfl

/-- Every command has an effect of its own and then what follows every step. -/
theorem exec_eq_done (i : Instr) (s : State) : ∃ u, exec i s = done s u := by
  cases i <;> exact ⟨_, rfl⟩

theorem exec_completes (i : Instr) (s : State) : ∃ t, exec i s = .next t ∧ t.pending = s.pending := by
  obtain ⟨u, hu⟩ := exec_eq_done i s
  exact ⟨after s u, hu.trans (done_after s u), after_pending s u⟩

/-- A step, of a command or of the clock, ends with what follows every step. -/
theorem step_eq_after (s : State) : ∃ b u, step s = .next (after b u) := by
  unfold step
  split
  · next c rest _ =>
    obtain ⟨u, hu⟩ := exec_eq_done c { s with pending := rest }
    exact ⟨_, u, hu.trans (done_after _ u)⟩
  · exact ⟨s, _, done_after s _⟩

/-! ## The eligible flag (R328) -/

theorem eligibleNow_pairSend (f : PFrame) (s : State) : eligibleNow (pairSend f s) = eligibleNow s := by
  unfold pairSend seqSend
  split
  · rfl
  · split <;> rfl

theorem eligible_pairSend (f : PFrame) (s : State) : (pairSend f s).pr.eligible = s.pr.eligible := by
  unfold pairSend seqSend
  split
  · rfl
  · split <;> rfl

/-- The flag as the causes of R328 give it, with the BEAT that a change sends. -/
def flagSent (s : State) : State :=
  if eligibleNow s == s.pr.eligible then s
  else
    let t := prUpd (fun p => { p with eligible := eligibleNow s }) s
    pairSend (beatFrame t) t

/-- Generations differ from those of a partner that has been heard (R337). -/
def gensDiffer (s : State) : Bool := s.pr.pHello && s.sys.restored && s.nv.gen != s.pr.pGen

/-- GEN_MISMATCH, once for each time that the generations come to differ. -/
def genReported (s : State) : State :=
  when (gensDiffer s && !s.pr.genMismatch && s.sys.negotiated) (raise 2 0xED [ef 4 s.nv.gen.toNat, ef 4 s.pr.pGen.toNat]) s

theorem updateEligible_eq (s : State) : updateEligible s =
    prUpd (fun p => { p with genMismatch := gensDiffer (flagSent s) }) (genReported (flagSent s)) := rfl

theorem flagSent_honest (s : State) : (flagSent s).pr.eligible = eligibleNow (flagSent s) := by
  unfold flagSent
  split
  · next h => exact (beq_iff_eq.mp h).symm
  · dsimp only
    rw [eligible_pairSend, eligibleNow_pairSend]
    rfl

theorem genReported_frame (s : State) : EventFrame s (genReported s) := by
  unfold genReported when
  split
  · exact raise_frame _ _ _ s
  · exact EventFrame.rfl s

/-- Neither an event nor GEN_MISMATCH is a cause of R328. -/
theorem eligibleNow_genMismatch (d : Bool) (s : State) : eligibleNow (prUpd (fun p => { p with genMismatch := d }) s) = eligibleNow s := rfl

theorem updateEligible_honest (s : State) : (updateEligible s).pr.eligible = eligibleNow (updateEligible s) := by
  rw [updateEligible_eq, eligibleNow_genMismatch, (genReported_frame _).eligible, prUpd_pr, (genReported_frame _).pr]
  exact flagSent_honest s

theorem settle_honest (u : State) : EligibleHonest (settle u) := by
  unfold settle EligibleHonest
  split
  · exact fun _ => updateEligible_honest _
  · next h => exact fun hp => absurd hp h

theorem after_honest (b u : State) : EligibleHonest (after b u) := by
  unfold after
  exact settle_honest u

/-! ## The obligations -/

/-- Settles O1: a step on a queue with a front is that command on the state with the queue's rest. -/
theorem stepRunsFront : Obligations.StepRunsFront := step_of_front

/-- Settles O2: every command is its own effect and what follows a step, which puts the queue back (R443, R448). -/
theorem everyCommandCompletes : Obligations.EveryCommandCompletes := exec_completes

/-- Settles O3: whatever a step did, what follows it brings the eligible flag up to date last (R328). -/
theorem eligibleStaysHonest : Obligations.EligibleStaysHonest := by
  intro s t _ hstep
  obtain ⟨b, u, hu⟩ := step_eq_after s
  cases hu.symm.trans hstep
  exact after_honest b u

/-- Settles O4: the fields of the state after reset, in which no partner has been heard (R471, R473). -/
theorem resetIsHonestAndAtRest : Obligations.ResetIsHonestAndAtRest :=
  ⟨fun _ => rfl, rfl, rfl, rfl, rfl, rfl, rfl, rfl, rfl, rfl⟩

end Sys2Proof.Machine
end

section
/-!
SUPPORT. The rows of the panel (13_panel.md R289, R290, R292, R298, R302): the end of a frame, the panel supply, and a region that loads
for too long.
-/

namespace Sys2Proof.Machine

open Sys2Proof

/-! ## The end of a frame -/

/-- The state in which the frame in progress has ended: no frame and no update stand. -/
def frameEnded (s : State) : State := pnUpd (fun p => { p with inFrame := false, update := false }) s

theorem frameEndRow_of_no_frame {s : State} (h : s.pn.inFrame = false) : frameEndRow s = s := if_pos (by simp [h])

section
variable {s t : State} (hf : s.pn.inFrame = true) (ht : t = if s.pn.update then frameUpdate (frameEnded s) else frameEnded s)
include hf ht

theorem frameEndRow_of_frame : frameEndRow s = when (pnFld t 3 1 == 0 && !panelNeeded t) panelDown t := by
  subst ht
  exact if_neg (by simp [hf])

/-- A panel that is kept on, or that something needs, stays powered (R290). -/
theorem frameEndRow_stays_powered (h : pnFld t 3 1 ≠ 0 ∨ panelNeeded t = true) : frameEndRow s = t := by
  rw [frameEndRow_of_frame hf ht]
  exact if_neg (by rcases h with h | h <;> simp [h])

theorem frameEndRow_powers_down (hkeep : pnFld t 3 1 = 0) (hneed : panelNeeded t = false) : frameEndRow s = panelDown t := by
  rw [frameEndRow_of_frame hf ht]
  exact if_pos (by simp [hkeep, hneed])

end

theorem panelDown_of_on {s : State} (h : s.pn.pwrEn = true) :
    panelDown s = pnUpd (fun p => { p with vcom := false, downAt := some (p.downAt.getD (time10ns s)) }) s := if_pos h

theorem panelDown_of_off {s : State} (h : s.pn.pwrEn = false) : panelDown s = s := if_neg (by simp [h])

/-! ## The supply and the load time (R289, R298) -/

theorem pwrGoodRow_of_rising {s : State} (he : s.pn.pwrEn = true) (hg : s.pn.pwrGood = false) :
    pwrGoodRow s = pnUpd (fun p => { p with pwrGood := true, vcom := p.downAt.isNone, vcomAt := time10ns s }) s :=
  if_pos (by simp [he, hg])

theorem pwrGoodRow_of_other {s : State} (h : s.pn.pwrEn = false ∨ s.pn.pwrGood = true) : pwrGoodRow s = s :=
  if_neg (by rcases h with h | h <;> simp [h])

theorem pwrToRow_of_rising {s : State} (he : s.pn.pwrEn = true) (hg : s.pn.pwrGood = false) :
    pwrToRow s = pnUpd (fun p => { p with pwrEn := false, downAt := none }) s := if_pos (by simp [he, hg])

theorem pwrToRow_of_other {s : State} (h : s.pn.pwrEn = false ∨ s.pn.pwrGood = true) : pwrToRow s = s :=
  if_neg (by rcases h with h | h <;> simp [h])

theorem loadMaxRow_of_loading {s : State} {r : Nat} (h : (s.region r).state = .loading) : loadMaxRow r s = discardRegion 1 r s :=
  if_pos (by simp [h])

theorem loadMaxRow_of_other {s : State} {r : Nat} (h : (s.region r).state ≠ .loading) : loadMaxRow r s = s := if_neg (by simp [h])

section
variable {s : State} (h : enginesRun s = true)
include h

theorem exec_panelFrameEnd : exec .panelFrameEnd s = .next (after s (frameEndRow s)) := engine_after frameEndRow s h

theorem exec_pnlPwrGoodRise : exec .pnlPwrGoodRise s = .next (after s (pwrGoodRow s)) := engine_after pwrGoodRow s h

theorem exec_pwrToExpiry : exec .pwrToExpiry s = .next (after s (pwrToRow s)) := engine_after pwrToRow s h

theorem exec_loadMaxExpiry (r : Fin 16) : exec (.loadMaxExpiry r) s = .next (after s (loadMaxRow r.val s)) :=
  engine_after (loadMaxRow r.val) s h

end

/-- Settles O36: the end of a frame by whether one stands, whether it updates and what needs the panel, and each timer of the panel by
the supply or the region it is for (R289, R290, R292, R298, R302). -/
theorem panelRows : Obligations.PanelRows := by
  intro s h
  rw [exec_panelFrameEnd h, exec_pnlPwrGoodRise h, exec_pwrToExpiry h]
  refine ⟨fun hf => ?_, fun t hf hu ht hk => ?_, fun t hf hu ht hk hn => ⟨fun he => ?_, fun he => ?_⟩, fun t hf hu ht hk => ?_,
    fun he hg => ?_, fun hx => ?_, fun he hg => ?_, fun hx => ?_, fun r hr => ?_, fun r hr => ?_⟩
  · rw [frameEndRow_of_no_frame hf]
  · rw [frameEndRow_stays_powered hf (by rw [hu]; exact ht) hk]
  · rw [frameEndRow_powers_down hf (by rw [hu]; exact ht) hk hn, panelDown_of_on he]
  · rw [frameEndRow_powers_down hf (by rw [hu]; exact ht) hk hn, panelDown_of_off he]
  · rw [frameEndRow_stays_powered hf (by rw [hu]; exact ht) hk]
  · rw [pwrGoodRow_of_rising he hg]
  · rw [pwrGoodRow_of_other hx]
  · rw [pwrToRow_of_rising he hg]
  · rw [pwrToRow_of_other hx]
  · rw [exec_loadMaxExpiry h, loadMaxRow_of_loading hr]
  · rw [exec_loadMaxExpiry h, loadMaxRow_of_other hr]

end Sys2Proof.Machine
end

section
/-!
SUPPORT. The checks at the take (20_mailbox.md R442 to R444, R453): the first check that fails, in the order of R444, gives the status and
the DETAIL of the refusal, and an opcode that the device does not serve is refused with BAD_OPCODE (21_commands.md R456, R476).
-/

namespace Sys2Proof.Machine

open Sys2Proof

/-! ## The slot as the device reads it -/

section
variable {op : Nat} {r : Req} {m : MSlot}

theorem slotTaken_opcode (hop : op < 2 ^ 16) : (slotTaken op r m).opcode.toNat = op := Nat.mod_eq_of_lt hop
@[simp] theorem slotTaken_tag : (slotTaken op r m).tag = r.tag := rfl
@[simp] theorem slotTaken_level : (slotTaken op r m).level = r.level := rfl
@[simp] theorem slotTaken_byte5 : (slotTaken op r m).byte5 = r.byte5 := rfl
@[simp] theorem slotTaken_len : (slotTaken op r m).len = r.len := rfl
@[simp] theorem slotTaken_crc : (slotTaken op r m).crc = r.crc := rfl

end

/-! ## The checks, each behind those before it -/

section
variable {s : State} {m : MSlot}

/-- An outstanding command of a slot carries the tag (check 4). -/
def tagHolder (s : State) (tag : Nat) : Option Outst := s.mb.outst.find? (fun o => o.isSlot && o.tag == tag)

theorem takeCheck_of_long (h : 1008 < m.len.toNat) : takeCheck s m = some (St.badLen, 1008) := if_pos h

variable (hlen : m.len.toNat ≤ 1008)
include hlen

theorem takeCheck_of_bad_crc (h : crc32 m.payload ≠ m.crc.toNat) : takeCheck s m = some (St.badCrc, 0) := by
  unfold takeCheck
  dsimp only
  rw [if_neg (Nat.not_lt.mpr hlen), if_pos h]

variable (hcrc : crc32 m.payload = m.crc.toNat)
include hcrc

theorem takeCheck_of_byte5 (h : m.byte5 ≠ 0) : takeCheck s m = some (St.range, 0xFFFF) := by
  unfold takeCheck
  dsimp only
  rw [if_neg (Nat.not_lt.mpr hlen), if_neg (not_not.mpr hcrc), if_pos h]

variable (hzero : m.byte5 = 0) (hop : m.opcode.toNat ≠ 0x0001)
include hzero hop

/-- Behind the checks of the header, a command other than HELLO is judged by its tag, its epoch and its card. -/
theorem takeCheck_of_header : takeCheck s m =
    match tagHolder s m.tag.toNat with
    | some o => some (St.tagBusy, match o.org with | .slot n => n | .timed _ => 0)
    | none =>
      if s.mb.epoch.isNone then some (St.badLevel, ((cardOf m.opcode.toNat).map (·.since)).getD 0)
      else if s.mb.epoch != some (epochOf m.tag.toNat) then some (St.staleEpoch, 0)
      else match servedCard s m.opcode.toNat with
        | none => some (St.badOpcode, 0)
        | some c => levelCheck s c m.level.toNat m.payload := by
  have hne : (m.opcode.toNat == 0x0001) = false := beq_false_of_ne hop
  unfold takeCheck tagHolder
  dsimp only
  rw [if_neg (Nat.not_lt.mpr hlen), if_neg (not_not.mpr hcrc), if_neg (not_not.mpr hzero), hne]
  rfl

theorem takeCheck_of_tag {o : Outst} {n : Nat} (h : tagHolder s m.tag.toNat = some o) (ho : o.org = .slot n) :
    takeCheck s m = some (St.tagBusy, n) := by
  rw [takeCheck_of_header hlen hcrc hzero hop, h]
  dsimp only
  rw [ho]

variable (htag : tagHolder s m.tag.toNat = none)
include htag

theorem takeCheck_before_hello (h : s.mb.epoch = none) :
    takeCheck s m = some (St.badLevel, ((cardOf m.opcode.toNat).map (·.since)).getD 0) := by
  rw [takeCheck_of_header hlen hcrc hzero hop, htag, h]
  rfl

theorem takeCheck_of_other_epoch {e : Nat} (h : s.mb.epoch = some e) (he : e ≠ epochOf m.tag.toNat) :
    takeCheck s m = some (St.staleEpoch, 0) := by
  rw [takeCheck_of_header hlen hcrc hzero hop, htag, h]
  dsimp only
  rw [if_neg (by simp), if_pos (by simpa using he)]

variable (hepoch : s.mb.epoch = some (epochOf m.tag.toNat))
include hepoch

theorem takeCheck_of_epoch : takeCheck s m =
    match servedCard s m.opcode.toNat with
    | none => some (St.badOpcode, 0)
    | some c => levelCheck s c m.level.toNat m.payload := by
  rw [takeCheck_of_header hlen hcrc hzero hop, htag, hepoch]
  dsimp only
  rw [if_neg (by simp), if_neg (by simp)]

theorem takeCheck_of_unserved (h : servedCard s m.opcode.toNat = none) : takeCheck s m = some (St.badOpcode, 0) := by
  rw [takeCheck_of_epoch hlen hcrc hzero hop htag hepoch, h]

theorem takeCheck_of_card {c : Card} (h : servedCard s m.opcode.toNat = some c) :
    takeCheck s m = levelCheck s c m.level.toNat m.payload := by
  rw [takeCheck_of_epoch hlen hcrc hzero hop htag hepoch, h]

end

/-! ## The served cards and the checks of LEVEL and LEN (checks 7 to 9) -/

theorem servedCard_of_normal {s : State} (h : s.sys.recovery = false) (op : Nat) : servedCard s op = cardOf op := by
  simp [servedCard, h]

theorem servedCard_of_unassigned {s : State} {op : Nat} (h : cardOf op = none) : servedCard s op = none := by
  rw [servedCard, h, ite_self]

theorem servedCard_in_recovery {s : State} {op : Nat} (hr : s.sys.recovery = true) (h : recoveryCards.contains op = false) :
    servedCard s op = none :=
  if_pos (by rw [hr, h]; rfl)

section
variable {s : State} {c : Card} {level : Nat} {p : List Byte}

theorem levelCheck_of_bad_level (hr : s.sys.recovery = false) (hop : c.op ≠ 0x0001)
    (h : ¬ (1 ≤ level ∧ level ≤ s.mb.level ∧ c.since ≤ level)) :
    levelCheck s c level p = some (St.badLevel, c.since + 16 * s.mb.level) :=
  if_pos (by simp [hr, hop, h])

theorem levelCheck_of_bad_length (h : 1 ≤ level ∧ level ≤ s.mb.level ∧ c.since ≤ level) (hn : c.need p.length p ≠ p.length) :
    levelCheck s c level p = some (St.badLen, min (c.need p.length p) 0xFFFF) := by
  unfold levelCheck
  dsimp only
  rw [if_neg (by simp [h]), if_neg hn]

end

/-- Settles O7: each way in which a request can fail its checks, in the order of R444, is the check that answers it (R442, R444, R453). -/
theorem refusalsAtTheTake : Obligations.RefusalsAtTheTake := by
  intro i op r s st d hi hop hroom hp hready hrec hmine hdone hrings hhello hcase
  rw [exec_call i op r s hi, done_after, take_refused op hop r hroom s st d hp hready hmine hdone hrings]
  intro b hout hepo hlev
  have hcode := slotTaken_opcode (r := r) (m := s.mb.slot.get r.slot.val) hop
  have hnot : (slotTaken op r (s.mb.slot.get r.slot.val)).opcode.toNat ≠ 0x0001 := by rw [hcode]; exact hhello
  have hholder : ∀ x, tagHolder { s with mb := b } x = s.mb.outst.find? (fun o => o.isSlot && o.tag == x) := by
    intro x
    rw [← hout]
    rfl
  rcases hcase with ⟨hlong, rfl, rfl⟩ | ⟨hlen, hcase⟩
  · exact takeCheck_of_long hlong
  have hfit : (slotTaken op r (s.mb.slot.get r.slot.val)).len.toNat ≤ 1008 := by rw [slotTaken_len, hlen]; exact hroom
  have hpay := slotTaken_payload op r (s.mb.slot.get r.slot.val) hroom hlen
  rcases hcase with ⟨hbad, rfl, rfl⟩ | ⟨hcrc, hcase⟩
  · exact takeCheck_of_bad_crc hfit (by rw [hpay]; exact hbad)
  rw [← hpay, ← slotTaken_crc (op := op) (m := s.mb.slot.get r.slot.val)] at hcrc
  rcases hcase with ⟨hbyte, rfl, rfl⟩ | ⟨hzero, hcase⟩
  · exact takeCheck_of_byte5 hfit hcrc hbyte
  rcases hcase with ⟨o, hfind, horg, rfl⟩ | ⟨hfree, hcase⟩
  · exact takeCheck_of_tag hfit hcrc hzero hnot ((hholder _).trans hfind) horg
  have htag := (hholder r.tag.toNat).trans hfree
  rcases hcase with ⟨hnone, rfl, rfl⟩ | ⟨⟨e, he, hother⟩, rfl, rfl⟩ | ⟨hepoch, hcase⟩
  · rw [takeCheck_before_hello hfit hcrc hzero hnot htag (hepo.trans hnone), hcode]
  · exact takeCheck_of_other_epoch hfit hcrc hzero hnot htag (hepo.trans he) hother
  have hcard := servedCard_of_normal (s := { s with mb := b }) hrec
  rcases hcase with ⟨hnone, rfl, rfl⟩ | ⟨c, hsome, hcase⟩
  · exact takeCheck_of_unserved hfit hcrc hzero hnot htag (hepo.trans hepoch) (by rw [hcode, hcard, hnone])
  rw [takeCheck_of_card hfit hcrc hzero hnot htag (hepo.trans hepoch) (c := c) (by rw [hcode, hcard, hsome]), hpay]
  rcases hcase with ⟨hlevel, rfl, rfl⟩ | ⟨h1, h2, h3, hneed, rfl, rfl⟩
  · rw [← hlev] at hlevel ⊢
    exact levelCheck_of_bad_level hrec (by rw [cardOf_op op c hsome]; exact hhello) hlevel
  · rw [← hlev] at h2
    exact levelCheck_of_bad_length ⟨h1, h2, h3⟩ hneed

/-- The request stands in its slot, and one more command counts as taken and as refused (R438, R469). -/
def takenRefused (op : Nat) (r : Req) (s : State) : State :=
  { s with mb := { s.mb with
      slot := (s.mb.slot.upd r.slot.val (fun k => k.write 0 (requestBytes op r))).upd r.slot.val (fun k => { k with device := true })
      taken := sat32 s.mb.taken
      refused := sat32 s.mb.refused
      rings := [] } }

/-- A request that passes the checks before check 7, of an opcode that is not served, is refused with BAD_OPCODE. -/
theorem cardRow_of_unserved {op : Nat} {r : Req} {s : State} (hop : op < 2 ^ 16) (hhello : op ≠ 0x0001)
    (hp : s.sys.power = .run ∨ s.sys.power = .park) (hready : s.sys.ready = true)
    (hmine : (s.mb.slot.get r.slot.val).device = false) (hdone : s.port.done.toNat.testBit r.slot.val = false)
    (hrings : s.mb.rings = []) (hroom : r.payload.length ≤ 1008) (hlen : r.len.toNat = r.payload.length)
    (hcrc : crc32 r.payload = r.crc.toNat) (hzero : r.byte5 = 0)
    (hfree : s.mb.outst.find? (fun o => o.isSlot && o.tag == r.tag.toNat) = none) (hepoch : s.mb.epoch = some (epochOf r.tag.toNat))
    (hserved : ∀ b : Mbox, servedCard { s with mb := b } op = none) :
    cardRow op r s = completeSlot r.slot.val St.badOpcode 0 [] false (takenRefused op r s) := by
  refine take_refused op hop r hroom s _ _ hp hready hmine hdone hrings (fun b hout hepo _ => ?_)
  have hcode := slotTaken_opcode (r := r) (m := s.mb.slot.get r.slot.val) hop
  refine takeCheck_of_unserved ?_ ?_ hzero ?_ ?_ (hepo.trans hepoch) ?_
  · rw [slotTaken_len, hlen]
    exact hroom
  · rw [slotTaken_payload op r _ hroom hlen]
    exact hcrc
  · rw [hcode]
    exact hhello
  · rw [← hout] at hfree
    exact hfree
  · rw [hcode]
    exact hserved b

/-- Settles O56: outside its cards, and in RECOVERY mode outside the six that it knows, the device serves no opcode (R444, R456, R476). -/
theorem unassignedOpcodes : Obligations.UnassignedOpcodes := by
  intro r s hp hready hmine hdone hrings hroom hlen hcrc hzero hfree hepoch
  refine ⟨fun op hnone => ?_, fun i op hi hop hrec hout => ?_⟩
  · have hhello : op.toNat ≠ 0x0001 := by
      intro h
      rw [h] at hnone
      exact absurd hnone (by simp [cardOf, otherCards, sysCards, act])
    rw [exec_call _ op.toNat r s rfl, done_after, cardRow_of_unserved op.isLt hhello hp hready hmine hdone hrings hroom hlen hcrc
      hzero hfree hepoch (fun _ => servedCard_of_unassigned hnone)]
    rfl
  · have hhello : op ≠ 0x0001 := by
      rintro rfl
      exact absurd hout (by decide)
    rw [exec_call i op r s hi, done_after, cardRow_of_unserved hop hhello hp hready hmine hdone hrings hroom hlen hcrc hzero hfree
      hepoch (fun _ => servedCard_in_recovery hrec hout)]
    rfl

end Sys2Proof.Machine
end

section
/-!
SUPPORT. The host port (19_host_port.md R407 to R417, R427 to R430, R435 to R440): what reads return and consume, where written bytes go,
what each register write does, and slot memory and doorbells of slots that the device owns.
-/

namespace Sys2Proof.Machine

open Sys2Proof

/-! ## Reads (R408 to R411) -/

theorem hostRead_of_down {s : State} (h : (portOn s && s.sys.ready) = false) (a n : Nat) :
    hostRead a n s = (s, List.replicate n 0xFF) :=
  if_pos (by rw [portUp, h]; rfl)

section
variable {s : State} (hp : portOn s = true) (hr : s.sys.ready = true)
include hp hr

theorem portUp_of_ready : portUp s = true := by rw [portUp, hp, hr]; rfl

theorem hostRead_of_bytes {a : Nat} (n : Nat) (ha : a ≠ 0x800) :
    hostRead a n s = (s, (List.range n).map (fun i => byteAt a (a + i) s)) := by
  unfold hostRead
  rw [portUp_of_ready hp hr, if_neg (by decide), if_neg ha]

/-- Fewer bytes than an item has are read without consuming it (R410). -/
theorem hostRead_of_part {n : Nat} (h1 : 1 ≤ n) (h8 : n < 8) :
    hostRead 0x800 n s = (s, (leBytes 8 (nextItem s.port).toNat).take n) := by
  unfold hostRead
  rw [portUp_of_ready hp hr, if_neg (by decide), if_pos rfl, streamItems, if_neg (by omega), if_pos h8]

/-- A whole item is read and consumed (R410). -/
theorem hostRead_of_item : hostRead 0x800 8 s = (consumeItem s, leBytes 8 (nextItem s.port).toNat) := by
  unfold hostRead
  rw [portUp_of_ready hp hr, if_neg (by decide), if_pos rfl]
  exact Prod.ext rfl (List.append_nil _)

theorem readCrcRow_of_bad_length (code a : Nat) {len : Nat} (hl : lenOk len = false) :
    readCrcRow code a len s = crcRefused 2 (drive (s, [])) := by
  unfold readCrcRow
  rw [portUp_of_ready hp hr, if_neg (by decide), if_pos (by rw [hl]; rfl)]

theorem readCrcRow_of_bytes (code : Nat) {a len : Nat} (hl : lenOk len = true) (ha : a ≠ 0x800) :
    readCrcRow code a len s = drive (s, (List.range len).map (fun i => byteAt a (a + i) s) ++
      (leBytes 2 (crcOf code a len ((List.range len).map (fun i => byteAt a (a + i) s)))).reverse) := by
  unfold readCrcRow
  rw [portUp_of_ready hp hr, if_neg (by decide), hl, if_neg (by decide), hostRead_of_bytes hp hr len ha]

end

theorem exec_read (a : BitVec 24) (n : Nat) (s : State) : exec (.read a n) s = .next (after s (readRow a.toNat n s)) := done_after s _
theorem exec_qread (a : BitVec 24) (n : Nat) (s : State) : exec (.qread a n) s = .next (after s (readRow a.toNat n s)) := done_after s _
theorem exec_readCrc (a : BitVec 24) (len : U16) (s : State) :
    exec (.readCrc a len) s = .next (after s (readCrcRow 0x1B a.toNat len.toNat s)) := done_after s _
theorem exec_qreadCrc (a : BitVec 24) (len : U16) (s : State) :
    exec (.qreadCrc a len) s = .next (after s (readCrcRow 0xEC a.toNat len.toNat s)) := done_after s _

/-- Settles O43: a read by whether the port answers, where it starts, its length, and with a CRC by whether its length is allowed (R407 to
R411). -/
theorem hostReads : Obligations.HostReads := by
  intro a s
  refine ⟨fun n hdown => ?_, fun n hp hr ha => ?_, fun n hp hr ha h1 h8 => ?_, fun hp hr ha => ?_, fun len hp hr hl => ?_,
    fun len d hp hr hl ha hd => ?_⟩
  · rw [exec_read, exec_qread, readRow, hostRead_of_down hdown]
    exact ⟨rfl, rfl⟩
  · rw [exec_read, exec_qread, readRow, hostRead_of_bytes hp hr n ha]
    exact ⟨rfl, rfl⟩
  · rw [exec_read, exec_qread, readRow, ha, hostRead_of_part hp hr h1 h8]
    exact ⟨rfl, rfl⟩
  · rw [exec_read, exec_qread, readRow, ha, hostRead_of_item hp hr]
    exact ⟨rfl, rfl⟩
  · rw [exec_readCrc, exec_qreadCrc, readCrcRow_of_bad_length hp hr _ _ hl, readCrcRow_of_bad_length hp hr _ _ hl]
    exact ⟨rfl, rfl⟩
  · subst hd
    rw [exec_readCrc, exec_qreadCrc, readCrcRow_of_bytes hp hr _ hl ha, readCrcRow_of_bytes hp hr _ hl ha]
    exact ⟨rfl, rfl⟩

/-! ## Where written bytes go (R410, R439) -/

theorem writeAt_nil (fuel a : Nat) (s : State) : writeAt fuel a [] s = s := by
  cases fuel <;> rfl

/-- A whole aligned word acts on its register. -/
theorem writeAt_of_word {fuel a : Nat} {d : List Byte} {s : State} (hd : d.length = 4) (hreg : a < 0x1000) (hal : a % 4 = 0)
    (hport : ¬ (0x800 ≤ a ∧ a < 0x810)) : writeAt (fuel + 1) a d s = regWrite a (leNat d) s := by
  have hne : d.isEmpty = false := by rw [List.isEmpty_eq_false_iff]; rintro rfl; simp at hd
  rw [writeAt, hne, if_neg (by decide), if_pos hreg]
  dsimp only
  rw [if_neg hport, hal, List.take_of_length_le (by omega), List.drop_of_length_le (by omega), if_pos ⟨rfl, hd⟩, writeAt_nil]

/-- A single byte is no whole word: a port error of cause 4. -/
theorem writeAt_of_byte {fuel a : Nat} {b : Byte} {s : State} (hlow : a < 0x800) (hal : a % 4 = 0) :
    writeAt (fuel + 1) a [b] s = portErr 4 s := by
  rw [writeAt, List.isEmpty_cons, if_neg (by decide), if_pos (by omega)]
  dsimp only
  rw [if_neg (by omega), hal, if_neg (by simp)]
  exact writeAt_nil _ _ _

/-- Bytes within the memory of one slot. -/
theorem writeAt_of_slot {fuel n off : Nat} {d : List Byte} {s : State} (hd : d ≠ []) (hn : n < 16) (hoff : off < 0x400)
    (hfit : off + d.length ≤ 0x400) : writeAt (fuel + 1) (0x1000 + 0x400 * n + off) d s = slotWriteMem n off d s := by
  have hslot : (0x1000 + 0x400 * n + off - 0x1000) / 0x400 = n := by omega
  have hat : (0x1000 + 0x400 * n + off - 0x1000) % 0x400 = off := by omega
  rw [writeAt, List.isEmpty_eq_false_iff.mpr hd, if_neg (by decide), if_neg (by omega), if_pos (by omega)]
  dsimp only
  rw [hslot, hat, List.take_of_length_le (by omega), List.drop_of_length_le (by omega), writeAt_nil]

theorem countMisaligned_of_word {a : Nat} (hal : a % 4 = 0) (s : State) : countMisaligned a 4 s = s :=
  if_neg (by have h : (a + 4) % 4 = 0 := by omega
             simp [partialWord, hal, h])

theorem countMisaligned_of_byte {a : Nat} (hlow : a < 0x800) (hal : a % 4 = 0) (s : State) :
    countMisaligned a 1 s = portUpd (fun p => { p with lenErrs := sat32 p.lenErrs }) s :=
  if_pos (by simp [partialWord]; omega)

theorem countMisaligned_of_memory {a : Nat} (h : 0x1000 ≤ a) (n : Nat) (s : State) : countMisaligned a n s = s :=
  if_neg (by simp [partialWord]; omega)

/-! ## Write transactions (R408 to R410) -/

section
variable {s : State} (hp : portOn s = true)
include hp

theorem hostWrite_of_word {a : Nat} (v : U32) (hreg : a < 0x1000) (hal : a % 4 = 0) (hport : ¬ (0x800 ≤ a ∧ a < 0x810)) :
    hostWrite a (leBytes 4 v.toNat) s = regWrite a v.toNat s := by
  have hlen := leBytes_length 4 v.toNat
  unfold hostWrite
  rw [if_pos hp, writeAt_of_word hlen hreg hal hport, hlen, countMisaligned_of_word hal, leNat_leBytes 4 _ v.isLt]

theorem hostWrite_of_byte {a : Nat} (b : Byte) (hlow : a < 0x800) (hal : a % 4 = 0) :
    hostWrite a [b] s = portErr 4 (portUpd (fun p => { p with lenErrs := sat32 p.lenErrs }) s) := by
  unfold hostWrite
  rw [if_pos hp, writeAt_of_byte hlow hal, List.length_singleton, countMisaligned_of_byte hlow hal]

theorem hostWrite_of_slot {n off : Nat} {d : List Byte} (hd : d ≠ []) (hn : n < 16) (hoff : off < 0x400)
    (hfit : off + d.length ≤ 0x400) : hostWrite (0x1000 + 0x400 * n + off) d s = slotWriteMem n off d s := by
  unfold hostWrite
  rw [if_pos hp, countMisaligned_of_memory (by omega), writeAt_of_slot hd hn hoff hfit]

theorem portOn_driven : portOn (drive (s, [])) = true := hp

/-- A CRC transaction of a wrong length is discarded with cause 2. -/
theorem writeCrcRow_of_bad_length (code a : Nat) {len : Nat} {d : List Byte} (c : U16) (h : lenOk len = false ∨ d.length ≠ len) :
    writeCrcRow code a len d c s = crcRefused 2 (drive (s, [])) := by
  unfold writeCrcRow
  dsimp only
  rw [if_neg (by simp [portOn_driven hp]), if_pos (by simpa using h)]

section
variable {code a len : Nat} {d : List Byte} {c : U16} (hl : lenOk len = true) (hd : d.length = len)
include hl hd

theorem writeCrcRow_of_bad_crc (h : crcOf code a len d ≠ c.toNat) : writeCrcRow code a len d c s = crcRefused 1 (drive (s, [])) := by
  unfold writeCrcRow
  dsimp only
  rw [if_neg (by simp [portOn_driven hp]), if_neg (by simp [hl, hd]), if_pos (by simpa using h)]

theorem writeCrcRow_of_good_crc (h : crcOf code a len d = c.toNat) : writeCrcRow code a len d c s = hostWrite a d (drive (s, [])) := by
  unfold writeCrcRow
  dsimp only
  rw [if_neg (by simp [portOn_driven hp]), if_neg (by simp [hl, hd]), if_neg (by simpa using h)]

end

theorem badInstructionRow_of_unknown {code : Nat} (h : [0x0B, 0x02, 0x1B, 0x12, 0xEB, 0x38, 0xEC, 0x3E].contains code = false) :
    badInstructionRow code s = portErr 5 (drive (s, [])) :=
  if_neg (by rw [hp, h]; decide)

end

theorem writeRow_of_off {s : State} (h : portOn s = false) (a : Nat) (d : List Byte) : writeRow a d s = drive (s, []) :=
  if_neg (Bool.eq_false_iff.mp h)

theorem exec_write (a : BitVec 24) (d : List Byte) (s : State) : exec (.write a d) s = .next (after s (writeRow a.toNat d s)) :=
  done_after s _
theorem exec_qwrite (a : BitVec 24) (d : List Byte) (s : State) : exec (.qwrite a d) s = .next (after s (writeRow a.toNat d s)) :=
  done_after s _
theorem exec_writeCrc (a : BitVec 24) (len : U16) (d : List Byte) (c : U16) (s : State) :
    exec (.writeCrc a len d c) s = .next (after s (writeCrcRow 0x12 a.toNat len.toNat d c s)) := done_after s _
theorem exec_qwriteCrc (a : BitVec 24) (len : U16) (d : List Byte) (c : U16) (s : State) :
    exec (.qwriteCrc a len d c) s = .next (after s (writeCrcRow 0x3E a.toNat len.toNat d c s)) := done_after s _
theorem exec_badInstruction (c : Byte) (s : State) : exec (.badInstruction c) s = .next (after s (badInstructionRow c.toNat s)) :=
  done_after s _

/-- Settles O44: a write by the power, by the word or byte that it carries, and with a CRC by its length, its data's length and the CRC (R408
to R410, R414, R437). -/
theorem hostWrites : Obligations.HostWrites := by
  intro a s
  refine ⟨fun d hoff => ?_, fun v hp hlow hal => ?_, fun b hp hlow hal => ?_, fun len d c hp h => ?_, fun len d c hp hl hd =>
    ⟨fun h => ?_, fun h => ?_, fun h => ?_⟩, fun c hp h => ?_⟩
  · rw [exec_write, exec_qwrite, writeRow_of_off hoff]
    exact ⟨rfl, rfl⟩
  · rw [exec_write, exec_qwrite, writeRow, hostWrite_of_word (s := drive (s, [])) hp v (by omega) hal (by omega)]
    exact ⟨rfl, rfl⟩
  · rw [exec_write, exec_qwrite, writeRow, hostWrite_of_byte (s := drive (s, [])) hp b hlow hal]
    exact ⟨rfl, rfl⟩
  · rw [exec_writeCrc, exec_qwriteCrc, writeCrcRow_of_bad_length hp _ _ c h, writeCrcRow_of_bad_length hp _ _ c h]
    exact ⟨rfl, rfl⟩
  · rw [exec_writeCrc, writeCrcRow_of_bad_crc hp hl hd h]
    rfl
  · rw [exec_writeCrc, writeCrcRow_of_good_crc hp hl hd h]
    rfl
  · rw [exec_qwriteCrc, writeCrcRow_of_good_crc hp hl hd h]
    rfl
  · rw [exec_badInstruction, badInstructionRow_of_unknown hp h]
    rfl

/-! ## The registers (R412, R415, R427 to R430, R435, R438) -/

theorem clearIrq_toNat (v : U32) (s : State) : clearIrq v.toNat s = portUpd (fun p => { p with irqStat := p.irqStat &&& ~~~v }) s := by
  rw [clearIrq, u32, BitVec.ofNat_toNat, BitVec.setWidth_eq]

theorem evqCtrl_of_rewind {v : Nat} (h : v % 4 = 1) (s : State) : evqCtrl v s = rewind (dropCurrent s) := by
  have h0 : flag v 0 = true := by rw [flag, Nat.testBit_zero]; simp; omega
  have h1 : flag v 1 = false := by rw [flag, Nat.testBit_succ, Nat.testBit_zero]; simp; omega
  rw [evqCtrl, h0, h1]
  rfl

theorem evqCtrl_of_release {v : Nat} (h : v % 4 = 2) (s : State) : evqCtrl v s = releaseAll (dropCurrent s) := by
  have h0 : flag v 0 = false := by rw [flag, Nat.testBit_zero]; simp; omega
  have h1 : flag v 1 = true := by rw [flag, Nat.testBit_succ, Nat.testBit_zero]; simp; omega
  rw [evqCtrl, h0, h1]
  rfl

/-- EVQ_MARK with SET. -/
theorem regWrite_mark {v : Nat} (h : v % 2 = 1) (s : State) : regWrite 0x81C v s = setMark s :=
  if_pos (by rw [flag, Nat.testBit_zero, h]; rfl)

section
variable {s : State} (hp : portOn s = true)
include hp

theorem exec_registerWrite (a : BitVec 24) (v : U32) (hreg : a.toNat < 0x1000) (hal : a.toNat % 4 = 0)
    (hport : ¬ (0x800 ≤ a.toNat ∧ a.toNat < 0x810)) :
    exec (.registerWrite a v) s = .next (after s (regWrite a.toNat v.toNat s)) := by
  rw [← hostWrite_of_word hp v hreg hal hport]
  exact on_after (hostWrite a.toNat (leBytes 4 v.toNat)) s hp

theorem exec_irqStatClear (v : U32) : exec (.irqStatClear v) s = .next (after s (clearIrq v.toNat s)) := on_after (clearIrq v.toNat) s hp
theorem exec_doorbell (v : U32) : exec (.doorbell v) s = .next (after s (ringSlots v.toNat s)) := on_after (ringSlots v.toNat) s hp
theorem exec_hifDoneClear (v : U32) : exec (.hifDoneClear v) s = .next (after s (clearDone v.toNat s)) := on_after (clearDone v.toNat) s hp
theorem exec_rewind : exec .rewind s = .next (after s (rewind (dropCurrent s))) := by
  rw [← evqCtrl_of_rewind (v := 1) rfl]
  exact on_after (evqCtrl 1) s hp
theorem exec_releaseAll : exec .releaseAll s = .next (after s (releaseAll (dropCurrent s))) := by
  rw [← evqCtrl_of_release (v := 2) rfl]
  exact on_after (evqCtrl 2) s hp
theorem exec_evqWmarkWrite (v : U32) : exec (.evqWmarkWrite v) s = .next (after s (setWmark v.toNat s)) := on_after (setWmark v.toNat) s hp
theorem exec_evqMarkSet : exec .evqMarkSet s = .next (after s (setMark s)) := on_after setMark s hp
theorem exec_evqRelease (v : U32) : exec (.evqRelease v) s = .next (after s (releaseSeq v.toNat s)) := on_after (releaseSeq v.toNat) s hp

end

/-- Settles O45: a whole word reaches the register that its address names, and each effect's own command acts alike (R410, R412, R415, R427
to R429, R435, R438, R440). -/
theorem hostRegisters : Obligations.HostRegisters := by
  intro v s hp
  have hreg := fun a => exec_registerWrite hp a v
  refine ⟨⟨?_, ?_⟩, ?_, ⟨?_, exec_doorbell hp v⟩, ⟨?_, exec_hifDoneClear hp v⟩, fun h => ⟨?_, exec_rewind hp⟩,
    fun h => ⟨?_, exec_releaseAll hp⟩, ⟨?_, exec_evqWmarkWrite hp v⟩, fun h => ⟨?_, exec_evqMarkSet hp⟩, ⟨?_, exec_evqRelease hp v⟩, ?_⟩
  · rw [← clearIrq_toNat]
    exact hreg 0x008 (by decide) (by decide) (by decide)
  · rw [← clearIrq_toNat]
    exact exec_irqStatClear hp v
  · exact hreg 0x00C (by decide) (by decide) (by decide)
  · exact hreg 0x010 (by decide) (by decide) (by decide)
  · exact hreg 0x014 (by decide) (by decide) (by decide)
  · rw [← evqCtrl_of_rewind h]
    exact hreg 0x810 (by decide) (by decide) (by decide)
  · rw [← evqCtrl_of_release h]
    exact hreg 0x810 (by decide) (by decide) (by decide)
  · exact hreg 0x818 (by decide) (by decide) (by decide)
  · rw [← regWrite_mark h]
    exact hreg 0x81C (by decide) (by decide) (by decide)
  · exact hreg 0x820 (by decide) (by decide) (by decide)
  · exact hreg 0x004 (by decide) (by decide) (by decide)

/-! ## Slot memory, the bulk window and doorbells (R417, R438 to R440) -/

theorem slotWriteMem_of_device {n : Nat} {s : State} (h : (s.mb.slot.get n).device = true) (off : Nat) (d : List Byte) :
    slotWriteMem n off d s = countSlotBusy s := if_pos h

theorem slotWriteMem_of_host {n : Nat} {s : State} (h : (s.mb.slot.get n).device = false) (off : Nat) (d : List Byte) :
    slotWriteMem n off d s = mbUpd (fun m => { m with slot := m.slot.upd n (fun k => k.write off d) }) s :=
  if_neg (Bool.eq_false_iff.mp h)

theorem bulkWrite_of_locked {s : State} (h : bulkLocked s = true) (off : Nat) (d : List Byte) :
    bulkWrite off d s = portErr 3 (portUpd (fun p => { p with bulkRefused := sat32 p.bulkRefused }) s) := if_pos h

theorem bulkWrite_of_open {s : State} (h : bulkLocked s = false) (off : Nat) (d : List Byte) :
    bulkWrite off d s = portUpd (fun p => { p with bulk := p.bulk.setMany off d }) s := if_neg (Bool.eq_false_iff.mp h)

section
variable {s : State} (hp : portOn s = true)
include hp

theorem exec_mailboxSlotWrite {n : Fin 16} {off : Fin 1024} {d : List Byte} (hd : d ≠ []) (hfit : off.val + d.length ≤ 1024) :
    exec (.mailboxSlotWrite n off d) s = .next (after s (slotWriteMem n.val off.val d s)) := by
  rw [← hostWrite_of_slot hp hd n.isLt off.isLt hfit]
  exact on_after (hostWrite (0x1000 + 0x400 * n.val + off.val) d) s hp

theorem exec_bulkWindowWrite (off : Fin 65536) (d : List Byte) :
    exec (.bulkWindowWrite off d) s = .next (after s (bulkWrite off.val d s)) := on_after (bulkWrite off.val d) s hp

theorem exec_evqPortRead (n : Nat) : exec (.evqPortRead n) s = .next (after s (drive (hostRead 0x800 n s))) :=
  on_after (fun t => drive (hostRead 0x800 n t)) s hp

end

/-- Settles O46: slot memory by the slot's owner, the bulk window by its lock, and the event stream by READY (R410, R417, R438, R439,
R442). -/
theorem hostMemories : Obligations.HostMemories := by
  intro s hp
  refine ⟨fun n off d hd hfit hdev => ?_, fun n off d hd hfit hdev => ?_, fun off d hl => ?_, fun off d hl => ?_, fun hr => ?_,
    fun hr n => ?_⟩
  · rw [exec_mailboxSlotWrite hp hd hfit, slotWriteMem_of_device hdev]
  · rw [exec_mailboxSlotWrite hp hd hfit, slotWriteMem_of_host hdev]
  · rw [exec_bulkWindowWrite hp, bulkWrite_of_open hl]
  · rw [exec_bulkWindowWrite hp, bulkWrite_of_locked hl]
  · rw [exec_evqPortRead hp, hostRead_of_item hp hr]
    rfl
  · rw [exec_evqPortRead hp, hostRead_of_down (by rw [hr, Bool.and_false])]
    rfl

/-! ## A slot that the device owns (R439) -/

theorem portOn_of_awake {s : State} (h : s.sys.power = .run ∨ s.sys.power = .park) : portOn s = true := by
  unfold portOn
  rcases h with h | h <;> rw [h] <;> rfl

theorem ringSlot_of_busy {n : Nat} {s : State} (h : (s.mb.slot.get n).device = true ∨ s.port.done.toNat.testBit n = true) :
    ringSlot n s = countSlotBusy s := if_pos (by simpa using h)

@[simp] theorem ringSlot_sys (n : Nat) (s : State) : (ringSlot n s).sys = s.sys := by
  unfold ringSlot countSlotBusy
  split <;> rfl

/-- A ring of one slot leaves every other slot, and latches at most its own. -/
theorem ringSlot_other {k n : Nat} (h : n ≠ k) (s : State) : (ringSlot k s).mb.slot.get n = s.mb.slot.get n ∧
    ∃ l, (ringSlot k s).mb.rings = s.mb.rings ++ l ∧ n ∉ l := by
  unfold ringSlot
  split
  · exact ⟨rfl, [], (List.append_nil _).symm, List.not_mem_nil⟩
  · exact ⟨Tab.get_set_other _ _ _ _ h, [k], rfl, by simpa using h⟩

theorem forAll_ringSlot_sys (ks : List Nat) (s : State) : (forAll ks ringSlot s).sys = s.sys := by
  induction ks generalizing s with
  | nil => rfl
  | cons k ks ih => exact (ih (ringSlot k s)).trans (ringSlot_sys k s)

theorem forAll_ringSlot_other {n : Nat} (ks : List Nat) (h : n ∉ ks) (s : State) :
    (forAll ks ringSlot s).mb.slot.get n = s.mb.slot.get n ∧ ∃ l, (forAll ks ringSlot s).mb.rings = s.mb.rings ++ l ∧ n ∉ l := by
  induction ks generalizing s with
  | nil => exact ⟨rfl, [], (List.append_nil _).symm, List.not_mem_nil⟩
  | cons k ks ih =>
    obtain ⟨hk, hks⟩ := not_or.mp (mt List.mem_cons.mpr h)
    obtain ⟨hslot, l, hl, hnl⟩ := ringSlot_other hk s
    obtain ⟨hslots, m, hm, hnm⟩ := ih hks (ringSlot k s)
    refine ⟨hslots.trans hslot, l ++ m, ?_, ?_⟩
    · rw [← List.append_assoc, ← hl]
      exact hm
    · rw [List.mem_append]
      exact not_or.mpr ⟨hnl, hnm⟩

/-- Outside NAP a doorbell does no more than ring its slots (R390). -/
theorem ringSlots_of_awake {s : State} (h : s.sys.power = .run ∨ s.sys.power = .park) (v : Nat) :
    ringSlots v s = forAll ((List.range 16).filter v.testBit) ringSlot s := by
  refine exitNap_of_awake ?_
  rw [forAll_ringSlot_sys]
  rcases h with h | h <;> rw [h] <;> decide

theorem filter_testBit_two_pow (n : Fin 16) : (List.range 16).filter (2 ^ n.val).testBit = [n.val] := by
  revert n
  decide

/-- Settles O59: a write of a slot that the device owns, and a ring of it, only count; a doorbell leaves every slot that it does not name
(R439, R440). -/
theorem slotOwnership : Obligations.SlotOwnership := by
  intro s
  refine ⟨fun n off d hp hd hfit hdev => ?_, fun n hw hbusy => ?_, fun v n hw hbit => ⟨exec_doorbell (portOn_of_awake hw) v, ?_⟩⟩
  · rw [exec_mailboxSlotWrite hp hd hfit, slotWriteMem_of_device hdev]
    rfl
  · have hv : (u32 (2 ^ n.val)).toNat = 2 ^ n.val := Nat.mod_eq_of_lt (Nat.pow_lt_pow_right (by decide) (by omega))
    rw [exec_doorbell (portOn_of_awake hw), hv, ringSlots_of_awake hw, filter_testBit_two_pow, forAll, List.foldl_cons, List.foldl_nil,
      ringSlot_of_busy hbusy]
    rfl
  · rw [ringSlots_of_awake hw]
    exact forAll_ringSlot_other _ (by simp [hbit]) s

end Sys2Proof.Machine
end

section
/-!
SUPPORT. The rows of the pair link (14_pair.md R313 to R323): training, HELLO, silence, rejected frames, retransmission and beats.
-/

namespace Sys2Proof.Machine

open Sys2Proof

/-! ## Training, silence and loss of alignment (R320) -/

theorem laneAlignmentRow_of_train {s : State} (h : s.pr.link = .train) (hp : pairEn s = true) :
    laneAlignmentRow s = sendHello (prUpd (fun p => { p with link := .hello }) s) := if_pos (by simp [h, hp])

theorem laneAlignmentRow_of_other {s : State} (h : s.pr.link ≠ .train) : laneAlignmentRow s = s := if_neg (by simp [h])

theorem trainTimeoutRow_of_train {s : State} (h : s.pr.link = .train) :
    trainTimeoutRow s = prUpd (fun p => { p with trainFails := sat32 p.trainFails }) s := if_pos (by simp [h])

theorem trainTimeoutRow_of_other {s : State} (h : s.pr.link ≠ .train) : trainTimeoutRow s = s := if_neg (by simp [h])

theorem alignmentLostRow_of_up {s : State} (h : s.pr.link = .up) : alignmentLostRow s = linkLost 1 .train s := if_pos (by simp [h])

theorem alignmentLostRow_of_other {s : State} (h : s.pr.link ≠ .up) : alignmentLostRow s = s := if_neg (by simp [h])

theorem linkSilenceRow_of_up {s : State} (h : s.pr.link = .up) : linkSilenceRow s = silentTrigger (linkLost 0 .train s) :=
  if_pos (by simp [h])

theorem linkSilenceRow_of_other {s : State} (h : s.pr.link ≠ .up) : linkSilenceRow s = s := if_neg (by simp [h])

/-! ## HELLO (R317 to R323) -/

theorem helloRepeatRow_of_hello {s : State} (h : s.pr.link = .hello) : helloRepeatRow s = sendHello s := if_pos (by simp [h])

theorem helloRepeatRow_of_other {s : State} (h : s.pr.link ≠ .hello) : helloRepeatRow s = s := if_neg (by simp [h])

theorem helloFrameRow_of_unpaired {s : State} (h : pairEn s = false) (g : PairHello) : helloFrameRow g s = s := if_pos (by simp [h])

/-- What the device notes of a HELLO of its partner. -/
def partnerNoted (g : PairHello) (s : State) : State :=
  prUpd (fun p => { p with
    presented := g.fp, pHello := true, clash := false, pRole := g.role, pEligible := g.eligible, pGen := g.gen, pCycle := g.cycle }) s

/-- The state in which a presented fingerprint is noted. -/
def helloPresented (g : PairHello) (s : State) : State := prUpd (fun p => { p with presented := g.fp }) s

/-- What a HELLO of another PAIR_ID does once its fingerprint is noted: a stranger is reported, a partner without a common level ignored,
and any other renews the session or raises the link. -/
def helloTaken (g : PairHello) (s : State) : State :=
  if s.pr.bond != some g.fp then
    prUpd (fun p => { p with pHello := false })
      (when (s.pr.unbonded != some g.fp)
        (fun s => raise 2 0xEB [ef 8 g.fp.toNat] (prUpd (fun p => { p with unbonded := some g.fp }) s)) s)
  else if decide (min (ownPlMax s) g.plMax < g.plMin) || decide (min (ownPlMax s) g.plMax = 0) then s
  else if (partnerNoted g s).pr.link == .up then
    prUpd (fun p => { p with txSeq := p.window.length, rxSeq := 0 })
      (when (decide (s.pr.txSeq < 0x80000000)) sendHello (partnerNoted g s))
  else linkUp (min (ownPlMax s) g.plMax) g (partnerNoted g s)

section
variable {s : State} {g : PairHello} (hp : pairEn s = true) (hid : g.pairId ≠ pairId s)
include hp hid

/-- A HELLO of another PAIR_ID is taken by the bond and the common level. -/
theorem helloFrameRow_of_other_id (hl : s.pr.link = .hello ∨ s.pr.link = .up) : helloFrameRow g s = helloTaken g (helloPresented g s) := by
  have hclash : (g.pairId == pairId (prUpd (fun p => { p with presented := g.fp }) s)) = false := beq_false_of_ne hid
  unfold helloFrameRow
  rw [if_neg (by rcases hl with h | h <;> simp [hp, h])]
  dsimp only
  rw [hclash, Bool.false_and, Bool.false_or, when, if_neg Bool.false_ne_true]
  rfl

/-- A device that is not bonded, and was already reported, is noted by its fingerprint only. -/
theorem helloFrameRow_of_stranger (hl : s.pr.link = .hello) (hb : s.pr.bond ≠ some g.fp) (hu : s.pr.unbonded = some g.fp) :
    helloFrameRow g s = prUpd (fun p => { p with presented := g.fp, pHello := false }) s := by
  have hunb : ((helloPresented g s).pr.bond != some g.fp) = true := bne_iff_ne.mpr hb
  have hseen : ((helloPresented g s).pr.unbonded != some g.fp) = false := bne_eq_false_iff_eq.mpr hu
  rw [helloFrameRow_of_other_id hp hid (.inl hl), helloTaken, if_pos hunb, when, hseen]
  rfl

section
variable (hb : s.pr.bond = some g.fp) (hmin : g.plMin ≤ min (ownPlMax s) g.plMax) (hlevel : min (ownPlMax s) g.plMax ≠ 0)
include hb hmin hlevel

/-- A HELLO of the partner with a usable level, by the state of the link. -/
theorem helloFrameRow_of_partner (hl : s.pr.link = .hello ∨ s.pr.link = .up) :
    helloFrameRow g s =
      if s.pr.link == .up then
        prUpd (fun p => { p with txSeq := p.window.length, rxSeq := 0 })
          (when (decide (s.pr.txSeq < 0x80000000)) sendHello (partnerNoted g s))
      else linkUp (min (ownPlMax s) g.plMax) g (partnerNoted g s) := by
  have hbonded : ¬ ((helloPresented g s).pr.bond != some g.fp) = true := fun hne => bne_iff_ne.mp hne hb
  have hlow : ¬ min (ownPlMax (helloPresented g s)) g.plMax < g.plMin := Nat.not_lt.mpr hmin
  have hlevel' : min (ownPlMax (helloPresented g s)) g.plMax ≠ 0 := hlevel
  rw [helloFrameRow_of_other_id hp hid hl, helloTaken, if_neg hbonded]
  exact if_neg (by rw [decide_eq_false hlow, decide_eq_false hlevel']; decide)

theorem helloFrameRow_raises_link (hl : s.pr.link = .hello) :
    helloFrameRow g s = linkUp (min (ownPlMax s) g.plMax) g (partnerNoted g s) := by
  rw [helloFrameRow_of_partner hp hid hb hmin hlevel (.inl hl), if_neg (by simp [hl])]

theorem helloFrameRow_renews_session (hl : s.pr.link = .up) (htx : s.pr.txSeq < 0x80000000) :
    helloFrameRow g s = prUpd (fun p => { p with txSeq := p.window.length, rxSeq := 0 }) (sendHello (partnerNoted g s)) := by
  rw [helloFrameRow_of_partner hp hid hb hmin hlevel (.inr hl), if_pos (by simp [hl]), when, if_pos (by simpa using htx)]

end
end

/-! ## Rejected frames, retransmission and beats (R313, R315, R316) -/

theorem frameRejectedRow_of_unpaired {s : State} (h : pairEn s = false) (why : PairReject) : frameRejectedRow why s = s := if_pos (by simp [h])

/-- A frame whose CRC, type or order is wrong only counts. -/
theorem frameRejectedRow_of_paired {s : State} (h : pairEn s = true) :
    frameRejectedRow .crc s = prUpd (fun p => { p with badFrames := sat32 p.badFrames }) s ∧
    frameRejectedRow .type s = prUpd (fun p => { p with discarded := sat32 p.discarded }) s ∧
    frameRejectedRow .order s = prUpd (fun p => { p with discarded := sat32 p.discarded }) s :=
  ⟨if_neg (by simp [h]), if_neg (by simp [h]), if_neg (by simp [h])⟩

theorem retransmitRow_of_up {s : State} (h : s.pr.link = .up) :
    retransmitRow s = prUpd (fun p => { p with retrans := min (p.retrans + p.window.length) 0xFFFFFFFF }) s := if_pos (by simp [h])

theorem retransmitRow_of_other {s : State} (h : s.pr.link ≠ .up) : retransmitRow s = s := if_neg (by simp [h])

theorem pairSend_of_idle {s : State} (h : s.pr.txIdle = true ∨ s.pr.link ≠ .up) (f : PFrame) : pairSend f s = s :=
  if_pos (by rcases h with h | h <;> simp [h])

section
variable {s : State} (hi : s.pr.txIdle = false) (hl : s.pr.link = .up)
include hi hl

theorem pairSend_of_room (hw : s.pr.window.length < 64) (f : PFrame) : pairSend f s = seqSend f s :=
  (if_neg (by simp [hi, hl])).trans (if_pos hw)

theorem pairSend_of_full (hw : 64 ≤ s.pr.window.length) (f : PFrame) :
    pairSend f s = prUpd (fun p => { p with sendQ := p.sendQ ++ [f] }) s :=
  (if_neg (by simp [hi, hl])).trans (if_neg (by omega))

end

section
variable {s : State} (h : enginesRun s = true)
include h

theorem exec_laneAlignment : exec .laneAlignment s = .next (after s (laneAlignmentRow s)) := engine_after laneAlignmentRow s h

theorem exec_trainTimeout : exec .trainTimeout s = .next (after s (trainTimeoutRow s)) := engine_after trainTimeoutRow s h

theorem exec_alignmentLost : exec .alignmentLost s = .next (after s (alignmentLostRow s)) := engine_after alignmentLostRow s h

theorem exec_linkSilence : exec .linkSilence s = .next (after s (linkSilenceRow s)) := engine_after linkSilenceRow s h

theorem exec_helloRepeat : exec .helloRepeat s = .next (after s (helloRepeatRow s)) := engine_after helloRepeatRow s h

theorem exec_helloFrame (g : PairHello) : exec (.helloFrame g) s = .next (after s (helloFrameRow g s)) := engine_after (helloFrameRow g) s h

theorem exec_pairFrameRejected (why : PairReject) : exec (.pairFrameRejected why) s = .next (after s (frameRejectedRow why s)) :=
  engine_after (frameRejectedRow why) s h

theorem exec_retransmitTimeout : exec .retransmitTimeout s = .next (after s (retransmitRow s)) := engine_after retransmitRow s h

theorem exec_beatDue : exec .beatDue s = .next (after s (pairSend (beatFrame s) s)) := engine_after beatDueRow s h

end

/-- Settles O30: each row of the link by the state of the link, a HELLO by the bond, the PAIR_ID and the common level, a rejected frame by
its reason, and a BEAT by the sender and its window (R313, R315 to R317, R319, R320, R323). -/
theorem pairLink : Obligations.PairLink := by
  intro s h
  rw [exec_laneAlignment h, exec_trainTimeout h, exec_alignmentLost h, exec_linkSilence h, exec_helloRepeat h, exec_retransmitTimeout h,
    exec_beatDue h]
  refine ⟨fun hl hp => ?_, fun hl => ?_, fun hl => ?_, fun hl => ?_, fun hl => ?_, fun hl => ?_, fun hl => ?_, fun hl => ?_,
    fun t hl ht => ?_, fun hl => ?_, fun g hp => ?_, fun g hp hl hb hu hid => ?_, fun g hp hl hb hid hmin hlev => ?_, fun hp => ?_, fun hp => ?_,
    fun hp => ?_, fun why hp => ?_, fun hl => ?_, fun hl => ?_, fun g hp hl hb hid hmin hlev htx => ?_, fun hi hl hw => ?_, fun hi hl hw => ?_,
    fun hi => ?_⟩
  · rw [laneAlignmentRow_of_train hl hp]
  · rw [laneAlignmentRow_of_other hl]
  · rw [trainTimeoutRow_of_train hl]
  · rw [trainTimeoutRow_of_other hl]
  · rw [alignmentLostRow_of_up hl]
  · rw [alignmentLostRow_of_other hl]
  · rw [linkSilenceRow_of_up hl]
  · rw [linkSilenceRow_of_other hl]
  · rw [helloRepeatRow_of_hello hl, ht]
    rfl
  · rw [helloRepeatRow_of_other hl]
  · rw [exec_helloFrame h, helloFrameRow_of_unpaired hp]
  · rw [exec_helloFrame h, helloFrameRow_of_stranger hp hid hl hb hu]
  · rw [exec_helloFrame h, helloFrameRow_raises_link hp hid hb hmin hlev hl, partnerNoted]
  · rw [exec_pairFrameRejected h, (frameRejectedRow_of_paired hp).1]
  · rw [exec_pairFrameRejected h, (frameRejectedRow_of_paired hp).2.1]
  · rw [exec_pairFrameRejected h, (frameRejectedRow_of_paired hp).2.2]
  · rw [exec_pairFrameRejected h, frameRejectedRow_of_unpaired hp]
  · rw [retransmitRow_of_up hl]
  · rw [retransmitRow_of_other hl]
  · rw [exec_helloFrame h, helloFrameRow_renews_session hp hid hb hmin hlev hl htx, partnerNoted]
  · rw [pairSend_of_room hi hl hw]
  · rw [pairSend_of_full hi hl hw]
  · rw [pairSend_of_idle hi]

end Sys2Proof.Machine
end

section
/-!
SUPPORT. The rows of the pair's numbered frames (14_pair.md R316, R326 to R334, 15_takeover.md R338, R340): a frame in order, and what each
kind of frame then does.
-/

namespace Sys2Proof.Machine

open Sys2Proof

/-! ## Frames in order (R316) -/

/-- The state in which a frame in order is taken: the next expected number, its acknowledgement, and the end of the swap it answers. -/
def frameTaken (ack : U32) (s : State) : State :=
  let u := pairAck ack.toNat (prUpd (fun p => { p with rxSeq := p.rxSeq + 1 }) s)
  if u.pr.relWait && !relinquishOut u then finishSwap u else u

/-- The state in which a frame out of order is discarded and counted. -/
def frameDiscarded (s : State) : State := prUpd (fun p => { p with discarded := sat32 p.discarded }) s

theorem inOrder_of_no_link {s : State} (h : s.pr.link ≠ .up ∨ pairEn s = false) (seq ack : U32) (k : State → State) :
    inOrder seq ack k s = s := if_pos (by rcases h with h | h <;> simp [h])

section
variable {s : State} {seq ack : U32} (hl : s.pr.link = .up) (hp : pairEn s = true)
include hl hp

theorem inOrder_of_gap (hn : seq.toNat ≠ s.pr.rxSeq) (ack : U32) (k : State → State) : inOrder seq ack k s = frameDiscarded s :=
  (if_neg (by simp [hl, hp])).trans (if_pos hn)

theorem inOrder_of_next (hn : seq.toNat = s.pr.rxSeq) (k : State → State) : inOrder seq ack k s = k (frameTaken ack s) :=
  (if_neg (by simp [hl, hp])).trans (if_neg (by simp [hn]))

end

/-! ## What a frame in order does -/

section
variable {s t : State} {seq ack : U32} (hl : s.pr.link = .up) (hp : pairEn s = true) (hn : seq.toNat = s.pr.rxSeq) (ht : t = frameTaken ack s)
include hl hp hn ht

theorem mirrorRow_of_other (h : t.pr.role ≠ .standby) (c : U32) (sn : Bool) (r : MirrorRec) (d : Bool) :
    mirrorRow seq ack c sn r d s = t := by
  rw [mirrorRow, inOrder_of_next hl hp hn, ← ht]
  exact if_pos (by simp [h])

section
variable (h : t.pr.role = .standby) (c : U32) {r : MirrorRec}
include h

/-- A damaged record has its class asked for again. -/
theorem mirrorRow_of_damaged (sn : Bool) :
    mirrorRow seq ack c sn r true s =
      pairSend (.resyncReq (recClass r)) (prUpd (fun p => { p with resync := true, stale := p.stale ||| 2 ^ (recClass r - 1) }) t) := by
  rw [mirrorRow, inOrder_of_next hl hp hn, ← ht]
  dsimp only
  rw [if_neg (by simp [h]), if_pos rfl]

/-- Classes M1 and M2 apply at once. -/
theorem mirrorRow_of_urgent (hc : recClass r ≤ 2) (sn : Bool) : mirrorRow seq ack c sn r false s = applyRec r t := by
  rw [mirrorRow, inOrder_of_next hl hp hn, ← ht]
  dsimp only
  rw [if_neg (by simp [h]), if_neg Bool.false_ne_true, if_pos hc]

theorem mirrorRow_of_snapshot (hc : 2 < recClass r) :
    mirrorRow seq ack c true r false s = prUpd (fun p => { p with mirror := { p.mirror with snap := p.mirror.snap ++ [r] } }) t := by
  rw [mirrorRow, inOrder_of_next hl hp hn, ← ht]
  dsimp only
  rw [if_neg (by simp [h]), if_neg Bool.false_ne_true, if_neg (by omega), Bool.true_or, if_pos rfl]

theorem mirrorRow_of_batch (hc : 2 < recClass r) (h5 : recClass r ≠ 5) :
    mirrorRow seq ack c false r false s =
      prUpd (fun p => { p with mirror := { p.mirror with batch := p.mirror.batch ++ [(c.toNat, r)] } }) t := by
  rw [mirrorRow, inOrder_of_next hl hp hn, ← ht]
  dsimp only
  rw [if_neg (by simp [h]), if_neg Bool.false_ne_true, if_neg (by omega), if_neg (by simp [h5]), if_neg h5]

theorem batchEndRow_of_current (hr : t.pr.resync = false) : batchEndRow seq ack c s = applyBatch c.toNat t := by
  rw [batchEndRow, inOrder_of_next hl hp hn, ← ht]
  dsimp only
  rw [if_neg (by simp [h]), hr]
  rfl

/-- While a resynchronisation runs, a BATCH_END is noted as well. -/
theorem batchEndRow_of_resync (hr : t.pr.resync = true) :
    batchEndRow seq ack c s =
      applyBatch c.toNat (prUpd (fun p => { p with mirror := { p.mirror with ended := p.mirror.ended ++ [c.toNat] } }) t) := by
  rw [batchEndRow, inOrder_of_next hl hp hn, ← ht]
  dsimp only
  rw [if_neg (by simp [h]), hr]
  rfl

/-- The snapshot is all there is where no BATCH_END came meanwhile. -/
theorem resyncDoneRow_of_snapshot {w : State} (hr : t.pr.resync = true) (he : t.pr.mirror.ended = [])
    (hw : w = forAll t.pr.mirror.snap applyRec (beforeSnapshot t.pr.stale t.pr.mirror.snap
      (prUpd (fun p => { p with resync := false, stale := 0, mirror := { p.mirror with snap := [], ended := [] } }) t))) :
    resyncDoneRow seq ack c s = raise 2 0xE6 [ef 1 w.pr.mirrored] (prUpd (fun p => { p with mirror := { p.mirror with
      batch := p.mirror.batch.filter (fun b => decide (cycDiff (u32 b.1) c ≥ 0)) } }) w) := by
  rw [resyncDoneRow, inOrder_of_next hl hp hn, ← ht]
  dsimp only
  rw [if_neg (by simp [h, hr]), he, hw]
  rfl

end

theorem resyncReqRow_of_boundary {cls : Nat} (h : t.duty = true) (hc : 2 < cls) :
    resyncReqRow seq ack cls s = prUpd (fun p => { p with snapDue := p.snapDue ||| 2 ^ (cls - 1) }) t := by
  rw [resyncReqRow, inOrder_of_next hl hp hn, ← ht]
  dsimp only
  rw [if_neg (by simp [h]), if_neg (by omega), when, if_neg (by simp; omega)]

section
variable (areas : List (Nat × Img)) (swap : Bool)

theorem relinquishRow_of_eligible (hd : t.duty = false) (hr : t.pr.role = .standby) (he : eligibleNow t = true) :
    relinquishRow seq ack areas swap s = dovetail (if swap then 2 else 1) t := by
  rw [relinquishRow, inOrder_of_next hl hp hn, ← ht]
  exact (if_neg (by simp [hd])).trans (if_pos (by simp [hr, he]))

theorem relinquishRow_of_ineligible (hd : t.duty = false) (hr : t.pr.role ≠ .standby ∨ eligibleNow t = false) :
    relinquishRow seq ack areas swap s = t := by
  rw [relinquishRow, inOrder_of_next hl hp hn, ← ht]
  exact (if_neg (by simp [hd])).trans (if_neg (by rcases hr with hr | hr <;> simp [hr]))

/-- A device with duty that is the one of PAIR_ID 1, or in a dovetail, keeps its latches (R351). -/
theorem relinquishRow_of_duty (hd : t.duty = true) (h : pairId t = true ∨ t.pr.dove = 1 ∨ t.pr.dove = 2) :
    relinquishRow seq ack areas swap s = t := by
  rw [relinquishRow, inOrder_of_next hl hp hn, ← ht]
  exact (if_pos hd).trans (if_pos (by rcases h with h | h | h <;> simp [h]))

end
end

/-- What a BEAT tells of the partner (R315). -/
def beatNoted (b : PairBeat) (t : State) : State :=
  prUpd (fun p => { p with pRole := b.role, pEligible := b.eligible, pGen := b.gen, pCycle := b.cycle, pAngle := b.angle }) t

section
variable {s v : State} {b : PairBeat} (hl : s.pr.link = .up) (hp : pairEn s = true) (hn : b.seq.toNat = s.pr.rxSeq)
  (hv : v = beatNoted b (frameTaken b.ack s))
include hl hp hn hv

theorem beatRow_of_duty (h : roleDuty b.role = true) : beatRow b s = dualActive 1 v := by
  rw [beatRow, inOrder_of_next hl hp hn, hv]
  exact if_pos h

theorem beatRow_of_rest (h : roleDuty b.role = false) (hd : v.pr.dual = none) : beatRow b s = v := by
  have hover : ¬ (v.pr.dual.isSome && v.sys.outputs) = true := by simp [hd]
  rw [beatRow, inOrder_of_next hl hp hn]
  subst hv
  exact (if_neg (by simp [h])).trans (if_neg hover)

end

section
variable {s : State} (h : enginesRun s = true) (seq ack : U32)
include h

theorem exec_mirror (c : U32) (sn : Bool) (r : MirrorRec) (d : Bool) :
    exec (.mirror seq ack c sn r d) s = .next (after s (mirrorRow seq ack c sn r d s)) := engine_after (mirrorRow seq ack c sn r d) s h

theorem exec_batchEnd (c : U32) : exec (.batchEnd seq ack c) s = .next (after s (batchEndRow seq ack c s)) :=
  engine_after (batchEndRow seq ack c) s h

theorem exec_resyncReq (cls : Nat) : exec (.resyncReq seq ack cls) s = .next (after s (resyncReqRow seq ack cls s)) :=
  engine_after (resyncReqRow seq ack cls) s h

theorem exec_resyncDone (c : U32) : exec (.resyncDone seq ack c) s = .next (after s (resyncDoneRow seq ack c s)) :=
  engine_after (resyncDoneRow seq ack c) s h

theorem exec_relinquish (areas : List (Nat × Img)) (swap : Bool) :
    exec (.relinquish seq ack areas swap) s = .next (after s (relinquishRow seq ack areas swap s)) :=
  engine_after (relinquishRow seq ack areas swap) s h

theorem exec_beat (b : PairBeat) : exec (.beat b) s = .next (after s (beatRow b s)) := engine_after (beatRow b) s h

/-- A frame that no row takes further leaves every numbered row with the same state. -/
theorem numbered_rows_of_constant {t : State} (ht : ∀ (ack : U32) (k : State → State), inOrder seq ack k s = t) :
    (∀ c sn r d, exec (.mirror seq ack c sn r d) s = .next (after s t)) ∧ (∀ c, exec (.batchEnd seq ack c) s = .next (after s t)) ∧
    (∀ cls, exec (.resyncReq seq ack cls) s = .next (after s t)) ∧ (∀ c, exec (.resyncDone seq ack c) s = .next (after s t)) ∧
    (∀ areas swap, exec (.relinquish seq ack areas swap) s = .next (after s t)) ∧
    (∀ b : PairBeat, b.seq = seq → exec (.beat b) s = .next (after s t)) := by
  refine ⟨fun c sn r d => ?_, fun c => ?_, fun cls => ?_, fun c => ?_, fun areas swap => ?_, fun b hb => ?_⟩
  · rw [exec_mirror h, mirrorRow, ht]
  · rw [exec_batchEnd h, batchEndRow, ht]
  · rw [exec_resyncReq h, resyncReqRow, ht]
  · rw [exec_resyncDone h, resyncDoneRow, ht]
  · rw [exec_relinquish h, relinquishRow, ht]
  · rw [exec_beat h, beatRow, hb, ht]

end

/-- Settles O31: a numbered frame by the link and its number, and a frame in order by its kind, the role and what the mirror waits for
(R316, R326, R328, R331 to R334, R338, R340). -/
theorem pairMirroring : Obligations.PairMirroring := by
  intro s seq ack h
  refine ⟨fun hno => ?_, fun hl hp hn t ht => ?_, fun hl hp hn u t hu hfin => ?_⟩
  · obtain ⟨hmirror, hbatch, hreq, hdone, hrel, -⟩ := numbered_rows_of_constant h seq ack (inOrder_of_no_link hno seq)
    refine ⟨hmirror, hbatch, hreq, hdone, hrel, fun b => ?_⟩
    rw [exec_beat h, beatRow, inOrder_of_no_link hno]
  · rw [ht]
    exact numbered_rows_of_constant h seq ack (inOrder_of_gap hl hp hn)
  · have ht : t = frameTaken ack s := by rw [hfin, hu, frameTaken]
    refine ⟨fun c sn r hr => ?_, fun c sn r hr hc => ?_, fun c r hr hc => ?_, fun c r hr hc h5 => ?_, fun c sn r d hr => ?_,
      fun c hr hs => ?_, fun c hr hs => ?_, fun cls hd hc => ?_, fun c v w hr hs hv hw he => ?_,
      fun b v hbs hba hv => ⟨fun hb hdual => ?_, fun hb => ?_⟩, fun areas swap hd hr he => ?_, fun areas swap hd hr => ?_,
      fun areas swap hd hr => ?_⟩
    · rw [exec_mirror h, mirrorRow_of_damaged hl hp hn ht hr]
    · rw [exec_mirror h, mirrorRow_of_urgent hl hp hn ht hr c hc]
    · rw [exec_mirror h, mirrorRow_of_snapshot hl hp hn ht hr c hc]
    · rw [exec_mirror h, mirrorRow_of_batch hl hp hn ht hr c hc h5]
    · rw [exec_mirror h, mirrorRow_of_other hl hp hn ht hr]
    · rw [exec_batchEnd h, batchEndRow_of_current hl hp hn ht hr c hs]
    · rw [exec_batchEnd h, batchEndRow_of_resync hl hp hn ht hr c hs]
    · rw [exec_resyncReq h, resyncReqRow_of_boundary hl hp hn ht hd hc]
    · rw [exec_resyncDone h, resyncDoneRow_of_snapshot hl hp hn ht hr c hs he (hv ▸ hw)]
    · have hnoted : v = beatNoted b (frameTaken b.ack s) := by rw [hv, ht, hba, beatNoted]
      rw [exec_beat h, beatRow_of_rest hl hp (hbs ▸ hn) hnoted hb hdual]
    · have hnoted : v = beatNoted b (frameTaken b.ack s) := by rw [hv, ht, hba, beatNoted]
      rw [exec_beat h, beatRow_of_duty hl hp (hbs ▸ hn) hnoted hb]
    · rw [exec_relinquish h, relinquishRow_of_eligible hl hp hn ht areas swap hd hr he]
    · rw [exec_relinquish h, relinquishRow_of_ineligible hl hp hn ht areas swap hd hr]
    · rw [exec_relinquish h, relinquishRow_of_duty hl hp hn ht areas swap hd hr]

end Sys2Proof.Machine
end

section
/-!
SUPPORT. The rows of heartbeat and activity, of bonding, and of the release of duty (14_pair.md R322 to R326, 15_takeover.md R335, R339,
R340, R349).
-/

namespace Sys2Proof.Machine

open Sys2Proof

/-! ## Heartbeat and activity (R324 to R326, R335) -/

section
variable {s : State} (hp : pairEn s = false)
include hp

theorem heartbeatToggleRow_of_unpaired : heartbeatToggleRow s = s := if_neg (by simp [hp])
theorem activityToggleRow_of_unpaired : activityToggleRow s = s := if_neg (by simp [hp])
theorem hbEdgeRow_of_unpaired : hbEdgeRow s = s := if_pos (by simp [hp])
theorem actEdgeRow_of_unpaired : actEdgeRow s = s := if_pos (by simp [hp])
theorem heartbeatLossRow_of_unpaired : heartbeatLossRow s = s := if_neg (by simp [hp])
theorem activitySilenceRow_of_unpaired : activitySilenceRow s = s := if_neg (by simp [hp])
theorem dovetailEnableRow_of_unpaired : dovetailEnableRow s = s := if_neg (by simp [hp])

end

section
variable {s : State} (hp : pairEn s = true)
include hp

theorem heartbeatToggleRow_of_run (hr : s.sys.power = .run) (hh : s.pr.hbHold = false) :
    heartbeatToggleRow s = prUpd (fun p => { p with hbO := !p.hbO }) s := if_pos (by simp [hp, hr, hh])

theorem activityToggleRow_of_duty (hd : s.duty = true) : activityToggleRow s = prUpd (fun p => { p with actO := !p.actO }) s :=
  if_pos (by simp [hp, hd])

theorem hbEdgeRow_of_paired :
    hbEdgeRow s = if s.pr.hbLost then raise 2 0xE3 [] (prUpd (fun p => { p with hbLost := false }) (prUpd (fun p => { p with hbI := !p.hbI }) s))
      else prUpd (fun p => { p with hbI := !p.hbI }) s := if_neg (by simp [hp])

/-- The first edge after a loss is reported. -/
theorem hbEdgeRow_of_lost (hl : s.pr.hbLost = true) :
    hbEdgeRow s = raise 2 0xE3 [] (prUpd (fun p => { p with hbLost := false }) (prUpd (fun p => { p with hbI := !p.hbI }) s)) := by
  rw [hbEdgeRow_of_paired hp, if_pos hl]

theorem hbEdgeRow_of_heard (hl : s.pr.hbLost = false) : hbEdgeRow s = prUpd (fun p => { p with hbI := !p.hbI }) s := by
  rw [hbEdgeRow_of_paired hp, if_neg (by simp [hl])]

theorem heartbeatLossRow_of_heard (hl : s.pr.hbLost = false) :
    heartbeatLossRow s = silentTrigger (raise 2 0xE2 [] (prUpd (fun p => { p with hbLost := true }) s)) := if_pos (by simp [hp, hl])

theorem activitySilenceRow_of_active (hl : s.pr.actLost = false) :
    activitySilenceRow s = silentTrigger (prUpd (fun p => { p with actI := false, actQuiet := true, actLost := true }) s) :=
  if_pos (by simp [hp, hl])

/-- An activity edge disables the outputs, and is dual activity unless the dovetail waits for the partner's last edge. -/
theorem actEdgeRow_of_paired {t : State}
    (ht : t = disableOutputs (prUpd (fun p => { p with actI := true, actQuiet := false, actLost := false, actEv := false })
      ({ s with out := { s.out with safeHold := false } } : State))) :
    actEdgeRow s = if t.pr.dove = 1 then t else dualActive 0 t := by
  subst ht
  exact if_neg (by simp [hp])

theorem dovetailEnableRow_of_paired : dovetailEnableRow s = dovetailEnable (prUpd (fun p => { p with actQuiet := true }) s) := if_pos hp

end

theorem activityToggleRow_of_rest {s : State} (hd : s.duty = false) : activityToggleRow s = s := if_neg (by simp [hd])

theorem heartbeatLossRow_of_lost {s : State} (hl : s.pr.hbLost = true) : heartbeatLossRow s = s := if_neg (by simp [hl])

/-! ## Bonding (R322) -/

theorem bondRow_of_pending {s : State} {key : List Byte} (hl : s.pr.link = .up ∨ s.pr.link = .hello) (hk : key.length = 65)
    (hb : s.pr.bondPend = some (sha64 key)) : bondRow key s = sendBond .bondConfirm (prUpd (fun p => { p with bondKey := key }) s) := by
  unfold bondRow
  rw [if_neg (by rcases hl with h | h <;> simp [h, hk]), hb]
  exact if_pos BEq.rfl

theorem bondRow_of_other {s : State} {key : List Byte} (h : s.pr.bondPend = none ∨ key.length ≠ 65) : bondRow key s = s := by
  unfold bondRow
  rcases h with hb | hk
  · rw [hb]
    exact ite_self s
  · exact if_pos (by simp [hk])

theorem bondConfirmRow_of_key {s : State} (hl : s.pr.link = .up) (hb : s.pr.bondPend.isSome = true) (hk : s.pr.bondKey ≠ []) :
    bondConfirmRow s = submit { typ := .keys, arg := 1 } s := if_pos (by simp [hl, hb, hk])

theorem bondConfirmRow_of_none {s : State} (hb : s.pr.bondPend = none) : bondConfirmRow s = s := if_neg (by simp [hb])

theorem bondTimeoutRow_of_pending {s : State} (hb : s.pr.bondPend.isSome = true) :
    bondTimeoutRow s = completeWait .bond St.bondTimeout 0 [] (prUpd (fun p => { p with bondPend := none, bondKey := [] }) s) := if_pos hb

theorem bondTimeoutRow_of_none {s : State} (hb : s.pr.bondPend = none) : bondTimeoutRow s = s := if_neg (by simp [hb])

/-! ## The release of duty (R339, R349) -/

theorem relinquishResendRow_of_resend {s : State} (hw : s.pr.relWait = true) (hn : s.pr.relSends < 3) (hl : s.pr.link = .up) :
    relinquishResendRow s = prUpd (fun p => { p with relSends := p.relSends + 1, retrans := sat32 p.retrans }) s :=
  (if_neg (by simp [hw])).trans (if_pos (by simp [hn, hl]))

theorem relinquishResendRow_of_none {s : State} (ho : relinquishOut s = false) (hw : s.pr.relWait = false) : relinquishResendRow s = s :=
  if_pos (by simp [ho, hw])

section
variable {s : State} (h : enginesRun s = true)
include h

theorem exec_heartbeatToggle : exec .heartbeatToggle s = .next (after s (heartbeatToggleRow s)) := engine_after heartbeatToggleRow s h

theorem exec_activityToggle : exec .activityToggle s = .next (after s (activityToggleRow s)) := engine_after activityToggleRow s h

theorem exec_prHbIEdge : exec .prHbIEdge s = .next (after s (hbEdgeRow s)) := engine_after hbEdgeRow s h

theorem exec_prActIEdge : exec .prActIEdge s = .next (after s (actEdgeRow s)) := engine_after actEdgeRow s h

theorem exec_heartbeatLoss : exec .heartbeatLoss s = .next (after s (heartbeatLossRow s)) := engine_after heartbeatLossRow s h

theorem exec_activitySilence : exec .activitySilence s = .next (after s (activitySilenceRow s)) := engine_after activitySilenceRow s h

theorem exec_dovetailOutputEnable : exec .dovetailOutputEnable s = .next (after s (dovetailEnableRow s)) := engine_after dovetailEnableRow s h

theorem exec_bond (key : List Byte) : exec (.bond key) s = .next (after s (bondRow key s)) := engine_after (bondRow key) s h

theorem exec_bondConfirm : exec .bondConfirm s = .next (after s (bondConfirmRow s)) := engine_after bondConfirmRow s h

theorem exec_bondTimeout : exec .bondTimeout s = .next (after s (bondTimeoutRow s)) := engine_after bondTimeoutRow s h

theorem exec_relinquishResend : exec .relinquishResend s = .next (after s (relinquishResendRow s)) := engine_after relinquishResendRow s h

end

/-- Settles O32: each row by whether the pair is enabled, and by what it notes: heartbeat, activity, the pending bond and the RELINQUISH in
flight (R322, R324 to R326, R335, R339, R340, R349). -/
theorem pairLiveness : Obligations.PairLiveness := by
  intro s h
  rw [exec_heartbeatToggle h, exec_activityToggle h, exec_prHbIEdge h, exec_prActIEdge h, exec_heartbeatLoss h, exec_activitySilence h,
    exec_dovetailOutputEnable h, exec_bondConfirm h, exec_bondTimeout h, exec_relinquishResend h]
  refine ⟨fun hp hr hh => ?_, fun hp => ?_, fun hp hd => ?_, fun hp hd => ?_, fun hp hl => ?_, fun hp hl => ?_, fun hp hl => ?_, fun hl => ?_,
    fun hp hl => ?_, fun t u hp ht hu hd => ?_, fun t u hp ht hu hd => ?_, fun key hl hk hb => ?_, fun key hb => ?_, fun hl hb hk => ?_,
    fun hb => ?_, fun hb => ?_, fun hb => ?_, fun hw hn hl => ?_, fun ho hw => ?_, fun hp => ?_⟩
  · rw [heartbeatToggleRow_of_run hp hr hh]
  · rw [heartbeatToggleRow_of_unpaired hp, activityToggleRow_of_unpaired hp, hbEdgeRow_of_unpaired hp, actEdgeRow_of_unpaired hp,
      heartbeatLossRow_of_unpaired hp, activitySilenceRow_of_unpaired hp, dovetailEnableRow_of_unpaired hp]
    exact ⟨rfl, rfl, rfl, rfl, rfl, rfl, rfl⟩
  · rw [activityToggleRow_of_duty hp hd]
  · rw [activityToggleRow_of_rest hd]
  · rw [hbEdgeRow_of_heard hp hl]
  · rw [hbEdgeRow_of_lost hp hl]
  · rw [heartbeatLossRow_of_heard hp hl]
  · rw [heartbeatLossRow_of_lost hl]
  · rw [activitySilenceRow_of_active hp hl]
  · rw [actEdgeRow_of_paired hp (ht ▸ hu), if_pos hd]
  · rw [actEdgeRow_of_paired hp (ht ▸ hu), if_neg hd]
  · rw [exec_bond h, bondRow_of_pending hl hk hb]
  · rw [exec_bond h, bondRow_of_other hb]
  · rw [bondConfirmRow_of_key hl hb hk]
  · rw [bondConfirmRow_of_none hb]
  · rw [bondTimeoutRow_of_pending hb]
  · rw [bondTimeoutRow_of_none hb]
  · rw [relinquishResendRow_of_resend hw hn hl]
  · rw [relinquishResendRow_of_none ho hw]
  · rw [dovetailEnableRow_of_paired hp]

end Sys2Proof.Machine
end

section
/-!
SUPPORT. The rows of resets, of the start-up sequence and of the supplies (15_takeover.md R329, 16_nonvolatile.md R364 to R372,
17_thermal.md R383, 18_sentinel_power.md R388 to R393, 22_startup.md R471 to R477).
-/

namespace Sys2Proof.Machine

open Sys2Proof

/-! ## Power -/

theorem portOn_iff {s : State} : portOn s = true ↔ s.sys.power ≠ .standby ∧ s.sys.power ≠ .off := by simp [portOn]

theorem not_portOn_iff {s : State} : portOn s = false ↔ s.sys.power = .standby ∨ s.sys.power = .off := by
  cases h : s.sys.power <;> simp [portOn, h]

/-! ## Resets (R383, R388, R389, R467, R471) -/

section
variable {s : State} (st : Straps) (trim : Bool)

theorem porstRow_of_off (h : s.sys.power = .off) : porstRow st trim s = sysUpd (fun y => { y with pgood := true }) s := if_pos (by simp [sysUpd, h])

theorem porstRow_of_standby (h : s.sys.power = .standby) :
    porstRow st trim s = startSequence 0 st trim (leaveStandby 4 (sysUpd (fun y => { y with pgood := true }) s)) := by
  unfold porstRow
  rw [if_neg (by simp [sysUpd, h]), if_pos (by simp [sysUpd, h])]

theorem porstRow_of_powered (hoff : s.sys.power ≠ .off) (hsb : s.sys.power ≠ .standby) :
    porstRow st trim s = startSequence 0 st trim (sysUpd (fun y => { y with pgood := true }) s) := by
  unfold porstRow
  rw [if_neg (by simp [sysUpd, hoff]), if_neg (by simp [sysUpd, hsb])]

theorem resetNRow_of_unpowered (h : s.sys.power = .off ∨ s.sys.power = .standby) : resetNRow st trim s = s :=
  if_pos (by rcases h with h | h <;> simp [h])

theorem resetNRow_of_powered (hoff : s.sys.power ≠ .off) (hsb : s.sys.power ≠ .standby) : resetNRow st trim s = startSequence 1 st trim s :=
  if_neg (by simp [hoff, hsb])

theorem exec_porstNRelease : exec (.porstNRelease st trim) s = .next (after s (porstRow st trim s)) := done_after s _

theorem exec_resetNRelease : exec (.resetNRelease st trim) s = .next (after s (resetNRow st trim s)) := done_after s _

end

theorem sysResetRow_of_none {s : State} (h : s.sys.resetDue = none) : sysResetRow s = s := by rw [sysResetRow, h]

/-- A RELINQUISH that stands holds the reset off. -/
theorem sysResetRow_of_relinquish {s : State} (h : relinquishOut s = true) : sysResetRow s = s := by
  unfold sysResetRow
  split
  · rfl
  · exact if_pos h

theorem sysResetRow_of_due {s : State} {act : Nat} (h : s.sys.resetDue = some act) (hr : relinquishOut s = false) :
    sysResetRow s =
      if act = 1 then enterRecovery (startSequence (if act = 2 then 3 else 2) s.sys.straps (!s.sys.trimFail) s)
      else startSequence (if act = 2 then 3 else 2) s.sys.straps (!s.sys.trimFail) s := by
  rw [sysResetRow, h]
  exact if_neg (by simp [hr])

theorem autoRestartRow_of_barred {s : State} (h : restartAllowed s = false) : autoRestartRow s = s := if_pos (by simp [h])

/-- The restart is counted, and its time kept for an hour. -/
theorem autoRestartRow_of_allowed {s : State} (h : restartAllowed s = true) :
    autoRestartRow s = startSequence 4 s.sys.straps (!s.sys.trimFail)
      (thUpd (fun t => { t with restarts := sat32 t.restarts }) (snUpd (fun k => { k with
        autoAt := s.rtc.utc :: k.autoAt.filter (fun t => s.rtc.utc < t + 3600 * 32768) }) s)) := if_neg (by simp [h])

theorem exec_sysResetExecute {s : State} (h : portOn s = true) : exec .sysResetExecute s = .next (after s (sysResetRow s)) :=
  on_after sysResetRow s h

theorem exec_automaticRestart {s : State} (h : portOn s = true) : exec .automaticRestart s = .next (after s (autoRestartRow s)) :=
  on_after autoRestartRow s h

/-- Settles O37: each reset by the power state, the reset that is due and the RELINQUISH that stands, and the restart by its conditions
(R383, R388, R389, R467, R471 to R473, R476). -/
theorem resetRows : Obligations.ResetRows := by
  refine ⟨fun st trim s => ?_, fun s hp => ?_⟩
  · rw [exec_porstNRelease, exec_resetNRelease]
    refine ⟨fun hoff => ?_, fun hsb => ?_, fun hoff hsb => ?_, fun hno => ?_, fun hoff hsb => ?_⟩
    · rw [porstRow_of_off st trim hoff]
    · rw [porstRow_of_standby st trim hsb]
    · rw [porstRow_of_powered st trim hoff hsb]
    · rw [resetNRow_of_unpowered st trim hno]
    · rw [resetNRow_of_powered st trim hoff hsb]
  · rw [exec_sysResetExecute hp, exec_automaticRestart hp]
    refine ⟨fun hd => ?_, fun hr => ?_, fun hd hr => ?_, fun hd hr => ?_, fun hd hr => ?_, fun ha => ?_, fun ha => ?_⟩
    · rw [sysResetRow_of_none hd]
    · rw [sysResetRow_of_relinquish hr]
    · rw [sysResetRow_of_due hd hr, if_neg (by decide), if_neg (by decide)]
    · rw [sysResetRow_of_due hd hr, if_pos rfl, if_neg (by decide)]
    · rw [sysResetRow_of_due hd hr, if_neg (by decide), if_pos rfl]
    · rw [autoRestartRow_of_barred ha]
    · rw [autoRestartRow_of_allowed ha]

/-! ## Start-up (R329, R364, R473 to R477) -/

theorem supervisorUpRow_of_ready {s : State} (h : s.sys.ready = true) : supervisorUpRow s = s := if_pos (by simp [h])

/-- The state in which the supervisor is up and the host has its interrupt. -/
def readyRaised (s : State) : State := setIrq 0 (sysUpd (fun y => { y with ready := true }) s)

section
variable {s t : State} (hp : portOn s = true) (hr : s.sys.ready = false) (ht : t = if s.sys.recovery then s else selectImage s)
include hp hr ht

theorem supervisorUpRow_of_new : supervisorUpRow s = if t.sys.recovery || t.th.hold then readyRaised t else analogStartUp (readyRaised t) := by
  obtain ⟨hsb, hoff⟩ := portOn_iff.mp hp
  subst ht
  exact if_neg (by simp [hr, hsb, hoff])

theorem supervisorUpRow_of_running (hrec : t.sys.recovery = false) (hh : t.th.hold = false) :
    supervisorUpRow s = analogStartUp (readyRaised t) := by
  rw [supervisorUpRow_of_new hp hr ht, if_neg (by simp [hrec, hh])]

theorem supervisorUpRow_of_recovery (hrec : t.sys.recovery = true) : supervisorUpRow s = readyRaised t := by
  rw [supervisorUpRow_of_new hp hr ht, if_pos (by simp [hrec])]

end

theorem restoreRow_of_barred {s : State} (bad : List CfgKey)
    (h : s.sys.ready = false ∨ s.sys.recovery = true ∨ s.fenced = true ∨ s.sys.restored = true) : restoreRow bad s = s :=
  if_pos (by rcases h with h | h | h | h <;> simp [h])

/-- Steps 1 to 7 of R477. -/
def restoredFully (bad : List CfgKey) (s : State) : State :=
  heldEvents (sysUpd (fun y => { y with restored := true })
    (restoreAreas (adjustThr (landHanded (restoreRecords (loadConfig bad (replayJournal s)))))))

theorem restoreRow_of_ready {s : State} (bad : List CfgKey) (hr : s.sys.ready = true) (hrec : s.sys.recovery = false) (hf : s.fenced = false)
    (hres : s.sys.restored = false) (hh : s.th.hold = false) :
    restoreRow bad s =
      if pairEn (restoredFully bad s) then prUpd (fun p => { p with link := .train }) (restoredFully bad s) else restoredFully bad s :=
  if_neg (by simp [hr, hrec, hf, hres, hh])

theorem negotiateTimeoutRow_of_silent {s : State} (hr : s.pr.role = .negotiate) (hres : s.sys.restored = true) (ha : s.pr.actI = false)
    (hrec : s.sys.recovery = false) : negotiateTimeoutRow s = setRole (if ownFault s then .isolated else .simplex) 0 s :=
  if_pos (by simp [hr, hres, ha, hrec])

theorem negotiateTimeoutRow_of_other {s : State} (hr : s.pr.role ≠ .negotiate) : negotiateTimeoutRow s = s := if_neg (by simp [hr])

section
variable {s : State} (hp : portOn s = true)
include hp

theorem exec_supervisorUp : exec .supervisorUp s = .next (after s (supervisorUpRow s)) := on_after supervisorUpRow s hp

theorem exec_configurationRestore (bad : List CfgKey) : exec (.configurationRestore bad) s = .next (after s (restoreRow bad s)) :=
  on_after (restoreRow bad) s hp

theorem exec_negotiateTimeout : exec .negotiateTimeout s = .next (after s (negotiateTimeoutRow s)) := on_after negotiateTimeoutRow s hp

end

/-- Settles O38: the supervisor's start by READY, RECOVERY mode and the thermal hold, the restore by what bars it, and the end of the
negotiation by the role and the device's own faults (R329, R364, R473 to R475, R477). -/
theorem startUpRows : Obligations.StartUpRows := by
  intro s hp
  rw [exec_supervisorUp hp, exec_negotiateTimeout hp]
  refine ⟨fun hr => ?_, fun t hr hrec ht htrec hh => ?_, fun hr hrec => ?_, fun bad hb => ?_, fun bad t hr hrec hf hres hh ht hpair => ?_,
    fun hr hres ha hrec hf => ?_, fun hr hres ha hrec hf => ?_, fun hr => ?_⟩
  · rw [supervisorUpRow_of_ready hr]
  · rw [supervisorUpRow_of_running hp hr (by rw [hrec]; exact ht) htrec hh, readyRaised]
  · rw [supervisorUpRow_of_recovery hp hr (by rw [hrec]; rfl) hrec, readyRaised]
  · rw [exec_configurationRestore hp, restoreRow_of_barred bad hb]
  · have hfull : t = restoredFully bad s := ht
    rw [exec_configurationRestore hp, restoreRow_of_ready bad hr hrec hf hres hh, ← hfull, if_neg (by simp [hpair])]
  · rw [negotiateTimeoutRow_of_silent hr hres ha hrec, if_neg (by simp [hf])]
  · rw [negotiateTimeoutRow_of_silent hr hres ha hrec, if_pos hf]
  · rw [negotiateTimeoutRow_of_other hr]

/-! ## Supplies (R371, R372, R388, R389, R393) -/

theorem pfailFallRow_of_powered {s : State} (h : portOn s = true) :
    pfailFallRow s = fenceStore 1 (interruptPanel 0 (sysUpd (fun y => { y with pfailLow := true, pfailWait := false }) s)) := by
  obtain ⟨hsb, hoff⟩ := portOn_iff.mp h
  exact if_neg (by simp [sysUpd, hsb, hoff])

theorem pfailRiseRow_of_low {s : State} (h : s.sys.pfailLow = true) :
    pfailRiseRow s = sysUpd (fun y => { y with pfailLow := false, pfailWait := true }) s := if_pos h

theorem pfailRiseRow_of_high {s : State} (h : s.sys.pfailLow = false) : pfailRiseRow s = s := if_neg (by simp [h])

theorem fenceLiftRow_of_high {s : State} (h : s.sys.pfailLow = false) :
    fenceLiftRow s = liftFence (sysUpd (fun y => { y with pfailWait := false }) s) := if_neg (by simp [h])

theorem fenceLiftRow_of_low {s : State} (h : s.sys.pfailLow = true) : fenceLiftRow s = s := if_pos h

/-- The cut of the domains by PGOOD_CORE. -/
theorem pgoodFallRow_of_powered {s : State} (h : portOn s = true) :
    pgoodFallRow s = enterStandby 2 (fenceStore 1 (interruptPanel 1 (sysUpd (fun y => { y with pgood := false }) s))) := by
  obtain ⟨hsb, hoff⟩ := portOn_iff.mp h
  unfold pgoodFallRow
  dsimp only [sysUpd]
  split
  · next hpow => exact absurd hpow hsb
  · next hpow => exact absurd hpow hoff
  · rfl

theorem pgoodFallRow_of_unpowered {s : State} (h : portOn s = false) : pgoodFallRow s = sysUpd (fun y => { y with pgood := false }) s := by
  unfold pgoodFallRow
  rcases not_portOn_iff.mp h with hpow | hpow <;> simp only [sysUpd, hpow]

theorem vaonLossRow_of_on {s : State} (h : s.sys.power ≠ .off) :
    vaonLossRow s = sysUpd (fun y => { y with power := .off, scrub := 0 }) { coldState (retentionLost s) with live := [] } := if_neg (by simp [h])

theorem vaonLossRow_of_off {s : State} (h : s.sys.power = .off) : vaonLossRow s = s := if_pos (by simp [h])

theorem vaonOnRow_of_off {s : State} (h : s.sys.power = .off) : vaonOnRow s = sysUpd (fun y => { y with power := .standby }) s :=
  if_pos (by simp [h])

theorem vaonOnRow_of_on {s : State} (h : s.sys.power ≠ .off) : vaonOnRow s = s := if_neg (by simp [h])

section
variable {s : State} (hp : portOn s = true)
include hp

theorem exec_pfailNFall : exec .pfailNFall s = .next (after s (pfailFallRow s)) := on_after pfailFallRow s hp

theorem exec_pfailNRise : exec .pfailNRise s = .next (after s (pfailRiseRow s)) := on_after pfailRiseRow s hp

theorem exec_fenceLift : exec .fenceLift s = .next (after s (fenceLiftRow s)) := on_after fenceLiftRow s hp

end

theorem exec_pgoodCoreFall (s : State) : exec .pgoodCoreFall s = .next (after s (pgoodFallRow s)) := done_after s _

theorem exec_vaonLoss (s : State) : exec .vaonLoss s = .next (after s (vaonLossRow s)) := done_after s _

theorem exec_vaonPowerOn (s : State) : exec .vaonPowerOn s = .next (after s (vaonOnRow s)) := done_after s _

/-- Settles O39: PFAIL_N by its level, and PGOOD_CORE and VAON by the power state (R371, R372, R388, R389, R393). -/
theorem powerRows : Obligations.PowerRows := by
  refine ⟨fun s hp => ?_, fun s => ?_⟩
  · rw [exec_pfailNFall hp, exec_pfailNRise hp, exec_fenceLift hp]
    refine ⟨?_, fun hl => ?_, fun hl => ?_, fun hl => ?_, fun hl => ?_⟩
    · rw [pfailFallRow_of_powered hp]
    · rw [pfailRiseRow_of_low hl]
    · rw [pfailRiseRow_of_high hl]
    · rw [fenceLiftRow_of_high hl]
    · rw [fenceLiftRow_of_low hl]
  · rw [exec_pgoodCoreFall, exec_vaonLoss, exec_vaonPowerOn]
    refine ⟨fun hp => ?_, fun hp => ?_, fun t hoff ht => ?_, fun hoff => ?_, fun hoff => ?_, fun hoff => ?_⟩
    · rw [pgoodFallRow_of_powered hp]
    · rw [pgoodFallRow_of_unpowered hp]
    · rw [vaonLossRow_of_on hoff, ht]
    · rw [vaonLossRow_of_off hoff]
    · rw [vaonOnRow_of_off hoff]
    · rw [vaonOnRow_of_on hoff]

end Sys2Proof.Machine
end

section
/-!
SUPPORT. The rows of the thermal monitor and of the sentinel (17_thermal.md R375 to R378, 18_sentinel_power.md R392, R396 to R399).
-/

namespace Sys2Proof.Machine

open Sys2Proof

/-! ## The sensor window (R375 to R378) -/

/-- The readings of a window are taken and judged, and one more window has passed since the last report. -/
def windowTaken (r : List Int) (counts : List Nat) (s : State) : State :=
  thUpd (fun t => { t with sinceRep := min (t.sinceRep + 1) 64 })
    (forRange 3 judgeSensor (forRange 3 (fun i s => newReading i (r.getD i 0) (counts.getD i 0) s) (newThCfg s)))

/-- The throttle follows the hottest sensor, where one has a reading. -/
def throttledByHottest (t : State) : State := match hottest t with | some (_, x) => throttle x t | none => t

/-- A window that ends throttled is counted. -/
def windowCounted (t : State) : State := when (decide (0 < t.th.level)) (thUpd (fun t => { t with throttled := sat32 t.throttled })) t

theorem windowCounted_of_cool {t : State} (h : t.th.level = 0) : windowCounted t = t := if_neg (by simp [h])

theorem windowCounted_of_throttled {t : State} (h : 0 < t.th.level) :
    windowCounted t = thUpd (fun t => { t with throttled := sat32 t.throttled }) t := if_pos (by simp [h])

theorem throttledByHottest_of_none {t : State} (h : hottest t = none) : throttledByHottest t = t := by rw [throttledByHottest, h]

theorem throttledByHottest_of_some {t : State} {i : Nat} {x : Int} (h : hottest t = some (i, x)) : throttledByHottest t = throttle x t := by
  rw [throttledByHottest, h]

section
variable {s : State} (hp : portOn s = true)
include hp

theorem sensorWindowRow_of_powered (r : List Int) (counts : List Nat) :
    sensorWindowRow r counts s = tripCheck (windowCounted (throttledByHottest (windowTaken r counts s))) := by
  obtain ⟨hsb, hoff⟩ := portOn_iff.mp hp
  exact if_neg (by simp [hsb, hoff])

theorem exec_sensorWindow (r : List Int) (counts : List Nat) :
    exec (.sensorWindow r counts) s = .next (after s (sensorWindowRow r counts s)) := on_after (sensorWindowRow r counts) s hp

theorem exec_throttleReport : exec .throttleReport s = .next (after s (throttleReportRow s)) := on_after throttleReportRow s hp

end

theorem throttleReportRow_of_due {s : State} (hu : s.th.unreported = true) (h64 : 64 ≤ s.th.sinceRep) :
    throttleReportRow s = reportThrottle s := if_pos (by simp [hu, h64])

theorem throttleReportRow_of_other {s : State} (h : s.th.unreported = false ∨ s.th.sinceRep < 64) : throttleReportRow s = s :=
  if_neg (by rcases h with h | h <;> simp [h])

/-- Settles O41: a window by the hottest sensor and the throttle it leads to, and a report by what is unreported and the windows since
(R375, R376, R378). -/
theorem thermalRows : Obligations.ThermalRows := by
  refine ⟨fun r n s t hp ht => ?_, fun s hp => ?_⟩
  · have htaken : t = windowTaken r n s := ht
    rw [exec_sensorWindow hp, sensorWindowRow_of_powered hp, ← htaken]
    refine ⟨fun hh hl => ?_, fun i x hh hl => ?_, fun i x hh hl => ?_⟩
    · rw [throttledByHottest_of_none hh, windowCounted_of_cool hl]
    · rw [throttledByHottest_of_some hh, windowCounted_of_cool hl]
    · rw [throttledByHottest_of_some hh, windowCounted_of_throttled hl]
  · rw [exec_throttleReport hp]
    refine ⟨fun hu h64 => ?_, fun ho => ?_⟩
    · rw [throttleReportRow_of_due hu h64, reportThrottle]
    · rw [throttleReportRow_of_other ho]

/-! ## The sentinel (R396 to R399) -/

theorem sentinelTickRow_of_off {s : State} (h : s.sys.power = .off) (sup : List Nat) (wake : List Bool) (mv : Nat) :
    sentinelTickRow sup wake mv s = s := if_pos (by simp [h])

/-- The samples of a tick: the supervised channels in STANDBY, then the wake channels, the edges noted, and VAON. -/
def tickSampled (sup : List Nat) (wake : List Bool) (mv : Nat) (l : State) : State :=
  tickVaon mv (logEdges (forRange 4 (fun i s =>
    if chanFld s (4 + i) 0 1 == 1 && chanFld s (4 + i) 2 1 == 0 then
      tickChan (4 + i) (if wake.getD i false != (chanFld s (4 + i) 1 1 == 1) then 255 else 0) s
    else s)
    (forRange 4 (fun n s =>
      if (l.sys.power == .standby && liveBit l Kind.sn 0 1 && !l.sn.pairEn) && chanFld s n 0 1 == 1 then tickChan n (sup.getD n 0 / 4) s
      else s) l)))

/-- The sentinel wakes by the channel that a tick turns to a state that wakes. -/
def wokenByChannel (l u : State) : State :=
  match wakeChannel l u with
  | some n => wakeBy 1 n (u.sn.chan.get n).state u
  | none => u

section
variable {s t : State} (hoff : s.sys.power ≠ .off) (ht : t = takeDue [Kind.sn] s) (sup : List Nat) (wake : List Bool) (mv : Nat)
include hoff ht

theorem sentinelTickRow_of_disabled (he : senEnable t = false) : sentinelTickRow sup wake mv s = t := by
  subst ht
  exact (if_neg (by simp [hoff])).trans (if_pos (by simp [he]))

theorem sentinelTickRow_of_enabled (he : senEnable t = true) :
    sentinelTickRow sup wake mv s = wokenByChannel (latchOuts t) (tickSampled sup wake mv (latchOuts t)) := by
  subst ht
  exact (if_neg (by simp [hoff])).trans (if_neg (by simp [he]))

end

section
variable {s : State} {i : Nat}

theorem senEdgeRow_of_active {r : Bool} (hoff : s.sys.power ≠ .off) (hen : chanFld s (4 + i) 0 1 = 1) (hedge : chanFld s (4 + i) 2 1 = 1)
    (ha : (r != (chanFld s (4 + i) 1 1 == 1)) = true) :
    senEdgeRow i r s = wakeBy 2 (4 + i) 2 (snUpd (fun k => { k with edges := k.edges ++ [(4 + i, asleep s)] }) s) := by
  unfold senEdgeRow
  dsimp only
  rw [ha, hen, hedge, if_neg (by simp [hoff])]

theorem senEdgeRow_of_disabled (h : chanFld s (4 + i) 0 1 ≠ 1 ∨ chanFld s (4 + i) 2 1 ≠ 1) (r : Bool) : senEdgeRow i r s = s :=
  if_pos (by rcases h with h | h <;> simp [h])

end

/-! ## The alarm and the crystal (R391, R392) -/

theorem rtcAlarmRow_of_due {s : State} {u : Nat} (h : s.rtc.alarm = some u) (hu : u ≤ s.rtc.utc) :
    rtcAlarmRow s = wakeBy 3 0 0 { s with rtc := { s.rtc with alarm := none } } := by
  rw [rtcAlarmRow, h]
  exact if_pos hu

theorem rtcAlarmRow_of_other {s : State} (h : s.rtc.alarm = none ∨ ∃ u, s.rtc.alarm = some u ∧ s.rtc.utc < u) : rtcAlarmRow s = s := by
  rcases h with h | ⟨u, h, hu⟩
  · rw [rtcAlarmRow, h]
  · rw [rtcAlarmRow, h]
    exact if_neg (Nat.not_le.mpr hu)

theorem crystalFailRow_of_running {s : State} (h : s.rtc.xtalFail = false) (hoff : s.sys.power ≠ .off) :
    crystalFailRow s = raise 2 0xFE [ef 8 s.rtc.utc] { s with rtc := { s.rtc with xtalFail := true } } := if_neg (by simp [h, hoff])

theorem crystalFailRow_of_failed {s : State} (h : s.rtc.xtalFail = true) : crystalFailRow s = s := if_pos (by simp [h])

theorem exec_sentinelTick (sup : List Nat) (wake : List Bool) (mv : Nat) (s : State) :
    exec (.sentinelTick sup wake mv) s = .next (after s (sentinelTickRow sup wake mv s)) := done_after s _

theorem exec_senWakeEdge (n : Fin 4) (r : Bool) (s : State) : exec (.senWakeEdge n r) s = .next (after s (senEdgeRow n.val r s)) :=
  done_after s _

theorem exec_rtcAlarm (s : State) : exec .rtcAlarm s = .next (after s (rtcAlarmRow s)) := done_after s _

theorem exec_crystalFail (s : State) : exec .crystalFail s = .next (after s (crystalFailRow s)) := done_after s _

/-- Settles O42: a tick by VAON, the sentinel's enable and the channel that wakes, an edge by its channel's configuration, the alarm by its
time, and the crystal by whether it has failed (R392, R396, R398, R399). -/
theorem sentinelRows : Obligations.SentinelRows := by
  intro s
  rw [exec_rtcAlarm, exec_crystalFail]
  refine ⟨fun sup wk mv hoff => ?_, fun sup wk mv hoff he => ?_, fun sup wk mv t l u hoff ht he hl hu => ?_, fun i r hoff hen hedge ha => ?_,
    fun i r hd => ?_, fun u ha hu => ?_, fun ha => ?_, fun hx hoff => ?_, fun hx => ?_, done_after s _, done_after s _⟩
  · rw [exec_sentinelTick, sentinelTickRow_of_off hoff]
  · rw [exec_sentinelTick, sentinelTickRow_of_disabled hoff rfl sup wk mv he]
  · have hsampled : u = tickSampled sup wk mv l := hu
    rw [exec_sentinelTick, sentinelTickRow_of_enabled hoff ht sup wk mv he, ← hl, ← hsampled, wokenByChannel]
    refine ⟨fun hw => ?_, fun n hw => ?_⟩
    · rw [hw]
    · rw [hw]
  · rw [exec_senWakeEdge, senEdgeRow_of_active hoff hen hedge ha]
  · rw [exec_senWakeEdge, senEdgeRow_of_disabled hd]
  · rw [rtcAlarmRow_of_due ha hu]
  · rw [rtcAlarmRow_of_other ha]
  · rw [crystalFailRow_of_running hx hoff]
  · rw [crystalFailRow_of_failed hx]

end Sys2Proof.Machine
end

section
/-!
SUPPORT. Packets on the benches that keep what they hold (19_host_port.md R419, R424, R431, R432, R434): what a write changes of its own
bench, and that the ALARM_BACKLOG it may cause changes another.
-/

namespace Sys2Proof.Machine

open Sys2Proof

/-! ## One bench of the port -/

theorem benchUpd_self (b : Nat) (f : Bench → Bench) (s : State) : (benchUpd b f s).port.bench.get b = f (s.port.bench.get b) :=
  Tab.get_upd_self _ _ _

theorem benchUpd_other {b c : Nat} (hc : c ≠ b) (f : Bench → Bench) (s : State) :
    (benchUpd b f s).port.bench.get c = s.port.bench.get c := Tab.get_set_other _ _ _ _ hc

theorem evalWmark_bench (s : State) : (evalWmark s).port.bench = s.port.bench := by
  unfold evalWmark
  dsimp only
  split <;> rfl

theorem storePacket_bench (b : Nat) (p : Packet) (s : State) :
    (storePacket b p s).port.bench =
      (benchUpd b (fun q => { q with store := q.store ++ [.packet p], written := sat32 q.written }) s).port.bench :=
  evalWmark_bench _

theorem storePacket_other {b c : Nat} (hc : c ≠ b) (p : Packet) (s : State) :
    (storePacket b p s).port.bench.get c = s.port.bench.get c := by
  rw [storePacket_bench, benchUpd_other hc]

/-! ## Room on a bench that overwrites touches that bench only (R432) -/

theorem loseMark_bench (b : Nat) (q : Bench) (p : Port) : (loseMark b q p).bench = p.bench := by
  unfold loseMark
  split <;> rfl

section
variable {b c : Nat} (hc : c ≠ b)
include hc

theorem dropRead_other (p : Port) : (dropRead b p).bench.get c = p.bench.get c := by
  unfold dropRead
  dsimp only
  split
  · rfl
  · rw [Tab.get_set_other _ _ _ _ hc]
    split
    · rw [loseMark_bench]
    · rfl

theorem dropUnread_other (p : Port) : (dropUnread b p).bench.get c = p.bench.get c := by
  unfold dropUnread
  dsimp only
  split
  · rfl
  · split
    · rw [Tab.get_set_other _ _ _ _ hc]
      split
      · rw [loseMark_bench]
      · rfl
    · rfl

theorem makeRoom_other (n fuel : Nat) (p : Port) : (makeRoom b n fuel p).bench.get c = p.bench.get c := by
  induction fuel generalizing p with
  | zero => rfl
  | succ fuel ih =>
    unfold makeRoom
    dsimp only
    split
    · rfl
    · split
      · rw [ih, dropRead_other hc]
      · rw [ih, dropUnread_other hc]

/-- A packet written to a bench that overwrites leaves every other bench as it is. -/
theorem writeOver_other (typ detail : Nat) (body : List U64) (s : State) :
    (writeOver b typ detail body s).port.bench.get c = s.port.bench.get c := by
  obtain ⟨-, -, -, hother⟩ := takeSeq_bench b s
  unfold writeOver
  dsimp only
  rw [storePacket_other hc, makeRoom_other hc, hother c hc]

end

/-! ## A packet on bench 0 or 1 (R431) -/

/-- The packet that a write to bench b makes. -/
def packetFor (b typ detail : Nat) (body : List U64) (s : State) : Packet :=
  { typ := typ, detail := detail, seq := (s.port.bench.get b).next, body := body }

/-- The state in which that packet has joined the backlog of bench b. -/
def backlogJoined (b typ detail : Nat) (body : List U64) (s : State) : State :=
  benchUpd b (fun q => { q with backlog := q.backlog ++ [{ typ := typ, detail := detail, seq := q.next, body := body }] }) s

section
variable {b : Nat} (typ detail : Nat) (body : List U64) {s : State}

theorem writePacket_kept (hb : b ≤ 1) (hrec : s.sys.recovery = false) (hsb : s.sys.power ≠ .standby) (hoff : s.sys.power ≠ .off) :
    writePacket b typ detail body s = writeKeep b typ detail body s :=
  (if_neg (by simp [hrec, hsb, hoff])).trans (if_pos hb)

theorem writeKeep_of_room (he : (s.port.bench.get b).backlog = []) (hr : hasRoom b (body.length + 1) s = true) :
    writeKeep b typ detail body s = storePacket b (packetFor b typ detail body s) (takeSeq b s) :=
  if_pos (by simp [he, hr])

theorem writeKeep_of_waiting (hw : (s.port.bench.get b).backlog ≠ [] ∨ hasRoom b (body.length + 1) s = false)
    (hn : (s.port.bench.get b).backlog.length < 256) :
    writeKeep b typ detail body s =
      let t := takeSeq b (backlogJoined b typ detail body s)
      if (s.port.bench.get b).backlog.isEmpty then writeOver 2 0x05 b (stamp t :: pack [ef 2 1]) (setIrq 7 t) else t := by
  have hwait : ¬ ((s.port.bench.get b).backlog.isEmpty && hasRoom b (body.length + 1) s) = true := by rcases hw with hw | hw <;> simp [hw]
  exact (if_neg hwait).trans (if_pos hn)

theorem writeKeep_of_full (hn : 256 ≤ (s.port.bench.get b).backlog.length) :
    writeKeep b typ detail body s = benchUpd b (fun q => { q with
      lost := Tab.upd q.lost typ sat32, spoil := min (q.spoil + (body.length + 1)) 0xFFFFFFFF }) s := by
  have hne : (s.port.bench.get b).backlog ≠ [] := fun he => by rw [he] at hn; exact absurd hn (by decide)
  exact (if_neg (by simp [hne])).trans (if_neg (by omega))

/-- The alarm of the first entry into an empty backlog goes to bench 2. -/
theorem writeKeep_of_waiting_bench (hb : b ≤ 1) (hw : (s.port.bench.get b).backlog ≠ [] ∨ hasRoom b (body.length + 1) s = false)
    (hn : (s.port.bench.get b).backlog.length < 256) :
    (writeKeep b typ detail body s).port.bench.get b = (takeSeq b (backlogJoined b typ detail body s)).port.bench.get b := by
  rw [writeKeep_of_waiting typ detail body hw hn]
  dsimp only
  split
  · rw [writeOver_other (by omega)]
    rfl
  · rfl

end

/-- Settles O58: a packet of bench 0 or 1 by whether its backlog is empty, its storage has room, and the backlog has room (R419, R424,
R431, R434). -/
theorem eventStream : Obligations.EventStream := by
  intro b typ detail body s hb hrec hsb hoff
  rw [writePacket_kept typ detail body hb hrec hsb hoff]
  refine ⟨fun he hr => ?_, fun hw hn => ?_, fun hn => ?_⟩
  · obtain ⟨hstore, hbacklog, hnext, -⟩ := takeSeq_bench b s
    rw [writeKeep_of_room typ detail body he hr, storePacket_bench, benchUpd_self]
    dsimp only
    rw [hstore, hbacklog, hnext]
    exact ⟨rfl, rfl, he⟩
  · obtain ⟨hstore, hbacklog, hnext, -⟩ := takeSeq_bench b (backlogJoined b typ detail body s)
    rw [writeKeep_of_waiting_bench typ detail body hb hw hn, hstore, hbacklog, hnext, backlogJoined, benchUpd_self]
    exact ⟨rfl, rfl, rfl⟩
  · exact writeKeep_of_full typ detail body hn

end Sys2Proof.Machine
end

section
/-!
SUPPORT. The cards of the panel driver and of the pair (13_panel.md R288, R295 to R308, 14_pair.md R320 to R327, 15_takeover.md R339, R344):
the card of each opcode, what its body does where its checks hold, and what it refuses.
-/

namespace Sys2Proof.Machine

open Sys2Proof

/-! ## The cards of the opcodes (R456) -/

theorem cardOf_pnSetCfg : cardOf 0x0D00 = some (jcard 0x0D00 (fixed 16) cardPnSetCfg) := rfl
theorem cardOf_pnLoadTable : cardOf 0x0D01 = some (jcard 0x0D01 (fixed 4) cardPnTable) := rfl
theorem cardOf_pnOpen : cardOf 0x0D02 = some (act 0x0D02 12 cardPnOpen) := rfl
theorem cardOf_pnLines : cardOf 0x0D03 = some (act 0x0D03 12 cardPnLines) := rfl
theorem cardOf_pnStart : cardOf 0x0D04 = some (act 0x0D04 4 cardPnStart) := rfl
theorem cardOf_pnDiscard : cardOf 0x0D05 = some (act 0x0D05 4 cardPnDiscard) := rfl
theorem cardOf_pnGetStatus : cardOf 0x0D06 = some (act 0x0D06 0 cardPnStatus) := rfl
theorem cardOf_prSetCfg : cardOf 0x0E00 = some (jcard 0x0E00 (fixed 8) cardPrSetCfg) := rfl
theorem cardOf_prBond : cardOf 0x0E01 = some (jcard 0x0E01 (fixed 8) cardPrBond) := rfl
theorem cardOf_prRole : cardOf 0x0E02 = some (act 0x0E02 4 cardPrRole) := rfl
theorem cardOf_prGetStatus : cardOf 0x0E03 = some (act 0x0E03 0 cardPrStatus) := rfl

section
variable {org : Origin} {l : Nat} {p : List Byte} {t : State}

/-! ## PN_SET_CFG and PN_LOAD_TABLE (R288, R295, R308) -/

theorem cardPnSetCfg_ranged {x : Img} (hx : x = le p 0 16) (hk : keeps pnFields x = true)
    (hband : (!tableCommitted t || bandValid (cfgImg t Kind.wave 0) (fld x 12 4)) = true)
    (hfit : fld x 24 10 * (32 * fld x 16 6 / 8 + 40) * fld x 36 5 ≤ 1300000)
    (hpoint : (flag (cfgImg t Kind.point (fld x 64 17)) 42 && fld (cfgImg t Kind.point (fld x 64 17)) 40 2 == 0) = true) :
    cardPnSetCfg org l p t =
      if (List.range 16).any (fun k => (t.region k).state != .free) then (t, .no St.busy 0)
      else journalArg org true 0 [wr Kind.pn 0 x] [] t := by
  subst hx
  unfold cardPnSetCfg
  exact ranged_ok _ _ _ (by
    simp only [allOk_append, allOk_cons, allOk_nil, allOk_mapped, hk, hband, hfit, hpoint, decide_true, Bool.and_true])

/-- A part of the table is staged, and COMMIT alone checks it. -/
theorem cardPnTable_stages (hpart : le p 0 1 ≤ 2) (hz : zeroed p 1 3 = true) :
    cardPnTable org l p t = (pnUpd (stagePart (le p 0 1) t) t, .ok []) := by
  have hle : le p 0 1 ≤ 3 := by omega
  unfold cardPnTable
  dsimp only
  rw [ranged_ok _ _ _ (by simp only [allOk_append, allOk_cons, allOk_nil, allOk_zero, hle, hz, decide_true, Bool.and_true]), if_neg (by omega)]

/-! ## The cards of a region (R296 to R304) -/

/-- The rectangle of PN_OPEN overlaps one of a region that loads or is armed. -/
def openOverlaps (t : State) (x y w h : Nat) : Bool :=
  (List.range 16).any (fun k => ((t.region k).state == .loading || (t.region k).state == .armed) && overlaps (t.region k) x y w h)

theorem cardPnOpen_ranged {x y w h : Nat} (hx : x = le p 0 2) (hy : y = le p 2 2) (hw : w = le p 4 2) (hh : h = le p 6 2)
    (hcol : (x % 8 == 0 && decide (x < pnW t)) = true) (hrow : y < pnH t) (hwide : (w % 8 == 0 && decide (0 < w ∧ x + w ≤ pnW t)) = true)
    (hhigh : 0 < h ∧ y + h ≤ pnH t) (h8 : le p 8 1 ≤ 1) (h9 : le p 9 1 ≤ 1) (hz : zeroed p 10 2 = true) :
    cardPnOpen org l p t =
      if !t.duty then (t, .no St.role 0)
      else if !tableCommitted t then (t, .no St.noTable 0)
      else if openOverlaps t x y w h then (t, .no St.regionState 0)
      else (freeRegion t).elim (t, .no St.busy 0) (fun k =>
        (regionUpd k (fun _ => { state := .loading, x := x, y := y, w := w, h := h, state4 := le p 8 1 == 1, balance := le p 9 1 == 1 }) t,
          .ok (leBytes 1 k))) := by
  subst hx hy hw hh
  unfold cardPnOpen
  dsimp only
  rw [ranged_ok _ _ _ (by
    simp only [allOk_append, allOk_cons, allOk_nil, allOk_zero, hcol, hrow, hwide, hhigh, h8, h9, hz, and_self, decide_true, Bool.and_true])]
  cases freeRegion t <;> rfl

/-- PN_LINES of a LOADING region on a device with duty, whose lines lie in the region and in the bulk window. -/
theorem cardPnLines_loading {k first count off : Nat} {g : Region} (hk : k = le p 0 1) (hfirst : first = le p 2 2) (hcount : count = le p 4 2)
    (hoff : off = le p 8 4) (hg : g = t.region k) (h15 : k ≤ 15) (hz1 : zeroed p 1 1 = true) (hz6 : zeroed p 6 2 = true) (hd : t.duty = true)
    (hload : g.state = .loading) (hrows : first + count ≤ g.h) (hbulk : off + count * (if g.state4 then g.w / 2 else g.w) ≤ 65536) :
    cardPnLines org l p t =
      if (lineStates t g first count off).any (fun c => decide (pnStates t ≤ c.2)) then (t, .no St.range 8)
      else
        let u := forAll (lineStates t g first count off) (fun c s => setTarget c.1 c.2 s) t
        if 20480 < pendEntries u then (t, .no St.noResource 0) else (u, .ok (leBytes 4 (pendEntries u))) := by
  subst hk hfirst hcount hoff hg
  unfold cardPnLines
  dsimp only
  rw [ranged_ok _ _ _ (by simp only [allOk_append, allOk_cons, allOk_nil, allOk_zero, h15, hz1, hz6, decide_true, Bool.and_true]),
    if_neg (by simp [hd]), if_neg (by simp [hload]),
    ranged_ok _ _ _ (by simp only [allOk_cons, allOk_nil, hrows, hbulk, or_true, decide_true, Bool.and_true])]

/-- The region is armed for the next half cycle, at the band of the temperature. -/
def regionArmed (k : Nat) (t : State) : State := regionUpd k (fun g => { g with state := .armed, band := bandNow t, start := nextHalf t }) t

/-- The target rectangle of a region and its start go to MRAM (R298, R365). -/
def targetsSaved (k : Nat) (els : List Nat) (t : State) : State :=
  pnUpd (fun q => { q with
    nvTarget := els.foldl (fun m e => m.set e (q.target.get e)) q.nvTarget
    started := q.started.set k (some (q.region.get k).record) }) (mramBytes (els.length / 2) t)

section
variable (hk : le p 0 1 ≤ 15) (hz : zeroed p 1 3 = true)
include hk hz

theorem cardPnStart_ranged : cardPnStart org l p t =
    if !t.duty then (t, .no St.role 0)
    else if (t.region (le p 0 1)).state != .loading then (t, .no St.regionState 0)
    else if t.fenced then (t, .no St.fenced 0)
    else (markDirty 5 (le p 0 1) (submit { typ := .panelStart, arg := le p 0 1 }
      (targetsSaved (le p 0 1) (regElems t (le p 0 1)) (regionArmed (le p 0 1) t))), .wait (.region (le p 0 1))) := by
  unfold cardPnStart
  exact ranged_ok _ _ _ (by simp only [allOk_append, allOk_cons, allOk_nil, allOk_zero, hk, hz, decide_true, Bool.and_true])

theorem cardPnDiscard_ranged : cardPnDiscard org l p t =
    if !t.duty then (t, .no St.role 0)
    else if (t.region (le p 0 1)).state != .loading then (t, .no St.regionState 0)
    else (discardRegion 0 (le p 0 1) t, .ok []) := by
  unfold cardPnDiscard
  exact ranged_ok _ _ _ (by simp only [allOk_append, allOk_cons, allOk_nil, allOk_zero, hk, hz, decide_true, Bool.and_true])

end

/-! ## PR_SET_CFG and PR_BOND (R320, R322) -/

theorem cardPrSetCfg_ranged (hk : keeps prFields (le p 0 8) = true) :
    cardPrSetCfg org l p t = if !allNormal t then (t, .no St.busy 0) else journalArg org false 0 [wr Kind.pr 0 (le p 0 8)] [] t := by
  unfold cardPrSetCfg
  exact ranged_ok _ _ _ (by rw [allOk_mapped, hk])

/-- PR_BOND of a fingerprint that is not the device's own, with every area NORMAL and a store that takes records. -/
theorem cardPrBond_of_free {fp : U64} (hfp : fp = BitVec.ofNat 64 (le p 0 8)) (hown : (fp != Config.ownFingerprint) = true)
    (hn : allNormal t = true) (hf : t.fenced = false) : cardPrBond org l p t =
      if fp == 0 then
        (submit { typ := .keys, arg := 0, org := some org } (prUpd (fun q => { q with bondPend := none, bondKey := [] })
          (completeWait .bond St.bondTimeout 0 [] t)), .wait .journal)
      else
        (sendBond .bond (prUpd (fun q => { q with bondPend := some fp, bondKey := [] }) (completeWait .bond St.bondTimeout 0 [] t)),
          .wait .bond) := by
  subst hfp
  unfold cardPrBond
  dsimp only
  rw [ranged_ok _ _ _ (by simp only [allOk_cons, allOk_nil, hown, Bool.and_true]), if_neg (by simp [hn]), if_neg (by simp [hf])]

/-! ## PR_ROLE (R327, R339, R344) -/

/-- The answer of PR_ROLE: the role that the device has now. -/
def roleAnswer (u : State) : State × Res := (u, .ok [u8 u.pr.role.code])

/-- The device is isolated and hands its duty on. -/
def isolatedByHost (t : State) : State :=
  roleSettle (releaseDuty .isolated 3 (prUpd (fun q => { q with isolated := true, eligible := false }) t))

/-- The host's isolation ends: a device without a pair has the duty alone, unless a fault or NAP isolates it. -/
def releasedByHost (t : State) : State :=
  let v := prUpd (fun q => { q with isolated := false }) t
  if t.pr.role == .isolated && !pairEn t && !ownFault v && !t.pr.napIso then setRole .simplex 3 v else roleSettle v

section
variable (hforce : le p 1 1 ≤ 1) (hz : zeroed p 2 2 = true)
include hforce hz

/-- A swap that every check of R349 lets through waits for the cycle boundary. -/
theorem cardPrRole_swaps (ha : le p 0 1 = 0) (hrole : (t.pr.role != .active) = false) (hn : allNormal t = true)
    (hl : (t.pr.link != .up) = false) (hpart : (t.pr.pEligible && t.pr.pRole == .standby) = true)
    (hmir : (!t.pr.synced || t.pr.snapDue != 0) = false) :
    cardPrRole org l p t = (prUpd (fun q => { q with swapDue := true }) t, .wait .swap) := by
  unfold cardPrRole
  dsimp only
  rw [ranged_ok _ _ _ (by simp [allOk_zero, hz, ha, hforce]), ha, if_neg (by simp [hrole]), if_neg (by simp [hn]), if_neg (by simp [hl]),
    if_neg (by simp [hpart]), if_neg (by simp [hmir])]
  rfl

theorem cardPrRole_one (ha : le p 0 1 = 1) : cardPrRole org l p t =
    if t.pr.role == .simplex && !(le p 1 1 % 2 == 1) then (t, .no St.notEligible 0)
    else if (le p 1 1 % 2 == 1) && !allNormal t then (t, .no St.busy 0)
    else roleAnswer (isolatedByHost t) := by
  unfold cardPrRole
  dsimp only
  rw [ranged_ok _ _ _ (by simp [allOk_zero, hz, ha, hforce]), ha]
  rfl

theorem cardPrRole_two (ha : le p 0 1 = 2) : cardPrRole org l p t = roleAnswer (releasedByHost t) := by
  unfold cardPrRole
  dsimp only
  rw [ranged_ok _ _ _ (by simp [allOk_zero, hz, ha, hforce]), ha]
  exact (apply_ite roleAnswer _ _ _).symm

end
end

/-- Settles O54: each card, taken at once, by the checks that its record, the table, the regions, the duty and the role pass (R288, R295,
R303, R304, R308, R320, R327, R339, R344). -/
theorem panelAndPairCards : Obligations.PanelAndPairCards := by
  intro r p s t
  refine ⟨?_, ?_, ?_, ?_, ?_, ?_, ?_, ?_, ?_, ?_, ?_, ?_, ?_, ?_, ?_, ?_, ?_, ?_⟩
  · rintro x pt h hx rfl hk hband hfit hpoint hfree hr
    refine takes_recorded _ cardOf_pnSetCfg (by decide) h hr ?_
    rw [jcard_body, cardPnSetCfg_ranged hx hk hband hfit hpoint, hfree]
    rfl
  · rintro part w h rfl rfl hpart hz
    refine takes_ok _ cardOf_pnLoadTable (by decide) h ?_
    rw [jcard_body, cardPnTable_stages hpart hz]
    rfl
  · rintro h hpart hz hfault hfree hr
    refine takes_recorded _ cardOf_pnLoadTable (by decide) h hr ?_
    rw [jcard_body, cardPnTable_commit _ _ _ _ hpart hz, commitTable_ok _ _ _ hfault hfree]
  · rintro d h hpart hz hfault
    refine takes_no _ cardOf_pnLoadTable (by decide) h (by decide) ?_
    rw [jcard_body, cardPnTable_commit _ _ _ _ hpart hz, commitTable_bad _ _ _ _ hfault, Res.no]
  · rintro x y w g k h hx hy hw hg hcol hrow hwide hhigh h8 h9 hz hd htab hov hk
    refine takes_ok _ cardOf_pnOpen (by decide) h ?_
    have hfree : openOverlaps t x y w g = false := hov
    rw [act_body, cardPnOpen_ranged hx hy hw hg hcol hrow hwide hhigh h8 h9 hz, hd, htab, hfree, hk]
    rfl
  · rintro k first count off g ls u h hk hfirst hcount hoff hg hls hu h15 hz1 hz6 hd hload hrows hbulk hst hfit
    refine takes_ok _ cardOf_pnLines (by decide) h ?_
    rw [act_body, cardPnLines_loading hk hfirst hcount hoff hg h15 hz1 hz6 hd hload hrows hbulk, ← hls, hst, if_neg Bool.false_ne_true]
    dsimp only
    rw [← hu, if_neg (Nat.not_lt.mpr hfit)]
  · rintro k els u h rfl rfl rfl hk hz hd hload hf
    refine takes_wait _ cardOf_pnStart (by decide) h ?_
    rw [act_body, cardPnStart_ranged hk hz, hd, hload, hf]
    rfl
  · rintro k h rfl hk hz hd hload
    refine takes_ok _ cardOf_pnDiscard (by decide) h ?_
    rw [act_body, cardPnDiscard_ranged hk hz, hd, hload]
    rfl
  · rintro k h rfl hk hz hd hload
    refine takes_no _ cardOf_pnDiscard (by decide) h (by decide) ?_
    rw [act_body, cardPnDiscard_ranged hk hz, hd, hload]
    rfl
  · rintro n h rfl
    exact takes_ok _ cardOf_pnGetStatus (by decide) h rfl
  · rintro x h rfl hk hn hr
    refine takes_recorded _ cardOf_prSetCfg (by decide) h hr ?_
    rw [jcard_body, cardPrSetCfg_ranged hk, hn]
    rfl
  · rintro fp h hfp hown hn hf hset
    refine takes_wait _ cardOf_prBond (by decide) h ?_
    rw [jcard_body, cardPrBond_of_free hfp hown hn hf, hset]
    rfl
  · rintro h hown hn hf hset
    refine takes_wait _ cardOf_prBond (by decide) h ?_
    rw [jcard_body, cardPrBond_of_free rfl hown hn hf, hset]
    rfl
  · rintro h ha hforce hz hrole hn hl hpart hmir
    refine takes_wait _ cardOf_prRole (by decide) h ?_
    rw [act_body, cardPrRole_swaps hforce hz ha hrole hn hl hpart hmir]
  · rintro u h rfl ha hforce hz hsim hbusy
    refine takes_ok _ cardOf_prRole (by decide) h ?_
    rw [act_body, cardPrRole_one hforce hz ha, hsim, hbusy]
    rfl
  · rintro v u h rfl rfl ha hforce hz
    refine takes_ok _ cardOf_prRole (by decide) h ?_
    rw [act_body, cardPrRole_two hforce hz ha]
    rfl
  · rintro h ha hno hz hrole
    refine takes_no _ cardOf_prRole (by decide) h (by decide) ?_
    rw [act_body, cardPrRole_one (by omega) hz ha, hrole, hno]
    rfl
  · rintro q h rfl
    exact takes_ok _ cardOf_prGetStatus (by decide) h rfl

end Sys2Proof.Machine
end

section
/-!
SUPPORT. The cards of the store, of the thermal monitor and of the sentinel (16_nonvolatile.md R366 to R373, 17_thermal.md R376 to R385,
18_sentinel_power.md R388, R399 to R405): the card of each opcode, what its body does where its checks hold, and what it refuses.
-/

namespace Sys2Proof.Machine

open Sys2Proof

/-! ## The cards of the opcodes (R456) -/

theorem cardOf_nvGetStatus : cardOf 0x0F00 = some (act 0x0F00 0 cardNvStatus) := rfl
theorem cardOf_nvSnapshot : cardOf 0x0F01 = some { act 0x0F01 0 cardNvSnapshot with journals := true } := rfl
theorem cardOf_nvFwWrite : cardOf 0x0F02 = some (act 0x0F02 12 cardFwWrite) := rfl
theorem cardOf_nvFwActivate : cardOf 0x0F03 = some { act 0x0F03 4 cardFwActivate with journals := true } := rfl
theorem cardOf_nvFwConfirm : cardOf 0x0F04 = some { act 0x0F04 0 cardFwConfirm with journals := true } := rfl
theorem cardOf_thSetCfg : cardOf 0x1000 = some (jcard 0x1000 (fixed 8) cardThSetCfg) := rfl
theorem cardOf_thGetStatus : cardOf 0x1001 = some (act 0x1001 0 cardThStatus) := rfl
theorem cardOf_snSetCfg : cardOf 0x1100 = some (jcard 0x1100 (fixed 40) cardSnSetCfg) := rfl
theorem cardOf_snPower : cardOf 0x1101 = some { act 0x1101 16 cardSnPower with journals := true } := rfl
theorem cardOf_snStatus : cardOf 0x1102 = some (act 0x1102 0 cardSnStatus) := rfl
theorem cardOf_snGetLog : cardOf 0x1103 = some (act 0x1103 4 cardSnLog) := rfl
theorem cardOf_snOut : cardOf 0x1104 = some (act 0x1104 4 cardSnOut) := rfl

section
variable {org : Origin} {l : Nat} {p : List Byte} {t : State}

/-! ## Snapshots and images (R366, R369, R370) -/

theorem cardNvSnapshot_of_free (hf : t.fenced = false) : cardNvSnapshot org l p t =
    (submit { typ := .snapDone, arg := 1 - t.nv.snapLatest, org := some org, resp := leBytes 4 t.now.c.toNat }
      (writeSnapshot (snapshotNow t) t), .wait .journal) := if_neg (by simp [hf])

theorem cardNvSnapshot_of_fenced (hf : t.fenced = true) : cardNvSnapshot org l p t = (t, .no St.fenced 0) := if_pos hf

/-- A slot of an image with the bulk window written over it: writing opens it, and clears the MAGIC of an image that was closed. -/
def slotWritten (t : State) (n o c : Nat) : ImgSlot :=
  { mem := Tab.setMany (if (imgSlot t n).open_ then (imgSlot t n).mem else (imgSlot t n).mem.setMany 0 [0, 0, 0, 0]) o (bulkBytes t 0 c)
    written := true, open_ := true }

theorem cardFwWrite_ranged {n o c : Nat} (hn : n = le p 0 1) (ho : o = le p 4 4) (hc : c = le p 8 4) (h1 : n ≤ 1) (hz : zeroed p 1 3 = true)
    (hoff : (o % 8 == 0 && decide (o < 0x200000)) = true)
    (hlen : (decide (8 ≤ c ∧ c ≤ 65536) && c % 8 == 0 && decide (o + c ≤ 0x200000)) = true) : cardFwWrite org l p t =
      if n = t.nv.running ∧ !t.sys.recovery then (t, .no St.slotActive 0)
      else if t.fenced then (t, .no St.fenced 0)
      else (nvUpd (fun v => { v with bytesWritten := v.bytesWritten + c }) (setSlot n (slotWritten t n o c) t), .ok []) := by
  subst hn ho hc
  obtain ⟨hlen, hend⟩ := Bool.and_eq_true_iff.mp hlen
  unfold cardFwWrite
  exact ranged_ok _ _ _ (by
    simp only [allOk_append, allOk_cons, allOk_nil, allOk_zero, h1, hz, hoff, hlen, hend, decide_true, Bool.or_true, Bool.and_true])

section
variable (h1 : le p 0 1 ≤ 1) (hz : zeroed p 1 3 = true)
include h1 hz

/-- The checks of R369 in their order. -/
theorem cardFwActivate_ranged : cardFwActivate org l p t =
    if !imageWhole (imgSlot t (le p 0 1)) then (t, .no St.imageInvalid 0)
    else if !imageSigned (imgSlot t (le p 0 1)) then (t, .no (if t.sys.recovery then St.auth else St.imageInvalid) 0)
    else if !arbOk t (le p 0 1) then (t, .no St.rollback 0)
    else if t.fenced then (t, .no St.fenced 0)
    else (submit { typ := .boot, arg := le p 0 1, org := some org,
                   resp := leBytes 4 (headFld (imgSlot t (le p 0 1)) 32 32) ++ leBytes 1 (headFld (imgSlot t (le p 0 1)) 64 8) }
      (setSlot (le p 0 1) { imgSlot t (le p 0 1) with open_ := false } t), .wait .journal) := by
  unfold cardFwActivate
  exact ranged_ok _ _ _ (by simp only [allOk_append, allOk_cons, allOk_nil, allOk_zero, h1, hz, decide_true, Bool.and_true])

theorem cardFwActivate_not_whole (hw : imageWhole (imgSlot t (le p 0 1)) = false) :
    cardFwActivate org l p t = (t, .no St.imageInvalid 0) := by
  rw [cardFwActivate_ranged h1 hz, if_pos (by simp [hw])]

section
variable (hw : imageWhole (imgSlot t (le p 0 1)) = true)
include hw

theorem cardFwActivate_not_signed (hs : imageSigned (imgSlot t (le p 0 1)) = false) :
    cardFwActivate org l p t = (t, .no (if t.sys.recovery then St.auth else St.imageInvalid) 0) := by
  rw [cardFwActivate_ranged h1 hz, if_neg (by simp [hw]), if_pos (by simp [hs])]

section
variable (hs : imageSigned (imgSlot t (le p 0 1)) = true)
include hs

theorem cardFwActivate_rolled_back (ha : arbOk t (le p 0 1) = false) : cardFwActivate org l p t = (t, .no St.rollback 0) := by
  rw [cardFwActivate_ranged h1 hz, if_neg (by simp [hw]), if_neg (by simp [hs]), if_pos (by simp [ha])]

theorem cardFwActivate_valid (ha : arbOk t (le p 0 1) = true) (hf : t.fenced = false) : cardFwActivate org l p t =
    (submit { typ := .boot, arg := le p 0 1, org := some org,
              resp := leBytes 4 (headFld (imgSlot t (le p 0 1)) 32 32) ++ leBytes 1 (headFld (imgSlot t (le p 0 1)) 64 8) }
      (setSlot (le p 0 1) { imgSlot t (le p 0 1) with open_ := false } t), .wait .journal) := by
  rw [cardFwActivate_ranged h1 hz, if_neg (by simp [hw]), if_neg (by simp [hs]), if_neg (by simp [ha]), if_neg (by simp [hf])]

end
end
end

theorem cardFwConfirm_no_trial (h : (t.nv.trial && t.nv.running == t.nv.pref) = false) :
    cardFwConfirm org l p t = (t, .ok (leBytes 1 t.nv.otp)) := if_pos (by rw [h]; rfl)

theorem cardFwConfirm_trial (h : (t.nv.trial && t.nv.running == t.nv.pref) = true) (hf : t.fenced = false) : cardFwConfirm org l p t =
    (submit { typ := .boot, arg := 2, org := some org,
              resp := leBytes 1 (max t.nv.otp (headFld (imgSlot t t.nv.running) 64 8)) } t, .wait .journal) :=
  (if_neg (by rw [h]; decide)).trans (if_neg (by simp [hf]))

/-! ## TH_SET_CFG and SN_SET_CFG (R376, R399) -/

theorem cardThSetCfg_ranged (hk : keeps thFields (le p 0 8) = true) (hthr : fld (le p 0 8) 0 8 ≤ tcrit t - 5) :
    cardThSetCfg org l p t = journalArg org true 0 [wr Kind.th 0 (le p 0 8)] [] t := by
  unfold cardThSetCfg
  exact ranged_ok _ _ _ (by simp only [allOk_append, allOk_cons, allOk_nil, allOk_mapped, hk, hthr, decide_true, Bool.and_true])

/-- The checks of one channel of SN_SET_CFG: a supervised channel in use is one of LS_IN, and SEN_OUT1 is no channel's while it is the
regulator enable. -/
def channelChecks (x lsIn : Img) (n : Nat) : List (Bool × Nat) :=
  (if n < 4 then [(!flag x (64 + 32 * n) || flag lsIn (32 * n), 8 + 4 * n)] else []) ++
    [(!(flag x 2 && fld x (64 + 32 * n + 12) 2 == 2), 9 + 4 * n)]

theorem cardSnSetCfg_ranged (hk : keeps snFields (le p 0 40) = true)
    (hc : (List.range 8).all (fun n => allOk (channelChecks (le p 0 40) (cfgImg t Kind.lsIn 0) n)) = true) :
    cardSnSetCfg org l p t = journalArg org true 0 [wr Kind.sn 0 (le p 0 40)] [] t := by
  unfold cardSnSetCfg
  exact ranged_ok _ _ _ (by
    rw [allOk_append, allOk_mapped, hk, allOk_flatMap]
    exact hc)

/-! ## SN_POWER (R388) -/

/-- The wake UTC that SN_POWER carries is set, or none. -/
def alarmSet (p : List Byte) (t : State) : State :=
  { t with rtc := { t.rtc with alarm := if le p 1 1 % 2 == 1 then some (le p 8 8) else none } }

theorem cardSnPower_ranged (ha : le p 0 1 ≤ 1) (hfl : le p 1 1 ≤ 1) (hz : zeroed p 2 6 = true)
    (hutc : (!(le p 1 1 % 2 == 1) || decide (t.rtc.utc < le p 8 8)) = true) : cardSnPower org l p t =
      if t.sys.power != .park then (t, .no St.role 0)
      else if !allNormal t then (t, .no St.busy 0)
      else if le p 0 1 == 1 && t.fenced then (t, .no St.fenced 0)
      else if le p 0 1 = 0 then (sysUpd (fun y => { y with napDue := true }) (alarmSet p t), .wait .nap)
      else (submit { typ := .snapDone, arg := 3 - t.nv.snapLatest, org := some org }
        (writeSnapshot (snapshotNow (alarmSet p t)) (alarmSet p t)), .wait .journal) := by
  unfold cardSnPower
  exact ranged_ok _ _ _ (by simp only [allOk_append, allOk_cons, allOk_nil, allOk_zero, ha, hfl, hz, hutc, decide_true, Bool.and_true])

/-! ## SN_GET_LOG and SN_OUT (R399, R400) -/

theorem cardSnLog_ranged (hc : 1 ≤ le p 1 1 ∧ le p 1 1 ≤ 62) (hz : zeroed p 2 2 = true) : cardSnLog org l p t =
    (t, .ok (leBytes 4 (le p 1 1) ++ (List.range (le p 1 1)).flatMap (fun i => (t.sn.log.get ((le p 0 1 + i) % 256)).bytes))) := by
  unfold cardSnLog
  exact ranged_ok _ _ _ (by simp only [allOk_append, allOk_cons, allOk_nil, allOk_zero, hc, hz, and_self, decide_true, Bool.and_true])

theorem cardSnOut_ranged (hcl : le p 1 1 ≤ 3) (hz : zeroed p 2 2 = true)
    (hf : (decide (le p 0 1 ≤ 3) && !((le p 0 1).testBit 1 && pwrReq t)) = true) : cardSnOut org l p t =
    (snUpd (fun k => { k with
      force := le p 0 1
      chan := Tab.map k.chan (fun n c => { c with
        latch := c.latch && !(chanFld t n 12 2 != 0 && (le p 1 1).testBit (chanFld t n 12 2 - 1)) }) }) t, .ok []) := by
  unfold cardSnOut
  exact ranged_ok _ _ _ (by simp only [allOk_append, allOk_cons, allOk_nil, allOk_zero, hf, hcl, hz, decide_true, Bool.and_true])

/-- An output that may not be forced is RANGE at its byte. -/
theorem cardSnOut_not_forced (hf : (decide (le p 0 1 ≤ 3) && !((le p 0 1).testBit 1 && pwrReq t)) = false) :
    cardSnOut org l p t = (t, .no St.range 0) := by
  unfold cardSnOut
  dsimp only
  rw [hf]
  exact ranged_bad _ _ _ 0 (firstBad_zero _)

end

/-- Settles O55: each card, taken at once, by the checks that its record, the fence, the image, the trial, the areas and the power state
pass (R366, R367, R369, R370, R373, R376, R382, R388, R399, R400, R405). -/
theorem storeAndPowerCards : Obligations.StoreAndPowerCards := by
  intro r p s t
  refine ⟨?_, ?_, ?_, ?_, ?_, ?_, ?_, ?_, ?_, ?_, ?_, ?_, ?_, ?_, ?_, ?_, ?_, ?_, ?_, ?_, ?_, ?_⟩
  · rintro n snap h rfl rfl
    exact takes_ok _ cardOf_nvGetStatus (by decide) h rfl
  · rintro h hf
    exact takes_wait _ cardOf_nvSnapshot (by decide) h (cardNvSnapshot_of_free (l := r.level.toNat) (p := p) hf)
  · rintro h hf
    exact takes_no _ cardOf_nvSnapshot (by decide) h (by decide) (cardNvSnapshot_of_fenced (l := r.level.toNat) (p := p) hf)
  · rintro n o c m h hn ho hc rfl h1 hz hoff hlen hidle hf
    refine takes_ok _ cardOf_nvFwWrite (by decide) h ?_
    rw [act_body, cardFwWrite_ranged hn ho hc h1 hz hoff hlen, if_neg (by rcases hidle with hi | hi <;> simp [hi]), hf]
    rfl
  · rintro n o c h hn ho hc h1 hz hoff hlen hrun hrec
    refine takes_no _ cardOf_nvFwWrite (by decide) h (by decide) ?_
    rw [act_body, cardFwWrite_ranged hn ho hc h1 hz hoff hlen, if_pos ⟨hrun, by simp [hrec]⟩, Res.no]
  · rintro n m h rfl rfl h1 hz hw hs ha hf
    exact takes_wait _ cardOf_nvFwActivate (by decide) h (cardFwActivate_valid (l := r.level.toNat) h1 hz hw hs ha hf)
  · rintro h h1 hz hw hs hrec
    refine takes_no _ cardOf_nvFwActivate (by decide) h (by decide) ?_
    exact (cardFwActivate_not_signed (l := r.level.toNat) h1 hz hw hs).trans (by rw [hrec]; rfl)
  · rintro h h1 hz hw hs hrec
    refine takes_no _ cardOf_nvFwActivate (by decide) h (by decide) ?_
    exact (cardFwActivate_not_signed (l := r.level.toNat) h1 hz hw hs).trans (by rw [hrec]; rfl)
  · rintro h h1 hz hw hs ha
    exact takes_no _ cardOf_nvFwActivate (by decide) h (by decide) (cardFwActivate_rolled_back (l := r.level.toNat) h1 hz hw hs ha)
  · rintro h h1 hz hw
    exact takes_no _ cardOf_nvFwActivate (by decide) h (by decide) (cardFwActivate_not_whole (l := r.level.toNat) h1 hz hw)
  · rintro h htrial
    exact takes_ok _ cardOf_nvFwConfirm (by decide) h (cardFwConfirm_no_trial (l := r.level.toNat) (p := p) htrial)
  · rintro h htrial hf
    exact takes_wait _ cardOf_nvFwConfirm (by decide) h (cardFwConfirm_trial (l := r.level.toNat) (p := p) htrial hf)
  · rintro x h rfl hk hthr hr
    refine takes_recorded _ cardOf_thSetCfg (by decide) h hr ?_
    rw [jcard_body, cardThSetCfg_ranged hk hthr]
  · rintro k i16 h rfl rfl
    exact takes_ok _ cardOf_thGetStatus (by decide) h rfl
  · rintro x lsIn h rfl rfl hk hc hr
    refine takes_recorded _ cardOf_snSetCfg (by decide) h hr ?_
    rw [jcard_body, cardSnSetCfg_ranged hk hc]
  · rintro alarm utc h rfl rfl ha hfl hz hutc hpark hn
    refine takes_wait _ cardOf_snPower (by decide) h ?_
    refine (cardSnPower_ranged (l := r.level.toNat) (by omega) hfl hz hutc).trans ?_
    rw [hpark, hn, ha]
    rfl
  · rintro alarm utc u h rfl rfl rfl ha hfl hz hutc hpark hn hf
    refine takes_wait _ cardOf_snPower (by decide) h ?_
    refine (cardSnPower_ranged (l := r.level.toNat) (by omega) hfl hz hutc).trans ?_
    rw [hpark, hn, ha, hf]
    rfl
  · rintro alarm utc h rfl rfl ha hfl hz hutc hpark
    refine takes_no _ cardOf_snPower (by decide) h (by decide) ?_
    refine (cardSnPower_ranged (l := r.level.toNat) ha hfl hz hutc).trans ?_
    rw [hpark]
    rfl
  · rintro k latched h rfl rfl
    exact takes_ok _ cardOf_snStatus (by decide) h rfl
  · rintro first count h rfl rfl hc hz
    refine takes_ok _ cardOf_snGetLog (by decide) h ?_
    rw [act_body, cardSnLog_ranged hc hz]
  · rintro force clear h rfl rfl hf hcl hz
    refine takes_ok _ cardOf_snOut (by decide) h ?_
    rw [act_body, cardSnOut_ranged hcl hz hf]
  · rintro h hf - -
    refine takes_no _ cardOf_snOut (by decide) h (by decide) ?_
    rw [act_body, cardSnOut_not_forced hf, Res.no]

end Sys2Proof.Machine
end

section
/-!
SUPPORT. The system cards (19_host_port.md R436, R437, 20_mailbox.md R446, R452, R453, 21_commands.md R466 to R469): the card of each
opcode, what its body does where its checks hold, and what it refuses.
-/

namespace Sys2Proof.Machine

open Sys2Proof

/-! ## The cards of the opcodes (R456) -/

theorem cardOf_hello : cardOf 0x0001 = some (act 0x0001 4 cardHello) := rfl
theorem cardOf_sysIdentify : cardOf 0x0100 = some (act 0x0100 0 cardIdentify) := rfl
theorem cardOf_sysReset : cardOf 0x0101 = some (act 0x0101 4 cardSysReset) := rfl
theorem cardOf_sysTime : cardOf 0x0102 = some (act 0x0102 16 cardSysTime) := rfl
theorem cardOf_sysGetStats : cardOf 0x0109 = some (act 0x0109 4 cardGetStats) := rfl
theorem cardOf_statsClear : cardOf 0x010A = some (act 0x010A 4 cardStatsClear) := rfl
theorem cardOf_evqSetCfg : cardOf 0x1200 = some (jcard 0x1200 (fixed 8) cardEvqSetCfg) := rfl
theorem cardOf_evqGetStats : cardOf 0x1201 = some (act 0x1201 0 cardEvqStats) := rfl

section
variable {org : Origin} {l : Nat} {p : List Byte} {t : State}

/-! ## HELLO (R446, R452, R453) -/

/-- The commands of the host's slots that are outstanding beside HELLO's own. -/
def othersOutstanding (org : Origin) (t : State) : List Outst := t.mb.outst.filter (fun o => o.org != org && o.isSlot)

/-- Those of another epoch than a new one, which their completions will be late for. -/
def goneBy (org : Origin) (ep : Nat) (t : State) : List Outst :=
  if t.mb.epoch = some ep then [] else (othersOutstanding org t).filter (fun o => epochOf o.tag != ep && !o.late)

/-- The state in which HELLO has fixed the epoch and the level. -/
def greeted (org : Origin) (ep lvl : Nat) (t : State) : State :=
  mbUpd (fun b => { b with
    epoch := some ep, level := lvl
    outst := b.outst.map (fun o => if (goneBy org ep t).contains o then { o with late := true } else o) }) t

/-- The identity and generation that HELLO answers, with what it found outstanding. -/
def helloAnswer (org : Origin) (ep lvl : Nat) (t : State) : List Byte :=
  leBytes 1 lvl ++ leBytes 1 (ilMax t) ++ leBytes 1 (headFld (imgSlot t t.nv.running) 74 2) ++
    leBytes 1 (bit t.mb.epoch.isNone + 2 * bit (!(goneBy org ep t).isEmpty)) ++ leBytes 2 (goneBy org ep t).length ++
    leBytes 2 ((othersOutstanding org t).foldl (fun m o => m ||| 2 ^ epochOf o.tag) 0) ++
    leBytes 8 Config.ownFingerprint.toNat ++ leBytes 4 (headFld (imgSlot t t.nv.running) 32 32) ++ leBytes 4 t.nv.gen.toNat ++
    leBytes 1 t.pr.role.code ++ leBytes 3 0

section
variable {lo hi : Nat} (hlo : lo = le p 0 1) (hhi : hi = le p 1 1) (h0 : (lo != 0) = true) (h3 : hi ≤ 3) (hle : lo ≤ hi)
  (hz : zeroed p 2 2 = true)
include hlo hhi h0 h3 hle hz

theorem cardHello_ranged {ep : Nat} (hep : ep = epochOf (((t.mb.outst.find? (fun o => o.org == org)).map (·.tag)).getD 0)) :
    cardHello org l p t =
      if !t.sys.recovery && decide (min hi (ilMax t) < lo) then (t, .no St.badLevel (ilMax t + 16 * t.mb.level))
      else (greeted org ep (min hi (ilMax t)) t, .ok (helloAnswer org ep (min hi (ilMax t)) t)) := by
  subst hlo hhi hep
  unfold cardHello
  exact ranged_ok _ _ _ (by simp only [allOk_append, allOk_cons, allOk_nil, allOk_zero, h0, h3, hle, hz, decide_true, Bool.and_true])

theorem cardHello_level {ep : Nat} (hep : ep = epochOf (((t.mb.outst.find? (fun o => o.org == org)).map (·.tag)).getD 0))
    (hlvl : lo ≤ min hi (ilMax t)) :
    cardHello org l p t = (greeted org ep (min hi (ilMax t)) t, .ok (helloAnswer org ep (min hi (ilMax t)) t)) := by
  rw [cardHello_ranged hlo hhi h0 h3 hle hz hep, if_neg (by simp only [decide_eq_false (Nat.not_lt.mpr hlvl), Bool.and_false]; decide)]

theorem cardHello_no_level (hrec : t.sys.recovery = false) (hlvl : min hi (ilMax t) < lo) :
    cardHello org l p t = (t, .no St.badLevel (ilMax t + 16 * t.mb.level)) := by
  rw [cardHello_ranged hlo hhi h0 h3 hle hz rfl, hrec, decide_eq_true hlvl]
  rfl

end

/-! ## SYS_RESET and SYS_TIME (R467, R468) -/

/-- A reset is due, and a device with duty hands it on. -/
def resetAsked (act : Nat) (t : State) : State :=
  let u : State := { t with sys := { t.sys with resetDue := some act } }
  if t.duty then releaseDuty .isolated 3 (prUpd (fun r => { r with isolated := true, eligible := false }) u) else u

theorem cardSysReset_ranged (ha : le p 0 1 ≤ 1) (hf : le p 1 1 ≤ 1) (hz : zeroed p 2 2 = true) : cardSysReset org l p t =
    if t.pr.role == .simplex && !(le p 1 1 == 1) && !allNormal t then (t, .no St.busy 0) else (resetAsked (le p 0 1) t, .ok []) := by
  unfold cardSysReset
  exact ranged_ok _ _ _ (by simp only [allOk_append, allOk_cons, allOk_nil, allOk_zero, ha, hf, hz, decide_true, Bool.and_true])

/-- What SYS_TIME answers of a clock. -/
def timeAnswer (c : Rtc) : List Byte :=
  leBytes 8 c.utc ++ leBytes 8 c.corrUtc ++ leBytes 4 c.corrC.toNat ++ leBytes 4 (bit c.valid + 2 * bit c.xtalFail)

section
variable (hz : zeroed p 1 7 = true)
include hz

theorem cardSysTime_reads (ha : le p 0 1 = 0) (hu : le p 8 8 = 0) : cardSysTime org l p t = (t, .ok (timeAnswer t.rtc)) := by
  unfold cardSysTime
  dsimp only
  rw [ranged_ok _ _ _ (by simp [allOk_zero, hz, ha, hu]), if_neg (by omega), timeAnswer]

theorem cardSysTime_sets (ha : le p 0 1 = 1) (hu : utc2020 ≤ le p 8 8) : cardSysTime org l p t =
    ({ t with rtc := { t.rtc with utc := le p 8 8, frac := 0, valid := true } },
      .ok (timeAnswer { t.rtc with utc := le p 8 8, frac := 0, valid := true })) := by
  unfold cardSysTime
  dsimp only
  rw [ranged_ok _ _ _ (by simp [allOk_zero, hz, ha, hu]), if_pos ha, timeAnswer]

end

/-! ## Statistics (R436, R437, R466) -/

/-- The system counters that SYS_GET_STATS answers. -/
def systemCounters (t : State) : List Byte :=
  (List.range 13).flatMap (fun r => leBytes 4 (t.sys.ecc.get r)) ++
    [t.sys.memUe, t.pts.writeRefused, t.pts.unshadowed, t.mb.slotBusy, t.mb.taken, t.mb.refused, t.mb.lateDone, t.ses.commits].flatMap (leBytes 4)

theorem cardGetStats_ranged (hf : le p 0 1 ≤ if l ≥ 3 then 1 else 0) (hz : zeroed p 1 3 = true) :
    cardGetStats org l p t = (if le p 0 1 = 1 then clearSystem t else t, .ok (systemCounters t)) := by
  unfold cardGetStats
  exact ranged_ok _ _ _ (by simp only [allOk_append, allOk_cons, allOk_nil, allOk_zero, hf, hz, decide_true, Bool.and_true])

theorem cardStatsClear_ranged (hz : zeroed p 2 2 = true) :
    cardStatsClear org l p t = (forAll ((List.range 16).filter (le p 0 2).testBit) clearGroup t, .ok []) := by
  unfold cardStatsClear
  exact ranged_ok _ _ _ hz

theorem cardEvqSetCfg_ranged (hk : keeps evqFields (le p 0 8) = true) :
    cardEvqSetCfg org l p t = journalArg org true 0 [wr Kind.evq 0 (le p 0 8)] [] t := by
  unfold cardEvqSetCfg
  exact ranged_ok _ _ _ (by rw [allOk_mapped, hk])

end

/-- Settles O48: each card, taken at once, by the checks that its request, the levels, the areas, the duty and the clock pass (R437, R446,
R452, R453, R466 to R469). -/
theorem systemCards : Obligations.SystemCards := by
  intro r p s t
  refine ⟨?_, ?_, ?_, ?_, ?_, ?_, ?_, ?_, ?_, ?_, ?_, ?_⟩
  · rintro lo hi ep others gone m h hlo hhi rfl rfl rfl rfl h0 h3 hle hz hlvl
    refine takes_ok _ cardOf_hello (by decide) h ?_
    have hep : epochOf r.tag.toNat = epochOf (((t.mb.outst.find? (fun o => o.org == .slot r.slot.val)).map (·.tag)).getD 0) := by
      rw [takes_entry h]
      rfl
    exact cardHello_level (l := r.level.toNat) hlo hhi h0 h3 hle hz hep hlvl
  · rintro lo hi h hlo hhi h0 h3 hle hz hrec hlvl
    refine takes_no _ cardOf_hello (by decide) h (by decide) ?_
    exact cardHello_no_level (l := r.level.toNat) hlo hhi h0 h3 hle hz hrec hlvl
  · rintro m h rfl
    exact takes_ok _ cardOf_sysIdentify (by decide) h rfl
  · rintro a f h rfl rfl ha hf hz hfree hd
    refine takes_ok _ cardOf_sysReset (by decide) h ?_
    rw [act_body, cardSysReset_ranged ha hf hz, hfree, resetAsked, hd]
    rfl
  · rintro a f h rfl rfl ha hf hz hfree hd
    refine takes_ok _ cardOf_sysReset (by decide) h ?_
    rw [act_body, cardSysReset_ranged ha hf hz, hfree, resetAsked, hd]
    rfl
  · rintro a f h rfl rfl ha hf hz hbusy
    refine takes_no _ cardOf_sysReset (by decide) h (by decide) ?_
    rw [act_body, cardSysReset_ranged ha hf hz, hbusy]
    rfl
  · rintro h ha hz hu
    refine takes_ok _ cardOf_sysTime (by decide) h ?_
    rw [act_body, cardSysTime_reads hz ha hu, timeAnswer]
  · rintro utc h rfl ha hz hu
    refine takes_ok _ cardOf_sysTime (by decide) h ?_
    rw [act_body, cardSysTime_sets hz ha hu, timeAnswer]
    rfl
  · rintro fl h rfl hf hz
    refine takes_ok _ cardOf_sysGetStats (by decide) h ?_
    rw [act_body, cardGetStats_ranged hf hz, systemCounters]
  · rintro h hz
    refine takes_ok _ cardOf_statsClear (by decide) h ?_
    rw [act_body, cardStatsClear_ranged hz]
  · rintro x h rfl hk hr
    refine takes_recorded _ cardOf_evqSetCfg (by decide) h hr ?_
    rw [jcard_body, cardEvqSetCfg_ranged hk]
  · rintro h
    exact takes_ok _ cardOf_evqGetStats (by decide) h rfl

end Sys2Proof.Machine
end

section
/-!
SUPPORT. The cards of a configuration session (21_commands.md R459 to R469): the card of each opcode, what its body does where its checks
hold, and what it refuses.
-/

namespace Sys2Proof.Machine

open Sys2Proof

/-! ## The cards of the opcodes (R456) -/

theorem cardOf_cfgOpen : cardOf 0x0103 = some { act 0x0103 4 cardCfgOpen with timed := never } := rfl
theorem cardOf_cfgLoad : cardOf 0x0104 = some { op := 0x0104, need := needLoad, body := cardCfgLoad, timed := never } := rfl
theorem cardOf_cfgCommit : cardOf 0x0105 = some (jcard 0x0105 (fixed 12) cardCfgCommit) := rfl
theorem cardOf_cfgAbort : cardOf 0x0106 = some { act 0x0106 0 cardCfgAbort with timed := never } := rfl
theorem cardOf_cfgRead : cardOf 0x0107 = some { op := 0x0107, need := needRead, body := cardCfgRead, since := 2 } := rfl
theorem cardOf_cfgInfo : cardOf 0x0108 = some (act 0x0108 0 cardCfgInfo) := rfl

section
variable {org : Origin} {l : Nat} {p : List Byte} {t : State}

/-! ## CFG_OPEN and CFG_ABORT (R463) -/

/-- The state in which an empty session is open. -/
def sessionOpened (t : State) : State := { t with ses := { isOpen := true, commits := t.ses.commits } }

section
variable (hz : zeroed p 1 3 = true)
include hz

theorem cardCfgOpen_ranged (h1 : le p 0 1 ≤ 1) : cardCfgOpen org l p t =
    if t.ses.isOpen && le p 0 1 == 0 then (t, .no St.busy 0)
    else (sessionOpened t, .ok (leBytes 4 t.nv.gen.toNat ++ leBytes 4 (cfgFree (sessionOpened t)))) := by
  unfold cardCfgOpen
  exact ranged_ok _ _ _ (by simp only [allOk_append, allOk_cons, allOk_nil, allOk_zero, h1, hz, decide_true, Bool.and_true])

theorem cardCfgOpen_opens (h1 : le p 0 1 ≤ 1) (h : (t.ses.isOpen && le p 0 1 == 0) = false) : cardCfgOpen org l p t =
    (sessionOpened t, .ok (leBytes 4 t.nv.gen.toNat ++ leBytes 4 (cfgFree (sessionOpened t)))) := by
  rw [cardCfgOpen_ranged hz h1, h, if_neg Bool.false_ne_true]

/-- A session that is open is not taken over without TAKEOVER. -/
theorem cardCfgOpen_busy (h0 : le p 0 1 = 0) (ho : t.ses.isOpen = true) : cardCfgOpen org l p t = (t, .no St.busy 0) := by
  rw [cardCfgOpen_ranged hz (by omega), ho, h0]
  rfl

end

theorem cardCfgAbort_of_open (ho : t.ses.isOpen = true) :
    cardCfgAbort org l p t = ({ t with ses := { commits := t.ses.commits } }, .ok (leBytes 4 t.ses.staged.length)) := if_neg (by simp [ho])

theorem cardCfgAbort_of_closed (ho : t.ses.isOpen = false) : cardCfgAbort org l p t = (t, .no St.noSession 0) := if_pos (by simp [ho])

/-! ## CFG_LOAD (R462, R463) -/

/-- The records that CFG_LOAD carries, each with its offset from the first. -/
def loadedRecords (p : List Byte) : List (Nat × Img) :=
  (List.range (le p 8 2)).map (fun i => (i, le p (16 + imgBytes (tableKind (le p 0 1)) * i) (imgBytes (tableKind (le p 0 1)))))

/-- The staged records with those of CFG_LOAD, each index at its new image. -/
def stagedWith (p : List Byte) (t : State) : Tab (Option Img) :=
  (loadedRecords p).foldl
    (fun m q => Tab.set m (recKey (tableKind (le p 0 1)) (le p 4 4 + q.1)) (some (cleanImg (tableFields (le p 0 1)) q.2))) t.ses.staged

section
variable (hk : 1 ≤ le p 0 1 ∧ le p 0 1 ≤ 7) (hr : allOk (rangeChecks p) = true) (hz1 : zeroed p 1 3 = true) (hz10 : zeroed p 10 6 = true)
  (hc : (loadedRecords p).all (fun q => allOk (loadChecks (le p 0 1) (16 + imgBytes (tableKind (le p 0 1)) * q.1) q.2)) = true)
include hk hr hz1 hz10 hc

theorem cardCfgLoad_ranged : cardCfgLoad org l p t =
    if !t.ses.isOpen then (t, .no St.noSession 0)
    else if (stagedWith p t).length > 8192 || decide (0x400000 < cfgUsed t.nv.cfg (stagedWith p t)) then (t, .no St.noResource 0)
    else ({ t with ses := { t.ses with staged := stagedWith p t } }, .ok (leBytes 4 (stagedWith p t).length)) := by
  unfold cardCfgLoad
  exact ranged_ok _ _ _ (by
    simp only [allOk_append, hr, if_pos hk, allOk_zero, hz1, hz10, allOk_flatMap, Bool.true_and]
    exact hc)

theorem cardCfgLoad_stages (ho : t.ses.isOpen = true) (hn : (stagedWith p t).length ≤ 8192)
    (hfit : cfgUsed t.nv.cfg (stagedWith p t) ≤ 0x400000) : cardCfgLoad org l p t =
      ({ t with ses := { t.ses with staged := stagedWith p t } }, .ok (leBytes 4 (stagedWith p t).length)) := by
  have hroom : ¬ ((stagedWith p t).length > 8192 || decide (0x400000 < cfgUsed t.nv.cfg (stagedWith p t))) = true := by
    rw [Bool.or_eq_true, decide_eq_true_iff, decide_eq_true_iff]
    omega
  rw [cardCfgLoad_ranged hk hr hz1 hz10 hc, ho, if_neg (by decide), if_neg hroom]

theorem cardCfgLoad_of_closed (ho : t.ses.isOpen = false) : cardCfgLoad org l p t = (t, .no St.noSession 0) := by
  rw [cardCfgLoad_ranged hk hr hz1 hz10 hc, ho]
  rfl

end

/-! ## CFG_COMMIT (R464, R465) -/

/-- The generation that the host has seen is asked for, and is another. -/
def genChecked (p : List Byte) (t : State) : Bool := le p 0 1 / 2 % 2 == 1 && t.nv.gen.toNat != le p 8 4

/-- What CFG_COMMIT does with a session that is open, at the generation the host has seen, with every area NORMAL. -/
def commitChecked (org : Origin) (p : List Byte) (t : State) : State × Res :=
  (reported t (stepThree t)).elim
    (if cfgUsed (standing t) [] > 0x400000 then (t, .no St.noResource 0)
    else if t.fenced then (t, .no St.fenced 0)
    else (submit { typ := .config, slots := jslots (8 + 16 * (stagedWrites t).length), writes := stagedWrites t
                   gen := some (if le p 0 1 % 2 = 1 then some (u32 (le p 4 4)) else none), org := some org
                   arg := if (stagedWrites t).isEmpty then sessionEmpty else sessionArg } t, .wait .journal))
    (fun f => refuseCommit f t)

section
variable (hfl : le p 0 1 ≤ 3) (hz : zeroed p 1 3 = true)
include hfl hz

/-- The checks of R464 in their order. -/
theorem cardCfgCommit_ranged : cardCfgCommit org l p t =
    if !t.ses.isOpen then (t, .no St.noSession 0)
    else if genChecked p t then (t, .no St.genChanged 0)
    else if !allNormal t then (t, .no St.busy 0)
    else commitChecked org p t := by
  unfold cardCfgCommit commitChecked
  dsimp only
  rw [ranged_ok _ _ _ (by simp only [allOk_append, allOk_cons, allOk_nil, allOk_zero, hfl, hz, decide_true, Bool.and_true])]
  generalize reported t (stepThree t) = f
  cases f <;> rfl

theorem cardCfgCommit_of_closed (ho : t.ses.isOpen = false) : cardCfgCommit org l p t = (t, .no St.noSession 0) := by
  rw [cardCfgCommit_ranged hfl hz, if_pos (by simp [ho])]

section
variable (ho : t.ses.isOpen = true)
include ho

theorem cardCfgCommit_of_other_generation (hg : genChecked p t = true) : cardCfgCommit org l p t = (t, .no St.genChanged 0) := by
  rw [cardCfgCommit_ranged hfl hz, if_neg (by simp [ho]), if_pos hg]

theorem cardCfgCommit_of_busy (hg : genChecked p t = false) (hn : allNormal t = false) : cardCfgCommit org l p t = (t, .no St.busy 0) := by
  rw [cardCfgCommit_ranged hfl hz, if_neg (by simp [ho]), if_neg (by simp [hg]), if_pos (by simp [hn])]

theorem cardCfgCommit_checks (hg : genChecked p t = false) (hn : allNormal t = true) : cardCfgCommit org l p t = commitChecked org p t := by
  rw [cardCfgCommit_ranged hfl hz, if_neg (by simp [ho]), if_neg (by simp [hg]), if_neg (by simp [hn])]

end
end

/-- A commit that no rule of step 3 refuses is submitted as one chain. -/
theorem commitChecked_submits (hok : reported t (stepThree t) = none) (hfit : cfgUsed (standing t) [] ≤ 0x400000) (hf : t.fenced = false) :
    commitChecked org p t =
      (submit { typ := .config, slots := jslots (8 + 16 * (stagedWrites t).length), writes := stagedWrites t
                gen := some (if le p 0 1 % 2 = 1 then some (u32 (le p 4 4)) else none), org := some org
                arg := if (stagedWrites t).isEmpty then sessionEmpty else sessionArg } t, .wait .journal) := by
  rw [commitChecked, hok]
  exact (if_neg (Nat.not_lt.mpr hfit)).trans (if_neg (by simp [hf]))

/-! ## CFG_READ (R462, R463) -/

/-- The image that CFG_READ answers of a record: the staged one where it is asked for and there is one, else the committed one. -/
def readImage (staged : Bool) (p : List Byte) (t : State) (i : Nat) : Img :=
  match (if staged then t.ses.staged.get (recKey (tableKind (le p 0 1)) i) else none) with
  | some x => x
  | none => cleanImg (tableFields (le p 0 1)) (cfgImg t (tableKind (le p 0 1)) i)

/-- What CFG_READ answers: COUNT records from FIRST on. -/
def recordsAnswer (image : Nat → Img) (p : List Byte) : List Byte :=
  leBytes 2 (le p 8 2) ++ leBytes 14 0 ++
    (List.range (le p 8 2)).flatMap (fun i => leBytes (imgBytes (tableKind (le p 0 1))) (image (le p 4 4 + i)))

theorem readImage_staged (i : Nat) :
    readImage true p t i = (t.ses.staged.get (recKey (tableKind (le p 0 1)) i)).getD
      (cleanImg (tableFields (le p 0 1)) (cfgImg t (tableKind (le p 0 1)) i)) := by
  unfold readImage
  rw [if_pos rfl]
  cases t.ses.staged.get (recKey (tableKind (le p 0 1)) i) <;> rfl

theorem cardCfgRead_ranged {staged : Bool} (hs : (le p 1 1 == 1) = staged) (hr : allOk (rangeChecks p) = true) (h1 : le p 1 1 ≤ 1)
    (hz : zeroed p 2 2 = true) : cardCfgRead org l p t =
      if staged && !t.ses.isOpen then (t, .no St.noSession 0) else (t, .ok (recordsAnswer (readImage staged p t) p)) := by
  subst hs
  unfold cardCfgRead
  exact ranged_ok _ _ _ (by simp only [allOk_append, allOk_cons, allOk_nil, allOk_zero, hr, h1, hz, decide_true, Bool.and_true])

end

/-- Settles O47: each card, taken at once, by whether a session is open, the generation, the areas, the rules of step 3 and the room there
is (R359, R462 to R464, R469). -/
theorem sessionCards : Obligations.SessionCards := by
  intro r p s t
  refine ⟨?_, ?_, ?_, ?_, ?_, ?_, ?_, ?_, ?_, ?_, ?_, ?_, ?_⟩
  · rintro h h1 hz hfree
    exact takes_ok _ cardOf_cfgOpen (by decide) h (cardCfgOpen_opens (org := .slot r.slot.val) (l := r.level.toNat) hz h1 hfree)
  · rintro h h0 hz ho
    exact takes_no _ cardOf_cfgOpen (by decide) h (by decide) (cardCfgOpen_busy (org := .slot r.slot.val) (l := r.level.toNat) hz h0 ho)
  · rintro k recs staged h rfl rfl rfl hk hr hz1 hz10 hc ho hn hfit
    exact takes_ok _ cardOf_cfgLoad (by decide) h (cardCfgLoad_stages (org := .slot r.slot.val) (l := r.level.toNat) hk hr hz1 hz10 hc ho hn hfit)
  · rintro k recs h rfl rfl hk hr hz1 hz10 hc ho
    exact takes_no _ cardOf_cfgLoad (by decide) h (by decide) (cardCfgLoad_of_closed (org := .slot r.slot.val) (l := r.level.toNat) hk hr hz1 hz10 hc ho)
  · rintro fl ws h rfl rfl hfl hz ho hgen hn hok hfit hf
    refine takes_wait _ cardOf_cfgCommit (by decide) h ?_
    rw [jcard_body, cardCfgCommit_checks hfl hz ho hgen hn, commitChecked_submits hok hfit hf]
  · rintro fl h rfl hfl hz ho
    exact takes_no _ cardOf_cfgCommit (by decide) h (by decide)
      (cardCfgCommit_of_closed (org := .slot r.slot.val) (l := r.level.toNat) hfl hz ho)
  · rintro fl h rfl hfl hz ho hgen
    exact takes_no _ cardOf_cfgCommit (by decide) h (by decide)
      (cardCfgCommit_of_other_generation (org := .slot r.slot.val) (l := r.level.toNat) hfl hz ho hgen)
  · rintro fl h rfl hfl hz ho hgen hn
    exact takes_no _ cardOf_cfgCommit (by decide) h (by decide)
      (cardCfgCommit_of_busy (org := .slot r.slot.val) (l := r.level.toNat) hfl hz ho hgen hn)
  · rintro h ho
    exact takes_ok _ cardOf_cfgAbort (by decide) h (cardCfgAbort_of_open (org := .slot r.slot.val) (l := r.level.toNat) (p := p) ho)
  · rintro h ho
    exact takes_no _ cardOf_cfgAbort (by decide) h (by decide) (cardCfgAbort_of_closed (org := .slot r.slot.val) (l := r.level.toNat) (p := p) ho)
  · rintro k first n h rfl rfl rfl hr h0 hz
    refine takes_ok _ cardOf_cfgRead (by decide) h ?_
    exact cardCfgRead_ranged (org := .slot r.slot.val) (l := r.level.toNat) (staged := false) (by rw [h0]; rfl) hr (by omega) hz
  · rintro k first n h rfl rfl rfl hr h1 hz ho
    refine takes_ok _ cardOf_cfgRead (by decide) h ?_
    refine (cardCfgRead_ranged (org := .slot r.slot.val) (l := r.level.toNat) (staged := true) (by rw [h1]; rfl) hr (by omega) hz).trans ?_
    rw [ho, funext readImage_staged]
    rfl
  · rintro h
    exact takes_ok _ cardOf_cfgInfo (by decide) h rfl

end Sys2Proof.Machine
end
